-- ==== Sys2Proof/Word.lean ====
section
/-! DEFINITION. The word types of the register window (R38) and the sorted tables in which sparse state is held. -/

namespace Sys2Proof

/-- One 32-bit register word (R38). -/
abbrev Word := BitVec 32

/-- A byte of a message or of a memory image. -/
abbrev Byte := BitVec 8

/-- A sparse map from a number to a value: pairs with strictly rising keys. What an unlisted key holds is said where
the map is declared. -/
abbrev Table (α : Type) := List (Nat × α)

end Sys2Proof
end

