-- ==== Sys2Proof/Sheets.lean ====
section
/-! DEFINITION. The signed sheets and the objects that they configure: point records, the lane charter, the parapet sheet
and the configuration sheet, as plain data. They are operands of INSTALL and part of the state once installed. -/

namespace Sys2Proof

/-! ### Points (spec/03_points.md) -/

/-- A point record (R85, R86), field by field; `typ` 0 is an unused record (R81). -/
structure PointRec where
  pv : Nat := 0
  sv : Nat := 0
  lpv : Nat := 0
  ts : Nat := 0
  deadband : Nat := 0
  maxpub : Nat := 0
  minpub : Nat := 0
  lane : Nat := 0
  typ : Nat := 0
  persist : Bool := false
  cmd : Bool := false
  mirror : Bool := false
  pub : Bool := false
  staleto : Nat := 0
  qual : Nat := 0
  forced : Bool := false
  oos : Bool := false
  orphan : Bool := false
  relinq : Bool := false
  actlvl : Nat := 0
  rseq : Nat := 0
  pamask : Nat := 0
  maxage : Nat := 0
  paix : Nat := 0
  lastsrc : Nat := 0
  addr : Nat := 0
deriving DecidableEq, Repr

/-- The target of an update: a local index (R14) or a global point reference (R15). -/
inductive PointTarget where
  | idx (i : Nat)
  | gpr (g : Nat)
deriving DecidableEq, Repr

/-- How a bound source flags its value (R93). -/
inductive ValueFlag where
  | valid | invalid | uncertain
deriving DecidableEq, Repr

/-- What an update asks of the point engine. -/
inductive UpdateKind where
  /-- A value from a source, with its flag (R101). -/
  | value (v : Nat) (flag : ValueFlag)
  /-- A level write (R110). -/
  | level (n : Nat) (v : Nat)
  /-- A relinquish of a level (R110). -/
  | relinquish (n : Nat)
  /-- A new relinquish default (R113). -/
  | relDefault (v : Nat)
  /-- A tuning write (R140). -/
  | tuning (deadband minpub maxpub staleto maxage : Nat)
  /-- A service write of OOS (R141). -/
  | service (oos : Bool)
  /-- A force (R118). -/
  | force (v : Nat)
  /-- The release of a force (R119). -/
  | release
  /-- A publication of the owner of a mirror (R126). -/
  | publication (v qual : Nat) (forced oos : Bool) (ts rseq pepoch : Nat)
deriving DecidableEq, Repr

/-- Where the result of an update goes (R100, R138, R143). -/
inductive ResultPath where
  | none
  /-- The PNTWIN copy of a requester. -/
  | window (r : Nat)
  /-- The CMD copy of a requester. -/
  | cmd (r : Nat)
  /-- The FORCE copy of a requester. -/
  | force (r : Nat)
  /-- A BACnet/SC request by its invoke number. -/
  | bsc (invoke : Nat)
  /-- A task's output batch. -/
  | task (t : Nat)
  /-- A loop slot, and the apply instant of this output in ms (R251). -/
  | loop (n applyMs : Nat)
  /-- A metered circuit (R352). -/
  | meter (c : Nat)
  /-- A record of a DMA channel's window element (R507). -/
  | dma (c : Nat)
deriving DecidableEq, Repr

/-- An update in an ingress queue (R95 to R97). `lane` is the lane that a segment port attaches from its node or
identifier range (R96, R170, R211); `batch` is nonzero for the updates of one task batch (R296). -/
structure Update where
  src : Nat
  target : PointTarget
  kind : UpdateKind
  path : ResultPath := .none
  lane : Option Nat := none
  batch : Nat := 0
deriving DecidableEq, Repr

/-! ### The lane charter and the parapet sheet (spec/09_lanes_parapet.md) -/

/-- Where an emergency input comes from (R358): a node of a port, or a UIO channel. -/
inductive EmergencyInput where
  | node (port node : Nat)
  | uio (channel : Nat)
deriving DecidableEq, Repr

/-- An identifier range of a PBUS port (R211). -/
structure IdRange where
  ide : Bool := false
  rxq : Bool := false
  low : Nat := 0
  high : Nat := 0
  lane : Nat := 0
deriving DecidableEq, Repr

/-- A lane charter (R358). Ranges are keyed by port × 32 + range, nodes by port × 64 + node. Lanes that are not listed are lane 0; `certs` maps a certificate to its lane set,
`digest` is the SHA-512 digest of the signed object (R535). -/
structure Charter where
  epoch : Nat := 0
  size : Nat := 0
  hwType : Nat := 0x4800
  unit : Nat := 0
  digest : Nat := 0
  inUse : BitVec 256 := 1#256 ||| (1#256 <<< 255)
  quotas : Table Nat := []
  roots : List Nat := []
  certs : Table (BitVec 256) := []
  pageLanes : Table Nat := []
  loopLanes : Table Nat := []
  taskLanes : Table Nat := []
  circuitLanes : Table Nat := []
  nodeLanes : Table Nat := []
  ranges : Table IdRange := []
  uioLanes : Table Nat := []
  boLanes : Table Nat := []
  accLane : Nat := 0
  liftLane : Nat := 0
  keyLanes : Table Nat := []
  emergencySets : Table (BitVec 256) := []
  emergencyInputs : Table EmergencyInput := []
  fwSets : Table (BitVec 256) := []
  bscSet : BitVec 256 := 0
deriving DecidableEq, Repr

/-- The configured part of a parapet entry (R369). `kind` 0 is unused. -/
structure EntryCfg where
  kind : Nat := 0
  pri : Bool := false
  tko : Bool := false
  embyp : Bool := false
  lane : Nat := 0
  point : Nat := 0
  lo : Nat := 0
  hi : Nat := 0
  rate : Nat := 0
  safe : Nat := 0
deriving DecidableEq, Repr

/-- The per-port items of a parapet sheet (R368). -/
structure PortLimits where
  ceil : Nat := 0
  bomax : Nat := 0
  tripmax : Nat := 0
  txceil : Nat := 0
  txburst : Nat := 0
deriving DecidableEq, Repr

/-- A parapet sheet (R368). -/
structure ParapetSheet where
  epoch : Nat := 0
  size : Nat := 0
  hwType : Nat := 0x4800
  unit : Nat := 0
  digest : Nat := 0
  entries : Table EntryCfg := []
  ports : Table PortLimits := []
  lcrate : Nat := 0
  lcburst : Nat := 0
deriving DecidableEq, Repr

/-! ### Segment ports (spec/04_segment_ports.md, spec/05_priority_bus.md) -/

/-- A map table entry (R165): `cmd` is direction 1, and `place` has the layout of `BIND.ADDR` [31:0] (R166, R208); `level` is the
level that an emergency item writes (R362), and `entry` the parapet entry that a command item names (R367). -/
structure MapEntry where
  port : Nat
  node : Nat
  cmd : Bool
  index : Nat
  place : Nat
  level : Nat := 0
  entry : Option Nat := none
deriving DecidableEq, Repr

/-- A message table entry (R207, R242): `out` is direction 1 and `qoff` 0xFF means no quality byte. -/
structure MsgEntry where
  id : Nat := 0
  brs : Bool := false
  fdf : Bool := false
  ide : Bool := false
  out : Bool := false
  copy : Bool := false
  ackmode : Bool := false
  node : Nat := 0
  slot : Nat := 0
  dlc : Nat := 0
  confid : Nat := 0
  qoff : Nat := 0xFF
deriving DecidableEq, Repr

/-- The PBUS part of a port's configuration (R203 to R207, R215, R217, R220, R223 to R226, R237). Bit-timing quantities are
the values themselves; `cells` is keyed by 32 × cycle + column. -/
structure PbusCfg where
  nbrp : Nat := 4
  ntseg1 : Nat := 99
  ntseg2 : Nat := 25
  nsjw : Nat := 25
  dbrp : Nat := 5
  dtseg1 : Nat := 17
  dtseg2 : Nat := 7
  dsjw : Nat := 7
  nrate : Nat := 500000
  drate : Nat := 2000000
  tdcen : Bool := false
  tdco : Nat := min 127 (dbrp * (1 + dtseg1))
  fden : Bool := false
  triple : Bool := false
  tten : Bool := false
  bcnbrs : Bool := false
  term : Bool := false
  echobase : Nat := 0x700
  bcnid : Nat := 0x002
  cyclen : Nat := 0
  ncycexp : Nat := 0
  refid : Nat := 0x001
  bowait : Nat := 1
  txen : Nat := 1
  msgs : List MsgEntry := []
  owners : Table Bool := []
  arbs : Table Bool := []
  shslots : List Nat := [0, 0, 0, 0]
  cols : List (Nat × Nat) := []
  cells : Table Nat := []
deriving DecidableEq, Repr

/-- A segment port's configuration (R148 to R153, R160, R161, R179, R180, R195, R196). -/
structure PortCfg where
  enable : Bool := false
  pers : Nat := 0
  bint : Nat := 10
  bmiss : Nat := 3
  jointo : Nat := 3
  nexp : Nat := 0
  cfgep : Nat := 0
  shedpri : Nat := 0
  fmode : Nat := 0
  flim : Nat := 5
  cmdto : Nat := 10
  respto : Nat := 10
  t1llvl : Nat := 0
  bias : Bool := false
  term : Bool := false
  srate : Nat := 0
  framing : Nat := 0
  fpmport : Nat := 0x4FF7
  vf : Nat := 660
  pbus : PbusCfg := {}
deriving DecidableEq, Repr

/-! ### Control loops (spec/06_control_loops.md) -/

/-- A loop slot's configuration (R245, R246). `coefs` holds KP to FSOUT at the places 0 to 14, as binary32; the references
are 64-bit REF words. -/
structure LoopCfg where
  coefs : List Nat := [0, 0, 0, 0x3F800000, 0, 0, 0, 0, 0, 0x3F800000, 0, 0, 0, 0, 0]
  modereq : Nat := 0
  infail : Nat := 0
  grace : Nat := 0
  bumpcoef : Bool := false
  reloos : Bool := false
  uncok : Bool := false
  ffen : Bool := false
  period : Nat := 1000
  phase : Nat := 0
  outcmd : Bool := false
  level : Nat := 0
  out : Nat := 0
  group : Option (Nat × Nat) := none
  refpv : Nat := 0
  refsp : Nat := 0
  refff : Nat := 0
  reftrkv : Nat := 0
  reftrken : Nat := 0
deriving DecidableEq, Repr

/-- A low-select group's configuration (R267): the slots of its member positions. -/
structure GroupCfg where
  inv : Bool := false
  members : Table Nat := []
deriving DecidableEq, Repr

/-! ### Cyclic tasks (spec/07_cyclic_tasks.md) -/

/-- A task's configuration (R288 to R290, R315). `evtSrc` 0 none, 1 publication, 2 edge latch; `edge` 1 rising, 2 falling,
3 either. -/
structure TaskCfg where
  event : Bool := false
  core : Nat := 1
  prio : Nat := 0
  period : Nat := 100
  phase : Nat := 0
  evtSrc : Nat := 0
  edge : Nat := 0
  evtIx : Nat := 0
  budget : Nat := 100
  minint : Nat := 0
deriving DecidableEq, Repr

/-- An output map entry (R293): level 0 for a non-command record; safe action and safe value of R303. -/
structure OutMap where
  index : Nat
  level : Nat := 0
  safeAct : Bool := false
  safeVal : Nat := 0
deriving DecidableEq, Repr

/-- A source of an edge latch (R299). -/
inductive LatchSrc where
  | uio (channel : Nat)
  | record (i : Nat)
deriving DecidableEq, Repr

/-- A variable or constant of a task image; `name` stands for its name in the carry table. -/
structure TaskVar where
  name : Nat
  typ : Nat
  init : Nat := 0
  retained : Bool := false
  const : Bool := false
deriving DecidableEq, Repr

/-- A change-table entry (R307): the variable, with its lowest and highest allowed values. -/
structure ChangeEntry where
  var : Nat
  lo : Nat
  hi : Nat
deriving DecidableEq, Repr

/-- A task image (R306). `digest` is the SHA-512 digest of the signed object, `size` its bytes; `timers` gives the kind of
each cell that the image takes (0 TON, 1 TOF, 2 TP); `carry` lists names, `carryTimers` cells. -/
structure TaskImage where
  task : Nat := 0
  unit : Nat := 0
  hwType : Nat := 0x4800
  progid : Nat := 0
  progver : Nat := 0
  size : Nat := 0
  digest : Nat := 0
  inputs : List PointTarget := []
  outputs : List OutMap := []
  timers : Table Nat := []
  latches : Table LatchSrc := []
  counters : List Nat := []
  vars : Table TaskVar := []
  retainBytes : Nat := 0
  changes : Table ChangeEntry := []
  carry : List Nat := []
  carryTimers : List Nat := []
deriving DecidableEq, Repr

/-! ### Metering (spec/08_metering.md) -/

/-- A channel's configuration (R318, R319): sensor code and sensitivity in binary32. -/
structure MeterChannelCfg where
  sensor : Nat := 0
  ksens : Nat := 0
deriving DecidableEq, Repr

/-- A metered circuit (R323, R331, R334): 1P2W or 3P4W, VSUM, its channels, and VNOM, INOM, ISTART, NOLOAD in binary32. -/
structure CircuitCfg where
  threePhase : Bool := false
  vsum : Bool := false
  volts : List Nat := []
  amps : List Nat := []
  vnom : Nat := 0
  inom : Nat := 0
  istart : Nat := 0
  noload : Nat := 0
deriving DecidableEq, Repr

/-- The metering part of the sheet (R337, R348, R352, R354). -/
structure MeterCfg where
  dint : Nat := 3
  pointint : Nat := 5
  sixtyHz : Bool := false
  lfch : Nat := 0
  channels : Table MeterChannelCfg := []
  circuits : Table CircuitCfg := []
deriving DecidableEq, Repr

/-! ### Viaduct, uplinks, pairs and BACnet/SC (spec/10_viaduct.md) -/

/-- A point of another module that this module mirrors: the owner's GPR with type and lane (R20, R125, R405). -/
structure MirrorCfg where
  gpr : Nat
  typ : Nat
  lane : Nat := 0
  staleto : Nat := 0
  maxage : Nat := 0
deriving DecidableEq, Repr

/-- An uplink port's configuration (R64, R389 to R391); `addr` is its configured IPv6 address. -/
structure UplinkCfg where
  media : Nat := 0
  vid : Nat := 0
  fwd : Bool := false
  addr : Nat := 0
  pap : Bool := true
deriving DecidableEq, Repr

/-- The PTP options of the sheet (R394), with the time source and UTC offset of the time base (R285). -/
structure PtpCfg where
  role : Nat := 0
  scope : Nat := 0
  prio1 : Nat := 255
  prio2 : Nat := 128
  dom : Nat := 0
  src : Nat := 0
  utcoff : Nat := 37
deriving DecidableEq, Repr

/-- A pair's configuration (R409, R426); `member` 0 is member A, `abslot` 0x3F an abutment outside the viaduct. -/
structure PairCfg where
  member : Nat := 0
  prefer : Bool := false
  abslot : Nat := 0x3F
  ckint : Nat := 1000
deriving DecidableEq, Repr

/-- The viaduct part of the sheet (R398, R404, R405): rank, port, addresses by slot, the points mirrored at all times and
as keystone, and the slots of the pairs that this module serves as abutment with their preferred member. -/
structure ViaCfg where
  rank : Nat := 0
  port : Nat := 0x4FF8
  addrs : Table Nat := []
  mirrors : List MirrorCfg := []
  keystoneMirrors : List MirrorCfg := []
  abutments : Table Nat := []
  pair : Option PairCfg := none
deriving DecidableEq, Repr

/-- A mapped BACnet object (R422): object type and instance. -/
structure BscObject where
  otype : Nat
  inst : Nat
  index : Nat
deriving DecidableEq, Repr

/-- The BACnet/SC part of the sheet (R421, R428). -/
structure BscCfg where
  inst : Nat := 0
  vmac : Nat := 0
  objects : List BscObject := []
deriving DecidableEq, Repr

/-! ### Local I/O, access readers and lift interface (spec/17_local_io_access_lift.md) -/

/-- A universal channel's configuration (R611, R612), with its emergency map entry: command point and level (R362). -/
structure UioCfg where
  mode : Nat := 0
  deb : Nat := 0
  uper : Nat := 10
  emergency : Option (Nat × Nat) := none
deriving DecidableEq, Repr

/-- A reader record of the sheet (R615, R617): its S485 port, address, key slot and SCREQ. -/
structure ReaderCfg where
  port : Nat
  addr : Nat
  slot : Nat
  screq : Bool := false
deriving DecidableEq, Repr

/-- A door record of the sheet (R619); `floor` is a signed byte, the points are local indices. -/
structure DoorCfg where
  reader : Nat
  floor : Nat
  release : Nat
  dlevel : Nat
  drelt : Nat
  lockdown : Option Nat := none
  liften : Bool := false
deriving DecidableEq, Repr

/-- The lift interface's configuration (R623, R629); floors are signed bytes. -/
structure LiftCfg where
  port : Nat
  minfl : Nat
  maxfl : Nat
  ncars : Nat
deriving DecidableEq, Repr

/-- The calendar clock's part of the sheet (R598): PTPSET, WDMODE, TSRC, and the standard offset in minutes. -/
structure RtcCfg where
  ptpset : Bool := false
  wdmode : Bool := false
  tsrc : Nat := 0
  zone : Int := 0
deriving DecidableEq, Repr

/-- The configuration sheet; `digest` is the SHA-512 digest of the signed object (R535), `size` its bytes, `arm` and `lossact` the tamper arming that
provisioning sets (R554). -/
structure ConfigSheet where
  epoch : Nat := 0
  size : Nat := 0
  hwType : Nat := 0x4800
  unit : Nat := 0
  digest : Nat := 0
  viaid : Nat := 0
  slot : Nat := 0
  points : Table PointRec := []
  ports : Table PortCfg := []
  maps : List MapEntry := []
  loops : Table LoopCfg := []
  groups : Table GroupCfg := []
  tasks : Table TaskCfg := []
  meter : MeterCfg := {}
  via : ViaCfg := {}
  uplinks : List UplinkCfg := [{}, {}]
  ptp : PtpCfg := {}
  rtc : RtcCfg := {}
  bsc : BscCfg := {}
  uio : Table UioCfg := []
  readers : Table ReaderCfg := []
  doors : Table DoorCfg := []
  lift : Option LiftCfg := none
  papPort : Nat := 0x4FF6
  chkint : Nat := 24
  arm : Nat := 0
  lossact : Bool := false
deriving DecidableEq, Repr

end Sys2Proof
end

