-- ==== Sys2Proof/Syntax.lean ====
section
/-! DEFINITION. The commands of the block and the data that they carry. -/

namespace Sys2Proof

/-- The masters of the fabric (R13): a requester copy of R55 and R103 (0 to 7 PAP sessions, 8 the BACnet/SC node, 9 the
service port, 10 to 13 cores 0 to 3, 14 and 15 the firmware contexts 4 and 5), or an engine. -/
inductive Master where
  | req (r : Fin 16)
  | enclave | pointEngine | controlEngine
  | dma (channel : Fin 32)
deriving DecidableEq, Repr

/-- A protocol version that a DTLS handshake asks for (R64). -/
inductive DtlsVersion where
  | v13 | earlier
deriving DecidableEq, Repr

/-- A cipher suite that a DTLS handshake offers: those that R64 lists, or another. -/
inductive CipherSuite where
  | aes256Gcm | aes128Gcm | other
deriving DecidableEq, Repr

/-- A key exchange group that a DTLS handshake offers: those that R64 lists, or another. -/
inductive KeyGroup where
  | secp384r1 | x25519 | other
deriving DecidableEq, Repr

/-- What a client offers in its DTLS or TLS handshake (R64, R559). -/
structure DtlsOffer where
  version : DtlsVersion := .v13
  suites : List CipherSuite := [.aes256Gcm]
  groups : List KeyGroup := [.secp384r1]
deriving DecidableEq, Repr

/-- A PAP or service-port request (R69). `op` is an OP byte that R71 does not list; none where OP is that of the command's own
operation. `page` is the whole PAGE field with its reserved bits, `pad` the two reserved
bytes, `length` the length of the record in bytes. -/
structure PapRequest where
  ver : BitVec 8 := 1
  op : Option Byte := none
  tag : BitVec 16 := 0
  page : BitVec 16
  offset : BitVec 16
  count : BitVec 16
  pad : BitVec 16 := 0
  arg : BitVec 32 := 0
  data : List Word := []
  length : Nat
deriving DecidableEq, Repr

/-- A response (R70). -/
structure PapResponse where
  ver : Nat := 1
  op : Nat
  tag : Nat
  status : Nat
  count : Nat
  attnSeq : Nat
  arg : Nat
  data : List Nat
deriving DecidableEq, Repr

/-- A PBUS frame (R197, R221). -/
structure CanFrame where
  id : BitVec 29
  ide : Bool := false
  fdf : Bool := false
  brs : Bool := false
  esi : Bool := false
  rtr : Bool := false
  dlc : Fin 16
  data : List Byte := []
deriving DecidableEq, Repr

/-- An item of a field point message (R164). -/
structure FpmItem where
  item : BitVec 16
  flags : BitVec 8 := 0
  value : BitVec 64 := 0
deriving DecidableEq, Repr

/-- A reflection that reflectometry measures: round-trip time in ps and 1000 × Γ (R173, R174). -/
structure Reflection where
  ps : Nat
  gamma : Int
deriving DecidableEq, Repr

/-- What the stages of a span survey measure (R173 to R175): DC across the pair in 10 mV, the largest DC and RMS AC of all
pairs of conductors in 10 mV, insulation in 10 kΩ, loop resistance in 0.1 Ω where a reading exists, reflections in the
order of their distance, impedance in 0.1 Ω, losses at 1, 4 and 10 MHz in 0.01 dB by the far-end echo, noise in µV. -/
structure SurveyMeasure where
  vdc : Int
  dcMax : Nat
  acMax : Nat
  rins : Nat
  rloop : Option Nat
  reflections : List Reflection
  z : Nat
  il1 : Nat
  il4 : Nat
  il10 : Nat
  nrms : Nat
  npk : Nat
deriving DecidableEq, Repr

/-- What a voltage channel's frequency tracker gives over a window (R325): its frequency in mHz and its phase at the first sample
in 2^-32 turns. -/
structure TrackerWindow where
  freq : Nat := 0
  phase : Nat := 0
deriving DecidableEq, Repr

/-- What enters metering over a window: per channel (0 to 11 are V0 to V11, 12 to 47 are I0 to I35) the modulator's output,
128 clocks to a sample with the earliest in bit 0 (R317), and the trackers of the voltage channels. Sample `i` is the one whose
input was taken `i` × 31.25 µs after the window's start; since steps 1 to 3 have a group delay of 24 samples (R319), and the
calibration delay one of 4 ± DELAY ÷ 1,024, the clocks of a sample end 28 samples after that instant. -/
structure MeterWindow where
  channels : List (Nat × List (BitVec 128)) := []
  trackers : List (Nat × TrackerWindow) := []
deriving DecidableEq, Repr

/-- The header of a received viaduct datagram with the uplink that it came by (R396). -/
structure ViaHeader where
  port : Fin 2
  vid : BitVec 12
  typ : BitVec 8
  len : BitVec 16
  viaid : BitVec 16
  src : BitVec 8
  memb : Bool
  seq : Word
  pepoch : Word
deriving DecidableEq, Repr

/-- An item of a PUBLISH message (R406); `info` is the word at byte 24. -/
structure PubItem where
  gpr : BitVec 48
  rseq : BitVec 16
  pv : BitVec 64
  ts : BitVec 64
  info : Word
deriving DecidableEq, Repr

/-- A unit of a checkpoint (R417): a record image, half a priority array, a force table entry (none: removed), the OOS flag
of a record, or a task's retained area. -/
inductive CkEntry where
  | record (i : Nat) (pv sv ts pamask : Nat)
  | array (half : Nat) (levels : List Nat)
  | force (i : Nat) (f : Option (Nat × Nat × Bool))
  | oos (i : Nat) (v : Bool)
  | retained (task first : Nat) (values : List (Nat × Nat))
deriving DecidableEq, Repr

/-- A PTP Announce message (R394): the grandmaster that it names, the steps to it, and the UTC offset where it gives one. -/
structure PtpAnnounce where
  domain : BitVec 8
  prio1 : BitVec 8
  clockClass : BitVec 8
  accuracy : BitVec 8
  variance : BitVec 16
  prio2 : BitVec 8
  gm : BitVec 64
  steps : BitVec 16
  utcOffset : Option (BitVec 16) := none
deriving DecidableEq, Repr

/-- An ICMPv6 message to an uplink port (R390). -/
inductive IcmpMessage where
  | echoRequest (target id seq : Nat) (data : List Byte)
  | neighbourSolicitation (target : Nat)
  | routerAdvertisement
  | other (typ : BitVec 8)
deriving DecidableEq, Repr

/-- A BACnet value (R422). -/
inductive BacScalar where
  | null
  | real (bits : Nat)
  | unsigned (n : Nat)
  | enumerated (n : Nat)
  | boolean (b : Bool)
  | statusFlags (alarm fault overridden oos : Bool)
deriving DecidableEq, Repr

/-- A BACnet property value: one value, or an array of values. -/
inductive BacValue where
  | one (v : BacScalar)
  | array (vs : List BacScalar)
deriving DecidableEq, Repr

/-- A property that a BACnet request names: object type, instance, property identifier, array index. -/
structure BacRef where
  otype : Nat
  inst : Nat
  prop : Nat
  idx : Option Nat := none
deriving DecidableEq, Repr

/-- The answer to a BACnet request: a value, Simple-ACK, or an error class and code (R423). -/
inductive BacAnswer where
  | value (r : BacRef) (v : BacValue)
  | simpleAck
  | error (cls code : Nat)
deriving DecidableEq, Repr

/-- Who meets a DRAM line with a double-bit error (R499): a core in a task's space, with whether the line lies in the task's
committed variables; firmware, with whether the line is rebuilt from its source; the point engine at a record or a priority
array; the control engine at a loop, with whether its second read fails too; or a DMA channel, with its address and offset. -/
inductive EccReader where
  | coreTask (core : Fin 4) (va : BitVec 48) (committed : Bool)
  | coreFirmware (core : Fin 4) (rebuilt : Bool)
  | record (i : BitVec 20)
  | array (p : BitVec 17)
  | loop (n : BitVec 13) (again : Bool)
  | dma (channel : Fin 32) (va : BitVec 48) (offset : BitVec 25)
deriving DecidableEq, Repr

/-- A component in the manifest of an image (R562); `reqs` holds identifier, lowest and highest level. -/
structure ComponentInfo where
  version : Nat := 0
  offset : Nat := 0
  length : Nat := 0
  digest : Nat := 0
  level : Nat := 0
  reqs : List (Nat × Nat × Nat) := []
deriving DecidableEq, Repr

/-- The manifest that block 0 of an image carries (R562); `steps` are ASCII codes, `comps` is keyed by identifier. -/
structure Manifest where
  version : Nat := 1
  hwType : Nat := 0x4800
  variants : Nat := 3
  steps : List Nat := [0x42]
  unit : Nat := 0
  svn : Nat := 0
  image : Nat := 0
  nblk : Nat := 2
  comps : Table ComponentInfo := []
  built : Nat := 0
deriving DecidableEq, Repr

/-- A signed object as the enclave reads it from a staging buffer (R575): a sheet, a task image, a certificate chain and whether
it certifies slots 0 and 1, or authority keys ([0] charter, [1] parapet, [2] configuration). -/
inductive SignedObject where
  | charter (c : Charter)
  | parapet (p : ParapetSheet)
  | config (c : ConfigSheet)
  | task (i : TaskImage)
  | chain (certifies : Bool)
  | authorities (keys : Nat)
deriving DecidableEq, Repr

/-- What a universal input measured over its update period (R612): the last conversion, the mean in mV, µA or m°C by mode, whether the
resistance lies outside the range, the value in engineering units in binary64, and pulses counted. -/
structure UioReading where
  raw : BitVec 16 := 0
  mean : Int := 0
  outside : Bool := false
  value : BitVec 64 := 0
  pulses : Nat := 0
deriving DecidableEq, Repr

/-- How a reader's reply came (R617): in the clear, or in its secure channel with a MAC that holds or not. -/
inductive OsdpForm where
  | clear
  | secure (macOk : Bool)
deriving DecidableEq, Repr

/-- A car in a CARPOS message (R623). -/
structure CarPos where
  car : Byte
  floor : Byte
  dir : Byte
  door : Byte
deriving DecidableEq, Repr

/-- The commands of the block: one constructor per row of spec/opcode_table.json, in the table's order. -/
inductive Instr where
  /-- REGISTER_WRITE (R44). -/
  | registerWrite (master : Master) (page offset : BitVec 12) (narrow : Bool) (value : Word)
  /-- RC_FIELD_READ (R46). -/
  | rcFieldRead (master : Master) (page offset : BitVec 12) (narrow : Bool)
  /-- FAULT_CLEAR (R43): `events` are FAULT bits that hardware sets in the same cycle. -/
  | faultClear (master : Master) (page : BitVec 12) (value events : Word)
  /-- KEY_ARM (R47). -/
  | keyArm (master : Master) (page : BitVec 12)
  /-- KEY_OPEN (R47). -/
  | keyOpen (master : Master) (page : BitVec 12)
  /-- KEY_TIMEOUT (R48). -/
  | keyTimeout (page : BitVec 12)
  /-- DOMAIN_RESET_REQUEST (R40). -/
  | domainResetRequest (page : BitVec 12)
  /-- DOMAIN_RESET_COMPLETE (R40). -/
  | domainResetComplete (page : BitVec 12)
  /-- WINDOW_LOAD (R56). -/
  | windowLoad (requester : Fin 16) (page : BitVec 12) (autoinc : Bool)
  /-- WINDOW_COMMIT (R56). -/
  | windowCommit (requester : Fin 16) (page : BitVec 12) (autoinc : Bool)
  /-- WINDOW_LOAD_COMMIT_CONFLICT (R56). -/
  | windowLoadCommitConflict (requester : Fin 16) (page : BitVec 12) (autoinc : Bool)
  /-- PAP_HANDSHAKE (R66). -/
  | papHandshake (port : Fin 2) (udp : BitVec 16) (offer : DtlsOffer) (root : Nat) (cert : BitVec 256) (valid : Bool)
  /-- PAP_SESSION_IDLE_TIMEOUT (R68). -/
  | papSessionIdleTimeout (slot : Fin 8)
  /-- PAP_READ (R73). -/
  | papRead (conn : Option (Fin 8)) (request : PapRequest)
  /-- PAP_WRITE (R74). -/
  | papWrite (conn : Option (Fin 8)) (request : PapRequest)
  /-- PAP_LWRITE (R71). -/
  | papLwrite (conn : Option (Fin 8)) (request : PapRequest)
  /-- PAP_WREAD (R71). -/
  | papWread (conn : Option (Fin 8)) (request : PapRequest)
  /-- PAP_WWRITE (R71). -/
  | papWwrite (conn : Option (Fin 8)) (request : PapRequest)
  /-- PAP_WWRITE_RESPONSE (R138). -/
  | papWwriteResponse (conn : Option (Fin 8))
  /-- PAP_NOP (R71). -/
  | papNop (conn : Option (Fin 8)) (request : PapRequest)
  /-- BLOCK (R564). -/
  | block (conn : Option (Fin 8)) (request : PapRequest) (manifest : Option Manifest)
  /-- UPDATE_BLOCK_WRITTEN (R564). -/
  | updateBlockWritten (good : Bool)
  /-- SHEET (R575). -/
  | sheet (conn : Option (Fin 8)) (request : PapRequest)
  /-- INSTALL (R576). -/
  | install (conn : Option (Fin 8)) (request : PapRequest) (object : SignedObject) (signatureOk : Bool)
  /-- POINT_UPDATE_SUBMIT (R97). -/
  | pointUpdateSubmit (update : Update)
  /-- UPDATE_ADMISSION (R100). -/
  | updateAdmission
  /-- DECK_TICK_COMMIT (R108). -/
  | deckTickCommit
  /-- PUBLICATION_TIMER (R115). -/
  | publicationTimer (record : BitVec 20)
  /-- STALE_TIMEOUT (R93). -/
  | staleTimeout (record : BitVec 20)
  /-- PERSISTENCE_WRITE (R127). -/
  | persistenceWrite (unit : Nat)
  /-- POINT_STORE_RESTORE (R131). -/
  | pointStoreRestore (failed : List Nat)
  /-- CMD_WRITE_LEVEL (R110). -/
  | cmdWriteLevel (requester : Fin 16) (index : BitVec 20) (level : BitVec 5) (value : BitVec 64)
  /-- CMD_RELINQUISH_LEVEL (R110). -/
  | cmdRelinquishLevel (requester : Fin 16) (index : BitVec 20) (level : BitVec 5)
  /-- CMD_READ_ARRAY (R143). -/
  | cmdReadArray (requester : Fin 16) (index : BitVec 20)
  /-- CMD_WRITE_RELINQUISH_DEFAULT (R113). -/
  | cmdWriteRelinquishDefault (requester : Fin 16) (index : BitVec 20) (value : BitVec 64)
  /-- FORCE_APPLY (R118). -/
  | forceApply (requester : Fin 16) (index : BitVec 20) (value : BitVec 64)
  /-- FORCE_RELEASE (R119). -/
  | forceRelease (requester : Fin 16) (index : BitVec 20)
  /-- FORCE_READ (R144). -/
  | forceRead (requester : Fin 16) (index : BitVec 20)
  /-- FORCE_RESERVED_OP (R144). -/
  | forceReservedOp (requester : Fin 16) (index : BitVec 20)
  /-- PNTWIN_VALUE_WRITE (R139). -/
  | pntwinValueWrite (requester : Fin 16) (index : BitVec 20) (value : BitVec 64)
  /-- PNTWIN_TUNING_WRITE (R140). -/
  | pntwinTuningWrite (requester : Fin 16) (index : BitVec 20) (deadband : Word) (minpub maxpub staleto maxage : BitVec 16)
  /-- PNTWIN_SERVICE_WRITE (R141). -/
  | pntwinServiceWrite (requester : Fin 16) (index : BitVec 20) (oos : Bool)
  /-- PNTWIN_RESERVED_SELECT (R141). -/
  | pntwinReservedSelect (requester : Fin 16) (index : BitVec 20)
  /-- OOS_SERVICE_REQUEST (R157). -/
  | oosServiceRequest (port : Fin 32) (node : Option (Fin 64)) (oos : Bool)
  /-- SEG_ENABLE (R155). -/
  | segEnable (port : Fin 32)
  /-- SEG_DISABLE (R155). -/
  | segDisable (port : Fin 32)
  /-- SURVEY_REQUEST (R177). -/
  | surveyRequest (port : Fin 32) (service : Bool)
  /-- SURVEY_START (R177). -/
  | surveyStart (group : Fin 4)
  /-- SURVEY_COMPLETE (R173). -/
  | surveyComplete (port : Fin 32) (measured : SurveyMeasure)
  /-- PORT_RESTART (R155). -/
  | portRestart (port : Fin 32)
  /-- PORT_OOS_SET (R157). -/
  | portOosSet (port : Fin 32)
  /-- PORT_OOS_CLEAR (R157). -/
  | portOosClear (port : Fin 32)
  /-- NODE_OOS_SET (R657). -/
  | nodeOosSet (port : Fin 32) (node : Fin 64)
  /-- NODE_OOS_CLEAR (R657). -/
  | nodeOosClear (port : Fin 32) (node : Fin 64)
  /-- T1L_LINK_UP (R155). -/
  | t1lLinkUp (port : Fin 32) (lvl10 : Bool) (sqi : Fin 8)
  /-- T1L_LINK_LOST (R160). -/
  | t1lLinkLost (port : Fin 32)
  /-- BEACON_SEND (R160). -/
  | beaconSend (port : Fin 32)
  /-- NOJOIN_TIMEOUT (R156). -/
  | nojoinTimeout (port : Fin 32)
  /-- PORT_FAIL (R158). -/
  | portFail (port : Fin 32) (cause : Fin 4)
  /-- FPM_ECHO_RECEIVE (R160). -/
  | fpmEchoReceive (port : Fin 32) (crcOk : Bool) (source : BitVec 128) (udp : BitVec 16) (node : Fin 64) (bseq : BitVec 16)
  /-- FPM_DATA_RECEIVE (R165). -/
  | fpmDataReceive (port : Fin 32) (crcOk : Bool) (source : BitVec 128) (udp : BitVec 16) (node : Fin 64) (bseq : BitVec 16)
      (items : List FpmItem)
  /-- FPM_ACK_RECEIVE (R169). -/
  | fpmAckReceive (port : Fin 32) (crcOk : Bool) (source : BitVec 128) (udp : BitVec 16) (node : Fin 64) (bseq seq : BitVec 16)
      (items : List (BitVec 16 × Bool))
  /-- COMMAND_SEND (R169). -/
  | commandSend (port : Fin 32) (node : Fin 64)
  /-- COMMAND_ACK_TIMEOUT (R169). -/
  | commandAckTimeout (port : Fin 32) (seq : BitVec 16)
  /-- S485_POLL (R168). -/
  | s485Poll (port : Fin 32)
  /-- S485_RESPONSE_TIMEOUT (R168). -/
  | s485ResponseTimeout (port : Fin 32) (corrupt : Bool)
  /-- FEED_CLOSE (R179). -/
  | feedClose (port : Fin 32)
  /-- FEED_LIMIT_TRIP (R181). -/
  | feedLimitTrip (port : Fin 32)
  /-- FEED_FAST_TRIP (R181). -/
  | feedFastTrip (port : Fin 32) (current : BitVec 16)
  /-- FEED_OVERTEMP_TRIP (R181). -/
  | feedOvertempTrip (port : Fin 32)
  /-- FEED_BACKOFF_EXPIRY (R181). -/
  | feedBackoffExpiry (port : Fin 32)
  /-- FEED_CONSEC_RESET (R181). -/
  | feedConsecReset (port : Fin 32)
  /-- FEED_CLEAR (R181). -/
  | feedClear (port : Fin 32)
  /-- FEED_LIMIT_WRITE (R180). -/
  | feedLimitWrite (port : Fin 32) (value : BitVec 7)
  /-- FEED_SHED (R182). -/
  | feedShed (currents : List (BitVec 16))
  /-- FEED_SHED_RECLOSE (R183). -/
  | feedShedReclose (currents : List (BitVec 16))
  /-- PODL_DETECTION (R185). -/
  | podlDetection (port : Fin 32) (signature : Option (Fin 16 × Nat)) (railInRange : Bool)
  /-- PODL_RAIL_OUT_OF_RANGE (R185). -/
  | podlRailOutOfRange (port : Fin 32)
  /-- PBUS_FRAME_RECEIVE (R212). -/
  | pbusFrameReceive (port : Fin 32) (frame : CanFrame) (sof : BitVec 64) (mmuFault : Bool)
  /-- PBUS_PROTOCOL_EXCEPTION (R198). -/
  | pbusProtocolException (port : Fin 32)
  /-- PBUS_TX_START (R219). -/
  | pbusTxStart (port : Fin 32)
  /-- PBUS_TX_COMPLETE (R218). -/
  | pbusTxComplete (port : Fin 32)
  /-- PBUS_ARBITRATION_LOST (R229). -/
  | pbusArbitrationLost (port : Fin 32)
  /-- PBUS_TX_ERROR (R229). -/
  | pbusTxError (port : Fin 32) (dataPhase : Bool) (kind : Fin 6) (exception : Bool)
  /-- PBUS_SLOT_CANCEL (R232). -/
  | pbusSlotCancel (port : Fin 32) (mask : BitVec 64)
  /-- PBUS_SHADOW_CANCEL (R231). -/
  | pbusShadowCancel (port : Fin 32) (mask : BitVec 4)
  /-- PBUS_SHADOW_ARM (R220). -/
  | pbusShadowArm (port : Fin 32) (buffer : Fin 4) (source : BitVec 16) (frame : CanFrame)
  /-- PBUS_FIRMWARE_SUBMIT (R243). -/
  | pbusFirmwareSubmit (port : Fin 32) (context : Fin 2)
  /-- RXQ_GET_WRITE (R221). -/
  | rxqGetWrite (port : Fin 32) (context : Fin 2) (get : BitVec 9)
  /-- PBUS_BUS_OFF (R236). -/
  | pbusBusOff (port : Fin 32)
  /-- PBUS_BUSOFF_RECOVERY_START (R237). -/
  | pbusBusoffRecoveryStart (port : Fin 32) (requester : Fin 16)
  /-- PBUS_BUSOFF_RECOVERY_COMPLETE (R237). -/
  | pbusBusoffRecoveryComplete (port : Fin 32)
  /-- PBUS_INTEGRATION_COMPLETE (R239). -/
  | pbusIntegrationComplete (port : Fin 32)
  /-- TT_BASIC_CYCLE_START (R224). -/
  | ttBasicCycleStart (port : Fin 32)
  /-- TT_VOID_CYCLE (R227). -/
  | ttVoidCycle (port : Fin 32)
  /-- TT_WINDOW_MISSED (R218). -/
  | ttWindowMissed (port : Fin 32) (column : Fin 32)
  /-- TT_FOREIGN_HOLD_END (R228). -/
  | ttForeignHoldEnd (port : Fin 32)
  /-- PBUS_CONFIRM_TIMEOUT (R214). -/
  | pbusConfirmTimeout (port : Fin 32) (message : BitVec 10)
  /-- LOOP_SAMPLE (R249). -/
  | loopSample
  /-- LOOP_EVALUATION_COMPLETE (R252). -/
  | loopEvaluationComplete (slot : BitVec 13)
  /-- LOOP_OUTPUT_PRESENT (R250). -/
  | loopOutputPresent (slot : BitVec 13)
  /-- LOOP_OVERRUN (R276). -/
  | loopOverrun (slot : BitVec 13)
  /-- LOOP_COEFFICIENT_WRITE (R271). -/
  | loopCoefficientWrite (requester : Fin 16) (index : BitVec 20) (field : BitVec 4) (value : Word)
  /-- LOOP_MODE_WRITE (R271). -/
  | loopModeWrite (requester : Fin 16) (index : BitVec 20) (mode : BitVec 3)
  /-- LOOP_CLEAR_OVRCNT (R282). -/
  | loopClearOvrcnt (requester : Fin 16) (index : BitVec 20)
  /-- LOOP_RESERVED_SELECT (R283). -/
  | loopReservedSelect (requester : Fin 16) (index : BitVec 20)
  /-- PTP_SYNC_RECEIVE (R285). -/
  | ptpSyncReceive (port : Fin 2) (offset : Int) (delay : Word)
  /-- PTP_SYNC_LOSS (R285). -/
  | ptpSyncLoss
  /-- WAKE_TIMER (R31). -/
  | wakeTimer
  /-- TASK_RELEASE (R289). -/
  | taskRelease (task : Fin 16)
  /-- TASK_EVENT_RELEASE (R290). -/
  | taskEventRelease (task : Fin 16)
  /-- TASK_GATHER_COMPLETE (R294). -/
  | taskGatherComplete (task : Fin 16)
  /-- TASK_CYCLE_COMPLETE (R295). -/
  | taskCycleComplete (task : Fin 16) (outputs : List Nat) (vars : List (Nat × Nat)) (timers : List (Nat × Bool × Nat)) (contextBad : Bool)
  /-- TASK_BATCH_ADMISSION (R296). -/
  | taskBatchAdmission (task : Fin 16)
  /-- TASK_BUDGET_OVERRUN (R302). -/
  | taskBudgetOverrun (task : Fin 16)
  /-- TASK_WATCHDOG_EXPIRY (R303). -/
  | taskWatchdogExpiry (task : Fin 16)
  /-- RETAIN_SAVE (R309). -/
  | retainSave (task : Fin 16)
  /-- EDGE_LATCH_EDGE (R299). -/
  | edgeLatchEdge (latch : Fin 128) (rising : Bool)
  /-- TASK_VALUE_CHANGE (R307). -/
  | taskValueChange (requester : Fin 16) (index : BitVec 20) (item : BitVec 16) (value : BitVec 64)
  /-- TASK_START (R310). -/
  | taskStart (requester : Fin 16) (index : BitVec 20)
  /-- TASK_STOP (R310). -/
  | taskStop (requester : Fin 16) (index : BitVec 20)
  /-- TASK_RESTART (R304). -/
  | taskRestart (requester : Fin 16) (index : BitVec 20)
  /-- TASK_SWAP (R310). -/
  | taskSwap (requester : Fin 16) (index : BitVec 20)
  /-- TASK_SWAP_APPLY (R310). -/
  | taskSwapApply (task : Fin 16)
  /-- TASK_CLEAR_COUNTERS (R315). -/
  | taskClearCounters (requester : Fin 16) (index : BitVec 20)
  /-- TASK_RESERVED_SELECT (R316). -/
  | taskReservedSelect (requester : Fin 16) (index : BitVec 20) (command : Option (Fin 16))
  /-- METER_WINDOW_END (R332). -/
  | meterWindowEnd (window : MeterWindow) (saveFails : Bool)
  /-- DEMAND_INTERVAL_END (R337). -/
  | demandIntervalEnd
  /-- FREQ_TRACKER_CHANGE (R325). -/
  | freqTrackerChange (channel : Fin 12) (valid : Bool)
  /-- MTR_TEST_ARM (R335). -/
  | mtrTestArm
  /-- TEST_GATE_START (R335). -/
  | testGateStart
  /-- MTR_CALIBRATION_STAGE (R347). -/
  | mtrCalibrationStage (requester : Fin 16) (index : BitVec 20) (gain : Word) (delay : BitVec 16)
  /-- MTR_CALIBRATION_APPLY (R347). -/
  | mtrCalibrationApply (requester : Fin 16)
  /-- METER_POWER_FAIL_STOP (R342). -/
  | meterPowerFailStop (window : MeterWindow)
  /-- PARAPET_EVALUATION (R371). -/
  | parapetEvaluation
  /-- LEASE_WITHDRAWAL (R383). -/
  | leaseWithdrawal
  /-- PRPT_ENTRY_LOAD (R388). -/
  | prptEntryLoad (requester : Fin 16) (entry : BitVec 16)
  /-- UPLINK_LINK_CHANGE (R391). -/
  | uplinkLinkChange (port : Fin 2) (up : Bool) (speed : Fin 4)
  /-- UPLINK_PORT_LOST (R392). -/
  | uplinkPortLost (port : Fin 2)
  /-- HEARTBEAT_SEND (R397). -/
  | heartbeatSend
  /-- HEARTBEAT_RECEIVE (R397). -/
  | heartbeatReceive (header : ViaHeader) (pmode flags kslot krank : Byte) (kepoch : BitVec 64)
  /-- RING_BLOCK_SET (R391). -/
  | ringBlockSet
  /-- PEER_LOST (R397). -/
  | peerLost (slot : Fin 64) (member : Bool)
  /-- VIA_HANDSHAKE (R399). -/
  | viaHandshake (port : Fin 2) (udp : BitVec 16) (offer : DtlsOffer) (source : Byte) (member : Bool) (digest : BitVec 256) (root : Nat) (chainOk : Bool)
  /-- PUBLISH_RECEIVE (R406). -/
  | publishReceive (header : ViaHeader) (tick : BitVec 64) (items : List PubItem)
  /-- SUBSCRIBE_RECEIVE (R405). -/
  | subscribeReceive (header : ViaHeader) (op : Byte) (points : List Word)
  /-- KCLAIM_SEND (R402). -/
  | kclaimSend
  /-- KEYSTONE_TAKE_ROLE (R402). -/
  | keystoneTakeRole
  /-- KCLAIM_RECEIVE (R403). -/
  | kclaimReceive (header : ViaHeader) (kepoch : BitVec 64) (rank : Byte)
  /-- KEYSTONE_STEP_DOWN_TIMEOUT (R403). -/
  | keystoneStepDownTimeout
  /-- KACTION_RECEIVE (R403). -/
  | kactionReceive (header : ViaHeader) (kepoch : BitVec 64) (action slot member : Byte) (digest : BitVec 256)
  /-- KACK_RECEIVE (R400). -/
  | kackReceive (header : ViaHeader) (kepoch : BitVec 64) (result : Byte)
  /-- VIA_ENROLL (R400). -/
  | viaEnroll
  /-- VIA_UNENROLL (R400). -/
  | viaUnenroll
  /-- VIA_KEYSTONE_STEP (R425). -/
  | viaKeystoneStep
  /-- LEASE_RENEWAL_SEND (R412). -/
  | leaseRenewalSend
  /-- LREQ_RECEIVE (R414). -/
  | lreqReceive (header : ViaHeader) (pepoch reqseq : Word) (kind : Byte) (stbleft : BitVec 16) (eligible : Bool)
  /-- LGRANT_RECEIVE (R412). -/
  | lgrantReceive (header : ViaHeader) (reqseq : Word) (result : Byte) (pepoch : Word)
  /-- ABUTMENT_INITIAL_GRANT (R413). -/
  | abutmentInitialGrant (slot : Fin 64)
  /-- STANDBY_RENEWAL_TIMEOUT (R414). -/
  | standbyRenewalTimeout
  /-- LREQ_RETRY (R414). -/
  | lreqRetry
  /-- PAIR_RELEASE (R415). -/
  | pairRelease
  /-- CHECKPOINT_CAPTURE (R417). -/
  | checkpointCapture
  /-- CHECKPOINT_RECEIVE (R417). -/
  | checkpointReceive (header : ViaHeader) (pepoch ckseq : Word) (tick : BitVec 64) (part nparts : BitVec 16) (full : Bool) (entries : List CkEntry)
  /-- CHECKPOINT_HOME_WRITE_COMPLETE (R418). -/
  | checkpointHomeWriteComplete
  /-- CKACK_RECEIVE (R417). -/
  | ckackReceive (header : ViaHeader) (ckseq : Word) (result : Byte)
  /-- BSC_READ_PROPERTY (R422). -/
  | bscReadProperty (invoke : Byte) (ref : BacRef)
  /-- BSC_READ_PROPERTY_MULTIPLE (R422). -/
  | bscReadPropertyMultiple (invoke : Byte) (refs : List BacRef)
  /-- BSC_WRITE_PROPERTY (R422). -/
  | bscWriteProperty (invoke : Byte) (ref : BacRef) (value : BacScalar) (priority : Option (Fin 32))
  /-- BSC_HUB_CONNECT (R421). -/
  | bscHubConnect (primary failover tlsFail : Bool)
  /-- BSC_HUB_LOST (R421). -/
  | bscHubLost
  /-- POWER_ON_START (R443). -/
  | powerOnStart (vin : BitVec 16) (backupOk : Bool)
  /-- FULL_START (R462). -/
  | fullStart (vin : BitVec 16) (xt25 irc : Bool) (failed : List (Nat × Nat)) (saveBad retainBad : List Nat)
  /-- BROWNOUT_RESET (R436). -/
  | brownoutReset (rail : Fin 5)
  /-- WATCHDOG_EXPIRY (R438). -/
  | watchdogExpiry
  /-- WATCHDOG_KICK (R438). -/
  | watchdogKick (word : Word)
  /-- SOFTWARE_RESET_REQUEST (R439). -/
  | softwareResetRequest
  /-- SOFTWARE_RESET (R439). -/
  | softwareReset
  /-- POWER_FAIL_WARNING (R444). -/
  | powerFailWarning (vin : BitVec 16)
  /-- CAISSON_SECTION_SEAL (R452). -/
  | caissonSectionSeal (second : Bool) (us : Word)
  /-- COMMIT_HOLDUP_EXHAUSTED (R454). -/
  | commitHoldupExhausted
  /-- F_RESTART (R456). -/
  | fRestart (vin : BitVec 16)
  /-- POWER_LOSS (R455). -/
  | powerLoss
  /-- OVER_VOLTAGE (R443). -/
  | overVoltage (vin : BitVec 16)
  /-- OVER_VOLTAGE_END (R443). -/
  | overVoltageEnd (vin : BitVec 16)
  /-- HOLDUP_CHARGED (R447). -/
  | holdupCharged (vhu : BitVec 16)
  /-- HOLDUP_CHARGING_TIMEOUT (R447). -/
  | holdupChargingTimeout
  /-- HOLDUP_CHECK_REQUEST (R449). -/
  | holdupCheckRequest
  /-- HOLDUP_CHECK_INTERVAL (R449). -/
  | holdupCheckInterval
  /-- HOLDUP_CHECK_COMPLETE (R448). -/
  | holdupCheckComplete (va vb vc vd : BitVec 17)
  /-- START_CONDITIONS_MET (R430). -/
  | startConditionsMet
  /-- MODE_STANDBY_WRITE (R429). -/
  | modeStandbyWrite (value : Bool)
  /-- MODE_HOLD_WRITE (R432). -/
  | modeHoldWrite (value : Bool)
  /-- MODE_FATAL_WRITE (R432). -/
  | modeFatalWrite
  /-- SERVICE_REQUEST (R429). -/
  | serviceRequest
  /-- SERVICE_EXIT (R429). -/
  | serviceExit
  /-- SVC_EN_RELEASE (R561). -/
  | svcEnRelease
  /-- SVC_CONNECT (R559, R560). -/
  | svcConnect (tcp : BitVec 16) (offer : DtlsOffer) (root : Option Nat) (cert : BitVec 256) (valid : Bool) (peer : BitVec 512)
  /-- PROVISIONING_OPEN (R548). -/
  | provisioningOpen
  /-- PROVISIONING_COMPLETE (R548). -/
  | provisioningComplete
  /-- PROVISIONING_END_INCOMPLETE (R548). -/
  | provisioningEndIncomplete
  /-- DOZE_ENTRY (R435). -/
  | dozeEntry
  /-- DOZE_WAKE (R30). -/
  | dozeWake
  /-- CLOCK_MONITOR_WINDOW (R472). -/
  | clockMonitorWindow (ao : Bool) (count : BitVec 17)
  /-- XT25_DETECTOR_TRIP (R473). -/
  | xt25DetectorTrip
  /-- XT32_DETECTOR_TRIP (R474). -/
  | xt32DetectorTrip
  /-- IRC_READY (R479). -/
  | ircReady (us : Byte)
  /-- IRC_DEADLINE (R479). -/
  | ircDeadline
  /-- PLL_RELOCK_TIMEOUT (R480). -/
  | pllRelockTimeout
  /-- CLKFAIL2_RETRY (R480). -/
  | clkfail2Retry (success : Bool)
  /-- CLOCK_RESTORE_WRITE (R477). -/
  | clockRestoreWrite
  /-- JOINT_REARM (R485). -/
  | jointRearm (joint : Fin 16) (port : Fin 32)
  /-- JOINT_STUCK (R485). -/
  | jointStuck (joint : Fin 16) (port : Fin 32)
  /-- CLKO_CONFIG_WRITE (R486). -/
  | clkoConfigWrite (requester : Fin 16) (source : BitVec 4) (div : BitVec 16)
  /-- CORE_FAULT (R501). -/
  | coreFault (core : Fin 4) (asid : Fin 17) (cls : Fin 5) (access : Fin 3) (level : Fin 4) (va : BitVec 48) (committed : Bool) (inHandler : Bool)
  /-- CORE_HALT (R494). -/
  | coreHalt (core : Fin 4)
  /-- ECC_UNCORRECTABLE (R499). -/
  | eccUncorrectable (pa : BitVec 36) (reader : EccReader)
  /-- SCRUB_PATROL (R498). -/
  | scrubPatrol (corrected : Nat) (poisoned : Option (BitVec 36))
  /-- MMU_INVALIDATE (R497). -/
  | mmuInvalidate (asid : Fin 17) (all : Bool) (va : BitVec 48)
  /-- MMU_INVALIDATE_COMPLETE (R497). -/
  | mmuInvalidateComplete
  /-- DMA_GO (R505). -/
  | dmaGo (requester : Fin 16) (channel : Fin 32)
  /-- DMA_ELEMENT_COMPLETE (R506). -/
  | dmaElementComplete (channel : Fin 32)
  /-- DMA_FAULT (R508). -/
  | dmaFault (channel : Fin 32) (cls : Fin 4) (access : Fin 2) (level : Fin 4) (offset : BitVec 25) (va : BitVec 48) (fetch : Bool)
  /-- DMA_RESUME (R509). -/
  | dmaResume (requester : Fin 16) (channel : Fin 32)
  /-- DMA_ABORT (R509). -/
  | dmaAbort (requester : Fin 16) (channel : Fin 32)
  /-- MAILBOX_WRITE (R513). -/
  | mailboxWrite (master : Master) (mailbox : Fin 64) (value : Word)
  /-- MAILBOX_READ (R514). -/
  | mailboxRead (master : Master) (mailbox : Fin 64)
  /-- MAILBOX_TIMEOUT (R515). -/
  | mailboxTimeout (mailbox : Fin 64)
  /-- LOCK_ACQUIRE (R520). -/
  | lockAcquire (master : Master) (lock : Fin 128)
  /-- LOCK_RELEASE (R520). -/
  | lockRelease (master : Master) (lock : Fin 128)
  /-- ROOT_RETRY (R531). -/
  | rootRetry (success : Bool)
  /-- ENC_DERIVE (R540). -/
  | encDerive (requester : Fin 16) (slot : BitVec 6) (typ : BitVec 4) (measpol : BitVec 8) (usage : BitVec 6) (gen : Bool) (uselim : Word) (label : List Byte)
  /-- ENC_DESTROY (R542). -/
  | encDestroy (requester : Fin 16) (slot : BitVec 6)
  /-- ENC_ENCRYPT (R544). -/
  | encEncrypt (requester : Fin 16) (slot : BitVec 6) (aad : Word) (input : List Byte)
  /-- ENC_DECRYPT (R545). -/
  | encDecrypt (requester : Fin 16) (slot : BitVec 6) (aad : Word) (input : List Byte)
  /-- ENC_MAC (R545). -/
  | encMac (requester : Fin 16) (slot : BitVec 6) (input : List Byte)
  /-- ENC_SIGN (R545). -/
  | encSign (requester : Fin 16) (slot : BitVec 6) (input : List Byte)
  /-- ENC_PUBKEY (R545). -/
  | encPubkey (requester : Fin 16) (slot : BitVec 6)
  /-- ENC_AGREE (R545). -/
  | encAgree (requester : Fin 16) (slot dst : BitVec 6) (peer : List Byte)
  /-- ENC_RANDOM (R545). -/
  | encRandom (requester : Fin 16) (length : Word)
  /-- ENC_ATTEST (R551). -/
  | encAttest (requester : Fin 16) (nonce : List Byte)
  /-- ENC_OPERATION_COMPLETE (R547). -/
  | encOperationComplete
  /-- ENTROPY_HEALTH_FAIL (R537). -/
  | entropyHealthFail
  /-- ENTROPY_RESTART (R537). -/
  | entropyRestart (passed : Bool)
  /-- TAMPER_TRIP (R555). -/
  | tamperTrip (sensors : BitVec 6)
  /-- ZEROIZE_COMMAND (R550). -/
  | zeroizeCommand (requester : Fin 16)
  /-- TAMPER_ARM_WRITE (R554). -/
  | tamperArmWrite (requester : Fin 16) (bits : BitVec 6) (lossact : Bool)
  /-- UPDATE_VERIFY (R566). -/
  | updateVerify (requester : Fin 16)
  /-- VERIFY_COMPLETE (R566). -/
  | verifyComplete (signatureOk : Bool)
  /-- UPDATE_ACTIVATE (R569). -/
  | updateActivate (requester : Fin 16) (readOk : Bool)
  /-- UPDATE_CONFIRM (R570). -/
  | updateConfirm (requester : Fin 16)
  /-- UPDATE_REVERT (R570). -/
  | updateRevert (requester : Fin 16) (readOk : Bool)
  /-- UPDATE_ABORT (R577). -/
  | updateAbort (requester : Fin 16)
  /-- TRIAL_TIMEOUT (R570). -/
  | trialTimeout
  /-- TRIAL_READY_TIMEOUT (R570). -/
  | trialReadyTimeout
  /-- RTC_TIME_COMMIT (R587). -/
  | rtcTimeCommit (requester : Fin 16)
  /-- RTC_DST_FORWARD (R591). -/
  | rtcDstForward
  /-- RTC_DST_BACK (R591). -/
  | rtcDstBack
  /-- DST_BOUNDARY_APPLY (R591). -/
  | dstBoundaryApply
  /-- RTC_PTP_COMPARE (R589). -/
  | rtcPtpCompare
  /-- RTC_RANGE_EXPIRY (R584). -/
  | rtcRangeExpiry
  /-- TRIM_WINDOW_END (R595). -/
  | trimWindowEnd (cycles : BitVec 40)
  /-- TRIM_RESTART (R595). -/
  | trimRestart
  /-- BACKUP_DOMAIN_RESET (R581). -/
  | backupDomainReset
  /-- BACKUP_BYTE_WRITE (R582). -/
  | backupByteWrite (index : Fin 64) (value : Byte)
  /-- RTC_SNAPSHOT_READ (R586). -/
  | rtcSnapshotRead (requester : Fin 16)
  /-- LOG_RECORD_SUBMIT (R603). -/
  | logRecordSubmit (typ : BitVec 16) (sev : Fin 8) (items : List (BitVec 64))
  /-- LOG_FIRMWARE_SUBMIT (R609). -/
  | logFirmwareSubmit (context : Fin 2)
  /-- LOG_FLUSH (R603). -/
  | logFlush
  /-- LOG_READER_LOAD (R607). -/
  | logReaderLoad (requester : Fin 16)
  /-- LOG_TIMEMARK (R602). -/
  | logTimemark
  /-- OPTIME_SAVE (R601). -/
  | optimeSave
  /-- UIO_INPUT_UPDATE (R612). -/
  | uioInputUpdate (channel : Fin 24) (reading : UioReading)
  /-- UIO_CONTACT_CHANGE (R612). -/
  | uioContactChange (channel : Fin 24) (level : Bool)
  /-- UIO_OUTPUT_FAULT (R613). -/
  | uioOutputFault (channel : Fin 24)
  /-- UIO_OUTPUT_FAULT_CLEAR (R613). -/
  | uioOutputFaultClear (channel : Fin 24)
  /-- BINARY_OUTPUT_SHORT (R614). -/
  | binaryOutputShort (output : Fin 8)
  /-- BINARY_OUTPUT_RECLOSE (R614). -/
  | binaryOutputReclose (output : Fin 8) (shorted : Bool)
  /-- BINARY_OUTPUT_OPEN_LOAD (R614). -/
  | binaryOutputOpenLoad (output : Fin 8) (voltage : Bool)
  /-- OSDP_POLL (R616). -/
  | osdpPoll (port : Fin 32)
  /-- OSDP_REPLY_RECEIVE (R616). -/
  | osdpReplyReceive (port : Fin 32) (code : Byte) (form : OsdpForm) (cryptogramOk : Bool)
  /-- SECURE_CHANNEL_RETRY (R617). -/
  | secureChannelRetry (reader : Fin 32)
  /-- OSDP_REPLY_TIMEOUT (R616). -/
  | osdpReplyTimeout (port : Fin 32) (corrupt : Bool)
  /-- CARD_READ (R620). -/
  | cardRead (port : Fin 32) (form : OsdpForm) (bits : BitVec 16) (card : List Byte)
  /-- OSDP_KEYPAD_RECEIVE (R620). -/
  | osdpKeypadReceive (port : Fin 32) (form : OsdpForm) (keys : List Byte)
  /-- PIN_TIMEOUT (R620). -/
  | pinTimeout (door : Fin 32)
  /-- DOOR_RELEASE_EXPIRY (R620). -/
  | doorReleaseExpiry (door : Fin 32)
  /-- ACC_CREDENTIAL_COMMIT (R618). -/
  | accCredentialCommit (requester : Fin 16) (index : BitVec 20) (entry : BitVec 256)
  /-- LIFT_HOST_CALL (R625). -/
  | liftHostCall (requester : Fin 16) (fromFloor toFloor : Byte) (accessible : Bool)
  /-- DRESP_RECEIVE (R625). -/
  | drespReceive (callid : Word) (result car : Byte) (eta : BitVec 16)
  /-- LIFT_CALL_TIMEOUT (R625). -/
  | liftCallTimeout (callid : Word)
  /-- CARPOS_RECEIVE (R624). -/
  | carposReceive (cars : List CarPos)
  /-- LSTAT_RECEIVE (R624). -/
  | lstatReceive (modes : List Byte)
  /-- LSTAT_SEND (R623). -/
  | lstatSend
  /-- LIFT_LINK_TIMEOUT (R624). -/
  | liftLinkTimeout
  /-- PBUS_RECEIVE_ERROR (R235). -/
  | pbusReceiveError (port : Fin 32) (dataPhase : Bool) (kind : Fin 6) (by8 : Bool)
  /-- FEED_CURRENT_LIMIT (R181). -/
  | feedCurrentLimit (port : Fin 32) (current : BitVec 16)
  /-- FEED_START_WINDOW_END (R181). -/
  | feedStartWindowEnd (port : Fin 32)
  /-- VBAT_LOW (R580). -/
  | vbatLow (millivolts : BitVec 12)
  /-- PLL_UNLOCK (R488). -/
  | pllUnlock (pll : Fin 6)
  /-- SVC_DISCONNECT (R429). -/
  | svcDisconnect
  /-- PAP_SESSION_CLOSE (R522). -/
  | papSessionClose (slot : Fin 8)
  /-- SVC_EN_ASSERT (R560). -/
  | svcEnAssert
  /-- SVC_LINK_CHANGE (R578). -/
  | svcLinkChange (up : Bool)
  /-- PTP_ANNOUNCE_RECEIVE (R394). -/
  | ptpAnnounceReceive (port : Fin 2) (vid : BitVec 12) (announce : PtpAnnounce)
  /-- PTP_ANNOUNCE_TIMEOUT (R394). -/
  | ptpAnnounceTimeout (port : Fin 2)
  /-- ICMPV6_MESSAGE_RECEIVE (R390). -/
  | icmpv6MessageReceive (port : Fin 2) (vid : BitVec 12) (message : IcmpMessage)
deriving DecidableEq, Repr

end Sys2Proof
end

