-- ==== Sys2Proof/Machine/Table.lean ====
section
/-! DEFINITION. The operations over sorted sparse tables: lookup, canonical store, removal, and the canonical form itself. -/

namespace Sys2Proof.Machine

/-- The entry listed at key `k`, if any. -/
def tabFind {α : Type} (k : Nat) : Table α → Option α
  | [] => none
  | (j, v) :: t => if j = k then some v else tabFind k t

/-- The value at key `k`, where an unlisted key holds `d`. -/
def tabGet {α : Type} (d : α) (t : Table α) (k : Nat) : α :=
  match tabFind k t with
  | some v => v
  | none => d

/-- Removes the entry at key `k`. -/
def tabErase {α : Type} (k : Nat) : Table α → Table α
  | [] => []
  | (j, v) :: t => if j = k then tabErase k t else (j, v) :: tabErase k t

/-- Lists value `v` at key `k`, keeping the keys in rising order. -/
def tabInsert {α : Type} (k : Nat) (v : α) : Table α → Table α
  | [] => [(k, v)]
  | (j, w) :: t =>
    if k < j then (k, v) :: (j, w) :: t
    else if j = k then (k, v) :: t
    else (j, w) :: tabInsert k v t

/-- Stores `v` at key `k`, where an unlisted key holds `d`: storing `d` removes the entry, so equal maps are equal data. -/
def tabPut {α : Type} [DecidableEq α] (d : α) (k : Nat) (v : α) (t : Table α) : Table α :=
  if v = d then tabErase k t else tabInsert k v t

/-- Applies `f` to the value at key `k`, where an unlisted key holds `d`. -/
def tabMap {α : Type} [DecidableEq α] (d : α) (k : Nat) (f : α → α) (t : Table α) : Table α :=
  tabPut d k (f (tabGet d t k)) t

/-- The keys are strictly rising and all above `lo` (exclusive when `some`). -/
def tabSortedFrom {α : Type} : Option Nat → Table α → Bool
  | _, [] => true
  | none, (k, _) :: t => tabSortedFrom (some k) t
  | some b, (k, _) :: t => decide (b < k) && tabSortedFrom (some k) t

/-- The keys of the table are strictly rising. -/
def tabSorted {α : Type} (t : Table α) : Bool := tabSortedFrom none t

/-- The canonical form of a table whose unlisted keys hold `d`: rising keys, no entry equal to `d`. -/
def tabWf {α : Type} [DecidableEq α] (d : α) (t : Table α) : Bool :=
  tabSorted t && t.all (fun e => decide (e.2 ≠ d))

end Sys2Proof.Machine
end

