-- ==== Sys2Proof/Machine/Memory.lean ====
section
/-! DEFINITION. DRAM as a list of (physical address, byte) pairs in canonical form: rising addresses, and no entry equal to what an
unlisted address reads as (R491, R495). -/

namespace Sys2Proof.Machine

/-- What a byte of DRAM that nothing has written reads as. DESIGN CHOICE (the specification gives DRAM no contents at power-on). -/
def Memory.unwritten : BitVec 8 := 0

/-- The byte at a physical address. -/
def Memory.read (m : List Host.Cell) (a : Nat) : BitVec 8 := tabGet Memory.unwritten m a

/-- Stores a byte at a physical address, in canonical form. -/
def Memory.write (m : List Host.Cell) (a : Nat) (v : BitVec 8) : List Host.Cell := tabPut Memory.unwritten a v m

/-- The canonical form of the memory. -/
def Memory.wf (m : List Host.Cell) : Bool := tabWf Memory.unwritten m

end Sys2Proof.Machine
end

