-- ==== Sys2Proof/Machine/Float.lean ====
section
/-! DEFINITION. IEEE 754 binary32 and binary64 (R7) in exact integer arithmetic: decoding to a dyadic number, exact
operations, and one rounding to nearest, ties to even. -/

namespace Sys2Proof.Machine

/-- A decoded floating-point number: a NaN, an infinity, or (−1)^neg × mant × 2^ex. -/
inductive Fp where
  | nan
  | inf (neg : Bool)
  | fin (neg : Bool) (mant : Nat) (ex : Int)
deriving DecidableEq, Repr

/-- Decodes a format with `eb` exponent bits and `mb` fraction bits. -/
def fpDecode (eb mb : Nat) (v : Nat) : Fp :=
  let neg := decide (v / 2 ^ (eb + mb) % 2 = 1)
  let e := v / 2 ^ mb % 2 ^ eb
  let f := v % 2 ^ mb
  let bias : Int := 2 ^ (eb - 1) - 1
  if e = 2 ^ eb - 1 then if f = 0 then .inf neg else .nan
  else if e = 0 then .fin neg f (1 - bias - mb)
  else .fin neg (f + 2 ^ mb) (e - bias - mb)

/-- The binary32 number that the low 32 bits hold. -/
def f32 (v : Nat) : Fp := fpDecode 8 23 (v % 2 ^ 32)
/-- The binary64 number that the low 64 bits hold. -/
def f64 (v : Nat) : Fp := fpDecode 11 52 (v % 2 ^ 64)

/-- `n` ÷ `d` rounded to the nearest integer, ties to even. -/
def divNearestEven (n d : Nat) : Nat :=
  let q := n / d
  let r := n % d
  if 2 * r > d ∨ (2 * r = d ∧ q % 2 = 1) then q + 1 else q

/-- The encoding of (−1)^neg × (n ÷ d) × 2^ex in a format with `eb` exponent bits and `mb` fraction bits, rounded once to
nearest even; an overflow gives an infinity. -/
def fpRoundRat (eb mb : Nat) (neg : Bool) (n d : Nat) (ex : Int) : Nat :=
  let sign := if neg then 2 ^ (eb + mb) else 0
  if n = 0 ∨ d = 0 then sign
  else
    let bias : Int := 2 ^ (eb - 1) - 1
    let emin : Int := 1 - bias - mb
    -- 2^lead ≤ n/d < 2^(lead+2); the true binary exponent is lead or lead + 1
    let lead : Int := (Nat.log2 n : Int) - (Nat.log2 d : Int) - 1
    let top := if lead + 1 ≥ 0 then decide (d * 2 ^ (lead + 1).toNat ≤ n) else decide (d ≤ n * 2 ^ (-(lead + 1)).toNat)
    let lg : Int := if top then lead + 1 else lead
    let q : Int := max (lg + ex - mb) emin
    let sh : Int := ex - q
    let m := if sh ≥ 0 then divNearestEven (n * 2 ^ sh.toNat) d else divNearestEven n (d * 2 ^ (-sh).toNat)
    let m' := if m = 2 ^ (mb + 1) then 2 ^ mb else m
    let q' := if m = 2 ^ (mb + 1) then q + 1 else q
    if m' < 2 ^ mb then sign + m'
    else
      let e := q' + bias + mb
      if e ≥ 2 ^ eb - 1 then sign + (2 ^ eb - 1) * 2 ^ mb
      else sign + e.toNat * 2 ^ mb + (m' - 2 ^ mb)

/-- The encoding of a decoded number in a format; a NaN is the quiet NaN of positive sign. -/
def fpEncode (eb mb : Nat) : Fp → Nat
  | .nan => (2 ^ eb - 1) * 2 ^ mb + 2 ^ (mb - 1)
  | .inf neg => (if neg then 2 ^ (eb + mb) else 0) + (2 ^ eb - 1) * 2 ^ mb
  | .fin neg m e => fpRoundRat eb mb neg m 1 e

/-- A decoded number rounded to binary64. -/
def toF64 (x : Fp) : Nat := fpEncode 11 52 x
/-- A decoded number rounded to binary32. -/
def toF32 (x : Fp) : Nat := fpEncode 8 23 x

/-- The signed mantissa of a finite number. -/
def signedMant (neg : Bool) (m : Nat) : Int := if neg then -(m : Int) else m

/-- Exact sum of two numbers; the sum of opposite zeros is +0. -/
def fpAdd : Fp → Fp → Fp
  | .nan, _ => .nan
  | _, .nan => .nan
  | .inf a, .inf b => if a = b then .inf a else .nan
  | .inf a, _ => .inf a
  | _, .inf b => .inf b
  | .fin sa ma ea, .fin sb mb eb =>
    let e := min ea eb
    let x := signedMant sa ma * 2 ^ (ea - e).toNat + signedMant sb mb * 2 ^ (eb - e).toNat
    if x = 0 then .fin (sa && sb && ma = 0 && mb = 0) 0 e else .fin (decide (x < 0)) x.natAbs e

/-- The number with its sign turned. -/
def fpNeg : Fp → Fp
  | .nan => .nan
  | .inf a => .inf (!a)
  | .fin a m e => .fin (!a) m e

/-- The magnitude. -/
def fpAbs : Fp → Fp
  | .nan => .nan
  | .inf _ => .inf false
  | .fin _ m e => .fin false m e

/-- Exact product. -/
def fpMul : Fp → Fp → Fp
  | .nan, _ => .nan
  | _, .nan => .nan
  | .inf a, .inf b => .inf (a != b)
  | .inf a, .fin b m _ => if m = 0 then .nan else .inf (a != b)
  | .fin a m _, .inf b => if m = 0 then .nan else .inf (a != b)
  | .fin a m e, .fin b n f => .fin (a != b) (m * n) (e + f)

/-- The integer square root, bit by bit from bit `k` down. -/
def isqrtFrom (n : Nat) : Nat → Nat → Nat
  | 0, r => r
  | k + 1, r => let r' := r + 2 ^ k; if r' * r' ≤ n then isqrtFrom n k r' else isqrtFrom n k r

/-- The square root of a number that is not negative, rounded to binary64. -/
def fpSqrt64 : Fp → Nat
  | .fin _ m e =>
    if m = 0 then 0
    else
      let odd : Nat := if e % 2 = 0 then 0 else 1
      let n := m * 2 ^ (200 + odd)
      let r := isqrtFrom n (Nat.log2 n / 2 + 1) 0
      let sticky : Nat := if r * r = n then 0 else 1
      fpRoundRat 11 52 false (2 * r + sticky) 1 ((e - 200 - odd) / 2 - 1)
  | x => toF64 x

/-- Quotient rounded to binary64. -/
def fpDiv64 : Fp → Fp → Nat
  | .nan, _ => toF64 .nan
  | _, .nan => toF64 .nan
  | .inf _, .inf _ => toF64 .nan
  | .inf a, .fin b _ _ => toF64 (.inf (a != b))
  | .fin a _ _, .inf b => toF64 (.fin (a != b) 0 0)
  | .fin a m e, .fin b n f =>
    if n = 0 then if m = 0 then toF64 .nan else toF64 (.inf (a != b))
    else fpRoundRat 11 52 (a != b) m n (e - f)

/-- `x` is less than `y`; false where either is a NaN. -/
def fpLt : Fp → Fp → Bool
  | .nan, _ => false
  | _, .nan => false
  | .inf a, .inf b => a && !b
  | .inf a, _ => a
  | _, .inf b => !b
  | .fin sa ma ea, .fin sb mb eb =>
    let e := min ea eb
    decide (signedMant sa ma * 2 ^ (ea - e).toNat < signedMant sb mb * 2 ^ (eb - e).toNat)

/-- `x` equals `y` as numbers: +0 equals −0, and a NaN equals nothing. -/
def fpEq : Fp → Fp → Bool
  | .nan, _ => false
  | _, .nan => false
  | x, y => !fpLt x y && !fpLt y x

/-- `x` is at most `y`. -/
def fpLe (x y : Fp) : Bool := fpLt x y || fpEq x y

/-- The number is a NaN. -/
def fpIsNan : Fp → Bool
  | .nan => true
  | _ => false

/-- The number is finite. -/
def fpIsFinite : Fp → Bool
  | .fin _ _ _ => true
  | _ => false

/-- An integer as an exact number. -/
def fpOfInt (x : Int) : Fp := .fin (decide (x < 0)) x.natAbs 0

/-- binary64 sum, difference, product and quotient of two encodings, each rounded once. -/
def f64Add (a b : Nat) : Nat := toF64 (fpAdd (f64 a) (f64 b))
/-- binary64 difference. -/
def f64Sub (a b : Nat) : Nat := toF64 (fpAdd (f64 a) (fpNeg (f64 b)))
/-- binary64 product. -/
def f64Mul (a b : Nat) : Nat := toF64 (fpMul (f64 a) (f64 b))
/-- binary64 quotient. -/
def f64Div (a b : Nat) : Nat := fpDiv64 (f64 a) (f64 b)
/-- `a < b` for binary64 encodings. -/
def f64Lt (a b : Nat) : Bool := fpLt (f64 a) (f64 b)
/-- binary64 encoding of an integer. -/
def f64OfInt (x : Int) : Nat := toF64 (fpOfInt x)

/-- An exact multiple of a number. -/
def fpTimes (n : Nat) : Fp → Fp
  | .fin neg m e => .fin neg (m * n) e
  | x => x

/-- An exact product of two finite numbers. -/
def fpProduct : Fp → Fp → Fp
  | .fin a m e, .fin b n f => .fin (a != b) (m * n) (e + f)
  | _, _ => .nan

/-- A number divided by a natural number, in binary32. -/
def fpFraction32 (x : Fp) (n : Nat) : Nat :=
  match x with
  | .fin neg m e => fpRoundRat 8 23 neg m n e
  | x => toF32 x

/-- The number truncated toward zero, where it is finite. -/
def fpTrunc : Fp → Int
  | .fin neg m e =>
    let a : Nat := if e ≥ 0 then m * 2 ^ e.toNat else m / 2 ^ (-e).toNat
    if neg then -(a : Int) else a
  | _ => 0

end Sys2Proof.Machine
end

