-- ==== Sys2Proof/Machine/Bytes.lean ====
section
/-! DEFINITION. Byte strings of the module's little-endian formats (R6): bytes and words of a number, CRC-32C, the CRC-16 of
R582, and BCD. -/

namespace Sys2Proof.Machine

/-- The `n` low bytes of `v`, least significant first (R6). -/
def leBytes : Nat → Nat → List Nat
  | 0, _ => []
  | n + 1, v => v % 256 :: leBytes n (v / 256)

/-- The number that a little-endian byte list spells. -/
def ofLeBytes : List Nat → Nat
  | [] => 0
  | b :: t => b % 256 + 256 * ofLeBytes t

/-- 32-bit words of a byte list, the last one padded with 0. -/
def wordsOfBytes : List Nat → List Nat
  | [] => []
  | [a] => [a]
  | [a, b] => [a + 256 * b]
  | [a, b, c] => [a + 256 * b + 65536 * c]
  | a :: b :: c :: d :: t => (a + 256 * b + 65536 * c + 16777216 * d) :: wordsOfBytes t

/-- The bytes of a list of 32-bit words. -/
def bytesOfWords (ws : List Nat) : List Nat := ws.flatMap (leBytes 4)

/-- One bit of the reflected CRC-32C (polynomial 0x82F63B78). -/
def crc32cBit (c : Nat) : Nat := if c % 2 = 1 then (c / 2) ^^^ 0x82F63B78 else c / 2

/-- One byte of the CRC-32C. -/
def crc32cByte (c b : Nat) : Nat :=
  crc32cBit (crc32cBit (crc32cBit (crc32cBit (crc32cBit (crc32cBit (crc32cBit (crc32cBit (c ^^^ (b % 256)))))))))

/-- CRC-32C of a byte list (PRESUMED: the Castagnoli CRC of the common standards, which the specification names only). -/
def crc32c (bs : List Nat) : Nat := (bs.foldl crc32cByte 0xFFFFFFFF) ^^^ 0xFFFFFFFF

/-- One bit of the CRC-16 of R582: polynomial 0x1021, most significant bit first. -/
def crc16Bit (c : Nat) : Nat := if c ≥ 0x8000 then (c * 2 % 65536) ^^^ 0x1021 else c * 2 % 65536

/-- One byte of the CRC-16 of R582. -/
def crc16Byte (c b : Nat) : Nat :=
  crc16Bit (crc16Bit (crc16Bit (crc16Bit (crc16Bit (crc16Bit (crc16Bit (crc16Bit (c ^^^ (b % 256 * 256)))))))))

/-- The CRC-16 of R582: initial value 0xFFFF, no reflection, no final XOR. -/
def crc16 (bs : List Nat) : Nat := bs.foldl crc16Byte 0xFFFF

/-- Two decimal digits in BCD. -/
def toBcd (n : Nat) : Nat := n / 10 * 16 + n % 10

/-- The number that a BCD byte spells. -/
def ofBcd (b : Nat) : Nat := b / 16 * 10 + b % 16

/-- Both digits of the byte are decimal. -/
def validBcd (b : Nat) : Bool := b % 16 ≤ 9 && b / 16 ≤ 9

/-! ### Dates -/

/-- Days from 2000-01-01 to a Gregorian date (from year 2000 on). -/
def daysOfDate (y m d : Nat) : Nat :=
  let y' := if m ≤ 2 then y - 1 else y
  let era := y' / 400
  let yoe := y' - era * 400
  let mp := if m > 2 then m - 3 else m + 9
  let doy := (153 * mp + 2) / 5 + d - 1
  era * 146097 + yoe * 365 + yoe / 4 - yoe / 100 + doy - 730425

/-- The Gregorian year, month and day of a day counted from 2000-01-01. -/
def dateOfDays (n : Nat) : Nat × Nat × Nat :=
  let z := n + 730425
  let era := z / 146097
  let doe := z - era * 146097
  let yoe := (doe - doe / 1460 + doe / 36524 - doe / 146096) / 365
  let doy := doe - (365 * yoe + yoe / 4 - yoe / 100)
  let mp := (5 * doy + 2) / 153
  let d := doy - (153 * mp + 2) / 5 + 1
  let m := if mp < 10 then mp + 3 else mp - 9
  (yoe + era * 400 + (if m ≤ 2 then 1 else 0), m, d)

/-- Days of a month; leap years are Gregorian (R584). -/
def daysInMonth (y m : Nat) : Nat :=
  if m = 2 then if (y % 4 = 0 ∧ y % 100 ≠ 0) ∨ y % 400 = 0 then 29 else 28
  else if m = 4 ∨ m = 6 ∨ m = 9 ∨ m = 11 then 30 else 31

/-- ISO weekday, 1 Monday to 7 Sunday, of a day counted from 2000-01-01, which was a Saturday. -/
def isoWeekday (n : Nat) : Nat := (n + 5) % 7 + 1

end Sys2Proof.Machine
end

