-- ==== Sys2Proof/Machine/RegFile.lean ====
section
/-! DEFINITION. Register fields as the specification's register tables give them: where a field stands (page, word, bits,
repeats, requester copies), its access type (R44), its reset value and the reset kinds that it is kept through (R9, R12). -/

namespace Sys2Proof.Machine

/-- The access types of R44. -/
inductive Access where
  | rw | ro | wo | w1c | w1s | rc | rwl
deriving DecidableEq, Repr

/-- One field of a register table. `page` is the first page that carries it and `npages` how many consecutive pages do;
`word` is its offset divided by 4; `n1`, `s1` and `n2`, `s2` are the counts and strides (in words) of its repeats; `lo` and
`width` give its bits; `kept` is the sum of the reset kinds that keep it (P 1, B 2, W 4, S 8, D 16, F 32, T 64); `copies`
says that each of the 16 requesters has its own copy (R55), and `copy` is the copy selected. -/
structure RegField where
  page : Nat
  npages : Nat := 1
  word : Nat
  n1 : Nat := 1
  s1 : Nat := 0
  n2 : Nat := 1
  s2 : Nat := 0
  lo : Nat
  width : Nat
  acc : Access
  reset : Nat
  kept : Nat
  copies : Bool := false
  copy : Nat := 0
deriving DecidableEq, Repr

/-- A field on one page, at a byte offset. -/
def regField (page np off lo width : Nat) (acc : Access) (reset kept : Nat) : RegField :=
  { page := page, npages := np, word := off / 4, lo := lo, width := width, acc := acc, reset := reset, kept := kept }

/-- The field repeated `n` times, `s` words apart. -/
def RegField.rep (f : RegField) (n s : Nat) : RegField := { f with n1 := n, s1 := s }

/-- The field repeated in a second direction. -/
def RegField.rep2 (f : RegField) (n s : Nat) : RegField := { f with n2 := n, s2 := s }

/-- The field with one copy per requester (R55). -/
def RegField.perRequester (f : RegField) : RegField := { f with copies := true }

/-- The field on the `n`-th of its pages (the port, core or DMA page number); no number leads past its pages. -/
def RegField.inst (f : RegField) (n : Nat) : RegField := { f with page := f.page + n % f.npages }

/-- The same field on page `p` (the common header of R40, the window registers of R54). -/
def RegField.onPage (f : RegField) (p : Nat) : RegField := { f with page := p }

/-- The `i`-th repeat of the field; no index leads past its repeats. -/
def RegField.ix (f : RegField) (i : Nat) : RegField := { f with word := f.word + i % f.n1 * f.s1 }

/-- The repeat (`i`, `j`) of a field that repeats in two directions. -/
def RegField.ix2 (f : RegField) (i j : Nat) : RegField := { f with word := f.word + i % f.n1 * f.s1 + j % f.n2 * f.s2 }

/-- The copy of requester `r` (R55). -/
def RegField.by (f : RegField) (r : Nat) : RegField := { f with copy := r }

/-- The key under which the field's value is held: copy, page, word and lowest bit. -/
def RegField.key (f : RegField) : Nat :=
  ((f.copy * 4096 + f.page) * 1024 + f.word) * 32 + f.lo

/-- The word within its page at which a field stands. -/
def RegField.wordOf (f : RegField) : Nat := f.key / 32 % 1024

/-- The page on which a field stands. -/
def RegField.pageOf (f : RegField) : Nat := f.key / 32768 % 4096

/-- The first key of word `w` of page `p`, copy 0. -/
def wordKey (p w : Nat) : Nat := (p * 1024 + w) * 32

/-! ### The common header of R40 -/

/-- `PID.LAYOUT` and the constant parts of `PID` are computed by `pidWord` (R655); this is `CTRL.DRST`. -/
def Reg.HDR_CTRL_DRST : RegField := regField 0 4096 0x008 31 1 .rwl 0 0
/-- `STAT.DRBUSY` (R40). -/
def Reg.HDR_STAT_DRBUSY : RegField := regField 0 4096 0x00C 30 1 .ro 0 96
/-- `FAULTEN` (R40). -/
def Reg.HDR_FAULTEN : RegField := regField 0 4096 0x014 0 32 .rw 0xFFFFFFFF 96
/-- `SEQ` (R40, R41). -/
def Reg.HDR_SEQ : RegField := regField 0 4096 0x01C 0 32 .ro 0 96

/-! ### The window registers of R54 -/

/-- `WINDEX.INDEX` (R54). -/
def Reg.WIN_INDEX : RegField := (regField 0 4096 0x040 0 20 .rw 0 96).perRequester
/-- `WCTRL.AUTOINC` (R54). -/
def Reg.WIN_AUTOINC : RegField := (regField 0 4096 0x044 2 1 .rw 0 96).perRequester
/-- `WCTRL.COMMIT` (R54). -/
def Reg.WIN_COMMIT : RegField := (regField 0 4096 0x044 1 1 .w1s 0 0).perRequester
/-- `WCTRL.LOAD` (R54). -/
def Reg.WIN_LOAD : RegField := (regField 0 4096 0x044 0 1 .w1s 0 0).perRequester
/-- `WSTAT.ERR` (R54). -/
def Reg.WIN_ERR : RegField := (regField 0 4096 0x048 4 4 .ro 0 96).perRequester
/-- `WSTAT.VALID` (R54). -/
def Reg.WIN_VALID : RegField := (regField 0 4096 0x048 1 1 .ro 0 96).perRequester
/-- `WSTAT.BUSY` (R54). -/
def Reg.WIN_BUSY : RegField := (regField 0 4096 0x048 0 1 .ro 0 96).perRequester
/-- The window's DATA words (R54). -/
def Reg.WIN_DATA : RegField := ((regField 0 4096 0x100 0 32 .rw 0 96).rep 512 1).perRequester

/-- The window registers of page `p`. -/
def winFields (p : Nat) : List RegField :=
  [Reg.WIN_INDEX, Reg.WIN_AUTOINC, Reg.WIN_COMMIT, Reg.WIN_LOAD, Reg.WIN_ERR, Reg.WIN_VALID, Reg.WIN_BUSY,
   Reg.WIN_DATA].map (fun f => { f with page := p, npages := 1 })

/-- The header fields of page `p`. -/
def hdrFields (p : Nat) : List RegField :=
  [Reg.HDR_CTRL_DRST, Reg.HDR_STAT_DRBUSY, Reg.HDR_FAULTEN, Reg.HDR_SEQ].map (fun f => { f with page := p, npages := 1 })

/-- The value of a field: the bits of its width in the register store; an unlisted key holds the field's reset value. -/
def regRead (t : Table Nat) (f : RegField) : Nat := tabGet f.reset t f.key % 2 ^ f.width

/-- Stores a value, cut to the field's width, in canonical form. -/
def regWrite (t : Table Nat) (f : RegField) (v : Nat) : Table Nat := tabPut f.reset f.key (v % 2 ^ f.width) t

end Sys2Proof.Machine
end

