-- ==== Sys2Proof/Machine/RegMapCore.lean ====
section
/-! DEFINITION. The register map, first part: system, power, clock, security, update and calendar pages. Each definition is one field of the specification's register tables: `regField page pages offset lowBit width
access reset kept`, with its repeats (count, stride in words) and requester copies; kept sums P 1, B 2, W 4, S 8, D 16, F 32, T 64. -/

namespace Sys2Proof.Machine

/-! ### SYS pages, from 0x000 (R53, spec/02_register_pages.md) -/
def Reg.SYS_IDENT_TYPE : RegField := regField 0x000 1 0x040 16 16 .ro 0x4800 126
def Reg.SYS_IDENT_VARIANT : RegField := regField 0x000 1 0x040 8 8 .ro 0x43 127
def Reg.SYS_IDENT_STEP : RegField := regField 0x000 1 0x040 0 8 .ro 0x42 126
def Reg.SYS_UNITLO_SN : RegField := regField 0x000 1 0x044 0 32 .ro 0 127
def Reg.SYS_UNITHI_SN : RegField := regField 0x000 1 0x048 0 32 .ro 0 127
def Reg.SYS_KEYERR_COUNT : RegField := regField 0x000 1 0x04C 16 16 .ro 0 96
/-- The fields of the SYS pages. -/
def Reg.sysTable : List RegField :=
  [Reg.SYS_IDENT_TYPE, Reg.SYS_IDENT_VARIANT, Reg.SYS_IDENT_STEP, Reg.SYS_UNITLO_SN, Reg.SYS_UNITHI_SN, Reg.SYS_KEYERR_COUNT]

/-! ### PAP pages, from 0x183 (R80, spec/02_register_pages.md) -/
def Reg.PAP_FAULT_RATE : RegField := regField 0x183 1 0x010 2 1 .w1c 0 96
def Reg.PAP_FAULT_AUTHFAIL : RegField := regField 0x183 1 0x010 1 1 .w1c 0 96
def Reg.PAP_FAULT_REFUSED : RegField := regField 0x183 1 0x010 0 1 .w1c 0 96
def Reg.PAP_CFG_V1EN : RegField := regField 0x183 1 0x040 17 1 .ro 0 63
def Reg.PAP_CFG_V0EN : RegField := regField 0x183 1 0x040 16 1 .ro 0 63
def Reg.PAP_CFG_PORT : RegField := regField 0x183 1 0x040 0 16 .ro 0x4ff6 63
def Reg.PAP_SESS_OPEN : RegField := regField 0x183 1 0x044 0 8 .ro 0 32
def Reg.PAP_REFCNT_COUNT : RegField := regField 0x183 1 0x048 0 32 .ro 0 32
def Reg.PAP_SINFO_AGE : RegField := (regField 0x183 1 0x100 16 16 .ro 0 32).rep 8 16
def Reg.PAP_SINFO_UPLINK : RegField := (regField 0x183 1 0x100 1 1 .ro 0 32).rep 8 16
def Reg.PAP_SINFO_OPEN : RegField := (regField 0x183 1 0x100 0 1 .ro 0 32).rep 8 16
def Reg.PAP_SREQ_COUNT : RegField := (regField 0x183 1 0x104 0 32 .ro 0 32).rep 8 16
def Reg.PAP_SDROP_OTHER : RegField := (regField 0x183 1 0x108 16 16 .ro 0 32).rep 8 16
def Reg.PAP_SDROP_RATE : RegField := (regField 0x183 1 0x108 0 16 .ro 0 32).rep 8 16
def Reg.PAP_SLANES_BITS : RegField := ((regField 0x183 1 0x120 0 32 .ro 0 32).rep 8 16).rep2 8 1
/-- The fields of the PAP pages. -/
def Reg.papTable : List RegField :=
  [Reg.PAP_FAULT_RATE, Reg.PAP_FAULT_AUTHFAIL, Reg.PAP_FAULT_REFUSED, Reg.PAP_CFG_V1EN, Reg.PAP_CFG_V0EN, Reg.PAP_CFG_PORT, Reg.PAP_SESS_OPEN, Reg.PAP_REFCNT_COUNT, Reg.PAP_SINFO_AGE, Reg.PAP_SINFO_UPLINK, Reg.PAP_SINFO_OPEN, Reg.PAP_SREQ_COUNT, Reg.PAP_SDROP_OTHER, Reg.PAP_SDROP_RATE, Reg.PAP_SLANES_BITS]

/-! ### MODE pages, from 0x002 (R464, spec/11_modes_power.md) -/
def Reg.MODE_CAP_DRST : RegField := regField 0x002 1 0x004 31 1 .ro 0 126
def Reg.MODE_CTRL_SRST : RegField := regField 0x002 1 0x008 5 1 .rwl 0 0
def Reg.MODE_CTRL_DOZEEN : RegField := regField 0x002 1 0x008 4 1 .rwl 1 96
def Reg.MODE_CTRL_STBY : RegField := regField 0x002 1 0x008 3 1 .rwl 0 63
def Reg.MODE_CTRL_HOLD : RegField := regField 0x002 1 0x008 2 1 .rwl 0 63
def Reg.MODE_CTRL_FATAL : RegField := regField 0x002 1 0x008 1 1 .w1s 0 96
def Reg.MODE_STAT_HCAUSE : RegField := regField 0x002 1 0x00C 12 3 .ro 0 32
def Reg.MODE_STAT_SHORT : RegField := regField 0x002 1 0x00C 8 4 .ro 0 32
def Reg.MODE_STAT_PFREEZE : RegField := regField 0x002 1 0x00C 4 1 .ro 0 32
def Reg.MODE_STAT_STARTING : RegField := regField 0x002 1 0x00C 3 1 .ro 1 32
def Reg.MODE_STAT_MODE : RegField := regField 0x002 1 0x00C 0 3 .ro 0 32
def Reg.MODE_FAULT_FATAL : RegField := regField 0x002 1 0x010 4 1 .w1c 0 96
def Reg.MODE_FAULT_CLKFAIL2 : RegField := regField 0x002 1 0x010 3 1 .w1c 0 96
def Reg.MODE_FAULT_RESET : RegField := regField 0x002 1 0x010 2 1 .w1c 0 96
def Reg.MODE_FAULT_TRANSREF : RegField := regField 0x002 1 0x010 1 1 .w1c 0 96
def Reg.MODE_FAULT_SHORTFALL : RegField := regField 0x002 1 0x010 0 1 .w1c 0 96
def Reg.MODE_RCAUSE_BRAIL : RegField := regField 0x002 1 0x040 16 4 .ro 0 126
def Reg.MODE_RCAUSE_HIST : RegField := regField 0x002 1 0x040 8 6 .w1c 1 126
def Reg.MODE_RCAUSE_LAST : RegField := regField 0x002 1 0x040 0 4 .ro 1 16
def Reg.MODE_PWRST_DOZE : RegField := regField 0x002 1 0x044 0 1 .ro 0 96
def Reg.MODE_WDCFG_PER : RegField := regField 0x002 1 0x048 0 14 .rwl 0x3e8 96
def Reg.MODE_WDKICK : RegField := regField 0x002 1 0x04C 0 32 .wo 0 0
def Reg.MODE_LASTTR_CAUSE : RegField := regField 0x002 1 0x050 24 8 .ro 0 96
def Reg.MODE_LASTTR_TO : RegField := regField 0x002 1 0x050 8 3 .ro 0 96
def Reg.MODE_LASTTR_FROM : RegField := regField 0x002 1 0x050 0 3 .ro 0 96
def Reg.MODE_TRCNT_COUNT : RegField := regField 0x002 1 0x054 0 32 .ro 0 96
def Reg.MODE_DOZECNT_COUNT : RegField := regField 0x002 1 0x058 0 32 .ro 0 96
def Reg.MODE_DOZERES_FRAC : RegField := regField 0x002 1 0x05C 0 10 .ro 0 96
def Reg.MODE_UPTIME_S : RegField := regField 0x002 1 0x060 0 32 .ro 0 96
/-- The fields of the MODE pages. -/
def Reg.modeTable : List RegField :=
  [Reg.MODE_CAP_DRST, Reg.MODE_CTRL_SRST, Reg.MODE_CTRL_DOZEEN, Reg.MODE_CTRL_STBY, Reg.MODE_CTRL_HOLD, Reg.MODE_CTRL_FATAL, Reg.MODE_STAT_HCAUSE, Reg.MODE_STAT_SHORT, Reg.MODE_STAT_PFREEZE, Reg.MODE_STAT_STARTING, Reg.MODE_STAT_MODE, Reg.MODE_FAULT_FATAL, Reg.MODE_FAULT_CLKFAIL2, Reg.MODE_FAULT_RESET, Reg.MODE_FAULT_TRANSREF, Reg.MODE_FAULT_SHORTFALL, Reg.MODE_RCAUSE_BRAIL, Reg.MODE_RCAUSE_HIST, Reg.MODE_RCAUSE_LAST, Reg.MODE_PWRST_DOZE, Reg.MODE_WDCFG_PER, Reg.MODE_WDKICK, Reg.MODE_LASTTR_CAUSE, Reg.MODE_LASTTR_TO, Reg.MODE_LASTTR_FROM, Reg.MODE_TRCNT_COUNT, Reg.MODE_DOZECNT_COUNT, Reg.MODE_DOZERES_FRAC, Reg.MODE_UPTIME_S]

/-! ### PWR pages, from 0x003 (R465, spec/11_modes_power.md) -/
def Reg.PWR_CAP_DRST : RegField := regField 0x003 1 0x004 31 1 .ro 0 126
def Reg.PWR_STAT_OV : RegField := regField 0x003 1 0x00C 3 1 .ro 0 96
def Reg.PWR_STAT_ISOL : RegField := regField 0x003 1 0x00C 2 1 .ro 0 96
def Reg.PWR_STAT_PFW : RegField := regField 0x003 1 0x00C 1 1 .ro 0 96
def Reg.PWR_STAT_INOK : RegField := regField 0x003 1 0x00C 0 1 .ro 0 96
def Reg.PWR_FAULT_VBATLOW : RegField := regField 0x003 1 0x010 2 1 .w1c 0 96
def Reg.PWR_FAULT_OV : RegField := regField 0x003 1 0x010 1 1 .w1c 0 96
def Reg.PWR_FAULT_PFW : RegField := regField 0x003 1 0x010 0 1 .w1c 0 96
def Reg.PWR_VIN_V10M : RegField := regField 0x003 1 0x040 0 16 .ro 0 96
def Reg.PWR_VHU_V10M : RegField := regField 0x003 1 0x044 0 16 .ro 0 96
def Reg.PWR_IIN_MA : RegField := regField 0x003 1 0x048 0 16 .ro 0 96
def Reg.PWR_PMOD_MW100 : RegField := regField 0x003 1 0x04C 0 16 .ro 0 96
def Reg.PWR_VBAT_MV : RegField := regField 0x003 1 0x050 0 12 .ro 0 96
def Reg.PWR_PFCNT_COUNT : RegField := regField 0x003 1 0x054 0 32 .ro 0 96
def Reg.PWR_OVCNT_COUNT : RegField := regField 0x003 1 0x058 0 32 .ro 0 96
def Reg.PWR_AO_FEED_HOLD : RegField := regField 0x003 1 0x05C 0 1 .rwl 0 126
/-- The fields of the PWR pages. -/
def Reg.pwrTable : List RegField :=
  [Reg.PWR_CAP_DRST, Reg.PWR_STAT_OV, Reg.PWR_STAT_ISOL, Reg.PWR_STAT_PFW, Reg.PWR_STAT_INOK, Reg.PWR_FAULT_VBATLOW, Reg.PWR_FAULT_OV, Reg.PWR_FAULT_PFW, Reg.PWR_VIN_V10M, Reg.PWR_VHU_V10M, Reg.PWR_IIN_MA, Reg.PWR_PMOD_MW100, Reg.PWR_VBAT_MV, Reg.PWR_PFCNT_COUNT, Reg.PWR_OVCNT_COUNT, Reg.PWR_AO_FEED_HOLD]

/-! ### CSN pages, from 0x004 (R466, spec/11_modes_power.md) -/
def Reg.CSN_CAP_DRST : RegField := regField 0x004 1 0x004 31 1 .ro 0 126
def Reg.CSN_CTRL_CHECK : RegField := regField 0x004 1 0x008 0 1 .rwl 0 0
def Reg.CSN_STAT_PERIODIC : RegField := regField 0x004 1 0x00C 5 1 .ro 0 96
def Reg.CSN_STAT_JPEND : RegField := regField 0x004 1 0x00C 4 1 .ro 0 96
def Reg.CSN_STAT_CSTATE : RegField := regField 0x004 1 0x00C 0 4 .ro 0 96
def Reg.CSN_FAULT_CHKABORT : RegField := regField 0x004 1 0x010 7 1 .w1c 0 96
def Reg.CSN_FAULT_JDISCARD : RegField := regField 0x004 1 0x010 6 1 .w1c 0 96
def Reg.CSN_FAULT_JREPLAY : RegField := regField 0x004 1 0x010 5 1 .w1c 0 96
def Reg.CSN_FAULT_COMMITABORT : RegField := regField 0x004 1 0x010 4 1 .w1c 0 96
def Reg.CSN_FAULT_COMMITLATE : RegField := regField 0x004 1 0x010 3 1 .w1c 0 96
def Reg.CSN_FAULT_ESRHIGH : RegField := regField 0x004 1 0x010 2 1 .w1c 0 96
def Reg.CSN_FAULT_CHGTO : RegField := regField 0x004 1 0x010 1 1 .w1c 0 96
def Reg.CSN_FAULT_HULOW : RegField := regField 0x004 1 0x010 0 1 .w1c 0 96
def Reg.CSN_CFG_CHKINT : RegField := regField 0x004 1 0x040 0 8 .ro 0 63
def Reg.CSN_HUCAP_UF : RegField := regField 0x004 1 0x044 0 16 .ro 0 96
def Reg.CSN_HUESR_MOHM : RegField := regField 0x004 1 0x048 0 16 .ro 0 96
def Reg.CSN_HUE_MJ : RegField := regField 0x004 1 0x04C 0 16 .ro 0 96
def Reg.CSN_CHKTIME_S : RegField := regField 0x004 1 0x050 0 32 .ro 0 96
def Reg.CSN_CHKCNT_COUNT : RegField := regField 0x004 1 0x054 0 32 .ro 0 96
def Reg.CSN_CMTUS_US : RegField := regField 0x004 1 0x058 0 16 .ro 0 96
def Reg.CSN_CMTBYTES_COUNT : RegField := regField 0x004 1 0x05C 0 32 .ro 0 96
def Reg.CSN_CMTSEQ_SEQ : RegField := regField 0x004 1 0x060 0 32 .ro 0 63
def Reg.CSN_CMTINSTLO_MS : RegField := regField 0x004 1 0x064 0 32 .ro 0 63
def Reg.CSN_CMTINSTHI_MS : RegField := regField 0x004 1 0x068 0 32 .ro 0 63
def Reg.CSN_JSTAT_HALF : RegField := regField 0x004 1 0x06C 0 4 .ro 0 63
/-- The fields of the CSN pages. -/
def Reg.csnTable : List RegField :=
  [Reg.CSN_CAP_DRST, Reg.CSN_CTRL_CHECK, Reg.CSN_STAT_PERIODIC, Reg.CSN_STAT_JPEND, Reg.CSN_STAT_CSTATE, Reg.CSN_FAULT_CHKABORT, Reg.CSN_FAULT_JDISCARD, Reg.CSN_FAULT_JREPLAY, Reg.CSN_FAULT_COMMITABORT, Reg.CSN_FAULT_COMMITLATE, Reg.CSN_FAULT_ESRHIGH, Reg.CSN_FAULT_CHGTO, Reg.CSN_FAULT_HULOW, Reg.CSN_CFG_CHKINT, Reg.CSN_HUCAP_UF, Reg.CSN_HUESR_MOHM, Reg.CSN_HUE_MJ, Reg.CSN_CHKTIME_S, Reg.CSN_CHKCNT_COUNT, Reg.CSN_CMTUS_US, Reg.CSN_CMTBYTES_COUNT, Reg.CSN_CMTSEQ_SEQ, Reg.CSN_CMTINSTLO_MS, Reg.CSN_CMTINSTHI_MS, Reg.CSN_JSTAT_HALF]

/-! ### CLK pages, from 0x005 (R488, spec/12_clocks.md) -/
def Reg.CLK_CAP_DRST : RegField := regField 0x005 1 0x004 31 1 .ro 0 126
def Reg.CLK_CTRL_RESTORE : RegField := regField 0x005 1 0x008 2 1 .rwl 0 0
def Reg.CLK_CTRL_AUTORET : RegField := regField 0x005 1 0x008 1 1 .rwl 1 112
def Reg.CLK_CTRL_CLKOEN : RegField := regField 0x005 1 0x008 0 1 .rw 0 112
def Reg.CLK_STAT_JBROKEN : RegField := regField 0x005 1 0x00C 14 16 .ro 0 112
def Reg.CLK_STAT_CF2 : RegField := regField 0x005 1 0x00C 4 1 .ro 0 112
def Reg.CLK_STAT_XTGOOD : RegField := regField 0x005 1 0x00C 3 1 .ro 0 112
def Reg.CLK_STAT_FLAP : RegField := regField 0x005 1 0x00C 2 1 .ro 0 112
def Reg.CLK_STAT_AOSRC : RegField := regField 0x005 1 0x00C 1 1 .ro 0 112
def Reg.CLK_STAT_FALLBACK : RegField := regField 0x005 1 0x00C 0 1 .ro 0 112
def Reg.CLK_FAULT_JSTUCK : RegField := regField 0x005 1 0x010 8 1 .w1c 0 112
def Reg.CLK_FAULT_JBROKEN : RegField := regField 0x005 1 0x010 7 1 .w1c 0 112
def Reg.CLK_FAULT_FLAPPING : RegField := regField 0x005 1 0x010 6 1 .w1c 0 112
def Reg.CLK_FAULT_IRCFAIL : RegField := regField 0x005 1 0x010 5 1 .w1c 0 112
def Reg.CLK_FAULT_XT32FAIL : RegField := regField 0x005 1 0x010 4 1 .w1c 0 112
def Reg.CLK_FAULT_PLLUNLOCK : RegField := regField 0x005 1 0x010 3 1 .w1c 0 112
def Reg.CLK_FAULT_RESTORED : RegField := regField 0x005 1 0x010 2 1 .w1c 0 112
def Reg.CLK_FAULT_CLKFAIL2 : RegField := regField 0x005 1 0x010 1 1 .w1c 0 112
def Reg.CLK_FAULT_CLKFAIL : RegField := regField 0x005 1 0x010 0 1 .w1c 0 112
def Reg.CLK_MONXT_COUNT : RegField := regField 0x005 1 0x040 0 16 .ro 0 112
def Reg.CLK_MON32_COUNT : RegField := regField 0x005 1 0x044 0 17 .ro 0 112
def Reg.CLK_PLLSTAT_LOCK : RegField := regField 0x005 1 0x048 0 6 .ro 0 112
def Reg.CLK_FBCNT_COUNT : RegField := regField 0x005 1 0x04C 0 32 .ro 0 112
def Reg.CLK_FBTIME_S : RegField := regField 0x005 1 0x050 0 32 .ro 0 112
def Reg.CLK_FBDUR_MS : RegField := regField 0x005 1 0x054 0 32 .ro 0 112
def Reg.CLK_IRCSTAT_STARTUS : RegField := regField 0x005 1 0x058 8 8 .ro 0 112
def Reg.CLK_IRCSTAT_READY : RegField := regField 0x005 1 0x058 0 1 .ro 0 112
def Reg.CLK_CLKOCFG_SRC : RegField := regField 0x005 1 0x060 16 4 .rw 0 112
def Reg.CLK_CLKOCFG_DIV : RegField := regField 0x005 1 0x060 0 16 .rw 0 112
def Reg.CLK_JLOST_COUNT : RegField := (regField 0x005 1 0x080 0 32 .ro 0 112).rep 16 1
/-- The fields of the CLK pages. -/
def Reg.clkTable : List RegField :=
  [Reg.CLK_CAP_DRST, Reg.CLK_CTRL_RESTORE, Reg.CLK_CTRL_AUTORET, Reg.CLK_CTRL_CLKOEN, Reg.CLK_STAT_JBROKEN, Reg.CLK_STAT_CF2, Reg.CLK_STAT_XTGOOD, Reg.CLK_STAT_FLAP, Reg.CLK_STAT_AOSRC, Reg.CLK_STAT_FALLBACK, Reg.CLK_FAULT_JSTUCK, Reg.CLK_FAULT_JBROKEN, Reg.CLK_FAULT_FLAPPING, Reg.CLK_FAULT_IRCFAIL, Reg.CLK_FAULT_XT32FAIL, Reg.CLK_FAULT_PLLUNLOCK, Reg.CLK_FAULT_RESTORED, Reg.CLK_FAULT_CLKFAIL2, Reg.CLK_FAULT_CLKFAIL, Reg.CLK_MONXT_COUNT, Reg.CLK_MON32_COUNT, Reg.CLK_PLLSTAT_LOCK, Reg.CLK_FBCNT_COUNT, Reg.CLK_FBTIME_S, Reg.CLK_FBDUR_MS, Reg.CLK_IRCSTAT_STARTUS, Reg.CLK_IRCSTAT_READY, Reg.CLK_CLKOCFG_SRC, Reg.CLK_CLKOCFG_DIV, Reg.CLK_JLOST_COUNT]

/-! ### RTC pages, from 0x006 (R598, spec/16_rtc_log.md) -/
def Reg.RTC_CAP_DRST : RegField := regField 0x006 1 0x004 31 1 .ro 0 126
def Reg.RTC_CTRL_TRIMRST : RegField := regField 0x006 1 0x008 4 1 .rwl 0 0
def Reg.RTC_CTRL_DSTBACK : RegField := regField 0x006 1 0x008 3 1 .rwl 0 0
def Reg.RTC_CTRL_DSTFWD : RegField := regField 0x006 1 0x008 2 1 .rwl 0 0
def Reg.RTC_CTRL_COMMIT : RegField := regField 0x006 1 0x008 1 1 .rwl 0 0
def Reg.RTC_STAT_COARSE : RegField := regField 0x006 1 0x00C 4 1 .ro 0 127
def Reg.RTC_STAT_DSTPEND : RegField := regField 0x006 1 0x00C 3 1 .ro 0 127
def Reg.RTC_STAT_TRIMRUN : RegField := regField 0x006 1 0x00C 2 1 .ro 0 96
def Reg.RTC_STAT_DSTACT : RegField := regField 0x006 1 0x00C 1 1 .ro 0 127
def Reg.RTC_STAT_VALID : RegField := regField 0x006 1 0x00C 0 1 .ro 0 127
def Reg.RTC_FAULT_RANGE : RegField := regField 0x006 1 0x010 7 1 .w1c 0 96
def Reg.RTC_FAULT_COARSE : RegField := regField 0x006 1 0x010 6 1 .w1c 0 96
def Reg.RTC_FAULT_TRIMCLAMP : RegField := regField 0x006 1 0x010 5 1 .w1c 0 96
def Reg.RTC_FAULT_DSTREJ : RegField := regField 0x006 1 0x010 4 1 .w1c 0 96
def Reg.RTC_FAULT_SETREJ : RegField := regField 0x006 1 0x010 3 1 .w1c 0 96
def Reg.RTC_FAULT_BKCRC : RegField := regField 0x006 1 0x010 1 1 .w1c 0 127
def Reg.RTC_FAULT_BKLOST : RegField := regField 0x006 1 0x010 0 1 .w1c 0 127
def Reg.RTC_SEC : RegField := regField 0x006 1 0x040 0 7 .ro 0 127
def Reg.RTC_MIN : RegField := regField 0x006 1 0x044 0 7 .ro 0 127
def Reg.RTC_HOUR : RegField := regField 0x006 1 0x048 0 6 .ro 0 127
def Reg.RTC_DAY : RegField := regField 0x006 1 0x04C 0 6 .ro 0 127
def Reg.RTC_WDAY : RegField := regField 0x006 1 0x050 0 3 .ro 0 127
def Reg.RTC_MON : RegField := regField 0x006 1 0x054 0 5 .ro 0 127
def Reg.RTC_YEAR_CENT : RegField := regField 0x006 1 0x058 8 1 .ro 0 127
def Reg.RTC_YEAR_YR : RegField := regField 0x006 1 0x058 0 8 .ro 0 127
def Reg.RTC_SUBSEC : RegField := regField 0x006 1 0x05C 0 15 .ro 0 127
def Reg.RTC_CFG_PTPSET : RegField := regField 0x006 1 0x07C 9 1 .ro 0 63
def Reg.RTC_CFG_WDMODE : RegField := regField 0x006 1 0x07C 8 1 .ro 0 63
def Reg.RTC_CFG_TSRC : RegField := regField 0x006 1 0x07C 0 2 .ro 0 63
def Reg.RTC_ZONE_MIN : RegField := regField 0x006 1 0x080 0 11 .rwl 0 127
def Reg.RTC_TRIM_PPB10 : RegField := regField 0x006 1 0x084 0 18 .rwl 0 127
def Reg.RTC_TRIMMEAS_ERR : RegField := regField 0x006 1 0x088 0 18 .ro 0 96
def Reg.RTC_TRIMTIME_S : RegField := regField 0x006 1 0x08C 0 32 .ro 0 96
def Reg.RTC_SETCNT_COUNT : RegField := regField 0x006 1 0x090 0 32 .ro 0 96
def Reg.RTC_BKCRC_CRC : RegField := regField 0x006 1 0x094 0 16 .ro 0 127
def Reg.RTC_BKUP : RegField := (regField 0x006 1 0x0C0 0 32 .rw 0 127).rep 16 1
def Reg.RTC_SSEC : RegField := (regField 0x006 1 0x060 0 7 .rw 0 96).perRequester
def Reg.RTC_SMIN : RegField := (regField 0x006 1 0x064 0 7 .rw 0 96).perRequester
def Reg.RTC_SHOUR : RegField := (regField 0x006 1 0x068 0 6 .rw 0 96).perRequester
def Reg.RTC_SDAY : RegField := (regField 0x006 1 0x06C 0 6 .rw 0 96).perRequester
def Reg.RTC_SWDAY : RegField := (regField 0x006 1 0x070 0 3 .rw 0 96).perRequester
def Reg.RTC_SMON : RegField := (regField 0x006 1 0x074 0 5 .rw 0 96).perRequester
def Reg.RTC_SYEAR_CENT : RegField := (regField 0x006 1 0x078 8 1 .rw 0 96).perRequester
def Reg.RTC_SYEAR_YR : RegField := (regField 0x006 1 0x078 0 8 .rw 0 96).perRequester
/-- The fields of the RTC pages (part 0). -/
def Reg.rtcTable0 : List RegField :=
  [Reg.RTC_CAP_DRST, Reg.RTC_CTRL_TRIMRST, Reg.RTC_CTRL_DSTBACK, Reg.RTC_CTRL_DSTFWD, Reg.RTC_CTRL_COMMIT, Reg.RTC_STAT_COARSE, Reg.RTC_STAT_DSTPEND, Reg.RTC_STAT_TRIMRUN, Reg.RTC_STAT_DSTACT, Reg.RTC_STAT_VALID, Reg.RTC_FAULT_RANGE, Reg.RTC_FAULT_COARSE, Reg.RTC_FAULT_TRIMCLAMP, Reg.RTC_FAULT_DSTREJ, Reg.RTC_FAULT_SETREJ, Reg.RTC_FAULT_BKCRC, Reg.RTC_FAULT_BKLOST, Reg.RTC_SEC, Reg.RTC_MIN, Reg.RTC_HOUR, Reg.RTC_DAY, Reg.RTC_WDAY, Reg.RTC_MON, Reg.RTC_YEAR_CENT, Reg.RTC_YEAR_YR, Reg.RTC_SUBSEC, Reg.RTC_CFG_PTPSET, Reg.RTC_CFG_WDMODE, Reg.RTC_CFG_TSRC, Reg.RTC_ZONE_MIN]
/-- The fields of the RTC pages (part 1). -/
def Reg.rtcTable1 : List RegField :=
  [Reg.RTC_TRIM_PPB10, Reg.RTC_TRIMMEAS_ERR, Reg.RTC_TRIMTIME_S, Reg.RTC_SETCNT_COUNT, Reg.RTC_BKCRC_CRC, Reg.RTC_BKUP, Reg.RTC_SSEC, Reg.RTC_SMIN, Reg.RTC_SHOUR, Reg.RTC_SDAY, Reg.RTC_SWDAY, Reg.RTC_SMON, Reg.RTC_SYEAR_CENT, Reg.RTC_SYEAR_YR]
/-- The fields of the RTC pages. -/
def Reg.rtcTable : List RegField := Reg.rtcTable0 ++ Reg.rtcTable1

/-! ### LOG pages, from 0x007 (R609, spec/16_rtc_log.md) -/
def Reg.LOG_CAP_DRST : RegField := regField 0x007 1 0x004 31 1 .ro 0 126
def Reg.LOG_STAT_BUFFULL : RegField := regField 0x007 1 0x00C 1 1 .ro 0 96
def Reg.LOG_STAT_READY : RegField := regField 0x007 1 0x00C 0 1 .ro 0 96
def Reg.LOG_FAULT_DROP : RegField := regField 0x007 1 0x010 2 1 .w1c 0 96
def Reg.LOG_FAULT_OVWR : RegField := regField 0x007 1 0x010 1 1 .w1c 0 96
def Reg.LOG_FAULT_GAP : RegField := regField 0x007 1 0x010 0 1 .w1c 0 96
def Reg.LOG_NEXTSEQ_SEQ : RegField := regField 0x007 1 0x040 0 32 .ro 0 127
def Reg.LOG_OPTIMELO_MS : RegField := regField 0x007 1 0x044 0 32 .ro 0 127
def Reg.LOG_OPTIMEHI_MS : RegField := regField 0x007 1 0x048 0 16 .ro 0 127
def Reg.LOG_PCC_COUNT : RegField := regField 0x007 1 0x04C 0 32 .ro 0 127
def Reg.LOG_SEGS_B2 : RegField := regField 0x007 1 0x050 18 9 .ro 0 127
def Reg.LOG_SEGS_B1 : RegField := regField 0x007 1 0x050 9 9 .ro 0 127
def Reg.LOG_SEGS_B0 : RegField := regField 0x007 1 0x050 0 9 .ro 0 127
def Reg.LOG_BUFUSE_BYTES : RegField := regField 0x007 1 0x054 0 17 .ro 0 96
def Reg.LOG_DROP_COUNT : RegField := (regField 0x007 1 0x080 0 32 .ro 0 96).rep 8 1
def Reg.LOG_OVWR_COUNT : RegField := (regField 0x007 1 0x0A0 0 32 .ro 0 96).rep 8 1
def Reg.LOG_RPTR_SEQ : RegField := (regField 0x007 1 0x100 0 32 .rw 0 127).rep 4 4
def Reg.LOG_RGAP_COUNT : RegField := (regField 0x007 1 0x104 0 32 .ro 0 96).rep 4 4
def Reg.LOG_RUSE_INUSE : RegField := (regField 0x007 1 0x108 0 1 .rw 0 127).rep 4 4
def Reg.LOG_RSEL_ADV : RegField := (regField 0x007 1 0x180 8 1 .rw 0 96).perRequester
def Reg.LOG_RSEL_READER : RegField := (regField 0x007 1 0x180 0 2 .rw 0 96).perRequester
def Reg.LOG_RLOAD_LOAD : RegField := (regField 0x007 1 0x184 0 1 .w1s 0 0).perRequester
def Reg.LOG_RRES_BUSY : RegField := (regField 0x007 1 0x188 31 1 .ro 0 96).perRequester
def Reg.LOG_RRES_VALID : RegField := (regField 0x007 1 0x188 30 1 .ro 0 96).perRequester
def Reg.LOG_RRES_EMPTY : RegField := (regField 0x007 1 0x188 29 1 .ro 0 96).perRequester
def Reg.LOG_RRES_GAP : RegField := (regField 0x007 1 0x188 28 1 .ro 0 96).perRequester
def Reg.LOG_RRES_BYTES : RegField := (regField 0x007 1 0x188 0 9 .ro 0 96).perRequester
def Reg.LOG_RDATA : RegField := ((regField 0x007 1 0x200 0 32 .ro 0 96).rep 70 1).perRequester
def Reg.LOG_WHDR_TYPE : RegField := (regField 0x007 1 0x400 16 16 .rw 0 96).perRequester
def Reg.LOG_WHDR_SEV : RegField := (regField 0x007 1 0x400 8 3 .rw 0 96).perRequester
def Reg.LOG_WHDR_BLEN : RegField := (regField 0x007 1 0x400 0 6 .rw 0 96).perRequester
def Reg.LOG_WGO_GO : RegField := (regField 0x007 1 0x404 0 1 .w1s 0 0).perRequester
def Reg.LOG_WRES_RESULT : RegField := (regField 0x007 1 0x408 0 2 .ro 0 96).perRequester
def Reg.LOG_WBODY : RegField := ((regField 0x007 1 0x500 0 32 .rw 0 96).rep 64 1).perRequester
/-- The fields of the LOG pages (part 0). -/
def Reg.logTable0 : List RegField :=
  [Reg.LOG_CAP_DRST, Reg.LOG_STAT_BUFFULL, Reg.LOG_STAT_READY, Reg.LOG_FAULT_DROP, Reg.LOG_FAULT_OVWR, Reg.LOG_FAULT_GAP, Reg.LOG_NEXTSEQ_SEQ, Reg.LOG_OPTIMELO_MS, Reg.LOG_OPTIMEHI_MS, Reg.LOG_PCC_COUNT, Reg.LOG_SEGS_B2, Reg.LOG_SEGS_B1, Reg.LOG_SEGS_B0, Reg.LOG_BUFUSE_BYTES, Reg.LOG_DROP_COUNT, Reg.LOG_OVWR_COUNT, Reg.LOG_RPTR_SEQ, Reg.LOG_RGAP_COUNT, Reg.LOG_RUSE_INUSE, Reg.LOG_RSEL_ADV, Reg.LOG_RSEL_READER, Reg.LOG_RLOAD_LOAD, Reg.LOG_RRES_BUSY, Reg.LOG_RRES_VALID, Reg.LOG_RRES_EMPTY, Reg.LOG_RRES_GAP, Reg.LOG_RRES_BYTES, Reg.LOG_RDATA, Reg.LOG_WHDR_TYPE, Reg.LOG_WHDR_SEV]
/-- The fields of the LOG pages (part 1). -/
def Reg.logTable1 : List RegField :=
  [Reg.LOG_WHDR_BLEN, Reg.LOG_WGO_GO, Reg.LOG_WRES_RESULT, Reg.LOG_WBODY]
/-- The fields of the LOG pages. -/
def Reg.logTable : List RegField := Reg.logTable0 ++ Reg.logTable1

/-! ### MBX pages, from 0x008 (R527, spec/13_cores_memory.md) -/
def Reg.MBX_CAP_DRST : RegField := regField 0x008 1 0x004 31 1 .ro 0 126
def Reg.MBX_STAT_HOSTRX : RegField := regField 0x008 1 0x00C 0 1 .ro 0 112
def Reg.MBX_FAULT_LOST : RegField := regField 0x008 1 0x010 2 1 .w1c 0 112
def Reg.MBX_FAULT_TIMEOUT : RegField := regField 0x008 1 0x010 1 1 .w1c 0 112
def Reg.MBX_FAULT_FULLERR : RegField := regField 0x008 1 0x010 0 1 .w1c 0 112
def Reg.MBX_FULLERR_COUNT : RegField := regField 0x008 1 0x040 0 32 .ro 0 112
def Reg.MBX_LOSTCNT_COUNT : RegField := regField 0x008 1 0x044 0 32 .ro 0 112
def Reg.MBX_EMPTYRD_COUNT : RegField := regField 0x008 1 0x048 0 32 .ro 0 112
def Reg.MBX_MDATA : RegField := (regField 0x008 1 0x100 0 32 .rw 0 112).rep 64 1
def Reg.MBX_MST_WREQ : RegField := (regField 0x008 1 0x200 8 4 .ro 0 112).rep 64 1
def Reg.MBX_MST_SEPOCH : RegField := (regField 0x008 1 0x200 3 1 .ro 0 112).rep 64 1
def Reg.MBX_MST_TIMEOUT : RegField := (regField 0x008 1 0x200 2 1 .w1c 0 112).rep 64 1
def Reg.MBX_MST_LOST : RegField := (regField 0x008 1 0x200 1 1 .w1c 0 112).rep 64 1
def Reg.MBX_MST_FULL : RegField := (regField 0x008 1 0x200 0 1 .ro 0 112).rep 64 1
def Reg.MBX_MCFG_VALID : RegField := (regField 0x008 1 0x300 31 1 .rw 0 112).rep 64 1
def Reg.MBX_MCFG_SRC : RegField := (regField 0x008 1 0x300 16 4 .rw 0 112).rep 64 1
def Reg.MBX_MCFG_TMO : RegField := (regField 0x008 1 0x300 8 8 .rw 0 112).rep 64 1
def Reg.MBX_MCFG_DST : RegField := (regField 0x008 1 0x300 0 4 .rw 0 112).rep 64 1
/-- The fields of the MBX pages. -/
def Reg.mbxTable : List RegField :=
  [Reg.MBX_CAP_DRST, Reg.MBX_STAT_HOSTRX, Reg.MBX_FAULT_LOST, Reg.MBX_FAULT_TIMEOUT, Reg.MBX_FAULT_FULLERR, Reg.MBX_FULLERR_COUNT, Reg.MBX_LOSTCNT_COUNT, Reg.MBX_EMPTYRD_COUNT, Reg.MBX_MDATA, Reg.MBX_MST_WREQ, Reg.MBX_MST_SEPOCH, Reg.MBX_MST_TIMEOUT, Reg.MBX_MST_LOST, Reg.MBX_MST_FULL, Reg.MBX_MCFG_VALID, Reg.MBX_MCFG_SRC, Reg.MBX_MCFG_TMO, Reg.MBX_MCFG_DST]

/-! ### LOCK pages, from 0x009 (R528, spec/13_cores_memory.md) -/
def Reg.LOCK_CAP_DRST : RegField := regField 0x009 1 0x004 31 1 .ro 0 126
def Reg.LOCK_BROKEN_COUNT : RegField := regField 0x009 1 0x040 0 32 .ro 0 112
def Reg.LOCK_LOCK_VAL : RegField := (regField 0x009 1 0x100 0 4 .rw 0 112).rep 128 1
def Reg.LOCK_LOWN_HELD : RegField := (regField 0x009 1 0x300 31 1 .ro 0 112).rep 128 1
def Reg.LOCK_LOWN_STALE : RegField := (regField 0x009 1 0x300 30 1 .ro 0 112).rep 128 1
def Reg.LOCK_LOWN_MID : RegField := (regField 0x009 1 0x300 16 4 .ro 0 112).rep 128 1
def Reg.LOCK_LOWN_REQ : RegField := (regField 0x009 1 0x300 0 4 .ro 0 112).rep 128 1
/-- The fields of the LOCK pages. -/
def Reg.lockTable : List RegField :=
  [Reg.LOCK_CAP_DRST, Reg.LOCK_BROKEN_COUNT, Reg.LOCK_LOCK_VAL, Reg.LOCK_LOWN_HELD, Reg.LOCK_LOWN_STALE, Reg.LOCK_LOWN_MID, Reg.LOCK_LOWN_REQ]

/-! ### TBASE pages, from 0x00A (R287, spec/07_cyclic_tasks.md) -/
def Reg.TBASE_CAP_DRST : RegField := regField 0x00A 1 0x004 31 1 .ro 0 126
def Reg.TBASE_STAT_SET : RegField := regField 0x00A 1 0x00C 2 1 .ro 0 112
def Reg.TBASE_STAT_HOLDOVER : RegField := regField 0x00A 1 0x00C 1 1 .ro 0 112
def Reg.TBASE_STAT_LOCK : RegField := regField 0x00A 1 0x00C 0 1 .ro 0 112
def Reg.TBASE_FAULT_NOSET : RegField := regField 0x00A 1 0x010 2 1 .w1c 0 112
def Reg.TBASE_FAULT_LOCKLOST : RegField := regField 0x00A 1 0x010 1 1 .w1c 0 112
def Reg.TBASE_FAULT_STEP : RegField := regField 0x00A 1 0x010 0 1 .w1c 0 112
def Reg.TBASE_TAILO_US : RegField := regField 0x00A 1 0x040 0 32 .ro 0 112
def Reg.TBASE_TAIHI_US : RegField := regField 0x00A 1 0x044 0 32 .ro 0 112
def Reg.TBASE_MONOLO_US : RegField := regField 0x00A 1 0x048 0 32 .ro 0 112
def Reg.TBASE_MONOHI_US : RegField := regField 0x00A 1 0x04C 0 32 .ro 0 112
def Reg.TBASE_OFFSET_NS : RegField := regField 0x00A 1 0x050 0 32 .ro 0 112
def Reg.TBASE_FREQ_PPB : RegField := regField 0x00A 1 0x054 0 32 .ro 0 112
def Reg.TBASE_CFG_SRC : RegField := regField 0x00A 1 0x058 16 1 .ro 0 63
def Reg.TBASE_CFG_UTCOFF : RegField := regField 0x00A 1 0x058 0 16 .ro 0 63
def Reg.TBASE_STEPS_COUNT : RegField := regField 0x00A 1 0x05C 0 32 .ro 0 112
def Reg.TBASE_LOCKLOSS_COUNT : RegField := regField 0x00A 1 0x060 0 32 .ro 0 112
def Reg.TBASE_LASTSTEP_US : RegField := regField 0x00A 1 0x064 0 32 .ro 0 112
def Reg.TBASE_NEXTWAKE_MS : RegField := regField 0x00A 1 0x068 0 32 .ro 0 112
/-- The fields of the TBASE pages. -/
def Reg.tbaseTable : List RegField :=
  [Reg.TBASE_CAP_DRST, Reg.TBASE_STAT_SET, Reg.TBASE_STAT_HOLDOVER, Reg.TBASE_STAT_LOCK, Reg.TBASE_FAULT_NOSET, Reg.TBASE_FAULT_LOCKLOST, Reg.TBASE_FAULT_STEP, Reg.TBASE_TAILO_US, Reg.TBASE_TAIHI_US, Reg.TBASE_MONOLO_US, Reg.TBASE_MONOHI_US, Reg.TBASE_OFFSET_NS, Reg.TBASE_FREQ_PPB, Reg.TBASE_CFG_SRC, Reg.TBASE_CFG_UTCOFF, Reg.TBASE_STEPS_COUNT, Reg.TBASE_LOCKLOSS_COUNT, Reg.TBASE_LASTSTEP_US, Reg.TBASE_NEXTWAKE_MS]

/-! ### CORE pages, from 0x010 (R524, spec/13_cores_memory.md) -/
def Reg.CORE_CAP_DRST : RegField := regField 0x010 4 0x004 31 1 .ro 0 127
def Reg.CORE_CTRL_HALT : RegField := regField 0x010 4 0x008 0 1 .rwl 0 96
def Reg.CORE_STAT_HALTED : RegField := regField 0x010 4 0x00C 1 1 .ro 0 96
def Reg.CORE_STAT_ONLINE : RegField := regField 0x010 4 0x00C 0 1 .ro 0 96
def Reg.CORE_FAULT_CTXFAIL : RegField := regField 0x010 4 0x010 6 1 .w1c 0 96
def Reg.CORE_FAULT_ECCUNC : RegField := regField 0x010 4 0x010 5 1 .w1c 0 96
def Reg.CORE_FAULT_BUS : RegField := regField 0x010 4 0x010 4 1 .w1c 0 96
def Reg.CORE_FAULT_ALIGN : RegField := regField 0x010 4 0x010 3 1 .w1c 0 96
def Reg.CORE_FAULT_PERM : RegField := regField 0x010 4 0x010 2 1 .w1c 0 96
def Reg.CORE_FAULT_XLATE : RegField := regField 0x010 4 0x010 1 1 .w1c 0 96
def Reg.CORE_CSTATE_ASID : RegField := regField 0x010 4 0x040 8 5 .ro 0 96
def Reg.CORE_CSTATE_STATE : RegField := regField 0x010 4 0x040 0 3 .ro 0 96
def Reg.CORE_FSYN : RegField := regField 0x010 4 0x044 0 32 .ro 0 96
def Reg.CORE_FADDRLO_VA : RegField := regField 0x010 4 0x048 0 32 .ro 0 96
def Reg.CORE_FADDRHI_VA : RegField := regField 0x010 4 0x04C 0 16 .ro 0 96
def Reg.CORE_FCNT_COUNT : RegField := regField 0x010 4 0x050 0 32 .ro 0 96
def Reg.CORE_PREEMPT_COUNT : RegField := regField 0x010 4 0x054 0 32 .ro 0 96
def Reg.CORE_CTXFAILS_COUNT : RegField := regField 0x010 4 0x058 0 32 .ro 0 96
def Reg.CORE_BUSY_FRAC : RegField := regField 0x010 4 0x05C 0 10 .ro 0 96
/-- The fields of the CORE pages. -/
def Reg.coreTable : List RegField :=
  [Reg.CORE_CAP_DRST, Reg.CORE_CTRL_HALT, Reg.CORE_STAT_HALTED, Reg.CORE_STAT_ONLINE, Reg.CORE_FAULT_CTXFAIL, Reg.CORE_FAULT_ECCUNC, Reg.CORE_FAULT_BUS, Reg.CORE_FAULT_ALIGN, Reg.CORE_FAULT_PERM, Reg.CORE_FAULT_XLATE, Reg.CORE_CSTATE_ASID, Reg.CORE_CSTATE_STATE, Reg.CORE_FSYN, Reg.CORE_FADDRLO_VA, Reg.CORE_FADDRHI_VA, Reg.CORE_FCNT_COUNT, Reg.CORE_PREEMPT_COUNT, Reg.CORE_CTXFAILS_COUNT, Reg.CORE_BUSY_FRAC]

/-! ### MMU pages, from 0x014 (R525, spec/13_cores_memory.md) -/
def Reg.MMU_CAP_DRST : RegField := regField 0x014 1 0x004 31 1 .ro 0 126
def Reg.MMU_STAT_SCRUBON : RegField := regField 0x014 1 0x00C 0 1 .ro 0 112
def Reg.MMU_FAULT_SCRUBUNC : RegField := regField 0x014 1 0x010 1 1 .w1c 0 112
def Reg.MMU_FAULT_ECCUNC : RegField := regField 0x014 1 0x010 0 1 .w1c 0 112
def Reg.MMU_INVAL_BUSY : RegField := regField 0x014 1 0x040 31 1 .ro 0 112
def Reg.MMU_INVAL_GO : RegField := regField 0x014 1 0x040 30 1 .w1s 0 0
def Reg.MMU_INVAL_ASID : RegField := regField 0x014 1 0x040 16 5 .rw 0 112
def Reg.MMU_INVAL_ALL : RegField := regField 0x014 1 0x040 0 1 .rw 0 112
def Reg.MMU_INVADDRLO_VA : RegField := regField 0x014 1 0x044 12 20 .rw 0 112
def Reg.MMU_INVADDRHI_VA : RegField := regField 0x014 1 0x048 0 16 .rw 0 112
def Reg.MMU_ECCCOR_COUNT : RegField := regField 0x014 1 0x04C 0 32 .ro 0 112
def Reg.MMU_ECCUNC_COUNT : RegField := regField 0x014 1 0x050 0 32 .ro 0 112
def Reg.MMU_ECCADDRLO_PA : RegField := regField 0x014 1 0x054 0 32 .ro 0 112
def Reg.MMU_ECCADDRHI_PA : RegField := regField 0x014 1 0x058 0 4 .ro 0 112
def Reg.MMU_ECCSRC_MID : RegField := regField 0x014 1 0x05C 0 4 .ro 0 112
def Reg.MMU_SCRUBPASS_COUNT : RegField := regField 0x014 1 0x060 0 32 .ro 0 112
def Reg.MMU_TTBRLO_PA : RegField := (regField 0x014 1 0x100 12 20 .rw 0 112).rep 17 2
def Reg.MMU_TTBRHI_PA : RegField := (regField 0x014 1 0x104 0 4 .rw 0 112).rep 17 2
/-- The fields of the MMU pages. -/
def Reg.mmuTable : List RegField :=
  [Reg.MMU_CAP_DRST, Reg.MMU_STAT_SCRUBON, Reg.MMU_FAULT_SCRUBUNC, Reg.MMU_FAULT_ECCUNC, Reg.MMU_INVAL_BUSY, Reg.MMU_INVAL_GO, Reg.MMU_INVAL_ASID, Reg.MMU_INVAL_ALL, Reg.MMU_INVADDRLO_VA, Reg.MMU_INVADDRHI_VA, Reg.MMU_ECCCOR_COUNT, Reg.MMU_ECCUNC_COUNT, Reg.MMU_ECCADDRLO_PA, Reg.MMU_ECCADDRHI_PA, Reg.MMU_ECCSRC_MID, Reg.MMU_SCRUBPASS_COUNT, Reg.MMU_TTBRLO_PA, Reg.MMU_TTBRHI_PA]

/-! ### DMA pages, from 0x015 (R526, spec/13_cores_memory.md) -/
def Reg.DMA_CAP_DRST : RegField := regField 0x015 2 0x004 31 1 .ro 0 126
def Reg.DMA_STAT_SUSP : RegField := regField 0x015 2 0x00C 0 16 .ro 0 112
def Reg.DMA_FAULT_PFSTOP : RegField := regField 0x015 2 0x010 1 1 .w1c 0 112
def Reg.DMA_FAULT_CHFAULT : RegField := regField 0x015 2 0x010 0 1 .w1c 0 112
def Reg.DMA_CCTRL_ABORT : RegField := (regField 0x015 2 0x100 2 1 .w1s 0 0).rep 16 16
def Reg.DMA_CCTRL_RESUME : RegField := (regField 0x015 2 0x100 1 1 .w1s 0 0).rep 16 16
def Reg.DMA_CCTRL_GO : RegField := (regField 0x015 2 0x100 0 1 .w1s 0 0).rep 16 16
def Reg.DMA_CSTATE_CORE : RegField := (regField 0x015 2 0x104 16 3 .ro 0 112).rep 16 16
def Reg.DMA_CSTATE_ASID : RegField := (regField 0x015 2 0x104 8 5 .ro 0 112).rep 16 16
def Reg.DMA_CSTATE_STATE : RegField := (regField 0x015 2 0x104 0 3 .ro 0 112).rep 16 16
def Reg.DMA_CDESCLO_VA : RegField := (regField 0x015 2 0x108 5 27 .rw 0 112).rep 16 16
def Reg.DMA_CDESCHI_VA : RegField := (regField 0x015 2 0x10C 0 16 .rw 0 112).rep 16 16
def Reg.DMA_COWN_CORE : RegField := (regField 0x015 2 0x110 16 3 .rw 0 112).rep 16 16
def Reg.DMA_COWN_ASID : RegField := (regField 0x015 2 0x110 0 5 .rw 0 112).rep 16 16
def Reg.DMA_CELEM_INDEX : RegField := (regField 0x015 2 0x114 0 16 .ro 0 112).rep 16 16
def Reg.DMA_COFFSET_DONE : RegField := (regField 0x015 2 0x118 0 25 .ro 0 112).rep 16 16
def Reg.DMA_CFSYN : RegField := (regField 0x015 2 0x11C 0 32 .ro 0 112).rep 16 16
def Reg.DMA_CFADDRLO_VA : RegField := (regField 0x015 2 0x120 0 32 .ro 0 112).rep 16 16
def Reg.DMA_CFADDRHI_VA : RegField := (regField 0x015 2 0x124 0 16 .ro 0 112).rep 16 16
def Reg.DMA_CBYTES_COUNT : RegField := (regField 0x015 2 0x128 0 32 .ro 0 112).rep 16 16
/-- The fields of the DMA pages. -/
def Reg.dmaTable : List RegField :=
  [Reg.DMA_CAP_DRST, Reg.DMA_STAT_SUSP, Reg.DMA_FAULT_PFSTOP, Reg.DMA_FAULT_CHFAULT, Reg.DMA_CCTRL_ABORT, Reg.DMA_CCTRL_RESUME, Reg.DMA_CCTRL_GO, Reg.DMA_CSTATE_CORE, Reg.DMA_CSTATE_ASID, Reg.DMA_CSTATE_STATE, Reg.DMA_CDESCLO_VA, Reg.DMA_CDESCHI_VA, Reg.DMA_COWN_CORE, Reg.DMA_COWN_ASID, Reg.DMA_CELEM_INDEX, Reg.DMA_COFFSET_DONE, Reg.DMA_CFSYN, Reg.DMA_CFADDRLO_VA, Reg.DMA_CFADDRHI_VA, Reg.DMA_CBYTES_COUNT]

/-! ### ENC pages, from 0x020 (R557, spec/14_security.md) -/
def Reg.ENC_CAP_DRST : RegField := regField 0x020 1 0x004 31 1 .ro 1 126
def Reg.ENC_CAP_MEAS : RegField := regField 0x020 1 0x004 8 4 .ro 8 126
def Reg.ENC_CAP_SLOTS : RegField := regField 0x020 1 0x004 0 7 .ro 0x40 126
def Reg.ENC_CTRL_ZEROIZE : RegField := regField 0x020 1 0x008 1 1 .rwl 0 0
def Reg.ENC_STAT_ENTOK : RegField := regField 0x020 1 0x00C 3 1 .ro 0 32
def Reg.ENC_STAT_PROV : RegField := regField 0x020 1 0x00C 2 1 .ro 0 63
def Reg.ENC_STAT_ROOTOK : RegField := regField 0x020 1 0x00C 1 1 .ro 0 32
def Reg.ENC_STAT_READY : RegField := regField 0x020 1 0x00C 0 1 .ro 0 32
def Reg.ENC_FAULT_ENTFAIL : RegField := regField 0x020 1 0x010 4 1 .w1c 0 96
def Reg.ENC_FAULT_VERFAIL : RegField := regField 0x020 1 0x010 3 1 .w1c 0 96
def Reg.ENC_FAULT_ROOTFAIL : RegField := regField 0x020 1 0x010 2 1 .w1c 0 96
def Reg.ENC_FAULT_EXHAUST : RegField := regField 0x020 1 0x010 1 1 .w1c 0 96
def Reg.ENC_FAULT_AUTHFAIL : RegField := regField 0x020 1 0x010 0 1 .w1c 0 96
def Reg.ENC_IDDIG : RegField := (regField 0x020 1 0x040 0 32 .ro 0 63).rep 8 1
def Reg.ENC_PROVEP_COUNT : RegField := regField 0x020 1 0x060 0 32 .ro 0 127
def Reg.ENC_ROOTTRY_COUNT : RegField := regField 0x020 1 0x064 0 2 .ro 0 32
def Reg.ENC_VERFAILS_COUNT : RegField := regField 0x020 1 0x068 0 32 .ro 0 96
def Reg.ENC_ENTERR_COUNT : RegField := regField 0x020 1 0x06C 0 32 .ro 0 96
def Reg.ENC_OPS_COUNT : RegField := regField 0x020 1 0x070 0 32 .ro 0 96
def Reg.ENC_QDEPTH_COUNT : RegField := regField 0x020 1 0x074 0 5 .ro 0 96
def Reg.ENC_ECFG_DONEMBXEN : RegField := regField 0x020 1 0x078 6 1 .rw 0 96
def Reg.ENC_ECFG_DONEMBX : RegField := regField 0x020 1 0x078 0 6 .rw 0 96
def Reg.ENC_SLSEL_SLOT : RegField := (regField 0x020 1 0x080 0 6 .rw 0 96).perRequester
def Reg.ENC_SLINFO_STATE : RegField := (regField 0x020 1 0x084 30 2 .ro 0 32).perRequester
def Reg.ENC_SLINFO_TYPE : RegField := (regField 0x020 1 0x084 24 4 .ro 0 32).perRequester
def Reg.ENC_SLINFO_LANE : RegField := (regField 0x020 1 0x084 16 8 .ro 0 63).perRequester
def Reg.ENC_SLINFO_MEASPOL : RegField := (regField 0x020 1 0x084 8 8 .ro 0 32).perRequester
def Reg.ENC_SLINFO_GEN : RegField := (regField 0x020 1 0x084 7 1 .ro 0 32).perRequester
def Reg.ENC_SLINFO_USAGE : RegField := (regField 0x020 1 0x084 0 6 .ro 0 32).perRequester
def Reg.ENC_SLUSES_COUNT : RegField := (regField 0x020 1 0x088 0 32 .ro 0 32).perRequester
def Reg.ENC_SLLIM_COUNT : RegField := (regField 0x020 1 0x08C 0 32 .ro 0 32).perRequester
def Reg.ENC_SLOWN_SRC : RegField := (regField 0x020 1 0x090 0 16 .ro 0 32).perRequester
def Reg.ENC_EOP_DST : RegField := (regField 0x020 1 0x0C0 16 6 .rw 0 96).perRequester
def Reg.ENC_EOP_SLOT : RegField := (regField 0x020 1 0x0C0 8 6 .rw 0 96).perRequester
def Reg.ENC_EOP_OP : RegField := (regField 0x020 1 0x0C0 0 4 .rw 0 96).perRequester
def Reg.ENC_EARG0 : RegField := (regField 0x020 1 0x0C4 0 32 .rw 0 96).perRequester
def Reg.ENC_EARG1 : RegField := (regField 0x020 1 0x0C8 0 32 .rw 0 96).perRequester
def Reg.ENC_ELEN_BYTES : RegField := (regField 0x020 1 0x0CC 0 15 .rw 0 96).perRequester
def Reg.ENC_EGO_GO : RegField := (regField 0x020 1 0x0D0 0 1 .w1s 0 0).perRequester
def Reg.ENC_ERES_BUSY : RegField := (regField 0x020 1 0x0D4 31 1 .ro 0 96).perRequester
def Reg.ENC_ERES_DONE : RegField := (regField 0x020 1 0x0D4 30 1 .ro 0 96).perRequester
def Reg.ENC_ERES_RESULT : RegField := (regField 0x020 1 0x0D4 24 4 .ro 0 96).perRequester
def Reg.ENC_ERES_OUTLEN : RegField := (regField 0x020 1 0x0D4 0 15 .ro 0 96).perRequester
def Reg.ENC_EIOFF_KIB : RegField := (regField 0x020 1 0x0D8 0 4 .rw 0 96).perRequester
def Reg.ENC_EOOFF_KIB : RegField := (regField 0x020 1 0x0DC 0 4 .rw 0 96).perRequester
def Reg.ENC_MEAS : RegField := ((regField 0x020 1 0x200 0 32 .ro 0 32).rep 8 16).rep2 16 1
def Reg.ENC_MEASCNT_COUNT : RegField := (regField 0x020 1 0x400 0 32 .ro 0 32).rep 8 1
def Reg.ENC_EIN : RegField := ((regField 0x020 1 0x800 0 32 .rw 0 96).rep 256 1).perRequester
def Reg.ENC_EOUT : RegField := ((regField 0x020 1 0xC00 0 32 .ro 0 96).rep 256 1).perRequester
/-- The fields of the ENC pages (part 0). -/
def Reg.encTable0 : List RegField :=
  [Reg.ENC_CAP_DRST, Reg.ENC_CAP_MEAS, Reg.ENC_CAP_SLOTS, Reg.ENC_CTRL_ZEROIZE, Reg.ENC_STAT_ENTOK, Reg.ENC_STAT_PROV, Reg.ENC_STAT_ROOTOK, Reg.ENC_STAT_READY, Reg.ENC_FAULT_ENTFAIL, Reg.ENC_FAULT_VERFAIL, Reg.ENC_FAULT_ROOTFAIL, Reg.ENC_FAULT_EXHAUST, Reg.ENC_FAULT_AUTHFAIL, Reg.ENC_IDDIG, Reg.ENC_PROVEP_COUNT, Reg.ENC_ROOTTRY_COUNT, Reg.ENC_VERFAILS_COUNT, Reg.ENC_ENTERR_COUNT, Reg.ENC_OPS_COUNT, Reg.ENC_QDEPTH_COUNT, Reg.ENC_ECFG_DONEMBXEN, Reg.ENC_ECFG_DONEMBX, Reg.ENC_SLSEL_SLOT, Reg.ENC_SLINFO_STATE, Reg.ENC_SLINFO_TYPE, Reg.ENC_SLINFO_LANE, Reg.ENC_SLINFO_MEASPOL, Reg.ENC_SLINFO_GEN, Reg.ENC_SLINFO_USAGE, Reg.ENC_SLUSES_COUNT]
/-- The fields of the ENC pages (part 1). -/
def Reg.encTable1 : List RegField :=
  [Reg.ENC_SLLIM_COUNT, Reg.ENC_SLOWN_SRC, Reg.ENC_EOP_DST, Reg.ENC_EOP_SLOT, Reg.ENC_EOP_OP, Reg.ENC_EARG0, Reg.ENC_EARG1, Reg.ENC_ELEN_BYTES, Reg.ENC_EGO_GO, Reg.ENC_ERES_BUSY, Reg.ENC_ERES_DONE, Reg.ENC_ERES_RESULT, Reg.ENC_ERES_OUTLEN, Reg.ENC_EIOFF_KIB, Reg.ENC_EOOFF_KIB, Reg.ENC_MEAS, Reg.ENC_MEASCNT_COUNT, Reg.ENC_EIN, Reg.ENC_EOUT]
/-- The fields of the ENC pages. -/
def Reg.encTable : List RegField := Reg.encTable0 ++ Reg.encTable1

/-! ### TAMP pages, from 0x022 (R558, spec/14_security.md) -/
def Reg.TAMP_CAP_DRST : RegField := regField 0x022 1 0x004 31 1 .ro 0 126
def Reg.TAMP_STAT_ARMED : RegField := regField 0x022 1 0x00C 1 1 .ro 0 127
def Reg.TAMP_STAT_LATCH : RegField := regField 0x022 1 0x00C 0 1 .ro 0 127
def Reg.TAMP_FAULT_ARMLOST : RegField := regField 0x022 1 0x010 2 1 .w1c 0 96
def Reg.TAMP_FAULT_DISARMED : RegField := regField 0x022 1 0x010 1 1 .w1c 0 96
def Reg.TAMP_FAULT_TAMPER : RegField := regField 0x022 1 0x010 0 1 .w1c 0 96
def Reg.TAMP_ARM_LOSSACT : RegField := regField 0x022 1 0x040 8 1 .rwl 0 127
def Reg.TAMP_ARM_BITS : RegField := regField 0x022 1 0x040 0 6 .rwl 0 127
def Reg.TAMP_CAUSE_BITS : RegField := regField 0x022 1 0x044 0 8 .ro 0 127
def Reg.TAMP_TTIME_S : RegField := regField 0x022 1 0x048 0 32 .ro 0 127
def Reg.TAMP_TCNT_COUNT : RegField := regField 0x022 1 0x04C 0 8 .ro 0 127
def Reg.TAMP_SENSE_BITS : RegField := regField 0x022 1 0x050 0 6 .ro 0 96
def Reg.TAMP_DIETEMP_C10 : RegField := regField 0x022 1 0x054 0 16 .ro 0 96
/-- The fields of the TAMP pages. -/
def Reg.tampTable : List RegField :=
  [Reg.TAMP_CAP_DRST, Reg.TAMP_STAT_ARMED, Reg.TAMP_STAT_LATCH, Reg.TAMP_FAULT_ARMLOST, Reg.TAMP_FAULT_DISARMED, Reg.TAMP_FAULT_TAMPER, Reg.TAMP_ARM_LOSSACT, Reg.TAMP_ARM_BITS, Reg.TAMP_CAUSE_BITS, Reg.TAMP_TTIME_S, Reg.TAMP_TCNT_COUNT, Reg.TAMP_SENSE_BITS, Reg.TAMP_DIETEMP_C10]

/-! ### UPD pages, from 0x021 (R577, spec/15_update.md) -/
def Reg.UPD_CAP_DRST : RegField := regField 0x021 1 0x004 31 1 .ro 0 126
def Reg.UPD_CTRL_VERIFY : RegField := regField 0x021 1 0x008 4 1 .rwl 0 0
def Reg.UPD_CTRL_ABORT : RegField := regField 0x021 1 0x008 3 1 .rwl 0 0
def Reg.UPD_CTRL_REVERT : RegField := regField 0x021 1 0x008 2 1 .rwl 0 0
def Reg.UPD_CTRL_CONFIRM : RegField := regField 0x021 1 0x008 1 1 .rwl 0 0
def Reg.UPD_CTRL_ACT : RegField := regField 0x021 1 0x008 0 1 .rwl 0 0
def Reg.UPD_STAT_MIXED : RegField := regField 0x021 1 0x00C 3 1 .ro 0 127
def Reg.UPD_STAT_USTATE : RegField := regField 0x021 1 0x00C 0 3 .ro 0 63
def Reg.UPD_FAULT_ABORTED : RegField := regField 0x021 1 0x010 6 1 .w1c 0 96
def Reg.UPD_FAULT_REVERT : RegField := regField 0x021 1 0x010 5 1 .w1c 0 96
def Reg.UPD_FAULT_COMPAT : RegField := regField 0x021 1 0x010 4 1 .w1c 0 96
def Reg.UPD_FAULT_ROLLBACK : RegField := regField 0x021 1 0x010 3 1 .w1c 0 96
def Reg.UPD_FAULT_BINDFAIL : RegField := regField 0x021 1 0x010 2 1 .w1c 0 96
def Reg.UPD_FAULT_VERFAIL : RegField := regField 0x021 1 0x010 1 1 .w1c 0 96
def Reg.UPD_FAULT_BLKCRC : RegField := regField 0x021 1 0x010 0 1 .w1c 0 96
def Reg.UPD_SEL_TRIAL : RegField := regField 0x021 1 0x040 8 5 .ro 0 127
def Reg.UPD_SEL_BANK : RegField := regField 0x021 1 0x040 0 5 .ro 0 127
def Reg.UPD_SVNMIN_SVN : RegField := regField 0x021 1 0x044 0 32 .ro 0 127
def Reg.UPD_ASEL_COMP : RegField := regField 0x021 1 0x048 0 3 .rw 0 96
def Reg.UPD_ARES_BUSY : RegField := regField 0x021 1 0x04C 31 1 .ro 0 96
def Reg.UPD_ARES_DONE : RegField := regField 0x021 1 0x04C 30 1 .ro 0 96
def Reg.UPD_ARES_RESULT : RegField := regField 0x021 1 0x04C 24 4 .ro 0 96
def Reg.UPD_ARES_CONFLICT : RegField := regField 0x021 1 0x04C 16 3 .ro 0 96
def Reg.UPD_BLKRX_COUNT : RegField := regField 0x021 1 0x050 0 12 .ro 0 63
def Reg.UPD_NBLK_COUNT : RegField := regField 0x021 1 0x054 0 12 .ro 0 63
def Reg.UPD_TRIALCFG_TRIALHOLD : RegField := regField 0x021 1 0x058 16 1 .rwl 1 62
def Reg.UPD_TRIALCFG_TRIALTO : RegField := regField 0x021 1 0x058 0 12 .rwl 0x258 62
def Reg.UPD_TRIALLEFT_S : RegField := regField 0x021 1 0x05C 0 12 .ro 0 62
def Reg.UPD_TSTARTS_COUNT : RegField := regField 0x021 1 0x060 0 2 .ro 0 62
def Reg.UPD_NEWSVN_SVN : RegField := regField 0x021 1 0x064 0 32 .ro 0 63
def Reg.UPD_UPDCNT_COUNT : RegField := regField 0x021 1 0x068 0 32 .ro 0 127
def Reg.UPD_VERSEL_VER : RegField := (regField 0x021 1 0x080 0 32 .ro 0 127).rep 5 1
def Reg.UPD_ILSEL_IL : RegField := (regField 0x021 1 0x0A0 0 16 .ro 0 127).rep 5 1
def Reg.UPD_VERNEW_VER : RegField := (regField 0x021 1 0x0C0 0 32 .ro 0 63).rep 5 1
def Reg.UPD_BITMAP_BITS : RegField := (regField 0x021 1 0x100 0 32 .ro 0 63).rep 64 1
/-- The fields of the UPD pages (part 0). -/
def Reg.updTable0 : List RegField :=
  [Reg.UPD_CAP_DRST, Reg.UPD_CTRL_VERIFY, Reg.UPD_CTRL_ABORT, Reg.UPD_CTRL_REVERT, Reg.UPD_CTRL_CONFIRM, Reg.UPD_CTRL_ACT, Reg.UPD_STAT_MIXED, Reg.UPD_STAT_USTATE, Reg.UPD_FAULT_ABORTED, Reg.UPD_FAULT_REVERT, Reg.UPD_FAULT_COMPAT, Reg.UPD_FAULT_ROLLBACK, Reg.UPD_FAULT_BINDFAIL, Reg.UPD_FAULT_VERFAIL, Reg.UPD_FAULT_BLKCRC, Reg.UPD_SEL_TRIAL, Reg.UPD_SEL_BANK, Reg.UPD_SVNMIN_SVN, Reg.UPD_ASEL_COMP, Reg.UPD_ARES_BUSY, Reg.UPD_ARES_DONE, Reg.UPD_ARES_RESULT, Reg.UPD_ARES_CONFLICT, Reg.UPD_BLKRX_COUNT, Reg.UPD_NBLK_COUNT, Reg.UPD_TRIALCFG_TRIALHOLD, Reg.UPD_TRIALCFG_TRIALTO, Reg.UPD_TRIALLEFT_S, Reg.UPD_TSTARTS_COUNT, Reg.UPD_NEWSVN_SVN]
/-- The fields of the UPD pages (part 1). -/
def Reg.updTable1 : List RegField :=
  [Reg.UPD_UPDCNT_COUNT, Reg.UPD_VERSEL_VER, Reg.UPD_ILSEL_IL, Reg.UPD_VERNEW_VER, Reg.UPD_BITMAP_BITS]
/-- The fields of the UPD pages. -/
def Reg.updTable : List RegField := Reg.updTable0 ++ Reg.updTable1

/-! ### SVC pages, from 0x190 (R578, spec/15_update.md) -/
def Reg.SVC_CAP_DRST : RegField := regField 0x190 1 0x004 31 1 .ro 0 126
def Reg.SVC_STAT_SVCEN : RegField := regField 0x190 1 0x00C 2 1 .ro 0 96
def Reg.SVC_STAT_LINK : RegField := regField 0x190 1 0x00C 1 1 .ro 0 96
def Reg.SVC_STAT_CONN : RegField := regField 0x190 1 0x00C 0 1 .ro 0 96
def Reg.SVC_FAULT_DROPPED : RegField := regField 0x190 1 0x010 2 1 .w1c 0 96
def Reg.SVC_FAULT_AUTHFAIL : RegField := regField 0x190 1 0x010 1 1 .w1c 0 96
def Reg.SVC_FAULT_ENREFUSED : RegField := regField 0x190 1 0x010 0 1 .w1c 0 96
def Reg.SVC_CFG_PORT : RegField := regField 0x190 1 0x040 0 16 .ro 0x4FF9 63
def Reg.SVC_PEERDIG : RegField := (regField 0x190 1 0x044 0 32 .ro 0 96).rep 8 1
def Reg.SVC_CONNS_COUNT : RegField := regField 0x190 1 0x064 0 32 .ro 0 96
def Reg.SVC_REFUSED_COUNT : RegField := regField 0x190 1 0x068 0 32 .ro 0 96
/-- The fields of the SVC pages. -/
def Reg.svcTable : List RegField :=
  [Reg.SVC_CAP_DRST, Reg.SVC_STAT_SVCEN, Reg.SVC_STAT_LINK, Reg.SVC_STAT_CONN, Reg.SVC_FAULT_DROPPED, Reg.SVC_FAULT_AUTHFAIL, Reg.SVC_FAULT_ENREFUSED, Reg.SVC_CFG_PORT, Reg.SVC_PEERDIG, Reg.SVC_CONNS_COUNT, Reg.SVC_REFUSED_COUNT]

end Sys2Proof.Machine
end

