-- ==== Sys2Proof/Machine/RegMapEngines.lean ====
section
/-! DEFINITION. The register map, second part: the engines, lanes, local I/O and the viaduct. Each definition is one field of the specification's register tables: `regField page pages offset lowBit width
access reset kept`, with its repeats (count, stride in words) and requester copies; kept sums P 1, B 2, W 4, S 8, D 16, F 32, T 64. -/

namespace Sys2Proof.Machine

/-! ### PNT pages, from 0x040 (R135, spec/03_points.md) -/
def Reg.PNT_CAP_DRST : RegField := regField 0x040 1 0x004 31 1 .ro 0 126
def Reg.PNT_CAP_RECORDS : RegField := regField 0x040 1 0x004 0 21 .ro 0x100000 126
def Reg.PNT_CTRL_PUBEN : RegField := regField 0x040 1 0x008 0 1 .rwl 1 96
def Reg.PNT_STAT_DIRTYFULL : RegField := regField 0x040 1 0x00C 4 1 .ro 0 96
def Reg.PNT_STAT_OVLD : RegField := regField 0x040 1 0x00C 3 1 .ro 0 96
def Reg.PNT_STAT_HALTED : RegField := regField 0x040 1 0x00C 2 1 .ro 0 96
def Reg.PNT_STAT_RESTORING : RegField := regField 0x040 1 0x00C 1 1 .ro 0 96
def Reg.PNT_STAT_READY : RegField := regField 0x040 1 0x00C 0 1 .ro 0 96
def Reg.PNT_FAULT_FORCEFULL : RegField := regField 0x040 1 0x010 9 1 .w1c 0 96
def Reg.PNT_FAULT_FORCECLR : RegField := regField 0x040 1 0x010 8 1 .w1c 0 96
def Reg.PNT_FAULT_SUPERSEDE : RegField := regField 0x040 1 0x010 7 1 .w1c 0 96
def Reg.PNT_FAULT_RESTFAIL : RegField := regField 0x040 1 0x010 6 1 .w1c 0 96
def Reg.PNT_FAULT_PERSFULL : RegField := regField 0x040 1 0x010 5 1 .w1c 0 96
def Reg.PNT_FAULT_OVLD : RegField := regField 0x040 1 0x010 4 1 .w1c 0 96
def Reg.PNT_FAULT_QUOTA : RegField := regField 0x040 1 0x010 3 1 .w1c 0 96
def Reg.PNT_FAULT_LANEERR : RegField := regField 0x040 1 0x010 2 1 .w1c 0 96
def Reg.PNT_FAULT_REFERR : RegField := regField 0x040 1 0x010 1 1 .w1c 0 96
def Reg.PNT_FAULT_MIRFULL : RegField := regField 0x040 1 0x010 0 1 .w1c 0 96
def Reg.PNT_NATIVE_COUNT : RegField := regField 0x040 1 0x040 0 21 .ro 0 63
def Reg.PNT_MIRROR_COUNT : RegField := regField 0x040 1 0x044 0 21 .ro 0 112
def Reg.PNT_DIRTY_COUNT : RegField := regField 0x040 1 0x048 0 13 .ro 0 112
def Reg.PNT_TICK_NUM : RegField := regField 0x040 1 0x04C 0 32 .ro 0 112
def Reg.PNT_ADMIT_COUNT : RegField := regField 0x040 1 0x050 0 32 .ro 0 112
def Reg.PNT_ADMPEAK_UNITS : RegField := regField 0x040 1 0x054 0 15 .rc 0 112
def Reg.PNT_REFCNT_COUNT : RegField := regField 0x040 1 0x058 0 32 .ro 0 112
def Reg.PNT_MIRREF_COUNT : RegField := regField 0x040 1 0x05C 0 32 .ro 0 112
def Reg.PNT_SUPCNT_COUNT : RegField := regField 0x040 1 0x060 0 32 .ro 0 112
def Reg.PNT_LANECNT_COUNT : RegField := regField 0x040 1 0x064 0 32 .ro 0 112
def Reg.PNT_PERSW_COUNT : RegField := regField 0x040 1 0x068 0 32 .ro 0 112
def Reg.PNT_PERSSTALL_COUNT : RegField := regField 0x040 1 0x06C 0 32 .ro 0 112
def Reg.PNT_LOGSUP_COUNT : RegField := regField 0x040 1 0x070 0 32 .ro 0 112
def Reg.PNT_FCOUNT_COUNT : RegField := regField 0x040 1 0x074 0 15 .ro 0 63
def Reg.PNT_RESTBAD_COUNT : RegField := regField 0x040 1 0x078 0 21 .ro 0 112
def Reg.PNT_QIN_FULLS : RegField := (regField 0x040 1 0x080 16 16 .ro 0 112).rep 8 1
def Reg.PNT_QIN_DEPTH : RegField := (regField 0x040 1 0x080 0 13 .ro 0 112).rep 8 1
def Reg.PNT_QUOTA_QDROP : RegField := (regField 0x040 1 0x400 16 16 .ro 0 112).rep 256 1
def Reg.PNT_QUOTA_QLIM : RegField := (regField 0x040 1 0x400 0 16 .ro 0 63).rep 256 1
/-- The fields of the PNT pages (part 0). -/
def Reg.pntTable0 : List RegField :=
  [Reg.PNT_CAP_DRST, Reg.PNT_CAP_RECORDS, Reg.PNT_CTRL_PUBEN, Reg.PNT_STAT_DIRTYFULL, Reg.PNT_STAT_OVLD, Reg.PNT_STAT_HALTED, Reg.PNT_STAT_RESTORING, Reg.PNT_STAT_READY, Reg.PNT_FAULT_FORCEFULL, Reg.PNT_FAULT_FORCECLR, Reg.PNT_FAULT_SUPERSEDE, Reg.PNT_FAULT_RESTFAIL, Reg.PNT_FAULT_PERSFULL, Reg.PNT_FAULT_OVLD, Reg.PNT_FAULT_QUOTA, Reg.PNT_FAULT_LANEERR, Reg.PNT_FAULT_REFERR, Reg.PNT_FAULT_MIRFULL, Reg.PNT_NATIVE_COUNT, Reg.PNT_MIRROR_COUNT, Reg.PNT_DIRTY_COUNT, Reg.PNT_TICK_NUM, Reg.PNT_ADMIT_COUNT, Reg.PNT_ADMPEAK_UNITS, Reg.PNT_REFCNT_COUNT, Reg.PNT_MIRREF_COUNT, Reg.PNT_SUPCNT_COUNT, Reg.PNT_LANECNT_COUNT, Reg.PNT_PERSW_COUNT, Reg.PNT_PERSSTALL_COUNT]
/-- The fields of the PNT pages (part 1). -/
def Reg.pntTable1 : List RegField :=
  [Reg.PNT_LOGSUP_COUNT, Reg.PNT_FCOUNT_COUNT, Reg.PNT_RESTBAD_COUNT, Reg.PNT_QIN_FULLS, Reg.PNT_QIN_DEPTH, Reg.PNT_QUOTA_QDROP, Reg.PNT_QUOTA_QLIM]
/-- The fields of the PNT pages. -/
def Reg.pntTable : List RegField := Reg.pntTable0 ++ Reg.pntTable1

/-! ### PNTWIN pages, from 0x041 (R136, spec/03_points.md) -/
def Reg.PNTWIN_WSEL_MODE : RegField := (regField 0x041 1 0x04C 0 2 .rw 0 96).perRequester
/-- The fields of the PNTWIN pages. -/
def Reg.pntwinTable : List RegField :=
  [Reg.PNTWIN_WSEL_MODE]

/-! ### CMD pages, from 0x042 (R142, spec/03_points.md) -/
def Reg.CMD_CTGT_INDEX : RegField := (regField 0x042 1 0x040 0 20 .rw 0 96).perRequester
def Reg.CMD_COP_OP : RegField := (regField 0x042 1 0x044 8 2 .rw 0 96).perRequester
def Reg.CMD_COP_LEVEL : RegField := (regField 0x042 1 0x044 0 5 .rw 0 96).perRequester
def Reg.CMD_CVALLO_VAL : RegField := (regField 0x042 1 0x048 0 32 .rw 0 96).perRequester
def Reg.CMD_CVALHI_VAL : RegField := (regField 0x042 1 0x04C 0 32 .rw 0 96).perRequester
def Reg.CMD_CGO_GO : RegField := (regField 0x042 1 0x050 0 1 .w1s 0 0).perRequester
def Reg.CMD_CRES_BUSY : RegField := (regField 0x042 1 0x054 31 1 .ro 0 96).perRequester
def Reg.CMD_CRES_DONE : RegField := (regField 0x042 1 0x054 30 1 .ro 0 96).perRequester
def Reg.CMD_CRES_RESULT : RegField := (regField 0x042 1 0x054 16 8 .ro 0 96).perRequester
def Reg.CMD_CRES_TICK : RegField := (regField 0x042 1 0x054 0 16 .ro 0 96).perRequester
def Reg.CMD_ARRAY_VALLO : RegField := ((regField 0x042 1 0x100 0 32 .ro 0 96).rep 16 2).perRequester
def Reg.CMD_ARRAY_VALHI : RegField := ((regField 0x042 1 0x104 0 32 .ro 0 96).rep 16 2).perRequester
def Reg.CMD_AMASK_MASK : RegField := (regField 0x042 1 0x180 0 16 .ro 0 96).perRequester
def Reg.CMD_ARELLO_VAL : RegField := (regField 0x042 1 0x184 0 32 .ro 0 96).perRequester
def Reg.CMD_ARELHI_VAL : RegField := (regField 0x042 1 0x188 0 32 .ro 0 96).perRequester
/-- The fields of the CMD pages. -/
def Reg.cmdTable : List RegField :=
  [Reg.CMD_CTGT_INDEX, Reg.CMD_COP_OP, Reg.CMD_COP_LEVEL, Reg.CMD_CVALLO_VAL, Reg.CMD_CVALHI_VAL, Reg.CMD_CGO_GO, Reg.CMD_CRES_BUSY, Reg.CMD_CRES_DONE, Reg.CMD_CRES_RESULT, Reg.CMD_CRES_TICK, Reg.CMD_ARRAY_VALLO, Reg.CMD_ARRAY_VALHI, Reg.CMD_AMASK_MASK, Reg.CMD_ARELLO_VAL, Reg.CMD_ARELHI_VAL]

/-! ### FORCE pages, from 0x043 (R144, spec/03_points.md) -/
def Reg.FORCE_CTRL_KEEP_P : RegField := regField 0x043 1 0x008 0 1 .rwl 0 63
def Reg.FORCE_FTGT_INDEX : RegField := (regField 0x043 1 0x040 0 20 .rw 0 96).perRequester
def Reg.FORCE_FOP_OP : RegField := (regField 0x043 1 0x044 0 2 .rw 0 96).perRequester
def Reg.FORCE_FVALLO_VAL : RegField := (regField 0x043 1 0x048 0 32 .rw 0 96).perRequester
def Reg.FORCE_FVALHI_VAL : RegField := (regField 0x043 1 0x04C 0 32 .rw 0 96).perRequester
def Reg.FORCE_FGO_GO : RegField := (regField 0x043 1 0x050 0 1 .w1s 0 0).perRequester
def Reg.FORCE_FRES : RegField := (regField 0x043 1 0x054 0 32 .ro 0 96).perRequester
def Reg.FORCE_FINFO_ACTIVE : RegField := (regField 0x043 1 0x058 31 1 .ro 0 96).perRequester
def Reg.FORCE_FINFO_ORPHAN : RegField := (regField 0x043 1 0x058 30 1 .ro 0 96).perRequester
def Reg.FORCE_FINFO_SRC : RegField := (regField 0x043 1 0x058 0 16 .ro 0 96).perRequester
def Reg.FORCE_FCNT_COUNT : RegField := regField 0x043 1 0x080 0 15 .ro 0 63
def Reg.FORCE_FCAP_MAX : RegField := regField 0x043 1 0x084 0 15 .ro 0x4000 126
/-- The fields of the FORCE pages. -/
def Reg.forceTable : List RegField :=
  [Reg.FORCE_CTRL_KEEP_P, Reg.FORCE_FTGT_INDEX, Reg.FORCE_FOP_OP, Reg.FORCE_FVALLO_VAL, Reg.FORCE_FVALHI_VAL, Reg.FORCE_FGO_GO, Reg.FORCE_FRES, Reg.FORCE_FINFO_ACTIVE, Reg.FORCE_FINFO_ORPHAN, Reg.FORCE_FINFO_SRC, Reg.FORCE_FCNT_COUNT, Reg.FORCE_FCAP_MAX]

/-! ### LANE pages, from 0x048 (R387, spec/09_lanes_parapet.md) -/
def Reg.LANE_CAP_DRST : RegField := regField 0x048 1 0x004 31 1 .ro 0 126
def Reg.LANE_STAT_CHVALID : RegField := regField 0x048 1 0x00C 0 1 .ro 0 63
def Reg.LANE_FAULT_CHREJ : RegField := regField 0x048 1 0x010 4 1 .w1c 0 96
def Reg.LANE_FAULT_KEY : RegField := regField 0x048 1 0x010 3 1 .w1c 0 96
def Reg.LANE_FAULT_PORT : RegField := regField 0x048 1 0x010 2 1 .w1c 0 96
def Reg.LANE_FAULT_FABRIC : RegField := regField 0x048 1 0x010 1 1 .w1c 0 96
def Reg.LANE_FAULT_POINT : RegField := regField 0x048 1 0x010 0 1 .w1c 0 96
def Reg.LANE_CHEP_EPOCH : RegField := regField 0x048 1 0x040 0 32 .ro 0 63
def Reg.LANE_FABCNT_COUNT : RegField := regField 0x048 1 0x044 0 32 .ro 0 96
def Reg.LANE_KEYCNT_COUNT : RegField := regField 0x048 1 0x048 0 32 .ro 0 96
def Reg.LANE_PORTCNT_COUNT : RegField := regField 0x048 1 0x04C 0 32 .ro 0 96
def Reg.LANE_CHREJ_COUNT : RegField := regField 0x048 1 0x050 0 32 .ro 0 96
def Reg.LANE_LVSRC_LANE : RegField := regField 0x048 1 0x054 24 8 .ro 0 96
def Reg.LANE_LVSRC_WHERE : RegField := regField 0x048 1 0x054 16 4 .ro 0 96
def Reg.LANE_LVSRC_SRC : RegField := regField 0x048 1 0x054 0 16 .ro 0 96
def Reg.LANE_LVIDX_INDEX : RegField := regField 0x048 1 0x058 0 20 .ro 0 96
def Reg.LANE_LVTIME_MS : RegField := regField 0x048 1 0x05C 0 32 .ro 0 96
def Reg.LANE_CHHASH : RegField := (regField 0x048 1 0x060 0 32 .ro 0 63).rep 8 1
def Reg.LANE_LINUSE_BITS : RegField := (regField 0x048 1 0x080 0 32 .ro 0 63).rep 8 1
def Reg.LANE_EMGSET_BITS : RegField := ((regField 0x048 1 0x100 0 32 .ro 0 63).rep 15 8).rep2 8 1
def Reg.LANE_FWSET_BITS : RegField := ((regField 0x048 1 0x300 0 32 .ro 0 63).rep 6 8).rep2 8 1
/-- The fields of the LANE pages. -/
def Reg.laneTable : List RegField :=
  [Reg.LANE_CAP_DRST, Reg.LANE_STAT_CHVALID, Reg.LANE_FAULT_CHREJ, Reg.LANE_FAULT_KEY, Reg.LANE_FAULT_PORT, Reg.LANE_FAULT_FABRIC, Reg.LANE_FAULT_POINT, Reg.LANE_CHEP_EPOCH, Reg.LANE_FABCNT_COUNT, Reg.LANE_KEYCNT_COUNT, Reg.LANE_PORTCNT_COUNT, Reg.LANE_CHREJ_COUNT, Reg.LANE_LVSRC_LANE, Reg.LANE_LVSRC_WHERE, Reg.LANE_LVSRC_SRC, Reg.LANE_LVIDX_INDEX, Reg.LANE_LVTIME_MS, Reg.LANE_CHHASH, Reg.LANE_LINUSE_BITS, Reg.LANE_EMGSET_BITS, Reg.LANE_FWSET_BITS]

/-! ### PRPT pages, from 0x049 (R388, spec/09_lanes_parapet.md) -/
def Reg.PRPT_CAP_DRST : RegField := regField 0x049 1 0x004 31 1 .ro 0 126
def Reg.PRPT_CAP_ENTRIES : RegField := regField 0x049 1 0x004 0 17 .ro 0x10000 126
def Reg.PRPT_STAT_RELEASED : RegField := regField 0x049 1 0x00C 2 1 .ro 0 96
def Reg.PRPT_STAT_SAFE : RegField := regField 0x049 1 0x00C 1 1 .ro 0 96
def Reg.PRPT_STAT_NOSHEET : RegField := regField 0x049 1 0x00C 0 1 .ro 1 32
def Reg.PRPT_FAULT_SHREJ : RegField := regField 0x049 1 0x010 9 1 .w1c 0 96
def Reg.PRPT_FAULT_FITHOLD : RegField := regField 0x049 1 0x010 8 1 .w1c 0 96
def Reg.PRPT_FAULT_WDRAW : RegField := regField 0x049 1 0x010 7 1 .w1c 0 96
def Reg.PRPT_FAULT_LIFTCEIL : RegField := regField 0x049 1 0x010 6 1 .w1c 0 96
def Reg.PRPT_FAULT_BUSCEIL : RegField := regField 0x049 1 0x010 5 1 .w1c 0 96
def Reg.PRPT_FAULT_FEEDCLIP : RegField := regField 0x049 1 0x010 4 1 .w1c 0 96
def Reg.PRPT_FAULT_RATE : RegField := regField 0x049 1 0x010 3 1 .w1c 0 96
def Reg.PRPT_FAULT_DWELL : RegField := regField 0x049 1 0x010 2 1 .w1c 0 96
def Reg.PRPT_FAULT_SLEW : RegField := regField 0x049 1 0x010 1 1 .w1c 0 96
def Reg.PRPT_FAULT_RANGE : RegField := regField 0x049 1 0x010 0 1 .w1c 0 96
def Reg.PRPT_AO_SVRSN : RegField := regField 0x049 1 0x040 4 4 .ro 0 126
def Reg.PRPT_AO_PAIRED : RegField := regField 0x049 1 0x040 2 1 .ro 0 126
def Reg.PRPT_AO_SVLATCH : RegField := regField 0x049 1 0x040 1 1 .ro 0 126
def Reg.PRPT_AO_PACTIVE : RegField := regField 0x049 1 0x040 0 1 .ro 0 126
def Reg.PRPT_PSEP_EPOCH : RegField := regField 0x049 1 0x044 0 32 .ro 0 63
def Reg.PRPT_LEASEENDLO_US : RegField := regField 0x049 1 0x048 0 32 .ro 0 96
def Reg.PRPT_LEASEENDHI_US : RegField := regField 0x049 1 0x04C 0 32 .ro 0 96
def Reg.PRPT_LIFTC_LCRATE : RegField := regField 0x049 1 0x050 16 16 .ro 0 63
def Reg.PRPT_LIFTC_LCBURST : RegField := regField 0x049 1 0x050 0 8 .ro 0 63
def Reg.PRPT_NENT_COUNT : RegField := regField 0x049 1 0x054 0 17 .ro 0 63
def Reg.PRPT_RANGECNT_COUNT : RegField := regField 0x049 1 0x060 0 32 .ro 0 96
def Reg.PRPT_SLEWCNT_COUNT : RegField := regField 0x049 1 0x064 0 32 .ro 0 96
def Reg.PRPT_DWELLCNT_COUNT : RegField := regField 0x049 1 0x068 0 32 .ro 0 96
def Reg.PRPT_RATECNT_COUNT : RegField := regField 0x049 1 0x06C 0 32 .ro 0 96
def Reg.PRPT_LIFTDROP_COUNT : RegField := regField 0x049 1 0x070 0 32 .ro 0 96
def Reg.PRPT_WDRAW_COUNT : RegField := regField 0x049 1 0x074 0 32 .ro 0 96
def Reg.PRPT_FITHELD_COUNT : RegField := regField 0x049 1 0x078 0 32 .ro 0 96
def Reg.PRPT_LOGSUP_COUNT : RegField := regField 0x049 1 0x07C 0 32 .ro 0 96
def Reg.PRPT_EIDX_INDEX : RegField := (regField 0x049 1 0x080 0 16 .rw 0 96).perRequester
def Reg.PRPT_ELOAD_LOAD : RegField := (regField 0x049 1 0x084 0 1 .w1s 0 0).perRequester
def Reg.PRPT_EVAL_VALID : RegField := (regField 0x049 1 0x088 0 1 .ro 0 96).perRequester
def Reg.PRPT_EDATA : RegField := ((regField 0x049 1 0x100 0 32 .ro 0 96).rep 16 1).perRequester
/-- The fields of the PRPT pages (part 0). -/
def Reg.prptTable0 : List RegField :=
  [Reg.PRPT_CAP_DRST, Reg.PRPT_CAP_ENTRIES, Reg.PRPT_STAT_RELEASED, Reg.PRPT_STAT_SAFE, Reg.PRPT_STAT_NOSHEET, Reg.PRPT_FAULT_SHREJ, Reg.PRPT_FAULT_FITHOLD, Reg.PRPT_FAULT_WDRAW, Reg.PRPT_FAULT_LIFTCEIL, Reg.PRPT_FAULT_BUSCEIL, Reg.PRPT_FAULT_FEEDCLIP, Reg.PRPT_FAULT_RATE, Reg.PRPT_FAULT_DWELL, Reg.PRPT_FAULT_SLEW, Reg.PRPT_FAULT_RANGE, Reg.PRPT_AO_SVRSN, Reg.PRPT_AO_PAIRED, Reg.PRPT_AO_SVLATCH, Reg.PRPT_AO_PACTIVE, Reg.PRPT_PSEP_EPOCH, Reg.PRPT_LEASEENDLO_US, Reg.PRPT_LEASEENDHI_US, Reg.PRPT_LIFTC_LCRATE, Reg.PRPT_LIFTC_LCBURST, Reg.PRPT_NENT_COUNT, Reg.PRPT_RANGECNT_COUNT, Reg.PRPT_SLEWCNT_COUNT, Reg.PRPT_DWELLCNT_COUNT, Reg.PRPT_RATECNT_COUNT, Reg.PRPT_LIFTDROP_COUNT]
/-- The fields of the PRPT pages (part 1). -/
def Reg.prptTable1 : List RegField :=
  [Reg.PRPT_WDRAW_COUNT, Reg.PRPT_FITHELD_COUNT, Reg.PRPT_LOGSUP_COUNT, Reg.PRPT_EIDX_INDEX, Reg.PRPT_ELOAD_LOAD, Reg.PRPT_EVAL_VALID, Reg.PRPT_EDATA]
/-- The fields of the PRPT pages. -/
def Reg.prptTable : List RegField := Reg.prptTable0 ++ Reg.prptTable1

/-! ### CLE pages, from 0x050 (R281, spec/06_control_loops.md) -/
def Reg.CLE_CAP_DRST : RegField := regField 0x050 1 0x004 31 1 .ro 1 126
def Reg.CLE_CAP_GROUPS : RegField := regField 0x050 1 0x004 16 11 .ro 0x400 126
def Reg.CLE_CAP_SLOTS : RegField := regField 0x050 1 0x004 0 14 .ro 0x2000 126
def Reg.CLE_CTRL_RUN : RegField := regField 0x050 1 0x008 0 1 .rwl 0 96
def Reg.CLE_STAT_OVRHOLD : RegField := regField 0x050 1 0x00C 3 1 .ro 0 96
def Reg.CLE_STAT_HALTED : RegField := regField 0x050 1 0x00C 2 1 .ro 0 96
def Reg.CLE_STAT_ALIGN : RegField := regField 0x050 1 0x00C 1 1 .ro 0 96
def Reg.CLE_STAT_RUNNING : RegField := regField 0x050 1 0x00C 0 1 .ro 0 96
def Reg.CLE_FAULT_LANE : RegField := regField 0x050 1 0x010 7 1 .w1c 0 96
def Reg.CLE_FAULT_ALIGNLOST : RegField := regField 0x050 1 0x010 6 1 .w1c 0 96
def Reg.CLE_FAULT_LATEAPP : RegField := regField 0x050 1 0x010 5 1 .w1c 0 96
def Reg.CLE_FAULT_OUTREF : RegField := regField 0x050 1 0x010 4 1 .w1c 0 96
def Reg.CLE_FAULT_INFAIL : RegField := regField 0x050 1 0x010 3 1 .w1c 0 96
def Reg.CLE_FAULT_OVRHOLD : RegField := regField 0x050 1 0x010 2 1 .w1c 0 96
def Reg.CLE_FAULT_OVERRUN : RegField := regField 0x050 1 0x010 1 1 .w1c 0 96
def Reg.CLE_FAULT_SKIP : RegField := regField 0x050 1 0x010 0 1 .w1c 0 96
def Reg.CLE_ACTIVE_COUNT : RegField := regField 0x050 1 0x040 0 14 .ro 0 63
def Reg.CLE_GRPCNT_COUNT : RegField := regField 0x050 1 0x044 0 11 .ro 0 63
def Reg.CLE_LOAD_DENSITY : RegField := regField 0x050 1 0x048 0 17 .ro 0 63
def Reg.CLE_EVALS_COUNT : RegField := regField 0x050 1 0x04C 0 32 .ro 0 96
def Reg.CLE_OVRCNT_COUNT : RegField := regField 0x050 1 0x050 0 32 .ro 0 96
def Reg.CLE_LATECNT_COUNT : RegField := regField 0x050 1 0x054 0 32 .ro 0 96
def Reg.CLE_OREFCNT_COUNT : RegField := regField 0x050 1 0x058 0 32 .ro 0 96
def Reg.CLE_SKIPCNT_COUNT : RegField := regField 0x050 1 0x05C 0 32 .ro 0 96
def Reg.CLE_INFCNT_COUNT : RegField := regField 0x050 1 0x060 0 32 .ro 0 96
def Reg.CLE_LANECNT_COUNT : RegField := regField 0x050 1 0x064 0 32 .ro 0 96
def Reg.CLE_HOLDN_COUNT : RegField := regField 0x050 1 0x068 0 14 .ro 0 96
def Reg.CLE_MINSLACK_US : RegField := regField 0x050 1 0x06C 0 20 .rc 0xfffff 96
/-- The fields of the CLE pages. -/
def Reg.cleTable : List RegField :=
  [Reg.CLE_CAP_DRST, Reg.CLE_CAP_GROUPS, Reg.CLE_CAP_SLOTS, Reg.CLE_CTRL_RUN, Reg.CLE_STAT_OVRHOLD, Reg.CLE_STAT_HALTED, Reg.CLE_STAT_ALIGN, Reg.CLE_STAT_RUNNING, Reg.CLE_FAULT_LANE, Reg.CLE_FAULT_ALIGNLOST, Reg.CLE_FAULT_LATEAPP, Reg.CLE_FAULT_OUTREF, Reg.CLE_FAULT_INFAIL, Reg.CLE_FAULT_OVRHOLD, Reg.CLE_FAULT_OVERRUN, Reg.CLE_FAULT_SKIP, Reg.CLE_ACTIVE_COUNT, Reg.CLE_GRPCNT_COUNT, Reg.CLE_LOAD_DENSITY, Reg.CLE_EVALS_COUNT, Reg.CLE_OVRCNT_COUNT, Reg.CLE_LATECNT_COUNT, Reg.CLE_OREFCNT_COUNT, Reg.CLE_SKIPCNT_COUNT, Reg.CLE_INFCNT_COUNT, Reg.CLE_LANECNT_COUNT, Reg.CLE_HOLDN_COUNT, Reg.CLE_MINSLACK_US]

/-! ### LOOPWIN pages, from 0x051 (R282, spec/06_control_loops.md) -/
def Reg.LOOPWIN_WSEL_FIELD : RegField := (regField 0x051 1 0x04C 8 4 .rw 0 96).perRequester
def Reg.LOOPWIN_WSEL_MODE : RegField := (regField 0x051 1 0x04C 0 2 .rw 0 96).perRequester
def Reg.LOOPWIN_WEFF_SAMPLE : RegField := (regField 0x051 1 0x050 0 32 .ro 0 96).perRequester
/-- The fields of the LOOPWIN pages. -/
def Reg.loopwinTable : List RegField :=
  [Reg.LOOPWIN_WSEL_FIELD, Reg.LOOPWIN_WSEL_MODE, Reg.LOOPWIN_WEFF_SAMPLE]

/-! ### CTE pages, from 0x058 (R314, spec/07_cyclic_tasks.md) -/
def Reg.CTE_CAP_DRST : RegField := regField 0x058 1 0x004 31 1 .ro 1 126
def Reg.CTE_CAP_TASKS : RegField := regField 0x058 1 0x004 0 5 .ro 0x10 126
def Reg.CTE_CTRL_RUN : RegField := regField 0x058 1 0x008 0 1 .rwl 0 96
def Reg.CTE_STAT_SWAPPEND : RegField := regField 0x058 1 0x00C 3 1 .ro 0 96
def Reg.CTE_STAT_WDSTOP : RegField := regField 0x058 1 0x00C 2 1 .ro 0 96
def Reg.CTE_STAT_HALTED : RegField := regField 0x058 1 0x00C 1 1 .ro 0 96
def Reg.CTE_STAT_RUNNING : RegField := regField 0x058 1 0x00C 0 1 .ro 0 96
def Reg.CTE_FAULT_RETFAIL : RegField := regField 0x058 1 0x010 9 1 .w1c 0 96
def Reg.CTE_FAULT_ORPHAN : RegField := regField 0x058 1 0x010 8 1 .w1c 0 96
def Reg.CTE_FAULT_CHGREJ : RegField := regField 0x058 1 0x010 7 1 .w1c 0 96
def Reg.CTE_FAULT_EVTMERGE : RegField := regField 0x058 1 0x010 6 1 .w1c 0 96
def Reg.CTE_FAULT_UNDELIV : RegField := regField 0x058 1 0x010 5 1 .w1c 0 96
def Reg.CTE_FAULT_OUTREF : RegField := regField 0x058 1 0x010 4 1 .w1c 0 96
def Reg.CTE_FAULT_SKIP : RegField := regField 0x058 1 0x010 3 1 .w1c 0 96
def Reg.CTE_FAULT_LANE : RegField := regField 0x058 1 0x010 2 1 .w1c 0 96
def Reg.CTE_FAULT_WATCHDOG : RegField := regField 0x058 1 0x010 1 1 .w1c 0 96
def Reg.CTE_FAULT_OVERRUN : RegField := regField 0x058 1 0x010 0 1 .w1c 0 96
def Reg.CTE_TASKS_MASK : RegField := regField 0x058 1 0x040 0 16 .ro 0 63
def Reg.CTE_RELS_COUNT : RegField := regField 0x058 1 0x044 0 32 .ro 0 96
def Reg.CTE_LANECNT_COUNT : RegField := regField 0x058 1 0x048 0 32 .ro 0 96
def Reg.CTE_SKIPCNT_COUNT : RegField := regField 0x058 1 0x04C 0 32 .ro 0 96
def Reg.CTE_TSTAT_STATE : RegField := (regField 0x058 1 0x100 28 4 .ro 0 96).rep 16 16
def Reg.CTE_TSTAT_PEND : RegField := (regField 0x058 1 0x100 27 1 .ro 0 96).rep 16 16
def Reg.CTE_TSTAT_STG : RegField := (regField 0x058 1 0x100 26 1 .ro 0 96).rep 16 16
def Reg.CTE_TSTAT_OVR : RegField := (regField 0x058 1 0x100 25 1 .ro 0 96).rep 16 16
def Reg.CTE_TRELK_COUNT : RegField := (regField 0x058 1 0x104 0 32 .ro 0 96).rep 16 16
def Reg.CTE_TEXEC_US : RegField := (regField 0x058 1 0x108 0 32 .ro 0 96).rep 16 16
def Reg.CTE_TEXMAX_US : RegField := (regField 0x058 1 0x10C 0 32 .rc 0 96).rep 16 16
def Reg.CTE_TOVR_COUNT : RegField := (regField 0x058 1 0x110 0 32 .ro 0 96).rep 16 16
def Reg.CTE_TSUP_COUNT : RegField := (regField 0x058 1 0x114 0 32 .ro 0 96).rep 16 16
def Reg.CTE_TREF_COUNT : RegField := (regField 0x058 1 0x118 0 32 .ro 0 96).rep 16 16
def Reg.CTE_TUND_COUNT : RegField := (regField 0x058 1 0x11C 0 32 .ro 0 96).rep 16 16
def Reg.CTE_TEVT_COUNT : RegField := (regField 0x058 1 0x120 0 32 .ro 0 96).rep 16 16
def Reg.CTE_TCMT_TICK : RegField := (regField 0x058 1 0x124 0 32 .ro 0 96).rep 16 16
/-- The fields of the CTE pages (part 0). -/
def Reg.cteTable0 : List RegField :=
  [Reg.CTE_CAP_DRST, Reg.CTE_CAP_TASKS, Reg.CTE_CTRL_RUN, Reg.CTE_STAT_SWAPPEND, Reg.CTE_STAT_WDSTOP, Reg.CTE_STAT_HALTED, Reg.CTE_STAT_RUNNING, Reg.CTE_FAULT_RETFAIL, Reg.CTE_FAULT_ORPHAN, Reg.CTE_FAULT_CHGREJ, Reg.CTE_FAULT_EVTMERGE, Reg.CTE_FAULT_UNDELIV, Reg.CTE_FAULT_OUTREF, Reg.CTE_FAULT_SKIP, Reg.CTE_FAULT_LANE, Reg.CTE_FAULT_WATCHDOG, Reg.CTE_FAULT_OVERRUN, Reg.CTE_TASKS_MASK, Reg.CTE_RELS_COUNT, Reg.CTE_LANECNT_COUNT, Reg.CTE_SKIPCNT_COUNT, Reg.CTE_TSTAT_STATE, Reg.CTE_TSTAT_PEND, Reg.CTE_TSTAT_STG, Reg.CTE_TSTAT_OVR, Reg.CTE_TRELK_COUNT, Reg.CTE_TEXEC_US, Reg.CTE_TEXMAX_US, Reg.CTE_TOVR_COUNT, Reg.CTE_TSUP_COUNT]
/-- The fields of the CTE pages (part 1). -/
def Reg.cteTable1 : List RegField :=
  [Reg.CTE_TREF_COUNT, Reg.CTE_TUND_COUNT, Reg.CTE_TEVT_COUNT, Reg.CTE_TCMT_TICK]
/-- The fields of the CTE pages. -/
def Reg.cteTable : List RegField := Reg.cteTable0 ++ Reg.cteTable1

/-! ### TASKWIN pages, from 0x059 (R315, spec/07_cyclic_tasks.md) -/
def Reg.TASKWIN_WSEL_ITEM : RegField := (regField 0x059 1 0x04C 16 16 .rw 0 96).perRequester
def Reg.TASKWIN_WSEL_MODE : RegField := (regField 0x059 1 0x04C 0 2 .rw 0 96).perRequester
def Reg.TASKWIN_WEFF_RELEASE : RegField := (regField 0x059 1 0x050 0 32 .ro 0 96).perRequester
/-- The fields of the TASKWIN pages. -/
def Reg.taskwinTable : List RegField :=
  [Reg.TASKWIN_WSEL_ITEM, Reg.TASKWIN_WSEL_MODE, Reg.TASKWIN_WEFF_RELEASE]

/-! ### MTR pages, from 0x060 (R354, spec/08_metering.md) -/
def Reg.MTR_CAP_DRST : RegField := regField 0x060 1 0x004 31 1 .ro 1 126
def Reg.MTR_CAP_ICH : RegField := regField 0x060 1 0x004 8 6 .ro 0x24 126
def Reg.MTR_CAP_VCH : RegField := regField 0x060 1 0x004 0 4 .ro 0xc 126
def Reg.MTR_CTRL_CALAPPLY : RegField := regField 0x060 1 0x008 1 1 .rwl 0 0
def Reg.MTR_CTRL_TESTARM : RegField := regField 0x060 1 0x008 0 1 .rwl 0 0
def Reg.MTR_STAT_LFVALID : RegField := regField 0x060 1 0x00C 6 1 .ro 0 96
def Reg.MTR_STAT_TESTACT : RegField := regField 0x060 1 0x00C 5 1 .ro 0 96
def Reg.MTR_STAT_TESTARMED : RegField := regField 0x060 1 0x00C 4 1 .ro 0 96
def Reg.MTR_STAT_CALSTAGED : RegField := regField 0x060 1 0x00C 3 1 .ro 0 96
def Reg.MTR_STAT_ACCUNSPEC : RegField := regField 0x060 1 0x00C 2 1 .ro 0 96
def Reg.MTR_STAT_HALTED : RegField := regField 0x060 1 0x00C 1 1 .ro 0 96
def Reg.MTR_STAT_RUNNING : RegField := regField 0x060 1 0x00C 0 1 .ro 0 96
def Reg.MTR_FAULT_ACCUNSPEC : RegField := regField 0x060 1 0x010 9 1 .w1c 0 96
def Reg.MTR_FAULT_TIMESTEP : RegField := regField 0x060 1 0x010 8 1 .w1c 0 96
def Reg.MTR_FAULT_RESTFAIL : RegField := regField 0x060 1 0x010 7 1 .w1c 0 96
def Reg.MTR_FAULT_SAVEFAIL : RegField := regField 0x060 1 0x010 6 1 .w1c 0 96
def Reg.MTR_FAULT_LOSSBOUND : RegField := regField 0x060 1 0x010 5 1 .w1c 0 96
def Reg.MTR_FAULT_GAP : RegField := regField 0x060 1 0x010 4 1 .w1c 0 96
def Reg.MTR_FAULT_CALCHG : RegField := regField 0x060 1 0x010 3 1 .w1c 0 96
def Reg.MTR_FAULT_POINTREF : RegField := regField 0x060 1 0x010 2 1 .w1c 0 96
def Reg.MTR_FAULT_FREQRANGE : RegField := regField 0x060 1 0x010 1 1 .w1c 0 96
def Reg.MTR_FAULT_OVRANGE : RegField := regField 0x060 1 0x010 0 1 .w1c 0 96
def Reg.MTR_CFG_DINT : RegField := regField 0x060 1 0x040 29 3 .ro 0 63
def Reg.MTR_CFG_POINTINT : RegField := regField 0x060 1 0x040 16 6 .ro 0 63
def Reg.MTR_CFG_FNOM : RegField := regField 0x060 1 0x040 12 1 .ro 0 63
def Reg.MTR_CFG_LFCH : RegField := regField 0x060 1 0x040 0 4 .ro 0 63
def Reg.MTR_CIRLO_MASK : RegField := regField 0x060 1 0x044 0 32 .ro 0 63
def Reg.MTR_CIRHI_MASK : RegField := regField 0x060 1 0x048 0 4 .ro 0 63
def Reg.MTR_LFREQ_MHZ : RegField := regField 0x060 1 0x04C 0 17 .ro 0 96
def Reg.MTR_LCYC_COUNT : RegField := regField 0x060 1 0x050 0 32 .ro 0 96
def Reg.MTR_SAVESEQ_SEQ : RegField := regField 0x060 1 0x054 0 32 .ro 0 63
def Reg.MTR_EPOCHS_CALEP : RegField := regField 0x060 1 0x058 16 16 .ro 0 63
def Reg.MTR_EPOCHS_REGEP : RegField := regField 0x060 1 0x058 0 16 .ro 0 63
def Reg.MTR_GAPS_COUNT : RegField := regField 0x060 1 0x05C 0 32 .ro 0 96
def Reg.MTR_SAVEFAIL_COUNT : RegField := regField 0x060 1 0x060 0 32 .ro 0 96
def Reg.MTR_TSTARTLO_US : RegField := regField 0x060 1 0x064 0 32 .rw 0 96
def Reg.MTR_TSTARTHI_US : RegField := regField 0x060 1 0x068 0 32 .rw 0 96
def Reg.MTR_TSTOPLO_US : RegField := regField 0x060 1 0x06C 0 32 .rw 0 96
def Reg.MTR_TSTOPHI_US : RegField := regField 0x060 1 0x070 0 32 .rw 0 96
def Reg.MTR_OVRLO_BITS : RegField := regField 0x060 1 0x074 0 32 .rc 0 96
def Reg.MTR_OVRHI_VBITS : RegField := regField 0x060 1 0x078 16 12 .rc 0 96
def Reg.MTR_OVRHI_IBITS : RegField := regField 0x060 1 0x078 0 4 .rc 0 96
def Reg.MTR_LASTGAP_MS : RegField := regField 0x060 1 0x07C 0 32 .ro 0 96
/-- The fields of the MTR pages (part 0). -/
def Reg.mtrTable0 : List RegField :=
  [Reg.MTR_CAP_DRST, Reg.MTR_CAP_ICH, Reg.MTR_CAP_VCH, Reg.MTR_CTRL_CALAPPLY, Reg.MTR_CTRL_TESTARM, Reg.MTR_STAT_LFVALID, Reg.MTR_STAT_TESTACT, Reg.MTR_STAT_TESTARMED, Reg.MTR_STAT_CALSTAGED, Reg.MTR_STAT_ACCUNSPEC, Reg.MTR_STAT_HALTED, Reg.MTR_STAT_RUNNING, Reg.MTR_FAULT_ACCUNSPEC, Reg.MTR_FAULT_TIMESTEP, Reg.MTR_FAULT_RESTFAIL, Reg.MTR_FAULT_SAVEFAIL, Reg.MTR_FAULT_LOSSBOUND, Reg.MTR_FAULT_GAP, Reg.MTR_FAULT_CALCHG, Reg.MTR_FAULT_POINTREF, Reg.MTR_FAULT_FREQRANGE, Reg.MTR_FAULT_OVRANGE, Reg.MTR_CFG_DINT, Reg.MTR_CFG_POINTINT, Reg.MTR_CFG_FNOM, Reg.MTR_CFG_LFCH, Reg.MTR_CIRLO_MASK, Reg.MTR_CIRHI_MASK, Reg.MTR_LFREQ_MHZ, Reg.MTR_LCYC_COUNT]
/-- The fields of the MTR pages (part 1). -/
def Reg.mtrTable1 : List RegField :=
  [Reg.MTR_SAVESEQ_SEQ, Reg.MTR_EPOCHS_CALEP, Reg.MTR_EPOCHS_REGEP, Reg.MTR_GAPS_COUNT, Reg.MTR_SAVEFAIL_COUNT, Reg.MTR_TSTARTLO_US, Reg.MTR_TSTARTHI_US, Reg.MTR_TSTOPLO_US, Reg.MTR_TSTOPHI_US, Reg.MTR_OVRLO_BITS, Reg.MTR_OVRHI_VBITS, Reg.MTR_OVRHI_IBITS, Reg.MTR_LASTGAP_MS]
/-- The fields of the MTR pages. -/
def Reg.mtrTable : List RegField := Reg.mtrTable0 ++ Reg.mtrTable1

/-! ### UIO pages, from 0x070 (R627, spec/17_local_io_access_lift.md) -/
def Reg.UIO_CAP_DRST : RegField := regField 0x070 1 0x004 31 1 .ro 0 126
def Reg.UIO_CAP_BO : RegField := regField 0x070 1 0x004 8 5 .ro 8 126
def Reg.UIO_CAP_UCH : RegField := regField 0x070 1 0x004 0 5 .ro 0x18 126
def Reg.UIO_STAT_OFAULT : RegField := regField 0x070 1 0x00C 1 1 .ro 0 96
def Reg.UIO_STAT_IFAULT : RegField := regField 0x070 1 0x00C 0 1 .ro 0 96
def Reg.UIO_FAULT_BOOPEN : RegField := regField 0x070 1 0x010 5 1 .w1c 0 96
def Reg.UIO_FAULT_BOSHORT : RegField := regField 0x070 1 0x010 4 1 .w1c 0 96
def Reg.UIO_FAULT_OUTFAULT : RegField := regField 0x070 1 0x010 3 1 .w1c 0 96
def Reg.UIO_FAULT_OPENWIRE : RegField := regField 0x070 1 0x010 2 1 .w1c 0 96
def Reg.UIO_FAULT_OVRANGE : RegField := regField 0x070 1 0x010 1 1 .w1c 0 96
def Reg.UIO_UCFG_UMODE : RegField := (regField 0x070 1 0x040 28 4 .ro 0 63).rep 24 4
def Reg.UIO_UCFG_DEB : RegField := (regField 0x070 1 0x040 16 8 .ro 0 63).rep 24 4
def Reg.UIO_UCFG_UPER : RegField := (regField 0x070 1 0x040 0 14 .ro 0 63).rep 24 4
def Reg.UIO_URAW : RegField := (regField 0x070 1 0x044 0 16 .ro 0 96).rep 24 4
def Reg.UIO_UCNT : RegField := (regField 0x070 1 0x048 0 32 .ro 0 96).rep 24 4
def Reg.UIO_USTAT_LEVEL : RegField := (regField 0x070 1 0x04C 3 1 .ro 0 96).rep 24 4
def Reg.UIO_USTAT_OPEN : RegField := (regField 0x070 1 0x04C 2 1 .ro 0 96).rep 24 4
def Reg.UIO_USTAT_OVR : RegField := (regField 0x070 1 0x04C 1 1 .ro 0 96).rep 24 4
def Reg.UIO_USTAT_OUTFLT : RegField := (regField 0x070 1 0x04C 0 1 .ro 0 96).rep 24 4
def Reg.UIO_BOSTAT_OPEN : RegField := regField 0x070 1 0x200 8 8 .ro 0 96
def Reg.UIO_BOSTAT_SHORT : RegField := regField 0x070 1 0x200 0 8 .ro 0 96
def Reg.UIO_BOLVL_BITS : RegField := regField 0x070 1 0x204 0 8 .ro 0 96
def Reg.UIO_BOTRIP_COUNT : RegField := regField 0x070 1 0x208 0 32 .ro 0 96
/-- The fields of the UIO pages. -/
def Reg.uioTable : List RegField :=
  [Reg.UIO_CAP_DRST, Reg.UIO_CAP_BO, Reg.UIO_CAP_UCH, Reg.UIO_STAT_OFAULT, Reg.UIO_STAT_IFAULT, Reg.UIO_FAULT_BOOPEN, Reg.UIO_FAULT_BOSHORT, Reg.UIO_FAULT_OUTFAULT, Reg.UIO_FAULT_OPENWIRE, Reg.UIO_FAULT_OVRANGE, Reg.UIO_UCFG_UMODE, Reg.UIO_UCFG_DEB, Reg.UIO_UCFG_UPER, Reg.UIO_URAW, Reg.UIO_UCNT, Reg.UIO_USTAT_LEVEL, Reg.UIO_USTAT_OPEN, Reg.UIO_USTAT_OVR, Reg.UIO_USTAT_OUTFLT, Reg.UIO_BOSTAT_OPEN, Reg.UIO_BOSTAT_SHORT, Reg.UIO_BOLVL_BITS, Reg.UIO_BOTRIP_COUNT]

/-! ### ACC pages, from 0x078 (R628, spec/17_local_io_access_lift.md) -/
def Reg.ACC_CAP_DRST : RegField := regField 0x078 1 0x004 31 1 .ro 0 126
def Reg.ACC_CAP_DOORS : RegField := regField 0x078 1 0x004 8 6 .ro 0x20 126
def Reg.ACC_CAP_READERS : RegField := regField 0x078 1 0x004 0 6 .ro 0x20 126
def Reg.ACC_STAT_RUNNING : RegField := regField 0x078 1 0x00C 0 1 .ro 0 96
def Reg.ACC_FAULT_EVOVF : RegField := regField 0x078 1 0x010 3 1 .w1c 0 96
def Reg.ACC_FAULT_SCFAIL : RegField := regField 0x078 1 0x010 2 1 .w1c 0 96
def Reg.ACC_FAULT_OFFLINE : RegField := regField 0x078 1 0x010 1 1 .w1c 0 96
def Reg.ACC_FAULT_CACHEFULL : RegField := regField 0x078 1 0x010 0 1 .w1c 0 96
def Reg.ACC_INSTALL_BITS : RegField := regField 0x078 1 0x900 0 32 .rwl 0 62
def Reg.ACC_RONLINE_BITS : RegField := regField 0x078 1 0x904 0 32 .ro 0 96
def Reg.ACC_RSECURE_BITS : RegField := regField 0x078 1 0x908 0 32 .ro 0 96
def Reg.ACC_CCOUNT_COUNT : RegField := regField 0x078 1 0x90C 0 18 .ro 0 63
def Reg.ACC_EVHEAD_SLOT : RegField := regField 0x078 1 0x910 0 12 .ro 0 96
def Reg.ACC_EVREAD_SLOT : RegField := regField 0x078 1 0x914 0 12 .rw 0 96
def Reg.ACC_GRANTS_COUNT : RegField := regField 0x078 1 0x918 0 32 .ro 0 96
def Reg.ACC_DENIES_COUNT : RegField := regField 0x078 1 0x91C 0 32 .ro 0 96
def Reg.ACC_DECMAX_US : RegField := regField 0x078 1 0x920 0 32 .rc 0 96
def Reg.ACC_SCERR_COUNT : RegField := regField 0x078 1 0x924 0 32 .ro 0 96
def Reg.ACC_BADREP_COUNT : RegField := regField 0x078 1 0x928 0 32 .ro 0 96
/-- The fields of the ACC pages. -/
def Reg.accTable : List RegField :=
  [Reg.ACC_CAP_DRST, Reg.ACC_CAP_DOORS, Reg.ACC_CAP_READERS, Reg.ACC_STAT_RUNNING, Reg.ACC_FAULT_EVOVF, Reg.ACC_FAULT_SCFAIL, Reg.ACC_FAULT_OFFLINE, Reg.ACC_FAULT_CACHEFULL, Reg.ACC_INSTALL_BITS, Reg.ACC_RONLINE_BITS, Reg.ACC_RSECURE_BITS, Reg.ACC_CCOUNT_COUNT, Reg.ACC_EVHEAD_SLOT, Reg.ACC_EVREAD_SLOT, Reg.ACC_GRANTS_COUNT, Reg.ACC_DENIES_COUNT, Reg.ACC_DECMAX_US, Reg.ACC_SCERR_COUNT, Reg.ACC_BADREP_COUNT]

/-! ### LIFT pages, from 0x079 (R629, spec/17_local_io_access_lift.md) -/
def Reg.LIFT_CAP_DRST : RegField := regField 0x079 1 0x004 31 1 .ro 0 126
def Reg.LIFT_CAP_CARS : RegField := regField 0x079 1 0x004 0 5 .ro 0x10 126
def Reg.LIFT_STAT_LINKUP : RegField := regField 0x079 1 0x00C 0 1 .ro 0 96
def Reg.LIFT_FAULT_CALLTO : RegField := regField 0x079 1 0x010 3 1 .w1c 0 96
def Reg.LIFT_FAULT_REFUSED : RegField := regField 0x079 1 0x010 2 1 .w1c 0 96
def Reg.LIFT_FAULT_LINKLOST : RegField := regField 0x079 1 0x010 1 1 .w1c 0 96
def Reg.LIFT_FAULT_BADMSG : RegField := regField 0x079 1 0x010 0 1 .w1c 0 96
def Reg.LIFT_CFG_PORT : RegField := regField 0x079 1 0x040 24 5 .ro 0 63
def Reg.LIFT_CFG_MINFL : RegField := regField 0x079 1 0x040 16 8 .ro 0 63
def Reg.LIFT_CFG_MAXFL : RegField := regField 0x079 1 0x040 8 8 .ro 0 63
def Reg.LIFT_CFG_NCARS : RegField := regField 0x079 1 0x040 0 5 .ro 0 63
def Reg.LIFT_CALLS_COUNT : RegField := regField 0x079 1 0x044 0 32 .ro 0 96
def Reg.LIFT_CALLFAIL_COUNT : RegField := regField 0x079 1 0x048 0 32 .ro 0 96
def Reg.LIFT_BADMSG_COUNT : RegField := regField 0x079 1 0x04C 0 32 .ro 0 96
def Reg.LIFT_CALLREQ_ACC : RegField := (regField 0x079 1 0x050 16 1 .rw 0 96).perRequester
def Reg.LIFT_CALLREQ_FROM : RegField := (regField 0x079 1 0x050 8 8 .rw 0 96).perRequester
def Reg.LIFT_CALLREQ_TO : RegField := (regField 0x079 1 0x050 0 8 .rw 0 96).perRequester
def Reg.LIFT_CALLGO_GO : RegField := (regField 0x079 1 0x054 0 1 .w1s 0 0).perRequester
def Reg.LIFT_CALLRES_BUSY : RegField := (regField 0x079 1 0x058 31 1 .ro 0 96).perRequester
def Reg.LIFT_CALLRES_DONE : RegField := (regField 0x079 1 0x058 30 1 .ro 0 96).perRequester
def Reg.LIFT_CALLRES_RESULT : RegField := (regField 0x079 1 0x058 24 4 .ro 0 96).perRequester
def Reg.LIFT_CALLRES_CAR : RegField := (regField 0x079 1 0x058 16 4 .ro 0 96).perRequester
def Reg.LIFT_CALLRES_ETA : RegField := (regField 0x079 1 0x058 0 16 .ro 0 96).perRequester
def Reg.LIFT_CAR_FLOOR : RegField := (regField 0x079 1 0x100 24 8 .ro 0 96).rep 16 1
def Reg.LIFT_CAR_DIR : RegField := (regField 0x079 1 0x100 16 2 .ro 0 96).rep 16 1
def Reg.LIFT_CAR_DOOR : RegField := (regField 0x079 1 0x100 12 2 .ro 0 96).rep 16 1
def Reg.LIFT_CAR_LMODE : RegField := (regField 0x079 1 0x100 8 2 .ro 0 96).rep 16 1
def Reg.LIFT_CAR_VALID : RegField := (regField 0x079 1 0x100 0 1 .ro 0 96).rep 16 1
/-- The fields of the LIFT pages. -/
def Reg.liftTable : List RegField :=
  [Reg.LIFT_CAP_DRST, Reg.LIFT_CAP_CARS, Reg.LIFT_STAT_LINKUP, Reg.LIFT_FAULT_CALLTO, Reg.LIFT_FAULT_REFUSED, Reg.LIFT_FAULT_LINKLOST, Reg.LIFT_FAULT_BADMSG, Reg.LIFT_CFG_PORT, Reg.LIFT_CFG_MINFL, Reg.LIFT_CFG_MAXFL, Reg.LIFT_CFG_NCARS, Reg.LIFT_CALLS_COUNT, Reg.LIFT_CALLFAIL_COUNT, Reg.LIFT_BADMSG_COUNT, Reg.LIFT_CALLREQ_ACC, Reg.LIFT_CALLREQ_FROM, Reg.LIFT_CALLREQ_TO, Reg.LIFT_CALLGO_GO, Reg.LIFT_CALLRES_BUSY, Reg.LIFT_CALLRES_DONE, Reg.LIFT_CALLRES_RESULT, Reg.LIFT_CALLRES_CAR, Reg.LIFT_CALLRES_ETA, Reg.LIFT_CAR_FLOOR, Reg.LIFT_CAR_DIR, Reg.LIFT_CAR_DOOR, Reg.LIFT_CAR_LMODE, Reg.LIFT_CAR_VALID]

/-! ### VIA pages, from 0x180 (R425, spec/10_viaduct.md) -/
def Reg.VIA_CAP_DRST : RegField := regField 0x180 1 0x004 31 1 .ro 1 126
def Reg.VIA_CTRL_UNENROLL : RegField := regField 0x180 1 0x008 2 1 .rwl 0 0
def Reg.VIA_CTRL_ENROLL : RegField := regField 0x180 1 0x008 1 1 .rwl 0 0
def Reg.VIA_CTRL_KSTEP : RegField := regField 0x180 1 0x008 0 1 .rwl 0 0
def Reg.VIA_STAT_OVERLAP : RegField := regField 0x180 1 0x00C 3 1 .ro 0 32
def Reg.VIA_STAT_ISOL : RegField := regField 0x180 1 0x00C 2 1 .ro 0 32
def Reg.VIA_STAT_ROLE : RegField := regField 0x180 1 0x00C 0 2 .ro 0 32
def Reg.VIA_FAULT_BADMSG : RegField := regField 0x180 1 0x010 5 1 .w1c 0 96
def Reg.VIA_FAULT_SUBREJ : RegField := regField 0x180 1 0x010 4 1 .w1c 0 96
def Reg.VIA_FAULT_OVERLAP : RegField := regField 0x180 1 0x010 3 1 .w1c 0 96
def Reg.VIA_FAULT_UNENR : RegField := regField 0x180 1 0x010 2 1 .w1c 0 96
def Reg.VIA_FAULT_KLOST : RegField := regField 0x180 1 0x010 1 1 .w1c 0 96
def Reg.VIA_FAULT_PEERLOST : RegField := regField 0x180 1 0x010 0 1 .w1c 0 96
def Reg.VIA_IDENT_VIAID : RegField := regField 0x180 1 0x040 16 16 .ro 0 63
def Reg.VIA_IDENT_RANK : RegField := regField 0x180 1 0x040 8 8 .ro 0 63
def Reg.VIA_IDENT_SLOT : RegField := regField 0x180 1 0x040 0 6 .ro 0 63
def Reg.VIA_KVIEW_KSLOT : RegField := regField 0x180 1 0x044 0 8 .ro 0xff 32
def Reg.VIA_KEPOCHLO_EPOCH : RegField := regField 0x180 1 0x048 0 32 .ro 0 63
def Reg.VIA_KEPOCHHI_EPOCH : RegField := regField 0x180 1 0x04C 0 32 .ro 0 63
def Reg.VIA_PEERUPLO_BITS : RegField := regField 0x180 1 0x050 0 32 .ro 0 32
def Reg.VIA_PEERUPHI_BITS : RegField := regField 0x180 1 0x054 0 32 .ro 0 32
def Reg.VIA_ENRLO_BITS : RegField := regField 0x180 1 0x058 0 32 .ro 0 63
def Reg.VIA_ENRHI_BITS : RegField := regField 0x180 1 0x05C 0 32 .ro 0 63
def Reg.VIA_UNENRLO_BITS : RegField := regField 0x180 1 0x060 0 32 .ro 0 32
def Reg.VIA_UNENRHI_BITS : RegField := regField 0x180 1 0x064 0 32 .ro 0 32
def Reg.VIA_PUBTX_COUNT : RegField := regField 0x180 1 0x068 0 32 .ro 0 96
def Reg.VIA_PUBRX_COUNT : RegField := regField 0x180 1 0x06C 0 32 .ro 0 96
def Reg.VIA_HBMISS_COUNT : RegField := regField 0x180 1 0x070 0 32 .ro 0 96
def Reg.VIA_LATMAX_US : RegField := regField 0x180 1 0x074 0 32 .rc 0 96
def Reg.VIA_BADMSG_COUNT : RegField := regField 0x180 1 0x078 0 32 .ro 0 96
def Reg.VIA_ENRSLOT_MEMB : RegField := regField 0x180 1 0x07C 6 1 .rw 0 96
def Reg.VIA_ENRSLOT_SLOT : RegField := regField 0x180 1 0x07C 0 6 .rw 0 96
def Reg.VIA_ENRID : RegField := (regField 0x180 1 0x080 0 32 .rw 0 96).rep 8 1
def Reg.VIA_SUBCNT_COUNT : RegField := regField 0x180 1 0x0A0 0 18 .ro 0 32
def Reg.VIA_SUBREJ_COUNT : RegField := regField 0x180 1 0x0A4 0 32 .ro 0 96
def Reg.VIA_DUPDROP_COUNT : RegField := regField 0x180 1 0x0A8 0 32 .ro 0 96
/-- The fields of the VIA pages (part 0). -/
def Reg.viaTable0 : List RegField :=
  [Reg.VIA_CAP_DRST, Reg.VIA_CTRL_UNENROLL, Reg.VIA_CTRL_ENROLL, Reg.VIA_CTRL_KSTEP, Reg.VIA_STAT_OVERLAP, Reg.VIA_STAT_ISOL, Reg.VIA_STAT_ROLE, Reg.VIA_FAULT_BADMSG, Reg.VIA_FAULT_SUBREJ, Reg.VIA_FAULT_OVERLAP, Reg.VIA_FAULT_UNENR, Reg.VIA_FAULT_KLOST, Reg.VIA_FAULT_PEERLOST, Reg.VIA_IDENT_VIAID, Reg.VIA_IDENT_RANK, Reg.VIA_IDENT_SLOT, Reg.VIA_KVIEW_KSLOT, Reg.VIA_KEPOCHLO_EPOCH, Reg.VIA_KEPOCHHI_EPOCH, Reg.VIA_PEERUPLO_BITS, Reg.VIA_PEERUPHI_BITS, Reg.VIA_ENRLO_BITS, Reg.VIA_ENRHI_BITS, Reg.VIA_UNENRLO_BITS, Reg.VIA_UNENRHI_BITS, Reg.VIA_PUBTX_COUNT, Reg.VIA_PUBRX_COUNT, Reg.VIA_HBMISS_COUNT, Reg.VIA_LATMAX_US, Reg.VIA_BADMSG_COUNT]
/-- The fields of the VIA pages (part 1). -/
def Reg.viaTable1 : List RegField :=
  [Reg.VIA_ENRSLOT_MEMB, Reg.VIA_ENRSLOT_SLOT, Reg.VIA_ENRID, Reg.VIA_SUBCNT_COUNT, Reg.VIA_SUBREJ_COUNT, Reg.VIA_DUPDROP_COUNT]
/-- The fields of the VIA pages. -/
def Reg.viaTable : List RegField := Reg.viaTable0 ++ Reg.viaTable1

/-! ### PAIR pages, from 0x181 (R426, spec/10_viaduct.md) -/
def Reg.PAIR_CAP_DRST : RegField := regField 0x181 1 0x004 31 1 .ro 0 126
def Reg.PAIR_CTRL_RELEASE : RegField := regField 0x181 1 0x008 0 1 .rwl 0 0
def Reg.PAIR_STAT_RESYNC : RegField := regField 0x181 1 0x00C 6 1 .ro 0 32
def Reg.PAIR_STAT_PLINK : RegField := regField 0x181 1 0x00C 5 1 .ro 0 32
def Reg.PAIR_STAT_ABUT : RegField := regField 0x181 1 0x00C 4 1 .ro 0 32
def Reg.PAIR_STAT_ELIG : RegField := regField 0x181 1 0x00C 3 1 .ro 0 32
def Reg.PAIR_STAT_LEASE : RegField := regField 0x181 1 0x00C 2 1 .ro 0 96
def Reg.PAIR_STAT_ROLE : RegField := regField 0x181 1 0x00C 0 2 .ro 0 96
def Reg.PAIR_FAULT_CKFAIL : RegField := regField 0x181 1 0x010 5 1 .w1c 0 96
def Reg.PAIR_FAULT_DENIED : RegField := regField 0x181 1 0x010 4 1 .w1c 0 96
def Reg.PAIR_FAULT_TAKEOVER : RegField := regField 0x181 1 0x010 3 1 .w1c 0 96
def Reg.PAIR_FAULT_PLINKLOST : RegField := regField 0x181 1 0x010 2 1 .w1c 0 96
def Reg.PAIR_FAULT_ABUTLOST : RegField := regField 0x181 1 0x010 1 1 .w1c 0 96
def Reg.PAIR_FAULT_LEASELOST : RegField := regField 0x181 1 0x010 0 1 .w1c 0 96
def Reg.PAIR_CFG_CKINT : RegField := regField 0x181 1 0x040 16 16 .ro 0 63
def Reg.PAIR_CFG_ABSLOT : RegField := regField 0x181 1 0x040 8 6 .ro 0 63
def Reg.PAIR_CFG_PREFER : RegField := regField 0x181 1 0x040 1 1 .ro 0 63
def Reg.PAIR_CFG_MEMB : RegField := regField 0x181 1 0x040 0 1 .ro 0 63
def Reg.PAIR_PEPOCH_EPOCH : RegField := regField 0x181 1 0x044 0 32 .ro 0 63
def Reg.PAIR_LEFT_US : RegField := regField 0x181 1 0x048 0 32 .ro 0 96
def Reg.PAIR_CKSEQ_SEQ : RegField := regField 0x181 1 0x04C 0 32 .ro 0 63
def Reg.PAIR_CKTICK_TICK : RegField := regField 0x181 1 0x050 0 32 .ro 0 63
def Reg.PAIR_CKBYTES_COUNT : RegField := regField 0x181 1 0x054 0 32 .ro 0 96
def Reg.PAIR_CKLAG_MS : RegField := regField 0x181 1 0x058 0 32 .ro 0 32
def Reg.PAIR_RENEWS_COUNT : RegField := regField 0x181 1 0x05C 0 32 .ro 0 96
def Reg.PAIR_TAKEOVERS_COUNT : RegField := regField 0x181 1 0x060 0 32 .ro 0 63
def Reg.PAIR_LASTTKO_MS : RegField := regField 0x181 1 0x064 0 32 .ro 0 96
/-- The fields of the PAIR pages. -/
def Reg.pairTable : List RegField :=
  [Reg.PAIR_CAP_DRST, Reg.PAIR_CTRL_RELEASE, Reg.PAIR_STAT_RESYNC, Reg.PAIR_STAT_PLINK, Reg.PAIR_STAT_ABUT, Reg.PAIR_STAT_ELIG, Reg.PAIR_STAT_LEASE, Reg.PAIR_STAT_ROLE, Reg.PAIR_FAULT_CKFAIL, Reg.PAIR_FAULT_DENIED, Reg.PAIR_FAULT_TAKEOVER, Reg.PAIR_FAULT_PLINKLOST, Reg.PAIR_FAULT_ABUTLOST, Reg.PAIR_FAULT_LEASELOST, Reg.PAIR_CFG_CKINT, Reg.PAIR_CFG_ABSLOT, Reg.PAIR_CFG_PREFER, Reg.PAIR_CFG_MEMB, Reg.PAIR_PEPOCH_EPOCH, Reg.PAIR_LEFT_US, Reg.PAIR_CKSEQ_SEQ, Reg.PAIR_CKTICK_TICK, Reg.PAIR_CKBYTES_COUNT, Reg.PAIR_CKLAG_MS, Reg.PAIR_RENEWS_COUNT, Reg.PAIR_TAKEOVERS_COUNT, Reg.PAIR_LASTTKO_MS]

/-! ### UPL pages, from 0x182 (R427, spec/10_viaduct.md) -/
def Reg.UPL_CAP_DRST : RegField := regField 0x182 1 0x004 31 1 .ro 0 126
def Reg.UPL_STAT_PTPST1 : RegField := regField 0x182 1 0x00C 8 3 .ro 0 96
def Reg.UPL_STAT_PTPST0 : RegField := regField 0x182 1 0x00C 4 3 .ro 0 96
def Reg.UPL_STAT_LINK1 : RegField := regField 0x182 1 0x00C 1 1 .ro 0 96
def Reg.UPL_STAT_LINK0 : RegField := regField 0x182 1 0x00C 0 1 .ro 0 96
def Reg.UPL_FAULT_GMCHG : RegField := regField 0x182 1 0x010 3 1 .w1c 0 96
def Reg.UPL_FAULT_PTPFAULT : RegField := regField 0x182 1 0x010 2 1 .w1c 0 96
def Reg.UPL_FAULT_LINKDN1 : RegField := regField 0x182 1 0x010 1 1 .w1c 0 96
def Reg.UPL_FAULT_LINKDN0 : RegField := regField 0x182 1 0x010 0 1 .w1c 0 96
def Reg.UPL_CFG_ROLE : RegField := regField 0x182 1 0x040 25 2 .ro 0 63
def Reg.UPL_CFG_SCOPE : RegField := regField 0x182 1 0x040 24 1 .ro 0 63
def Reg.UPL_CFG_PRIO2 : RegField := regField 0x182 1 0x040 16 8 .ro 0 63
def Reg.UPL_CFG_PRIO1 : RegField := regField 0x182 1 0x040 8 8 .ro 0 63
def Reg.UPL_CFG_PTPDOM : RegField := regField 0x182 1 0x040 0 8 .ro 0 63
def Reg.UPL_GMIDLO_ID : RegField := regField 0x182 1 0x044 0 32 .ro 0 96
def Reg.UPL_GMIDHI_ID : RegField := regField 0x182 1 0x048 0 32 .ro 0 96
def Reg.UPL_MDELAY_NS : RegField := regField 0x182 1 0x04C 0 32 .ro 0 96
def Reg.UPL_PCFG_RINGBLK : RegField := (regField 0x182 1 0x080 29 1 .ro 0 96).rep 2 16
def Reg.UPL_PCFG_FWD : RegField := (regField 0x182 1 0x080 28 1 .ro 0 63).rep 2 16
def Reg.UPL_PCFG_VID : RegField := (regField 0x182 1 0x080 16 12 .ro 0 63).rep 2 16
def Reg.UPL_PCFG_MEDIA : RegField := (regField 0x182 1 0x080 0 3 .ro 0 63).rep 2 16
def Reg.UPL_PSPD_SPEED : RegField := (regField 0x182 1 0x084 0 3 .ro 0 96).rep 2 16
def Reg.UPL_PRXOK_COUNT : RegField := (regField 0x182 1 0x088 0 32 .ro 0 96).rep 2 16
def Reg.UPL_PTXOK_COUNT : RegField := (regField 0x182 1 0x08C 0 32 .ro 0 96).rep 2 16
def Reg.UPL_PRXERR_COUNT : RegField := (regField 0x182 1 0x090 0 32 .ro 0 96).rep 2 16
def Reg.UPL_PDROP_COUNT : RegField := (regField 0x182 1 0x094 0 32 .ro 0 96).rep 2 16
def Reg.UPL_PLNKDN_COUNT : RegField := (regField 0x182 1 0x098 0 32 .ro 0 96).rep 2 16
/-- The fields of the UPL pages. -/
def Reg.uplTable : List RegField :=
  [Reg.UPL_CAP_DRST, Reg.UPL_STAT_PTPST1, Reg.UPL_STAT_PTPST0, Reg.UPL_STAT_LINK1, Reg.UPL_STAT_LINK0, Reg.UPL_FAULT_GMCHG, Reg.UPL_FAULT_PTPFAULT, Reg.UPL_FAULT_LINKDN1, Reg.UPL_FAULT_LINKDN0, Reg.UPL_CFG_ROLE, Reg.UPL_CFG_SCOPE, Reg.UPL_CFG_PRIO2, Reg.UPL_CFG_PRIO1, Reg.UPL_CFG_PTPDOM, Reg.UPL_GMIDLO_ID, Reg.UPL_GMIDHI_ID, Reg.UPL_MDELAY_NS, Reg.UPL_PCFG_RINGBLK, Reg.UPL_PCFG_FWD, Reg.UPL_PCFG_VID, Reg.UPL_PCFG_MEDIA, Reg.UPL_PSPD_SPEED, Reg.UPL_PRXOK_COUNT, Reg.UPL_PTXOK_COUNT, Reg.UPL_PRXERR_COUNT, Reg.UPL_PDROP_COUNT, Reg.UPL_PLNKDN_COUNT]

/-! ### BSC pages, from 0x184 (R428, spec/10_viaduct.md) -/
def Reg.BSC_CAP_DRST : RegField := regField 0x184 1 0x004 31 1 .ro 1 126
def Reg.BSC_STAT_HUB : RegField := regField 0x184 1 0x00C 0 2 .ro 0 32
def Reg.BSC_FAULT_RATE : RegField := regField 0x184 1 0x010 3 1 .w1c 0 96
def Reg.BSC_FAULT_TLSFAIL : RegField := regField 0x184 1 0x010 2 1 .w1c 0 96
def Reg.BSC_FAULT_FAILOVER : RegField := regField 0x184 1 0x010 1 1 .w1c 0 96
def Reg.BSC_FAULT_HUBLOST : RegField := regField 0x184 1 0x010 0 1 .w1c 0 96
def Reg.BSC_DEVINST_INST : RegField := regField 0x184 1 0x040 0 22 .ro 0 63
def Reg.BSC_NOBJ_COUNT : RegField := regField 0x184 1 0x044 0 17 .ro 0 63
def Reg.BSC_VMACLO_ADDR : RegField := regField 0x184 1 0x048 0 32 .ro 0 63
def Reg.BSC_VMACHI_ADDR : RegField := regField 0x184 1 0x04C 0 16 .ro 0 63
def Reg.BSC_REQS_COUNT : RegField := regField 0x184 1 0x050 0 32 .ro 0 96
def Reg.BSC_ERRS_COUNT : RegField := regField 0x184 1 0x054 0 32 .ro 0 96
def Reg.BSC_RATEDROP_COUNT : RegField := regField 0x184 1 0x058 0 32 .ro 0 96
def Reg.BSC_CONNS_COUNT : RegField := regField 0x184 1 0x05C 0 32 .ro 0 96
/-- The fields of the BSC pages. -/
def Reg.bscTable : List RegField :=
  [Reg.BSC_CAP_DRST, Reg.BSC_STAT_HUB, Reg.BSC_FAULT_RATE, Reg.BSC_FAULT_TLSFAIL, Reg.BSC_FAULT_FAILOVER, Reg.BSC_FAULT_HUBLOST, Reg.BSC_DEVINST_INST, Reg.BSC_NOBJ_COUNT, Reg.BSC_VMACLO_ADDR, Reg.BSC_VMACHI_ADDR, Reg.BSC_REQS_COUNT, Reg.BSC_ERRS_COUNT, Reg.BSC_RATEDROP_COUNT, Reg.BSC_CONNS_COUNT]

end Sys2Proof.Machine
end

