-- ==== Sys2Proof/Machine/RegMapPorts.lean ====
section
/-! DEFINITION. The register map, third part: the 32 segment ports. Each definition is one field of the specification's register tables: `regField page pages offset lowBit width
access reset kept`, with its repeats (count, stride in words) and requester copies; kept sums P 1, B 2, W 4, S 8, D 16, F 32, T 64. -/

namespace Sys2Proof.Machine

/-! ### SEG pages, from 0x100 (R195, spec/04_segment_ports.md) -/
def Reg.SEG_CAP_DRST : RegField := regField 0x100 32 0x004 31 1 .ro 1 126
def Reg.SEG_CAP_PERSCAP : RegField := regField 0x100 32 0x004 0 3 .ro 7 126
def Reg.SEG_CTRL_FOFF : RegField := regField 0x100 32 0x008 5 1 .rw 0 96
def Reg.SEG_CTRL_FCLR : RegField := regField 0x100 32 0x008 4 1 .w1s 0 0
def Reg.SEG_CTRL_RESTART : RegField := regField 0x100 32 0x008 3 1 .w1s 0 0
def Reg.SEG_CTRL_SVYREQ : RegField := regField 0x100 32 0x008 2 1 .w1s 0 0
def Reg.SEG_CTRL_EN : RegField := regField 0x100 32 0x008 0 1 .rw 0 96
def Reg.SEG_STAT_SVYQUEUED : RegField := regField 0x100 32 0x00C 10 1 .ro 0 96
def Reg.SEG_STAT_SVYBUSY : RegField := regField 0x100 32 0x00C 9 1 .ro 0 96
def Reg.SEG_STAT_SVYVALID : RegField := regField 0x100 32 0x00C 8 1 .ro 0 63
def Reg.SEG_STAT_FSTATE : RegField := regField 0x100 32 0x00C 5 3 .ro 0 32
def Reg.SEG_STAT_PERS : RegField := regField 0x100 32 0x00C 3 2 .ro 0 63
def Reg.SEG_STAT_PSTATE : RegField := regField 0x100 32 0x00C 0 3 .ro 0 32
def Reg.SEG_FAULT_SVYABORT : RegField := regField 0x100 32 0x010 14 1 .w1c 0 96
def Reg.SEG_FAULT_CLASSDENY : RegField := regField 0x100 32 0x010 13 1 .w1c 0 96
def Reg.SEG_FAULT_PDLRANGE : RegField := regField 0x100 32 0x010 12 1 .w1c 0 96
def Reg.SEG_FAULT_FCLIP : RegField := regField 0x100 32 0x010 11 1 .w1c 0 96
def Reg.SEG_FAULT_LANEDROP : RegField := regField 0x100 32 0x010 10 1 .w1c 0 96
def Reg.SEG_FAULT_NOJOIN : RegField := regField 0x100 32 0x010 9 1 .w1c 0 96
def Reg.SEG_FAULT_NODELOST : RegField := regField 0x100 32 0x010 8 1 .w1c 0 96
def Reg.SEG_FAULT_FTHERM : RegField := regField 0x100 32 0x010 7 1 .w1c 0 96
def Reg.SEG_FAULT_FSHED : RegField := regField 0x100 32 0x010 6 1 .w1c 0 96
def Reg.SEG_FAULT_FLATCH : RegField := regField 0x100 32 0x010 5 1 .w1c 0 96
def Reg.SEG_FAULT_FTRIP : RegField := regField 0x100 32 0x010 4 1 .w1c 0 96
def Reg.SEG_FAULT_FOREIGNV : RegField := regField 0x100 32 0x010 3 1 .w1c 0 96
def Reg.SEG_FAULT_SVYFAIL : RegField := regField 0x100 32 0x010 2 1 .w1c 0 96
def Reg.SEG_FAULT_SVYREJ : RegField := regField 0x100 32 0x010 1 1 .w1c 0 96
def Reg.SEG_FAULT_PORTFAIL : RegField := regField 0x100 32 0x010 0 1 .w1c 0 96
def Reg.SEG_PCFG_JOINTO : RegField := regField 0x100 32 0x040 24 4 .ro 0 63
def Reg.SEG_PCFG_BMISS : RegField := regField 0x100 32 0x040 16 4 .ro 0 63
def Reg.SEG_PCFG_BINT : RegField := regField 0x100 32 0x040 8 7 .ro 0 63
def Reg.SEG_PCFG_PERS : RegField := regField 0x100 32 0x040 0 2 .ro 0 63
def Reg.SEG_NEXPLO_BITS : RegField := regField 0x100 32 0x044 0 32 .ro 0 63
def Reg.SEG_NEXPHI_BITS : RegField := regField 0x100 32 0x048 0 32 .ro 0 63
def Reg.SEG_NUPLO_BITS : RegField := regField 0x100 32 0x04C 0 32 .ro 0 96
def Reg.SEG_NUPHI_BITS : RegField := regField 0x100 32 0x050 0 32 .ro 0 96
def Reg.SEG_POOS_OOS : RegField := regField 0x100 32 0x054 0 1 .rw 0 126
def Reg.SEG_NOOSLO_BITS : RegField := regField 0x100 32 0x058 0 32 .rw 0 126
def Reg.SEG_NOOSHI_BITS : RegField := regField 0x100 32 0x05C 0 32 .rw 0 126
def Reg.SEG_CFGEP_EPOCH : RegField := regField 0x100 32 0x060 0 16 .ro 0 63
def Reg.SEG_BSEQ_LAST : RegField := regField 0x100 32 0x064 0 16 .ro 0 96
def Reg.SEG_BTX_COUNT : RegField := regField 0x100 32 0x068 0 32 .ro 0 96
def Reg.SEG_NLOST_COUNT : RegField := regField 0x100 32 0x06C 0 32 .ro 0 96
def Reg.SEG_LANEDROP_COUNT : RegField := regField 0x100 32 0x070 0 32 .ro 0 96
def Reg.SEG_JOINS_COUNT : RegField := regField 0x100 32 0x074 0 32 .ro 0 96
def Reg.SEG_FCFG_SHEDPRI : RegField := regField 0x100 32 0x080 24 8 .ro 0 63
def Reg.SEG_FCFG_FMODE : RegField := regField 0x100 32 0x080 16 2 .ro 0 63
def Reg.SEG_FCFG_FEFF : RegField := regField 0x100 32 0x080 8 7 .ro 0 96
def Reg.SEG_FCFG_FLIM : RegField := regField 0x100 32 0x080 0 7 .rwl 0 96
def Reg.SEG_FMEAS_FVOUT : RegField := regField 0x100 32 0x084 16 16 .ro 0 96
def Reg.SEG_FMEAS_FCUR : RegField := regField 0x100 32 0x084 0 16 .ro 0 96
def Reg.SEG_FCEIL_TRIPMAX : RegField := regField 0x100 32 0x088 16 4 .ro 0 63
def Reg.SEG_FCEIL_BOMAX : RegField := regField 0x100 32 0x088 8 8 .ro 0 63
def Reg.SEG_FCEIL_CEIL : RegField := regField 0x100 32 0x088 0 7 .ro 0 63
def Reg.SEG_FTRIPST_BOLEFT : RegField := regField 0x100 32 0x08C 16 16 .ro 0 96
def Reg.SEG_FTRIPST_CONSEC : RegField := regField 0x100 32 0x08C 0 4 .ro 0 96
def Reg.SEG_FTRIPS_COUNT : RegField := regField 0x100 32 0x090 0 32 .ro 0 96
def Reg.SEG_FSHEDS_COUNT : RegField := regField 0x100 32 0x094 0 32 .ro 0 96
def Reg.SEG_PDL_CVALID : RegField := regField 0x100 32 0x098 4 1 .ro 0 96
def Reg.SEG_PDL_CLASS : RegField := regField 0x100 32 0x098 0 4 .ro 0 96
def Reg.SEG_FSHEDI_MA : RegField := regField 0x100 32 0x09C 0 16 .ro 0 96
def Reg.SEG_GCUR_MA : RegField := regField 0x100 32 0x0A0 0 16 .ro 0 96
def Reg.SEG_MCUR_MA : RegField := regField 0x100 32 0x0A4 0 16 .ro 0 96
def Reg.SEG_SVYVF_VF : RegField := regField 0x100 32 0x0C0 0 10 .rw 0x294 96
def Reg.SEG_SVYTIME_SEC : RegField := regField 0x100 32 0x0C4 0 32 .ro 0 63
def Reg.SEG_SVYRES_NFLT : RegField := regField 0x100 32 0x0C8 24 8 .ro 0 63
def Reg.SEG_SVYRES_RECS485 : RegField := regField 0x100 32 0x0C8 20 4 .ro 0 63
def Reg.SEG_SVYRES_ESTIL : RegField := regField 0x100 32 0x0C8 16 1 .ro 0 63
def Reg.SEG_SVYRES_FLTCODE : RegField := regField 0x100 32 0x0C8 12 4 .ro 0 63
def Reg.SEG_SVYRES_RECNET : RegField := regField 0x100 32 0x0C8 8 4 .ro 0 63
def Reg.SEG_SVYRES_GRADE : RegField := regField 0x100 32 0x0C8 0 3 .ro 0 63
def Reg.SEG_SVYLEN_HALFM : RegField := regField 0x100 32 0x0CC 0 16 .ro 0 63
def Reg.SEG_SVYZ_GMAX : RegField := regField 0x100 32 0x0D0 16 10 .ro 0 63
def Reg.SEG_SVYZ_Z : RegField := regField 0x100 32 0x0D0 0 16 .ro 0 63
def Reg.SEG_SVYIL_IL4 : RegField := regField 0x100 32 0x0D4 16 16 .ro 0 63
def Reg.SEG_SVYIL_IL1 : RegField := regField 0x100 32 0x0D4 0 16 .ro 0 63
def Reg.SEG_SVYIL10_IL10 : RegField := regField 0x100 32 0x0D8 0 16 .ro 0 63
def Reg.SEG_SVYR_RINS : RegField := regField 0x100 32 0x0DC 16 16 .ro 0 63
def Reg.SEG_SVYR_RLOOP : RegField := regField 0x100 32 0x0DC 0 16 .ro 0 63
def Reg.SEG_SVYN_NPK : RegField := regField 0x100 32 0x0E0 16 16 .ro 0 63
def Reg.SEG_SVYN_NRMS : RegField := regField 0x100 32 0x0E0 0 16 .ro 0 63
def Reg.SEG_SVYDC_VDC : RegField := regField 0x100 32 0x0E4 0 16 .ro 0 63
def Reg.SEG_FLT_MAG : RegField := (regField 0x100 32 0x100 24 8 .ro 0 63).rep 16 1
def Reg.SEG_FLT_KIND : RegField := (regField 0x100 32 0x100 16 4 .ro 0 63).rep 16 1
def Reg.SEG_FLT_DIST : RegField := (regField 0x100 32 0x100 0 16 .ro 0 63).rep 16 1
/-- The fields of the SEG pages (part 0). -/
def Reg.segTable0 : List RegField :=
  [Reg.SEG_CAP_DRST, Reg.SEG_CAP_PERSCAP, Reg.SEG_CTRL_FOFF, Reg.SEG_CTRL_FCLR, Reg.SEG_CTRL_RESTART, Reg.SEG_CTRL_SVYREQ, Reg.SEG_CTRL_EN, Reg.SEG_STAT_SVYQUEUED, Reg.SEG_STAT_SVYBUSY, Reg.SEG_STAT_SVYVALID, Reg.SEG_STAT_FSTATE, Reg.SEG_STAT_PERS, Reg.SEG_STAT_PSTATE, Reg.SEG_FAULT_SVYABORT, Reg.SEG_FAULT_CLASSDENY, Reg.SEG_FAULT_PDLRANGE, Reg.SEG_FAULT_FCLIP, Reg.SEG_FAULT_LANEDROP, Reg.SEG_FAULT_NOJOIN, Reg.SEG_FAULT_NODELOST, Reg.SEG_FAULT_FTHERM, Reg.SEG_FAULT_FSHED, Reg.SEG_FAULT_FLATCH, Reg.SEG_FAULT_FTRIP, Reg.SEG_FAULT_FOREIGNV, Reg.SEG_FAULT_SVYFAIL, Reg.SEG_FAULT_SVYREJ, Reg.SEG_FAULT_PORTFAIL, Reg.SEG_PCFG_JOINTO, Reg.SEG_PCFG_BMISS]
/-- The fields of the SEG pages (part 1). -/
def Reg.segTable1 : List RegField :=
  [Reg.SEG_PCFG_BINT, Reg.SEG_PCFG_PERS, Reg.SEG_NEXPLO_BITS, Reg.SEG_NEXPHI_BITS, Reg.SEG_NUPLO_BITS, Reg.SEG_NUPHI_BITS, Reg.SEG_POOS_OOS, Reg.SEG_NOOSLO_BITS, Reg.SEG_NOOSHI_BITS, Reg.SEG_CFGEP_EPOCH, Reg.SEG_BSEQ_LAST, Reg.SEG_BTX_COUNT, Reg.SEG_NLOST_COUNT, Reg.SEG_LANEDROP_COUNT, Reg.SEG_JOINS_COUNT, Reg.SEG_FCFG_SHEDPRI, Reg.SEG_FCFG_FMODE, Reg.SEG_FCFG_FEFF, Reg.SEG_FCFG_FLIM, Reg.SEG_FMEAS_FVOUT, Reg.SEG_FMEAS_FCUR, Reg.SEG_FCEIL_TRIPMAX, Reg.SEG_FCEIL_BOMAX, Reg.SEG_FCEIL_CEIL, Reg.SEG_FTRIPST_BOLEFT, Reg.SEG_FTRIPST_CONSEC, Reg.SEG_FTRIPS_COUNT, Reg.SEG_FSHEDS_COUNT, Reg.SEG_PDL_CVALID, Reg.SEG_PDL_CLASS]
/-- The fields of the SEG pages (part 2). -/
def Reg.segTable2 : List RegField :=
  [Reg.SEG_FSHEDI_MA, Reg.SEG_GCUR_MA, Reg.SEG_MCUR_MA, Reg.SEG_SVYVF_VF, Reg.SEG_SVYTIME_SEC, Reg.SEG_SVYRES_NFLT, Reg.SEG_SVYRES_RECS485, Reg.SEG_SVYRES_ESTIL, Reg.SEG_SVYRES_FLTCODE, Reg.SEG_SVYRES_RECNET, Reg.SEG_SVYRES_GRADE, Reg.SEG_SVYLEN_HALFM, Reg.SEG_SVYZ_GMAX, Reg.SEG_SVYZ_Z, Reg.SEG_SVYIL_IL4, Reg.SEG_SVYIL_IL1, Reg.SEG_SVYIL10_IL10, Reg.SEG_SVYR_RINS, Reg.SEG_SVYR_RLOOP, Reg.SEG_SVYN_NPK, Reg.SEG_SVYN_NRMS, Reg.SEG_SVYDC_VDC, Reg.SEG_FLT_MAG, Reg.SEG_FLT_KIND, Reg.SEG_FLT_DIST]
/-- The fields of the SEG pages. -/
def Reg.segTable : List RegField := Reg.segTable0 ++ Reg.segTable1 ++ Reg.segTable2

/-! ### LINK pages, from 0x140 (R196, spec/04_segment_ports.md) -/
def Reg.LINK_CAP_DRST : RegField := regField 0x140 32 0x004 31 1 .ro 0 126
def Reg.LINK_STAT_RXHELD : RegField := regField 0x140 32 0x00C 3 1 .ro 0 96
def Reg.LINK_STAT_ANDONE : RegField := regField 0x140 32 0x00C 2 1 .ro 0 96
def Reg.LINK_STAT_LVL10 : RegField := regField 0x140 32 0x00C 1 1 .ro 0 96
def Reg.LINK_STAT_LINKUP : RegField := regField 0x140 32 0x00C 0 1 .ro 0 96
def Reg.LINK_FAULT_UNDELIV : RegField := regField 0x140 32 0x010 3 1 .w1c 0 96
def Reg.LINK_FAULT_UNKNOWN : RegField := regField 0x140 32 0x010 2 1 .w1c 0 96
def Reg.LINK_FAULT_LINKDN : RegField := regField 0x140 32 0x010 1 1 .w1c 0 96
def Reg.LINK_FAULT_RXOVF : RegField := regField 0x140 32 0x010 0 1 .w1c 0 96
def Reg.LINK_LCFG_CMDTO : RegField := regField 0x140 32 0x040 24 8 .ro 0 63
def Reg.LINK_LCFG_RESPTO : RegField := regField 0x140 32 0x040 16 8 .ro 0 63
def Reg.LINK_LCFG_T1LLVL : RegField := regField 0x140 32 0x040 10 2 .ro 0 63
def Reg.LINK_LCFG_BIAS : RegField := regField 0x140 32 0x040 9 1 .ro 0 63
def Reg.LINK_LCFG_TERM : RegField := regField 0x140 32 0x040 8 1 .ro 0 63
def Reg.LINK_LCFG_SRATE : RegField := regField 0x140 32 0x040 4 4 .ro 0 63
def Reg.LINK_LCFG_FRAMING : RegField := regField 0x140 32 0x040 0 2 .ro 0 63
def Reg.LINK_FPMPORT_PORT : RegField := regField 0x140 32 0x044 0 16 .ro 0 63
def Reg.LINK_SQI_LEVEL : RegField := regField 0x140 32 0x048 0 3 .ro 0 96
def Reg.LINK_RXFRM_COUNT : RegField := regField 0x140 32 0x04C 0 32 .ro 0 96
def Reg.LINK_TXFRM_COUNT : RegField := regField 0x140 32 0x050 0 32 .ro 0 96
def Reg.LINK_CRCERR_COUNT : RegField := regField 0x140 32 0x054 0 32 .ro 0 96
def Reg.LINK_UNKNOWN_COUNT : RegField := regField 0x140 32 0x058 0 32 .ro 0 96
def Reg.LINK_RXOVF_COUNT : RegField := regField 0x140 32 0x05C 0 32 .ro 0 96
def Reg.LINK_TIMEOUT_COUNT : RegField := regField 0x140 32 0x060 0 32 .ro 0 96
def Reg.LINK_RETRY_COUNT : RegField := regField 0x140 32 0x064 0 32 .ro 0 96
def Reg.LINK_UNDELIV_COUNT : RegField := regField 0x140 32 0x068 0 32 .ro 0 96
def Reg.LINK_LINKDN_COUNT : RegField := regField 0x140 32 0x06C 0 32 .ro 0 96
def Reg.LINK_RXQ_DEPTH : RegField := regField 0x140 32 0x070 0 7 .ro 0 96
def Reg.LINK_NLANE_LANES : RegField := (regField 0x140 32 0x080 0 32 .ro 0 63).rep 16 1
def Reg.LINK_HUBADDR_ADDR : RegField := (regField 0x140 32 0x0C0 0 32 .ro 0 96).rep 4 1
/-- The fields of the LINK pages. -/
def Reg.linkTable : List RegField :=
  [Reg.LINK_CAP_DRST, Reg.LINK_STAT_RXHELD, Reg.LINK_STAT_ANDONE, Reg.LINK_STAT_LVL10, Reg.LINK_STAT_LINKUP, Reg.LINK_FAULT_UNDELIV, Reg.LINK_FAULT_UNKNOWN, Reg.LINK_FAULT_LINKDN, Reg.LINK_FAULT_RXOVF, Reg.LINK_LCFG_CMDTO, Reg.LINK_LCFG_RESPTO, Reg.LINK_LCFG_T1LLVL, Reg.LINK_LCFG_BIAS, Reg.LINK_LCFG_TERM, Reg.LINK_LCFG_SRATE, Reg.LINK_LCFG_FRAMING, Reg.LINK_FPMPORT_PORT, Reg.LINK_SQI_LEVEL, Reg.LINK_RXFRM_COUNT, Reg.LINK_TXFRM_COUNT, Reg.LINK_CRCERR_COUNT, Reg.LINK_UNKNOWN_COUNT, Reg.LINK_RXOVF_COUNT, Reg.LINK_TIMEOUT_COUNT, Reg.LINK_RETRY_COUNT, Reg.LINK_UNDELIV_COUNT, Reg.LINK_LINKDN_COUNT, Reg.LINK_RXQ_DEPTH, Reg.LINK_NLANE_LANES, Reg.LINK_HUBADDR_ADDR]

/-! ### PBUS pages, from 0x120 (R242, spec/05_priority_bus.md) -/
def Reg.PBUS_CAP_DRST : RegField := regField 0x120 32 0x004 31 1 .ro 0 126
def Reg.PBUS_CAP_TTCAP : RegField := regField 0x120 32 0x004 1 1 .ro 1 126
def Reg.PBUS_CAP_FDCAP : RegField := regField 0x120 32 0x004 0 1 .ro 1 126
def Reg.PBUS_CTRL_BOREC : RegField := regField 0x120 32 0x008 0 1 .rwl 0 0
def Reg.PBUS_STAT_RXQFULL : RegField := regField 0x120 32 0x00C 9 1 .ro 0 96
def Reg.PBUS_STAT_FREF : RegField := regField 0x120 32 0x00C 8 1 .ro 0 96
def Reg.PBUS_STAT_BOREC : RegField := regField 0x120 32 0x00C 7 1 .ro 0 96
def Reg.PBUS_STAT_ECS : RegField := regField 0x120 32 0x00C 5 2 .ro 0 96
def Reg.PBUS_STAT_EWARN : RegField := regField 0x120 32 0x00C 4 1 .ro 0 96
def Reg.PBUS_STAT_INTEG : RegField := regField 0x120 32 0x00C 3 1 .ro 0 96
def Reg.PBUS_STAT_TTSYNC : RegField := regField 0x120 32 0x00C 2 1 .ro 0 96
def Reg.PBUS_STAT_CEILHOLD : RegField := regField 0x120 32 0x00C 1 1 .ro 0 96
def Reg.PBUS_STAT_MON : RegField := regField 0x120 32 0x00C 0 1 .ro 0 96
def Reg.PBUS_FAULT_BOLATCH : RegField := regField 0x120 32 0x010 10 1 .w1c 0 96
def Reg.PBUS_FAULT_PEX : RegField := regField 0x120 32 0x010 9 1 .w1c 0 96
def Reg.PBUS_FAULT_REFFAIL : RegField := regField 0x120 32 0x010 8 1 .w1c 0 96
def Reg.PBUS_FAULT_FOREIGNREF : RegField := regField 0x120 32 0x010 7 1 .w1c 0 96
def Reg.PBUS_FAULT_RXQOVF : RegField := regField 0x120 32 0x010 6 1 .w1c 0 96
def Reg.PBUS_FAULT_CEIL : RegField := regField 0x120 32 0x010 5 1 .w1c 0 96
def Reg.PBUS_FAULT_BUSOFF : RegField := regField 0x120 32 0x010 4 1 .w1c 0 96
def Reg.PBUS_FAULT_EPASS : RegField := regField 0x120 32 0x010 3 1 .w1c 0 96
def Reg.PBUS_FAULT_EWARN : RegField := regField 0x120 32 0x010 2 1 .w1c 0 96
def Reg.PBUS_FAULT_MISSED : RegField := regField 0x120 32 0x010 1 1 .w1c 0 96
def Reg.PBUS_FAULT_UNKNOWN : RegField := regField 0x120 32 0x010 0 1 .w1c 0 96
def Reg.PBUS_NBT_NBRP : RegField := regField 0x120 32 0x040 23 9 .ro 0 63
def Reg.PBUS_NBT_NTSEG1 : RegField := regField 0x120 32 0x040 15 8 .ro 0 63
def Reg.PBUS_NBT_NTSEG2 : RegField := regField 0x120 32 0x040 8 7 .ro 0 63
def Reg.PBUS_NBT_NSJW : RegField := regField 0x120 32 0x040 0 7 .ro 0 63
def Reg.PBUS_DBT_DBRP : RegField := regField 0x120 32 0x044 24 5 .ro 0 63
def Reg.PBUS_DBT_DTSEG1 : RegField := regField 0x120 32 0x044 16 5 .ro 0 63
def Reg.PBUS_DBT_DTSEG2 : RegField := regField 0x120 32 0x044 8 4 .ro 0 63
def Reg.PBUS_DBT_DSJW : RegField := regField 0x120 32 0x044 0 4 .ro 0 63
def Reg.PBUS_TDC_TDCEN : RegField := regField 0x120 32 0x048 31 1 .ro 0 63
def Reg.PBUS_TDC_TDCV : RegField := regField 0x120 32 0x048 16 7 .ro 0 96
def Reg.PBUS_TDC_TDCO : RegField := regField 0x120 32 0x048 0 7 .ro 0 63
def Reg.PBUS_PCFG_FDEN : RegField := regField 0x120 32 0x04C 31 1 .ro 0 63
def Reg.PBUS_PCFG_TRIPLE : RegField := regField 0x120 32 0x04C 30 1 .ro 0 63
def Reg.PBUS_PCFG_TTEN : RegField := regField 0x120 32 0x04C 29 1 .ro 0 63
def Reg.PBUS_PCFG_BCNBRS : RegField := regField 0x120 32 0x04C 28 1 .ro 0 63
def Reg.PBUS_PCFG_TERM : RegField := regField 0x120 32 0x04C 27 1 .ro 0 63
def Reg.PBUS_PCFG_ECHOBASE : RegField := regField 0x120 32 0x04C 16 11 .ro 0 63
def Reg.PBUS_PCFG_BCNID : RegField := regField 0x120 32 0x04C 0 11 .ro 0 63
def Reg.PBUS_TTCFG_CYCLEN : RegField := regField 0x120 32 0x050 16 16 .ro 0 63
def Reg.PBUS_TTCFG_NCYCEXP : RegField := regField 0x120 32 0x050 12 3 .ro 0 63
def Reg.PBUS_TTCFG_REFID : RegField := regField 0x120 32 0x050 0 11 .ro 0 63
def Reg.PBUS_TTCFG2_BOWAIT : RegField := regField 0x120 32 0x054 8 8 .ro 0 63
def Reg.PBUS_TTCFG2_TXEN : RegField := regField 0x120 32 0x054 0 8 .ro 0 63
def Reg.PBUS_ERRC_TEC : RegField := regField 0x120 32 0x058 16 9 .ro 0 96
def Reg.PBUS_ERRC_RP : RegField := regField 0x120 32 0x058 15 1 .ro 0 96
def Reg.PBUS_ERRC_REC : RegField := regField 0x120 32 0x058 0 7 .ro 0 96
def Reg.PBUS_LEC_DLEC : RegField := regField 0x120 32 0x05C 4 3 .ro 0 96
def Reg.PBUS_LEC_NLEC : RegField := regField 0x120 32 0x05C 0 3 .ro 0 96
def Reg.PBUS_CURCYC_CTIME : RegField := regField 0x120 32 0x060 16 16 .ro 0 96
def Reg.PBUS_CURCYC_CYC : RegField := regField 0x120 32 0x060 0 6 .ro 0 96
def Reg.PBUS_CEIL_TXCEIL : RegField := regField 0x120 32 0x064 16 16 .ro 0 63
def Reg.PBUS_CEIL_TXBURST : RegField := regField 0x120 32 0x064 0 8 .ro 0 63
def Reg.PBUS_MSGIDX_INDEX : RegField := (regField 0x120 32 0x068 0 10 .rw 0 96).perRequester
def Reg.PBUS_MSGD0_FMT : RegField := (regField 0x120 32 0x06C 29 3 .ro 0 63).perRequester
def Reg.PBUS_MSGD0_ID : RegField := (regField 0x120 32 0x06C 0 29 .ro 0 63).perRequester
def Reg.PBUS_MSGD1_VALID : RegField := (regField 0x120 32 0x070 31 1 .ro 0 63).perRequester
def Reg.PBUS_MSGD1_DIR : RegField := (regField 0x120 32 0x070 30 1 .ro 0 63).perRequester
def Reg.PBUS_MSGD1_COPY : RegField := (regField 0x120 32 0x070 29 1 .ro 0 63).perRequester
def Reg.PBUS_MSGD1_ACKMODE : RegField := (regField 0x120 32 0x070 28 1 .ro 0 63).perRequester
def Reg.PBUS_MSGD1_NODE : RegField := (regField 0x120 32 0x070 16 6 .ro 0 63).perRequester
def Reg.PBUS_MSGD1_SLOT : RegField := (regField 0x120 32 0x070 8 6 .ro 0 63).perRequester
def Reg.PBUS_MSGD1_DLC : RegField := (regField 0x120 32 0x070 0 4 .ro 0 63).perRequester
def Reg.PBUS_MSGD2_CONFID : RegField := (regField 0x120 32 0x074 0 29 .ro 0 63).perRequester
def Reg.PBUS_MSGD3_QOFF : RegField := (regField 0x120 32 0x078 0 8 .ro 0 63).perRequester
def Reg.PBUS_MSGCNT_COUNT : RegField := regField 0x120 32 0x07C 0 11 .ro 0 63
def Reg.PBUS_TXOK_COUNT : RegField := regField 0x120 32 0x080 0 32 .ro 0 96
def Reg.PBUS_RXOK_COUNT : RegField := regField 0x120 32 0x084 0 32 .ro 0 96
def Reg.PBUS_BOCNT_COUNT : RegField := regField 0x120 32 0x088 0 32 .ro 0 96
def Reg.PBUS_PEXCNT_COUNT : RegField := regField 0x120 32 0x08C 0 32 .ro 0 96
def Reg.PBUS_CEILHELD_COUNT : RegField := regField 0x120 32 0x090 0 32 .ro 0 96
def Reg.PBUS_MISSED_COUNT : RegField := regField 0x120 32 0x094 0 32 .ro 0 96
def Reg.PBUS_REFFAIL_COUNT : RegField := regField 0x120 32 0x098 0 32 .ro 0 96
def Reg.PBUS_FREFCNT_COUNT : RegField := regField 0x120 32 0x09C 0 32 .ro 0 96
def Reg.PBUS_RXQOVF_COUNT : RegField := regField 0x120 32 0x0A0 0 32 .ro 0 96
def Reg.PBUS_UNKNOWN_COUNT : RegField := regField 0x120 32 0x0A4 0 32 .ro 0 96
def Reg.PBUS_CANCNT_COUNT : RegField := regField 0x120 32 0x0A8 0 32 .ro 0 96
def Reg.PBUS_LATECNT_COUNT : RegField := regField 0x120 32 0x0AC 0 32 .ro 0 96
def Reg.PBUS_RXQBASELO_ADDR : RegField := regField 0x120 32 0x0B0 6 26 .rw 0 96
def Reg.PBUS_RXQBASEHI_ADDR : RegField := regField 0x120 32 0x0B4 0 32 .rw 0 96
def Reg.PBUS_RXQPUT_PUT : RegField := regField 0x120 32 0x0B8 0 9 .ro 0 96
def Reg.PBUS_RXQGET_GET : RegField := regField 0x120 32 0x0BC 0 9 .rw 0 96
def Reg.PBUS_TXCANLO_BITS : RegField := regField 0x120 32 0x0C0 0 32 .rwl 0 96
def Reg.PBUS_TXCANHI_BITS : RegField := regField 0x120 32 0x0C4 0 32 .rwl 0 96
def Reg.PBUS_SHSTAT0 : RegField := regField 0x120 32 0x0C8 0 4 .ro 0 96
def Reg.PBUS_SHSTAT1 : RegField := regField 0x120 32 0x0C8 8 4 .ro 0 96
def Reg.PBUS_SHSTAT2 : RegField := regField 0x120 32 0x0C8 16 4 .ro 0 96
def Reg.PBUS_SHSTAT3 : RegField := regField 0x120 32 0x0C8 24 4 .ro 0 96
def Reg.PBUS_SHCFG_SHSLOT0 : RegField := regField 0x120 32 0x0CC 0 6 .ro 0 63
def Reg.PBUS_SHCFG_SHSLOT1 : RegField := regField 0x120 32 0x0CC 8 6 .ro 0 63
def Reg.PBUS_SHCFG_SHSLOT2 : RegField := regField 0x120 32 0x0CC 16 6 .ro 0 63
def Reg.PBUS_SHCFG_SHSLOT3 : RegField := regField 0x120 32 0x0CC 24 6 .ro 0 63
def Reg.PBUS_SHCAN_BITS : RegField := regField 0x120 32 0x0D0 0 4 .rwl 0 96
def Reg.PBUS_TXSTAT_SENT : RegField := (regField 0x120 32 0x100 31 1 .ro 0 96).rep 64 1
def Reg.PBUS_TXSTAT_CANCEL_LATE : RegField := (regField 0x120 32 0x100 30 1 .ro 0 96).rep 64 1
def Reg.PBUS_TXSTAT_CANCELLED : RegField := (regField 0x120 32 0x100 29 1 .ro 0 96).rep 64 1
def Reg.PBUS_TXSTAT_MISSED : RegField := (regField 0x120 32 0x100 28 1 .ro 0 96).rep 64 1
def Reg.PBUS_TXSTAT_HELD : RegField := (regField 0x120 32 0x100 27 1 .ro 0 96).rep 64 1
def Reg.PBUS_TXSTAT_STATE : RegField := (regField 0x120 32 0x100 0 2 .ro 0 96).rep 64 1
def Reg.PBUS_SLOTCFG_OWNER : RegField := (regField 0x120 32 0x200 31 1 .ro 0 63).rep 64 1
def Reg.PBUS_SLOTCFG_ARB : RegField := (regField 0x120 32 0x200 30 1 .ro 0 63).rep 64 1
def Reg.PBUS_COL_LEN : RegField := (regField 0x120 32 0x300 16 16 .ro 0 63).rep 32 1
def Reg.PBUS_COL_START : RegField := (regField 0x120 32 0x300 0 16 .ro 0 63).rep 32 1
def Reg.PBUS_RNGLO_VALID : RegField := (regField 0x120 32 0x400 31 1 .ro 0 63).rep 32 2
def Reg.PBUS_RNGLO_IDE : RegField := (regField 0x120 32 0x400 30 1 .ro 0 63).rep 32 2
def Reg.PBUS_RNGLO_RXQ : RegField := (regField 0x120 32 0x400 29 1 .ro 0 63).rep 32 2
def Reg.PBUS_RNGLO_LOW : RegField := (regField 0x120 32 0x400 0 29 .ro 0 63).rep 32 2
def Reg.PBUS_RNGHI_HIGH : RegField := (regField 0x120 32 0x404 0 29 .ro 0 63).rep 32 2
def Reg.PBUS_RNGLN_LANES : RegField := (regField 0x120 32 0x500 0 32 .ro 0 63).rep 8 1
def Reg.PBUS_FTXSEL_SEL : RegField := (regField 0x120 32 0x600 0 7 .rw 0 96).perRequester
def Reg.PBUS_FTXID : RegField := (regField 0x120 32 0x604 0 32 .rw 0 96).perRequester
def Reg.PBUS_FTXCTL_DLC : RegField := (regField 0x120 32 0x608 0 4 .rw 0 96).perRequester
def Reg.PBUS_FTXGO_GO : RegField := (regField 0x120 32 0x60C 0 1 .w1s 0 0).perRequester
def Reg.PBUS_FTXRES_RESULT : RegField := (regField 0x120 32 0x610 0 3 .ro 0 96).perRequester
def Reg.PBUS_FTXDATA : RegField := ((regField 0x120 32 0x620 0 32 .rw 0 96).rep 16 1).perRequester
def Reg.PBUS_CELLW : RegField := ((regField 0x120 32 0x800 0 32 .ro 0 63).rep 64 8).rep2 8 1
/-- The fields of the PBUS pages (part 0). -/
def Reg.pbusTable0 : List RegField :=
  [Reg.PBUS_CAP_DRST, Reg.PBUS_CAP_TTCAP, Reg.PBUS_CAP_FDCAP, Reg.PBUS_CTRL_BOREC, Reg.PBUS_STAT_RXQFULL, Reg.PBUS_STAT_FREF, Reg.PBUS_STAT_BOREC, Reg.PBUS_STAT_ECS, Reg.PBUS_STAT_EWARN, Reg.PBUS_STAT_INTEG, Reg.PBUS_STAT_TTSYNC, Reg.PBUS_STAT_CEILHOLD, Reg.PBUS_STAT_MON, Reg.PBUS_FAULT_BOLATCH, Reg.PBUS_FAULT_PEX, Reg.PBUS_FAULT_REFFAIL, Reg.PBUS_FAULT_FOREIGNREF, Reg.PBUS_FAULT_RXQOVF, Reg.PBUS_FAULT_CEIL, Reg.PBUS_FAULT_BUSOFF, Reg.PBUS_FAULT_EPASS, Reg.PBUS_FAULT_EWARN, Reg.PBUS_FAULT_MISSED, Reg.PBUS_FAULT_UNKNOWN, Reg.PBUS_NBT_NBRP, Reg.PBUS_NBT_NTSEG1, Reg.PBUS_NBT_NTSEG2, Reg.PBUS_NBT_NSJW, Reg.PBUS_DBT_DBRP, Reg.PBUS_DBT_DTSEG1]
/-- The fields of the PBUS pages (part 1). -/
def Reg.pbusTable1 : List RegField :=
  [Reg.PBUS_DBT_DTSEG2, Reg.PBUS_DBT_DSJW, Reg.PBUS_TDC_TDCEN, Reg.PBUS_TDC_TDCV, Reg.PBUS_TDC_TDCO, Reg.PBUS_PCFG_FDEN, Reg.PBUS_PCFG_TRIPLE, Reg.PBUS_PCFG_TTEN, Reg.PBUS_PCFG_BCNBRS, Reg.PBUS_PCFG_TERM, Reg.PBUS_PCFG_ECHOBASE, Reg.PBUS_PCFG_BCNID, Reg.PBUS_TTCFG_CYCLEN, Reg.PBUS_TTCFG_NCYCEXP, Reg.PBUS_TTCFG_REFID, Reg.PBUS_TTCFG2_BOWAIT, Reg.PBUS_TTCFG2_TXEN, Reg.PBUS_ERRC_TEC, Reg.PBUS_ERRC_RP, Reg.PBUS_ERRC_REC, Reg.PBUS_LEC_DLEC, Reg.PBUS_LEC_NLEC, Reg.PBUS_CURCYC_CTIME, Reg.PBUS_CURCYC_CYC, Reg.PBUS_CEIL_TXCEIL, Reg.PBUS_CEIL_TXBURST, Reg.PBUS_MSGIDX_INDEX, Reg.PBUS_MSGD0_FMT, Reg.PBUS_MSGD0_ID, Reg.PBUS_MSGD1_VALID]
/-- The fields of the PBUS pages (part 2). -/
def Reg.pbusTable2 : List RegField :=
  [Reg.PBUS_MSGD1_DIR, Reg.PBUS_MSGD1_COPY, Reg.PBUS_MSGD1_ACKMODE, Reg.PBUS_MSGD1_NODE, Reg.PBUS_MSGD1_SLOT, Reg.PBUS_MSGD1_DLC, Reg.PBUS_MSGD2_CONFID, Reg.PBUS_MSGD3_QOFF, Reg.PBUS_MSGCNT_COUNT, Reg.PBUS_TXOK_COUNT, Reg.PBUS_RXOK_COUNT, Reg.PBUS_BOCNT_COUNT, Reg.PBUS_PEXCNT_COUNT, Reg.PBUS_CEILHELD_COUNT, Reg.PBUS_MISSED_COUNT, Reg.PBUS_REFFAIL_COUNT, Reg.PBUS_FREFCNT_COUNT, Reg.PBUS_RXQOVF_COUNT, Reg.PBUS_UNKNOWN_COUNT, Reg.PBUS_CANCNT_COUNT, Reg.PBUS_LATECNT_COUNT, Reg.PBUS_RXQBASELO_ADDR, Reg.PBUS_RXQBASEHI_ADDR, Reg.PBUS_RXQPUT_PUT, Reg.PBUS_RXQGET_GET, Reg.PBUS_TXCANLO_BITS, Reg.PBUS_TXCANHI_BITS, Reg.PBUS_SHSTAT0, Reg.PBUS_SHSTAT1, Reg.PBUS_SHSTAT2]
/-- The fields of the PBUS pages (part 3). -/
def Reg.pbusTable3 : List RegField :=
  [Reg.PBUS_SHSTAT3, Reg.PBUS_SHCFG_SHSLOT0, Reg.PBUS_SHCFG_SHSLOT1, Reg.PBUS_SHCFG_SHSLOT2, Reg.PBUS_SHCFG_SHSLOT3, Reg.PBUS_SHCAN_BITS, Reg.PBUS_TXSTAT_SENT, Reg.PBUS_TXSTAT_CANCEL_LATE, Reg.PBUS_TXSTAT_CANCELLED, Reg.PBUS_TXSTAT_MISSED, Reg.PBUS_TXSTAT_HELD, Reg.PBUS_TXSTAT_STATE, Reg.PBUS_SLOTCFG_OWNER, Reg.PBUS_SLOTCFG_ARB, Reg.PBUS_COL_LEN, Reg.PBUS_COL_START, Reg.PBUS_RNGLO_VALID, Reg.PBUS_RNGLO_IDE, Reg.PBUS_RNGLO_RXQ, Reg.PBUS_RNGLO_LOW, Reg.PBUS_RNGHI_HIGH, Reg.PBUS_RNGLN_LANES, Reg.PBUS_FTXSEL_SEL, Reg.PBUS_FTXID, Reg.PBUS_FTXCTL_DLC, Reg.PBUS_FTXGO_GO, Reg.PBUS_FTXRES_RESULT, Reg.PBUS_FTXDATA, Reg.PBUS_CELLW]
/-- The fields of the PBUS pages. -/
def Reg.pbusTable : List RegField := Reg.pbusTable0 ++ Reg.pbusTable1 ++ Reg.pbusTable2 ++ Reg.pbusTable3

end Sys2Proof.Machine
end

