-- ==== Sys2Proof/Machine/RegMap.lean ====
section
/-! DEFINITION. The page map of R51: which block and which fields each page carries, its lane class, its PID (R655), and
which field stands at a word. -/

namespace Sys2Proof.Machine

/-- The page belongs to the map of R51. -/
def pageMapped (p : Nat) : Bool :=
  p ≤ 0x00A || (0x010 ≤ p && p ≤ 0x016) || (0x020 ≤ p && p ≤ 0x022) || (0x040 ≤ p && p ≤ 0x043) ||
  (0x048 ≤ p && p ≤ 0x049) || (0x050 ≤ p && p ≤ 0x051) || (0x058 ≤ p && p ≤ 0x059) || (0x060 ≤ p && p ≤ 0x062) ||
  p = 0x070 || p = 0x078 || p = 0x079 || (0x100 ≤ p && p ≤ 0x15F) || (0x180 ≤ p && p ≤ 0x184) || p = 0x190

/-- The page is a window page (R54). -/
def isWindowPage (p : Nat) : Bool := p = 0x041 || p = 0x051 || p = 0x059 || p = 0x061 || p = 0x062 || p = 0x078

/-- The page is open to every session with a filtered view (R51, R52). -/
def isFilteredPage (p : Nat) : Bool := p = 0x001 || p = 0x020 || p = 0x040 || p = 0x058

/-- The page is open per record: the owning engine checks the lane (R51). -/
def isPerRecordPage (p : Nat) : Bool :=
  p = 0x041 || p = 0x042 || p = 0x043 || p = 0x051 || p = 0x059 || p = 0x061 || p = 0x062

/-- The lowest page of the block that owns page `p` (R655). -/
def blockPage (p : Nat) : Nat :=
  if 0x010 ≤ p ∧ p ≤ 0x013 then 0x010
  else if 0x015 ≤ p ∧ p ≤ 0x016 then 0x015
  else if 0x100 ≤ p ∧ p ≤ 0x11F then 0x100
  else if 0x120 ≤ p ∧ p ≤ 0x13F then 0x120
  else if 0x140 ≤ p ∧ p ≤ 0x15F then 0x140
  else p

/-- The instance number of page `p` within its block (R655). -/
def blockInst (p : Nat) : Nat :=
  if (0x010 ≤ p ∧ p ≤ 0x013) ∨ (0x015 ≤ p ∧ p ≤ 0x016) ∨ (0x100 ≤ p ∧ p ≤ 0x15F) then p - blockPage p else 0

/-- The PID word of page `p` (R655, layout 1): 0 on a page that is not mapped (R39). -/
def pidWord (p : Nat) : Nat :=
  if pageMapped p then (0x8000 + blockPage p) * 0x10000 + blockInst p * 0x100 + 1 else 0

/-- The block-specific fields of page `p`. -/
def blockFields (p : Nat) : List RegField :=
  if p = 0x000 then Reg.sysTable else if p = 0x002 then Reg.modeTable else if p = 0x003 then Reg.pwrTable
  else if p = 0x004 then Reg.csnTable else if p = 0x005 then Reg.clkTable else if p = 0x006 then Reg.rtcTable
  else if p = 0x007 then Reg.logTable else if p = 0x008 then Reg.mbxTable else if p = 0x009 then Reg.lockTable
  else if p = 0x00A then Reg.tbaseTable else if 0x010 ≤ p ∧ p ≤ 0x013 then Reg.coreTable
  else if p = 0x014 then Reg.mmuTable else if 0x015 ≤ p ∧ p ≤ 0x016 then Reg.dmaTable
  else if p = 0x020 then Reg.encTable else if p = 0x021 then Reg.updTable else if p = 0x022 then Reg.tampTable
  else if p = 0x040 then Reg.pntTable else if p = 0x041 then Reg.pntwinTable else if p = 0x042 then Reg.cmdTable
  else if p = 0x043 then Reg.forceTable else if p = 0x048 then Reg.laneTable else if p = 0x049 then Reg.prptTable
  else if p = 0x050 then Reg.cleTable else if p = 0x051 then Reg.loopwinTable else if p = 0x058 then Reg.cteTable
  else if p = 0x059 then Reg.taskwinTable else if p = 0x060 then Reg.mtrTable else if p = 0x070 then Reg.uioTable
  else if p = 0x078 then Reg.accTable else if p = 0x079 then Reg.liftTable
  else if 0x100 ≤ p ∧ p ≤ 0x11F then Reg.segTable else if 0x120 ≤ p ∧ p ≤ 0x13F then Reg.pbusTable
  else if 0x140 ≤ p ∧ p ≤ 0x15F then Reg.linkTable else if p = 0x180 then Reg.viaTable
  else if p = 0x181 then Reg.pairTable else if p = 0x182 then Reg.uplTable else if p = 0x183 then Reg.papTable
  else if p = 0x184 then Reg.bscTable else if p = 0x190 then Reg.svcTable else []

/-- Every stored field of page `p`, placed on that page. -/
def pageFields (p : Nat) : List RegField :=
  if pageMapped p then
    hdrFields p ++ (if isWindowPage p then winFields p else []) ++ (blockFields p).map (fun f => f.onPage p)
  else []

/-- The field has a repeat at word `w`. -/
def RegField.covers (f : RegField) (w : Nat) : Bool :=
  if w < f.word then false
  else
    let d := w - f.word
    if f.n2 ≤ 1 then if f.s1 = 0 then d = 0 else d % f.s1 = 0 && d / f.s1 < f.n1
    else if f.s1 = 0 ∨ f.s2 = 0 then false
    else d / f.s1 < f.n1 && (d % f.s1) % f.s2 = 0 && (d % f.s1) / f.s2 < f.n2

/-- The stored fields that stand at word `w` of page `p`, each placed on that word and on requester `r`'s copy where it
has copies (R55). -/
def fieldsAt (p w r : Nat) : List RegField :=
  ((pageFields p).filter (fun f => f.covers w)).map
    (fun f => { f with word := w, n1 := 1, n2 := 1, copy := if f.copies then r else 0 })

/-- The stored field whose lowest bit stands at `key`, if the register map has one. -/
def fieldOfKey (key : Nat) : Option RegField :=
  let copy := key / (4096 * 32768)
  let p := (key / 32768) % 4096
  let w := (key / 32) % 1024
  (fieldsAt p w copy).find? (fun f => decide (f.lo = key % 32))

/-- The pages that a domain reset requested at page `p` resets; none where `CAP.DRST` reads 0. CORE1 to CORE3 have it (R524), a
port's three pages go together (R147), and that PAP has it is DEDUCED from R79. -/
def domainPages (p : Nat) : List Nat :=
  if 0x011 ≤ p ∧ p ≤ 0x013 then [p]
  else if p = 0x020 ∨ p = 0x180 ∨ p = 0x183 ∨ p = 0x184 then [p]
  else if p = 0x050 ∨ p = 0x058 then [p, p + 1]
  else if p = 0x060 then [0x060, 0x061, 0x062]
  else if 0x100 ≤ p ∧ p ≤ 0x11F then [p, p + 0x20, p + 0x40]
  else []

end Sys2Proof.Machine
end

