-- ==== Sys2Proof/Config.lean ====
section
/-! DEFINITION. What an implementation fixes and the values that the specification leaves open: constants without a body,
about which nothing can be proved. -/

namespace Sys2Proof

/-- A free number, drawn with the counter of free values. -/
opaque Config.freeNat : Nat → Nat

/-- SHA-512 of a byte string, as a number of 512 bits; the specification names the standard only. -/
opaque Config.sha512 : List Nat → Nat

/-- SHA-256 of a byte string, as a number of 256 bits with byte 0 highest (R618); the specification names the standard only. -/
opaque Config.sha256 : List Nat → Nat

/-- A linear filter on a stream of samples: y[n] = Σ feed[k] × x[n − k] − Σ back[k] × y[n − 1 − k]. -/
structure Filter where
  feed : List ℚ := []
  back : List ℚ := []
deriving DecidableEq, Repr, Inhabited

/-- The compensation FIR filter (R319 step 2); `firLimits` bounds its response. -/
opaque Config.compensation : List ℚ

/-- The high-pass filter (R319 step 3); `highPassLimits` places its corner. -/
opaque Config.highPass : Filter

/-- The integrator of coil channels (R320); `integratorLimits` bounds its response. -/
opaque Config.coilIntegrator : Filter

/-- The fractional interpolation of R321: the stream `xs`, newest first, at `position` ÷ 1,024 samples before its newest one;
the kernel between two samples is not stated. -/
opaque Config.interpolate : (position : Nat) → (xs : List ℚ) → ℚ

/-- The scale of a channel of which the sheet gives no sensitivity other than 0. -/
opaque Config.openScale : (ch : Nat) → ℚ

/-- Point `k` of samples resampled at 128 points to a cycle of `freq` mHz (R327), where it falls between two samples; the
interpolation is not stated. -/
opaque Config.resample : (freq : Nat) → (values : List ℚ) → (k : Nat) → ℚ

/-- The quotient of a quantity by zero, such as PF at S = 0. -/
opaque Config.zeroQuotient : (a : Nat) → Nat

/-- The rate of RC32 above 95 % of its nominal rate, in units of 10⁻⁸, from an instant on: within ±5 % (R597). -/
opaque Config.rc32Rate : Nat → Nat

/-- The module's PTP clock identity (0), class (1), accuracy (2) and variance (3), which the specification does not give. -/
opaque Config.ptpOwn : Nat → Nat

/-- Publications that the viaduct port holds in its receive buffer while the point engine's queue is full (R99), a size that the
specification does not give. -/
opaque Config.viaBuffer : Nat

/-- The link-local address of an uplink port. -/
opaque Config.linkLocal : Nat → Nat

/-- The root that the PUF and the helper data of a provisioning nonce regenerate (R531). -/
opaque Config.pufRoot : Nat → Nat

/-- HKDF-SHA-512 (R540): key of `len` bytes from input keying material, salt and info. -/
opaque Config.hkdf : (ikm salt : Nat) → (info : List Nat) → (len : Nat) → Nat

/-- The key of a reserved slot derived from the root (R541). -/
opaque Config.reservedKey : (root slot : Nat) → Nat

/-- What `SLINFO` shows of a reserved slot beside its state and lane, which the specification does not give: item 0 TYPE, 1
MEASPOL, 2 GEN, 3 USAGE. -/
opaque Config.reservedInfo : (slot item : Nat) → Nat

/-- Byte `i` of ciphertext and tag of AES-GCM (R544). -/
opaque Config.aesGcm : (key : Nat) → (iv aad text : List Nat) → (i : Nat) → Nat

/-- Byte `i` of the plaintext of AES-GCM, and whether the tag is valid (R545, R546). -/
opaque Config.aesGcmOpen : (key : Nat) → (iv aad text : List Nat) → (i : Nat) → Nat
/-- The tag of AES-GCM is valid (R546). -/
opaque Config.aesGcmValid : (key : Nat) → (iv aad text : List Nat) → Bool

/-- Byte `i` of HMAC-SHA-512 (R538). -/
opaque Config.hmac : (key : Nat) → (message : List Nat) → (i : Nat) → Nat

/-- Byte `i` of a signature of type 4 (ECDSA P-521) or 5 (ML-DSA-87) with random input `nonce`; 0 is the deterministic form
(R537, R538). -/
opaque Config.signature : (typ key : Nat) → (message : List Nat) → (nonce i : Nat) → Nat

/-- Byte `i` of the public key of a private key (R545). -/
opaque Config.publicKey : (typ key i : Nat) → Nat

/-- The shared secret of ECDH, and whether the peer's key is valid (R538, R546). -/
opaque Config.sharedSecret : (typ key : Nat) → (peer : List Nat) → Nat
/-- A peer's public key is valid (R546). -/
opaque Config.peerValid : (typ : Nat) → (peer : List Nat) → Bool

/-- The SHA-512 digest of component `c` of the image that the factory wrote (R562, R563). -/
opaque Config.factoryDigest : (c : Nat) → Nat

/-- The physical page to which a virtual page of an address space is mapped (R495): the layout of the tables' entries is not given.
`maps` counts the invalidations so far (R497). -/
opaque Config.translate : (maps asid page : Nat) → Nat

end Sys2Proof
end

