-- ==== Sys2Proof/Machine/State.lean ====
section
/-! DEFINITION. The state of the block: every register, buffer, queue, counter and mode that the specification gives the
module, the faults and refusals by which a step may stop, and the state right after reset. -/

namespace Sys2Proof.Machine

/-- A message or signal that leaves the module, in the order in which they leave. -/
inductive Out where
  /-- A bus error returned to a fabric master (R38, R45, R49). -/
  | busError (m : Master)
  /-- Data that a fabric master's read returns. -/
  | readData (m : Master) (v : Nat)
  /-- A PAP response in session slot `slot` (R70). -/
  | papResponse (slot : Nat) (r : PapResponse)
  /-- A fatal access_denied alert to a PAP handshake (R66). -/
  | papRefused
  /-- A field point message (R164): on T1L in a datagram to the address `dest` and the UDP port `udp` (R167), on S485 in its
  envelope, where both are 0 (R168). -/
  | fpm (port dest udp : Nat) (bytes : List Nat)
  /-- SOF of a PBUS frame. -/
  | canStart (port : Nat) (f : CanFrame)
  /-- An error frame that a PBUS port signals. -/
  | canError (port : Nat)
  /-- A viaduct datagram to peer `dest`, 2 × slot + member, by uplink `port` in a frame of VLAN `vid`, 0 untagged (R390, R396); 508 is
  an abutment outside. -/
  | viaduct (port vid dest : Nat) (bytes : List Nat)
  /-- A part of a CHECKPOINT message: its header, and its body with the units (R396, R417). -/
  | checkpoint (port vid dest : Nat) (header : List Nat) (pepoch ckseq tick part nparts : Nat) (full : Bool) (entries : List CkEntry)
  /-- An ICMPv6 answer on an uplink: echo reply with its data, or neighbour advertisement of an address (R390). -/
  | echoReply (port vid id seq : Nat) (data : List Byte)
  | neighbourAdvertisement (port vid target : Nat)
  /-- The answers to a BACnet request (R422, R423). -/
  | bacnet (invoke : Nat) (answers : List BacAnswer)
  /-- A connection attempt to a hub: 0 primary, 1 failover (R421). -/
  | hubConnect (hub : Nat)
  /-- A TCP reset that refuses a service-port connection (R559). -/
  | svcRefused
  /-- A command of the access block to a reader: port, address, OSDP code and data (R615). -/
  | osdp (port addr code : Nat) (data : List Nat)
  /-- A datagram to the lift gateway on a port (R623). -/
  | lift (port : Nat) (bytes : List Nat)
  /-- An event on a core: a DMA channel has completed an element with WAKE, or has faulted (R506, R508). -/
  | coreEvent (core channel : Nat)
  /-- A mailbox event at an endpoint: a word waits in mailbox `mailbox` (R513). -/
  | mailEvent (endpoint mailbox : Nat)
  /-- CLKFAIL, or with `second` CLKFAIL2, raised to the application cores (R475, R481). -/
  | clockEvent (second : Bool)
deriving DecidableEq, Repr

/-! ### Register pages and PAP (spec/02_register_pages.md) -/

/-- The KEY state of a page (R47): CLOSED pages are not listed. `owner` is the master that armed it, `since` the instant
of the last step and `opened` whether the second word has been written. -/
structure KeyState where
  owner : Master
  opened : Bool := false
  since : Nat := 0
deriving DecidableEq, Repr

/-- A kept PAP response (R76). -/
structure KeptResponse where
  tag : Nat
  time : Nat
  response : PapResponse
deriving DecidableEq, Repr

/-- A request whose answer waits: a WWRITE for its tick to commit (R138), a BLOCK for its sector (R564), or a WRITE for room in
the queue of the point engine (R99): its operation, tag, page and record index. -/
structure PapWait where
  op : Nat := 5
  tag : Nat
  page : Nat
  arg : Nat
deriving DecidableEq, Repr

/-- A PAP session slot beside its registers (R63 to R68, R76). `tokens` counts in millionths of a token; `held` are requests
that arrived while an earlier one of the session waits for its answer (R75). -/
structure Session where
  opened : Bool := false
  since : Nat := 0
  lastRequest : Nat := 0
  tokens : Nat := 0
  tokensAt : Nat := 0
  lanes : BitVec 256 := 0
  kept : List KeptResponse := []
  waits : List PapWait := []
  held : List Instr := []
deriving DecidableEq, Repr

/-! ### Event recorder (spec/16_rtc_log.md, R599 to R609) -/

/-- An event record without its CRC, which is computed when the record is read (R599, R600). -/
structure LogRecord where
  typ : Nat
  sev : Nat
  seq : Nat
  optime : Nat
  pcc : Nat
  cmt : Bool := false
  items : List Nat
deriving DecidableEq, Repr

/-- One 64 KiB segment of the log region, with its band (R605). -/
structure LogSegment where
  band : Nat
  used : Nat
  records : List LogRecord
deriving DecidableEq, Repr

/-- The event recorder: buffer (oldest first), segments in the order in which they were opened, drop counts since the
last LOG_OVERFLOW, and operating time (R601 to R606). -/
structure LogState where
  buffer : List LogRecord := []
  bufSince : Nat := 0
  drops : Table Nat := []
  segs : List LogSegment := []
  optBase : Nat := 0
  optAt : Nat := 0
  optSaved : Nat := 0
  optSaveAt : Nat := 0
  lastMark : Option Nat := none
deriving DecidableEq, Repr

/-! ### Calendar clock and backup domain (R579 to R598) -/

/-- One requester's calendar snapshot (R586): SEC, MIN, HOUR, DAY, WDAY, MON, YEAR, SUBSEC. -/
structure RtcSnap where
  sec : Nat := 0
  min : Nat := 0
  hour : Nat := 0
  day : Nat := 0
  wday : Nat := 0
  mon : Nat := 0
  year : Nat := 0
  subsec : Nat := 0
deriving DecidableEq, Repr

/-- The calendar clock: 32.768 kHz cycles of local time since 2000-01-01 00:00:00 at instant `at`, the QC-20 free counter
with the day at which it stood so, snapshots per requester, the open trim window, whether it counts RC32 with the cause of the
record that waits for it (R597). -/
structure RtcState where
  cycles : Nat := 0
  cyclesAt : Nat := 0
  legacy : Nat := 0
  legacyDay : Nat := 0
  snaps : Table RtcSnap := []
  dstForward : Bool := false
  trimAt : Option Nat := none
  trimLcyc : Nat := 0
  lostCause : Nat := 0
  rc32 : Bool := false
  coarse : Nat := 0
deriving DecidableEq, Repr

/-! ### Time base (spec/07_cyclic_tasks.md, R284 to R287) -/

/-- The time base: TAI and MONO in ns at instant `at`, the offset still to be slewed, whether synchronisation runs
with its count of good intervals and the instant of the last, and the latched high words per requester. -/
structure TimeBase where
  tai : Nat := 0
  mono : Nat := 0
  since : Nat := 0
  slew : Int := 0
  syncing : Bool := false
  syncs : Nat := 0
  lastSync : Option Nat := none
  taiHi : Table Nat := []
  monoHi : Table Nat := []
deriving DecidableEq, Repr

/-! ### The point engine (spec/03_points.md) -/

/-- A force (R118): value, applying source and orphan flag. -/
structure Force where
  value : Nat
  src : Nat
  orphan : Bool := false
deriving DecidableEq, Repr

/-- What a checkpoint carries of a record (R417). -/
structure PointImage where
  pv : Nat := 0
  sv : Nat := 0
  ts : Nat := 0
  pamask : Nat := 0
deriving DecidableEq, Repr

/-- The publication side table entry (R114): tick of the last publication and PENDING. -/
structure PubSide where
  last : Option Nat := none
  pending : Bool := false
deriving DecidableEq, Repr

/-- An admitted update of the current tick: the record, the writer's rank and the update (R82, R106). -/
structure Admitted where
  index : Nat
  upd : Update
  rank : Nat
deriving DecidableEq, Repr

/-- A report that reaches the point engine beside the queues and takes effect at the next commit (R93, R122, R157). -/
inductive PointReport where
  /-- The output path reports delivery. -/
  | delivered (i : Nat)
  /-- The output path reports that the node did not acknowledge. -/
  | undelivered (i : Nat)
  /-- A task's commit found the node of its command point lost (R300). -/
  | unreached (i : Nat)
  /-- The source or owner is lost, or the source's block takes a D reset. -/
  | lost (i : Nat)
  /-- A swap drops a task's output that is no command point (R310). -/
  | dropped (i : Nat)
  /-- A port or node is taken out of service, or returned. -/
  | oos (i : Nat) (v : Bool)
deriving DecidableEq, Repr

/-- The point engine: the store, its arrays and images, the queues, the open tick, forces, service flags, publication,
persistence and the mirror directory (R81 to R132). A queue is keyed by its class; updates that found their queue full
are held by their source in order, and `offered` are those that wait at a broken expansion joint (R484). `images` are whole records
(R129); `returning` are command points STALE since their OOS cleared, and `freshAt` the commit (µs) from which the output age of such a
point counts (R122); `forcesCleared` are the forces that a P reset emptied and that the restore reports (R121). -/
structure PointState where
  recs : Table PointRec := []
  arrays : Table Nat := []
  images : Table PointRec := []
  arrayImages : Table Nat := []
  queues : Table (List Update) := []
  held : Table (List Update) := []
  offered : Table (List Update) := []
  admitted : List Admitted := []
  capUsed : Nat := 0
  quotaUsed : Table Nat := []
  nextClass : Nat := 1
  startClass : Nat := 1
  passed : List Nat := []
  fullTicks : Nat := 0
  clearTicks : Nat := 0
  stalled : List Nat := []
  dirtyFullTicks : Nat := 0
  dirtyClearTicks : Nat := 0
  forces : Table Force := []
  oosMap : Table Nat := []
  dirty : Table Nat := []
  unitWritten : Table Nat := []
  pubs : Table PubSide := []
  reports : List PointReport := []
  supLogged : Table Nat := []
  directory : Table Nat := []
  lastTick : Nat := 0
  changed : List Nat := []
  published : List Nat := []
  results : List (ResultPath × Nat) := []
  returning : List Nat := []
  freshAt : Table Nat := []
  forcesCleared : Nat := 0
deriving DecidableEq, Repr

/-! ### Segment ports (spec/04_segment_ports.md) -/

/-- A command item that waits to be sent: node, place, record, value, SAFE and RESEND (R164, R169), and whether the fit test has held
it back and counted it (R382). -/
structure CmdItem where
  node : Nat
  item : Nat
  index : Nat
  value : Nat
  safe : Bool := false
  resend : Bool := false
  held : Bool := false
deriving DecidableEq, Repr

/-- A CMD message that has been sent and not yet acknowledged (R169); `held` once the fit test has held a retry back and counted it
(R382). -/
structure CmdMsg where
  node : Nat
  seq : Nat
  items : List CmdItem
  attempts : Nat := 1
  sentAt : Nat
  held : Bool := false
deriving DecidableEq, Repr

/-- An open visit of the S485 master: the node, the number of attempts and the instant of the last (R168). -/
structure Visit where
  node : Nat
  attempts : Nat := 1
  sentAt : Nat
deriving DecidableEq, Repr

/-- A feed switch beside its registers (R179 to R187): when it began to close, was last ON, entered LIMIT, the end of its
back-off, its sheds within the last 60 s, the PoDL class power in mW, whether it waits to reclose after a shed, and when it
last opened. -/
structure FeedState where
  closedAt : Nat := 0
  onSince : Nat := 0
  limitSince : Nat := 0
  backoffEnd : Nat := 0
  sheds : List Nat := []
  detectAt : Nat := 0
  classMw : Nat := 0
  shed : Bool := false
  openedAt : Nat := 0
deriving DecidableEq, Repr

/-- A segment port beside its registers: the survey that runs, the JOINING in progress with the nodes that are up in it and those that
have ever echoed in it (R155, R156), echoes, misses and lost nodes, nodes whose OOS waits for a beacon, commands, messages on the
way, and the receive queue of R171. -/
structure SegPort where
  svyFrom : Nat := 0
  svyAt : Nat := 0
  joinSent : Nat := 0
  joinSince : Nat := 0
  joined : Nat := 0
  joinEchoed : Nat := 0
  echoed : Nat := 0
  beaconOut : Bool := false
  beaconAt : Nat := 0
  misses : Table Nat := []
  lost : Nat := 0
  oosWait : Table Nat := []
  polled : Nat := 0
  pollNext : Nat := 0
  visit : Option Visit := none
  txSeq : Nat := 0
  cmds : List CmdItem := []
  sent : List CmdMsg := []
  rxq : List (List Update) := []
  feed : FeedState := {}
deriving DecidableEq, Repr

/-- The segment ports together: survey queues and engines of the groups, and the spacing of feed switches (R177, R182 to
R184); nodes that returned since the last commit (R301), and the wait for the hold-up check after an F restart (R187). -/
structure SegState where
  ports : Table SegPort := []
  svyQueue : Table (List Nat) := []
  svyBusy : Table Nat := []
  lastClose : Option Nat := none
  lastReclose : Option Nat := none
  lastShed : Option Nat := none
  returned : List (Nat × Nat × Nat) := []
  awaitCheck : Bool := false
deriving DecidableEq, Repr

/-! ### The priority bus (spec/05_priority_bus.md) -/

/-- What a port transmits: a slot with the message it carries, a shadow buffer, or the reference message. -/
inductive TxTarget where
  | slot (j : Nat) (msg : Option Nat)
  | shadow (k : Nat)
  | reference
deriving DecidableEq, Repr

/-- The window in which a frame was started (R229). -/
inductive WinKind where
  | event | excl | arb | reference
deriving DecidableEq, Repr

/-- A frame on the line: target, frame, window, instant of SOF, and a cancellation found late (R232, R233). -/
structure Transmission where
  target : TxTarget
  frame : CanFrame
  win : WinKind
  startedAt : Nat
  late : Bool := false
deriving DecidableEq, Repr

/-- A shadow buffer (R220): its frame, when it was last armed, and the message whose items the frame carries, if the frame is one of
the point path (R214). -/
structure Shadow where
  frame : Option CanFrame := none
  armedAt : Option Nat := none
  msg : Option Nat := none
deriving DecidableEq, Repr

/-- A PBUS port beside its registers: pending messages and firmware frames of the slots, the beacon's frames, released
values per record, shadow buffers, the transmission on the line, the ceiling bucket (in 10^-9 tokens), confirmations
awaited, recent bus-offs, the foreign-reference hold, the void cycle, the window that has had its frame, and the receive-queue
sequence. `beaconNext` is a beacon that became due while the last was on its way; `foreignSeen` says that a foreign reference
message has been received since the controller integrated; `held` are the frames that the fit test has counted already (R382). -/
structure PbusPort where
  msgs : Table (List Nat) := []
  staged : List Nat := []
  frames : Table CanFrame := []
  beacon : List CanFrame := []
  beaconNext : List CanFrame := []
  values : Table Nat := []
  shadows : Table Shadow := []
  tx : Option Transmission := none
  tokens : Option Nat := none
  tokensAt : Nat := 0
  confirms : List (Nat × Nat) := []
  busoffs : List Nat := []
  holdUntil : Option Nat := none
  foreignSeen : Bool := false
  winUsed : Option Nat := none
  cycleAt : Nat := 0
  refDone : Bool := false
  void : Bool := false
  eseq : Nat := 0
  held : List Nat := []
deriving DecidableEq, Repr

/-! ### Control loops (spec/06_control_loops.md) -/

/-- What is gathered for a sample (R249): its count and instant, the values in binary64, the value in effect of the output
record, whether the output is overridden, the mode of the evaluation (0 AUTO, 1 MANUAL, 2 TRACK, 3 fail-safe output), and
the coefficients before a bumpless change. -/
structure Gather where
  k : Nat
  tms : Nat
  y : Nat
  sp : Nat
  ff : Nat
  tv : Nat
  r : Nat
  rUninit : Bool
  overridden : Bool
  action : Nat
  oldCoefs : Option (List Nat) := none
deriving DecidableEq, Repr

/-- What the status word shows of a sample: effective mode and HOLD reason, override, input failure, and the qualities of process value
and setpoint (R246). -/
structure LoopShown where
  emode : Nat := 3
  hrsn : Nat := 3
  ovrd : Bool := false
  inf : Bool := false
  pvq : Nat := 0
  spq : Nat := 0
deriving DecidableEq, Repr

/-- The run-time state of a loop (R245, R246): the law's state in binary64, the status word's fields, the coefficients and
mode request in effect, staged writes as value and sample count (place 15 is MODEREQ), and the output buffer with its apply
instant in ms. -/
structure LoopState where
  ist : Nat := 0
  dst : Nat := 0
  uout : Nat := 0
  wprev : Nat := 0
  aref : Nat := 0
  ylast : Nat := 0
  sample : Nat := 0
  ovrcnt : Nat := 0
  emode : Nat := 3
  hrsn : Nat := 3
  ovrd : Bool := false
  win : Bool := false
  late : Bool := false
  oref : Bool := false
  inf : Bool := false
  pvq : Nat := 0
  spq : Nat := 0
  ores : Nat := 0
  ovrc : Nat := 0
  coefs : List Nat := []
  modereq : Nat := 0
  staged : Table (Nat × Nat) := []
  latched : Bool := false
  init : Bool := true
  graceUsed : Nat := 0
  pvFailed : Bool := false
  lastSp : Option Nat := none
  lastFf : Option Nat := none
  lastK : Option Nat := none
  gather : Option Gather := none
  held : Option (Nat × Nat) := none
  /-- An output has been computed since the record was loaded: there is one to present again (R276). -/
  computed : Bool := false
  /-- The latch was set after the last sample instant (R277). -/
  latchNew : Bool := false
  /-- The staged MODEREQ was written in overrun HOLD: it clears the latch when it takes effect (R277). -/
  clears : Bool := false
  /-- The status of the last completed evaluation, which LOOPWIN shows while that of a later sample is not complete (R283). -/
  was : Option LoopShown := none
deriving DecidableEq, Repr

/-- The run-time state of a group (R267): the last selected output and the last winner, once there are such. -/
structure GroupState where
  gout : Option Nat := none
  switches : Nat := 0
  selv : Bool := false
  winner : Option Nat := none
deriving DecidableEq, Repr

/-- The control engine. -/
structure ControlState where
  loops : Table LoopState := []
  groups : Table GroupState := []
  /-- The least slack since `MINSLACK` was last read (R281). -/
  slack : Option Nat := none
deriving DecidableEq, Repr

/-! ### Cyclic tasks (spec/07_cyclic_tasks.md) -/

/-- A timer cell (R298): kind, IN, PT in ms, and the MONO instant (µs) from which it counts. -/
structure TimerCell where
  kind : Nat := 0
  inp : Bool := false
  pt : Nat := 0
  stamp : Option Nat := none
deriving DecidableEq, Repr

/-- An edge latch (R299): edge counts with OVF, MONO µs of the first edge, and the level. -/
structure LatchState where
  rising : Nat := 0
  falling : Nat := 0
  ovf : Bool := false
  first : Option Nat := none
  level : Bool := false
deriving DecidableEq, Repr

/-- A gathered input (R294). -/
structure TaskInput where
  pv : Nat
  qual : Nat
  forced : Bool
  oos : Bool
deriving DecidableEq, Repr

/-- The input image of a release (R294, R298, R299): inputs, Q and ET of the timers, latches, and each counter with its
difference. -/
structure InputImage where
  inputs : List TaskInput := []
  timers : Table (Bool × Nat) := []
  latches : Table LatchState := []
  counters : List (Nat × Nat) := []
deriving DecidableEq, Repr

/-- A task at run time: images and retained values (class K), committed variables, staged changes as entry, value and
release count, the release served and its cycle, the event release, pending commands, and `ctx`: a saved
context waits on the core (R286 to R310, R503). -/
structure TaskRun where
  active : Option TaskImage := none
  staged : Option TaskImage := none
  overlay : Table Nat := []
  saved : Table Nat := []
  vars : Table Nat := []
  changes : List (Nat × Nat × Nat) := []
  image : InputImage := {}
  counts : Table Nat := []
  relk : Nat := 0
  relUs : Nat := 0
  cmtUs : Nat := 0
  relMono : Nat := 0
  relAt : Nat := 0
  lastMs : Option Nat := none
  /-- The last release instant (ms) that passed without being served: by an overrun, or by a forward step (R286, R302). -/
  passedMs : Nat := 0
  evtAt : Option Nat := none
  pendAt : Nat := 0
  late : Bool := false
  stop : Bool := false
  swap : Bool := false
  batch : Nat := 0
  /-- Batches presented whose commit is outstanding (R296, R314). -/
  open' : List Nat := []
  ctx : Bool := false
  savedAt : Nat := 0
deriving DecidableEq, Repr

/-- The cyclic task engine. -/
structure CteState where
  tasks : Table TaskRun := []
  timers : Table TimerCell := []
  latches : Table LatchState := []
  batches : Nat := 0
deriving DecidableEq, Repr

/-! ### Metering (spec/08_metering.md) -/

/-- A linear filter between two samples: its last inputs and outputs, newest first. -/
structure FilterState where
  xs : List ℚ := []
  ys : List ℚ := []
deriving DecidableEq, Repr

/-- The signal chain of a channel between two samples (R319, R320, R321): integrators and differentiators of the decimator, the
compensation filter, the high-pass filter, the integrator, and the samples of the calibration delay, newest first. -/
structure ChannelChain where
  acc : Int × Int × Int := (0, 0, 0)
  comb : Int × Int × Int := (0, 0, 0)
  fir : FilterState := {}
  highPass : FilterState := {}
  integ : FilterState := {}
  delay : List ℚ := []
deriving DecidableEq, Repr

/-- A sample pair multiplied by the quadrature references (R326): voltage and current, in phase and in quadrature. -/
structure Quadrature where
  vi : ℚ
  vq : ℚ
  ii : ℚ
  iq : ℚ
deriving DecidableEq, Repr

/-- An element between two samples, newest first: the powers in its direction filter (R328) and the products in its moving
average (R326). -/
structure ElementChain where
  powers : List ℚ := []
  products : List Quadrature := []
deriving DecidableEq, Repr

/-- A channel at run time (R322, R327, R355); quantities in binary64. -/
structure MeterChannel where
  rms : Nat := 0
  rms1 : Nat := 0
  peak : Nat := 0
  freq : Nat := 0
  ovrw : Nat := 0
  over' : Bool := false
  harmonics : List Nat := []
deriving DecidableEq, Repr

/-- A circuit at run time (R332, R333, R355): kept groups of total active, refused writes, and per element A, B, C, T the
window's P, P1, Q1, S, PF in binary64. -/
structure MeterCircuit where
  kept : List Bool := []
  nlwin : Nat := 0
  p : List Nat := []
  p1 : List Nat := []
  q1 : List Nat := []
  sva : List Nat := []
  pf : List Nat := []
  pref : Nat := 0
  wend : Nat := 0
deriving DecidableEq, Repr

/-- A demand interval record (R337, R338); the peaks in binary32. -/
structure IntervalRec where
  start : Nat
  len : Nat
  flags : Nat
  energy : List Nat
  pkimp : Nat
  pkexp : Nat
  seq : Nat
  calep : Nat
  regep : Nat
deriving DecidableEq, Repr

/-- The open demand interval (R337 to R339): nominal start, metered ms, flags of the module and of circuits, registers at
its opening, and highest import and export of a whole second, keyed 2 × circuit + direction, in units of 2^-32 mWh. -/
structure OpenInterval where
  start : Nat := 0
  len : Nat := 0
  flags : Nat := 0
  cflags : Table Nat := []
  base : Table Nat := []
  peaks : Table Nat := []
deriving DecidableEq, Repr

/-- A save slot with a valid CRC (R340, R341); `changed` are the change times of the registers (assumption 114; DESIGN CHOICE). -/
structure SaveImage where
  seq : Nat
  instant : Nat
  pf : Bool
  regs : Table Nat
  interval : Option OpenInterval
  heads : Table Nat
  seqs : Table Nat
  changed : Table Nat
deriving DecidableEq, Repr

/-- The metering block: registers keyed (4 × circuit + element) × 8 + register, in 2^-32 mWh; test registers of element T
keyed 8 × circuit + register; calibration as gain and delay; rings keyed 128 × circuit + slot; `pfImage` is the image of a power-fail
stop with its slot; chains of channels, and of elements keyed 3 × circuit + element; `marks` are the trackers' changes since the last window: channel, TAI µs and validity (R325). While `waiting`,
accumulation runs and no interval opens or closes, since TAI is not set (R339): `waitLen` is the time metered since, `waitFlags` what
the interval will open with. `changed` is the TAI ms of a circuit's last register change, `lcycRest` the 1/5,000 parts of 1/256 cycle
that LCYC does not show, and `stopAt` the commit instant of a power-fail stop in TAI ms with its instant (R342, R346). -/
structure MeterState where
  regs : Table Nat := []
  tregs : Table Nat := []
  channels : Table MeterChannel := []
  circuits : Table MeterCircuit := []
  cal : Table (Nat × Nat) := []
  staged : Table (Nat × Nat) := []
  applying : Bool := false
  trackers : Nat := 0
  rings : Table IntervalRec := []
  heads : Table Nat := []
  seqs : Table Nat := []
  last : Table IntervalRec := []
  interval : Option OpenInterval := none
  closedMs : Nat := 0
  startRegs : Table Nat := []
  secRegs : Table Nat := []
  secWindows : Nat := 0
  windowMs : Nat := 0
  sums : Table Nat := []
  periodWindows : Nat := 0
  periodOver : Nat := 0
  lfRun : Nat := 0
  lfFreqs : List Nat := []
  gate : Option (Nat × Nat) := none
  slot0 : Option SaveImage := none
  slot1 : Option SaveImage := none
  changed : Table Nat := []
  waiting : Bool := false
  waitLen : Nat := 0
  waitFlags : Nat := 0
  lcycRest : Nat := 0
  stopAt : Option (Nat × Nat) := none
  pfImage : Option (Nat × SaveImage) := none
  chains : Table ChannelChain := []
  elements : Table ElementChain := []
  marks : List (Nat × Nat × Bool) := []
deriving DecidableEq, Repr

/-! ### Lanes (spec/09_lanes_parapet.md) -/

/-- The lane guard beside its registers: the last LANE_VIOLATION record of each source (R366). -/
structure LaneState where
  logged : Table Nat := []
deriving DecidableEq, Repr

/-- The module-wide output state of the parapet (R377). -/
inductive OutState where
  | dflt | safe | released | drive
deriving DecidableEq, Repr

/-- The run-time part of a parapet entry (R369, R371 to R374). `tokens` is the change-token bucket in units of
1 ÷ (3,600 × 10⁹) of a token, `none` while full; `counted` lists the kinds already counted for the request `req`; `fresh` asks for the value to be released even if
unchanged (R122). -/
structure EntryState where
  rel : Nat := 0
  rng : Bool := false
  slw : Bool := false
  dwl : Bool := false
  rat : Bool := false
  held : Bool := false
  eclip : Nat := 0
  lchg : Nat := 0
  tokens : Option Nat := none
  tokensAt : Nat := 0
  req : Option Nat := none
  counted : List Nat := []
  evalAt : Nat := 0
  fresh : Bool := false
deriving DecidableEq, Repr

/-- A value that the parapet releases to a segment command item: the entry, the value, the SAFE flag
(R164, R377), and whether its frame goes by a shadow buffer (R386). -/
structure Released where
  entry : Nat
  value : Nat
  safe : Bool := false
  shadow : Bool := false
deriving DecidableEq, Repr

/-- The parapet: output state, drive permission of a paired member, entries, the last PRPT_CLIP record per entry or port
and kind, the lift call bucket, the always-on latches of entries 0 to 31, what it last released, and the feed limit of each port that
was last counted as clipped (R367 to R386). -/
structure ParapetState where
  out : OutState := .dflt
  permission : Bool := false
  entries : Table EntryState := []
  logged : Table Nat := []
  liftTokens : Option Nat := none
  liftAt : Nat := 0
  latches : Table Nat := []
  releases : List Released := []
  evalAt : Nat := 0
  feedReq : Table Nat := []
deriving DecidableEq, Repr

/-! ### Viaduct, uplinks and pairs (spec/10_viaduct.md) -/

/-- A peer module as the viaduct block knows it (R397 to R400, R407), keyed 2 × slot + member: its DTLS session with the
identity digest that it presented, and what its last heartbeat said. -/
structure Peer where
  session : Bool := false
  enrolled : Bool := false
  digest : Nat := 0
  port : Nat := 0
  up : Bool := false
  lastHb : Nat := 0
  mode : Nat := 0
  flags : Nat := 0
  kslot : Nat := 0xFF
  krank : Nat := 0
  kepoch : Nat := 0
  pepoch : Nat := 0
deriving DecidableEq, Repr

/-- The claim to the keystone role that a module stands for (R401). -/
structure Claim where
  epoch : Nat
  rank : Nat
  slot : Nat
deriving DecidableEq, Repr

/-- An enrolment action that the keystone has sent (R400): code 1 enrol or 2 unenrol, place, digest, what the list held there before,
and the peers that have still to answer. -/
structure ViaAction where
  code : Nat
  place : Nat
  digest : Nat
  before : Option Nat
  waiting : List Nat
deriving DecidableEq, Repr

/-- The viaduct block beside its registers: enrolment list (class K) by 2 × slot + member, keystone view, own claim, timers,
the enrolment actions that wait for answers, oldest first, and those that a peer answered as of lower order (R403),
subscriber entries (record, peer), the pair epoch of each mirror's last publication, the mirrors held as keystone, and whether
the keystone's subscriptions stand. -/
structure ViaState where
  peers : Table Peer := []
  enrolled : Table Nat := []
  txSeq : Nat := 0
  hbAt : Nat := 0
  view : Option Claim := none
  heardAt : Nat := 0
  mine : Option Claim := none
  claimAt : Nat := 0
  namedAt : Nat := 0
  noClaim : Nat := 0
  actions : List ViaAction := []
  overlap : List ViaAction := []
  subs : List (Nat × Nat) := []
  mirrorEpoch : Table Nat := []
  keystoneOf : List Nat := []
  subscribed : Bool := false
  linksUp : Option Nat := none
deriving DecidableEq, Repr

/-- An uplink port beside its registers (R392, R394): since when its link is down, whether it is lost, and the best
Announce received with its instant. -/
structure UplinkState where
  downSince : Option Nat := none
  lost : Bool := false
  announce : Option PtpAnnounce := none
  announceAt : Nat := 0
deriving DecidableEq, Repr

/-- An LREQ that has been sent (R411, R412): its number, KIND and MONO ns at sending. -/
structure LeaseReq where
  seq : Nat
  kind : Nat
  sent : Nat
deriving DecidableEq, Repr

/-- The class K contents that checkpoints carry (R417). -/
structure CkImage where
  recs : Table PointImage := []
  arrays : Table Nat := []
  forces : Table Force := []
  oos : Table Nat := []
  retained : Table (Table Nat) := []
deriving DecidableEq, Repr

/-- A checkpoint that is being received: number, tick, parts expected and received, and whether it is full. -/
structure CkStage where
  seq : Nat
  tick : Nat
  nparts : Nat
  full : Bool
  parts : Table (List CkEntry) := []
deriving DecidableEq, Repr

/-- A member of a redundant pair beside its registers (R409 to R420). Instants of leases are MONO ns. `base` is the image that
the standby acknowledged, `sentCk` the capture on its way; `home` says that applied units wait to be written home: number,
large (under a progress record). -/
structure PairState where
  leaseEnd : Nat := 0
  reqs : List LeaseReq := []
  reqSeq : Nat := 0
  renewAt : Nat := 0
  askedAt : Nat := 0
  grantEnd : Nat := 0
  granting : Bool := true
  heardAt : Nat := 0
  abutAt : Nat := 0
  capturedAt : Nat := 0
  base : Option CkImage := none
  sentCk : Option (Nat × CkImage) := none
  stage : Option CkStage := none
  home : Option (Nat × Bool) := none
  progress : Bool := false
  ckEpoch : Option Nat := none
  takeoverFrom : Option Nat := none
deriving DecidableEq, Repr

/-- A takeover request that an abutment holds until its bounds have passed (R414): member, number, receipt, due (MONO ns). -/
structure Takeover where
  member : Nat
  seq : Nat
  received : Nat
  due : Nat
deriving DecidableEq, Repr

/-- A pair that this module serves as abutment (R412 to R415): pair epoch, holder, end of the last grant (MONO ns), release,
the first initial request, the members that have asked with number and receipt, and the takeover requests that wait, oldest first. -/
structure AbutPair where
  epoch : Nat := 0
  holder : Option Nat := none
  grantEnd : Nat := 0
  released : Bool := false
  firstAsk : Option Nat := none
  asked : Table (Nat × Nat) := []
  waits : List Takeover := []
deriving DecidableEq, Repr


/-! ### Power, caisson and clocks (spec/11_modes_power.md, spec/12_clocks.md) -/

/-- Section 2 of a commit (R452): dirty record units, priority-array halves, retained areas, log buffer. -/
structure JournalUnits where
  images : Table PointRec := []
  halves : Table (List Nat) := []
  retained : Table (Table Nat) := []
  log : List LogRecord := []
deriving DecidableEq, Repr

/-- A half of the journal that is not free (R453): its header, and each section with whether it is sealed. -/
structure JournalHalf where
  cmtseq : Nat
  instant : Nat
  sealUs : Nat := 0
  image : Option (Nat × SaveImage) := none
  sealed1 : Bool := false
  units : JournalUnits := {}
  sealed2 : Bool := false
deriving DecidableEq, Repr

/-- The caisson and the power controller beside their registers: warning and commit in progress (R444 to R456), the journal,
the bank's check (R447 to R451), watchdog and software reset (R438, R439), start count (R57) and start (R462), whether the module has power and
whether its start still waits, DOZE intervals (R435). -/
structure PowerState where
  epoch : Nat := 0
  warnAt : Nat := 0
  planned : Bool := false
  half : Nat := 0
  stopped : Bool := false
  restartWaits : Bool := false
  noCommit : Bool := false
  journal : Table JournalHalf := []
  checked : Bool := false
  chargeAt : Nat := 0
  checkAt : Nat := 0
  checkFrom : Nat := 0
  lastCheck : Nat := 0
  wdAt : Nat := 0
  wdLast : Option Nat := none
  srstAt : Option Nat := none
  startAt : Nat := 0
  powered : Bool := true
  booting : Bool := true
  dozeAt : Nat := 0
  dozes : List (Nat × Nat) := []
deriving DecidableEq, Repr

/-- CLKFAIL2 in force (R480, R481): the failed element, retries made, whether the module was in fallback, the next retry. -/
structure ClkFail2 where
  element : Nat
  retries : Nat := 0
  wasFallback : Bool
  nextAt : Nat
deriving DecidableEq, Repr

/-- The clock monitor beside its registers: failing and passing windows in a row, the IRC's start and a trip that waits for it,
the last reference change, fallbacks of the last 3,600 s, CLKFAIL2, one from which a start has just recovered (R487), and broken joints
by 32 × joint + port. -/
structure ClockState where
  xtFails : Nat := 0
  xtPasses : Nat := 0
  m32Fails : Nat := 0
  m32Passes : Nat := 0
  ircBad : Bool := false
  ircFrom : Option Nat := none
  tripped : Bool := false
  refAt : Option Nat := none
  fallbacks : List Nat := []
  fbAt : Nat := 0
  cf2 : Option ClkFail2 := none
  bootFail : Option ClkFail2 := none
  broken : Table Nat := []
deriving DecidableEq, Repr

/-! ### Cores, mailboxes and DMA (spec/13_cores_memory.md) -/

/-- Mailboxes and DMA channels beside their registers: the MONO instant (ns) of the word that waits in each mailbox (R515), and
the element at which each channel stands with the bytes or records it has completed there and its descriptor as fetched (R506),
the number of invalidations (R497), and the poisoned lines of DRAM by address ÷ 64 (R498). -/
structure FabricState where
  mailAt : Table Nat := []
  element : Table Nat := []
  progress : Table Nat := []
  desc : Table (List Nat) := []
  maps : Nat := 0
  poison : List Nat := []
deriving DecidableEq, Repr

/-! ### Security enclave and tamper (spec/14_security.md) -/

/-- A general key slot (R542): READY or EXHAUSTED, the items of `SLINFO` to `SLOWN`, and the key itself. -/
structure KeySlot where
  exhausted : Bool := false
  typ : Nat
  measpol : Nat := 0
  gen : Bool := false
  usage : Nat := 0
  uses : Nat := 0
  limit : Nat := 0
  owner : Nat := 0
  key : Nat
deriving DecidableEq, Repr

/-- An enclave operation that a requester copy has submitted (R545, R547), with the lane set of its requester; `dropped` says
that its session has closed. -/
structure EncOp where
  copy : Nat
  op : Nat
  slot : Nat
  dst : Nat
  arg0 : Nat
  arg1 : Nat
  input : List Nat
  lanes : BitVec 256
  dropped : Bool := false
deriving DecidableEq, Repr

/-- The enclave beside its pages: key slots, root, the store's provisioning nonce while helper data exists, whether the root
is being regenerated at a start, input buffers as words keyed 4096 × copy + word, output buffers, the operation in service and
the queue, the last entropy failure or restart, the mode that provisioning was opened from, what it installed (certificate
chain, authority keys), the zeroized marker, a tamper that waits for main power, and the instant of the last trip. -/
structure EnclaveState where
  slots : Table KeySlot := []
  root : Option Nat := none
  nonce : Option Nat := none
  regenerating : Bool := true
  rootAt : Nat := 0
  inputs : Table Nat := []
  outputs : Table (List Nat) := []
  running : Option EncOp := none
  queue : List EncOp := []
  entAt : Nat := 0
  provFrom : Nat := 0
  chain : Bool := false
  authorities : Nat := 0
  zeroized : Bool := false
  tripped : Bool := false
deriving DecidableEq, Repr

/-! ### Firmware update and the service port (spec/15_update.md) -/

/-- A NOR bank: the image that the factory wrote, or the manifest of block 0 with whether its signatures were verified, and the
blocks written, each 65,536 bytes (R562, R564). -/
structure BankState where
  factory : Bool := false
  manifest : Option Manifest := none
  signed : Bool := false
  blocks : Table (List Nat) := []
deriving DecidableEq, Repr

/-- A block that the update write engine programs (R564): index, bytes, manifest of block 0, and the tag of its request. -/
structure BlockWrite where
  index : Nat
  bytes : List Nat
  manifest : Option Manifest
  tag : Nat
  arg : Nat
  since : Nat
deriving DecidableEq, Repr

/-- An object that a requester stages (R575): kind, task, length, and the parts accepted, in order. -/
structure Staging where
  kind : Nat
  task : Nat
  length : Nat
  parts : List (List Nat)
deriving DecidableEq, Repr

/-- The update engine beside its page: banks A and B, the bank that the last committed image runs from, the block being written,
staged objects by requester, the instant from which TRIALLEFT counts, the last trial reset, W resets in the trial, and the
configuration sheet that this service session delivered to meet a new charter (R360). -/
structure UpdateState where
  bankA : BankState := { factory := true }
  bankB : BankState := {}
  home : Nat := 0
  writing : Option BlockWrite := none
  verifyAt : Nat := 0
  staging : Table Staging := []
  trialAt : Nat := 0
  resetAt : Nat := 0
  wresets : Nat := 0
  delivered : Option ConfigSheet := none
deriving DecidableEq, Repr

/-! ### Local I/O, access readers and lift interface (spec/17_local_io_access_lift.md) -/

/-- The universal I/O beside its registers: the instant of the last trip or try of each binary output (R614), and that of the last
update of each channel (R612). -/
structure UioState where
  boTried : Table Nat := []
  sampled : Table Nat := []
deriving DecidableEq, Repr

/-- A valid entry of the credential cache (R618); DIGEST has 96 bits, HOME is a signed byte. -/
structure Credential where
  digest : Nat
  doors : Nat
  since : Nat
  until' : Nat
  pinchk : Nat
  home : Nat
  flags : Nat
  tag : Nat
deriving DecidableEq, Repr

/-- An event ring record (R621). -/
structure AccEvent where
  time : Nat
  door : Nat
  code : Nat
  tag : Nat
  index : Nat
  digest : Nat
  call : Nat
  us : Nat
deriving DecidableEq, Repr

/-- A decision in progress (R620): the cache index and entry read at its lookup, the instant at which the read was complete,
and, at the PIN step, since when it waits and the digits typed so far. -/
structure PinWait where
  index : Nat
  cred : Credential
  readAt : Nat
  since : Nat
  digits : List Nat := []
deriving DecidableEq, Repr

/-- A grant whose release point has not yet taken 1 (R621). -/
structure GrantWait where
  door : Nat
  event : AccEvent
  readAt : Nat
deriving DecidableEq, Repr

/-- The poll in progress on an OSDP port (R616): reader, attempts and the instant of the last. -/
structure OsdpPoll where
  reader : Nat
  attempts : Nat := 1
  sentAt : Nat
deriving DecidableEq, Repr

/-- The secure channel of a reader (R617): failures in a row, the instant from which it is tried again, and a key exchange in
progress with the value of `INSTALL` that it started with. -/
structure SecureState where
  fails : Nat := 0
  retryAt : Nat := 0
  exchange : Option Bool := none
deriving DecidableEq, Repr

/-- The access block beside its registers: credential cache (by index from 0), event ring by slot with the records written
since the start and how many of them the host has passed, PIN waits and grants by door (end of the release), grants that wait for their commit, polls by port with the
reader polled last, and secure channels by reader. -/
structure AccessState where
  cache : Table Credential := []
  ring : Table AccEvent := []
  written : Nat := 0
  passed : Nat := 0
  pins : Table PinWait := []
  grants : Table Nat := []
  waits : List GrantWait := []
  polls : Table OsdpPoll := []
  polled : Table Nat := []
  secure : Table SecureState := []
deriving DecidableEq, Repr

/-- A lift call that waits for its DRESP (R625): CALLID, the requester copy of a host call, floors as signed bytes, ACCESSIBLE, and the
instant of sending; none while its frame does not fit into the lease (R382). -/
structure LiftCall where
  id : Nat
  copy : Option Nat
  fromFl : Nat
  toFl : Nat
  acc : Bool
  sentAt : Option Nat
deriving DecidableEq, Repr

/-- The lift interface beside its registers: last CALLID and SEQ, open calls, the last valid message, and the last LSTAT sent. -/
structure LiftState where
  lastId : Nat := 0
  seq : Nat := 0
  calls : List LiftCall := []
  heardAt : Nat := 0
  lstatAt : Nat := 0
deriving DecidableEq, Repr

/-! ### The state -/

/-- The installed signed sheets (class K). -/
structure SheetState where
  charter : Option Charter := none
  parapet : Option ParapetSheet := none
  config : Option ConfigSheet := none
deriving DecidableEq, Repr

/-- Why a step stops with a fault. -/
inductive Fault where
  /-- Raised by no meaning of this model: the specification stops the block on no command. Safe. -/
  | none
deriving DecidableEq, Repr

/-- Why a command has no meaning here. -/
inductive Refusal where
  /-- Raised by an arm of `exec` whose command has no meaning yet. Safe: the machine stops. -/
  | notModelled (mnemonic : String)
deriving DecidableEq, Repr

/-- The whole state of the module. -/
structure State where
  /-- Every stored field of the register tables, by key (copy, page, word, bit); unlisted: its reset value (R9). -/
  regs : Table Nat := []
  /-- Time that has passed, in ns of the SYS clock. -/
  now : Nat := 0
  /-- The MODEL'S OWN counter of free values drawn (no state of the specification). -/
  freeCtr : Nat := 0
  /-- Commands that wait, first in, first out. -/
  pending : List Instr := []
  /-- What has left the module, oldest first. -/
  out : List Out := []
  /-- The KEY state of each page on the fabric (R47, R48). -/
  keys : Table KeyState := []
  /-- PAP, BACnet and service sessions, by requester copy (R63 to R76). -/
  sessions : Table Session := []
  /-- The event recorder: buffer, segments, operating time (R599 to R607). -/
  log : LogState := {}
  /-- The calendar clock in its own supply domain (R584 to R598). -/
  rtc : RtcState := {}
  /-- TAI and MONO counters and their slew (R284, R285). -/
  time : TimeBase := {}
  /-- The installed charter, parapet sheet and configuration (`15_update.md`). -/
  sheets : SheetState := {}
  /-- The lane guard: when each source last had a LANE_VIOLATION recorded (R366). -/
  lane : LaneState := {}
  /-- The point engine: records, queues, forces, publication, persistence (`03_points.md`). -/
  pt : PointState := {}
  /-- The parapet (`09_lanes_parapet.md`). -/
  prpt : ParapetState := {}
  /-- The segment ports: nodes, surveys, feeds (`04_segment_ports.md`). -/
  seg : SegState := {}
  /-- The PBUS engine, by port (`05_priority_bus.md`). -/
  pbus : Table PbusPort := []
  /-- DRAM, by physical address (R491, R495). -/
  mem : List Host.Cell := []
  /-- The control-loop engine (`06_control_loops.md`). -/
  cle : ControlState := {}
  /-- The cyclic-task engine (`07_cyclic_tasks.md`). -/
  cte : CteState := {}
  /-- The meter (`08_metering.md`). -/
  mtr : MeterState := {}
  /-- The viaduct block (`10_viaduct.md`). -/
  via : ViaState := {}
  /-- Uplinks, by port (`10_viaduct.md`). -/
  uplinks : Table UplinkState := []
  /-- The member of a redundant pair (`10_viaduct.md`). -/
  pair : PairState := {}
  /-- The pairs this module serves as abutment, by slot (R411 to R415). -/
  abut : Table AbutPair := []
  /-- The caisson and the power controller (`11_modes_power.md`). -/
  pwr : PowerState := {}
  /-- Clock monitors and sources (`12_clocks.md`). -/
  clk : ClockState := {}
  /-- DMA channels, mailboxes and address maps (`13_cores_memory.md`). -/
  fab : FabricState := {}
  /-- The enclave (`14_security.md`). -/
  enc : EnclaveState := {}
  /-- The update engine (`15_update.md`). -/
  upd : UpdateState := {}
  /-- Universal inputs and outputs (`17_local_io_access_lift.md`). -/
  uio : UioState := {}
  /-- Doors, readers and credentials (`17_local_io_access_lift.md`). -/
  acc : AccessState := {}
  /-- The lift adapter (`17_local_io_access_lift.md`). -/
  lift : LiftState := {}
deriving DecidableEq, Repr

/-- The module right after a power-on reset, before its start sequence (R9, R462): every register at its Reset value and
nothing listed in any table. -/
def State.reset : State := {}

end Sys2Proof.Machine
end

