-- ==== Sys2Proof/Machine/Ops.lean ====
section
/-! DEFINITION. The named operations over State that every meaning uses: register fields, faults and counters, time,
outgoing messages, and the change sequence of R41 and R58 that closes every command. -/

namespace Sys2Proof.Machine

/-! ### Register fields -/

/-- The value of a register field. -/
def State.get (s : State) (f : RegField) : Nat := regRead s.regs f

/-- Sets a register field, cut to its width. -/
def State.set (s : State) (f : RegField) (v : Nat) : State := { s with regs := regWrite s.regs f v }

/-- Sets a one-bit field, such as a FAULT bit (R42). -/
def State.raise (s : State) (f : RegField) : State := s.set f 1

/-- Sets a one-bit field to a truth value. -/
def State.setBit (s : State) (f : RegField) (b : Bool) : State := s.set f (if b then 1 else 0)

/-- A one-bit field is 1. -/
def State.bit (s : State) (f : RegField) : Bool := decide (s.get f = 1)

/-- Adds `n` to a counter that saturates at its largest value. -/
def State.countSat (s : State) (f : RegField) (n : Nat) : State := s.set f (min (s.get f + n) (2 ^ f.width - 1))

/-- Adds `n` to a counter that wraps. -/
def State.countWrap (s : State) (f : RegField) (n : Nat) : State := s.set f (s.get f + n)

/-- Two's complement of an integer in a field of `w` bits. -/
def toField (w : Nat) (x : Int) : Nat := (x % (2 ^ w : Int)).toNat

/-- The integer that a `w`-bit field holds in two's complement. -/
def ofField (w : Nat) (v : Nat) : Int := if v % 2 ^ w < 2 ^ (w - 1) then (v % 2 ^ w : Nat) else (v % 2 ^ w : Nat) - (2 ^ w : Int)

/-- An integer clamped to what a signed field of `w` bits holds. -/
def satSigned (w : Nat) (x : Int) : Int := max (-(2 ^ (w - 1) : Int)) (min x (2 ^ (w - 1) - 1 : Int))

/-! ### The change sequence (R41, R42, R58) -/

/-- The entries of a page's STAT and FAULT words (copy 0): the two words are neighbours in the key order. -/
def statFaultEntries (t : Table Nat) (p : Nat) : Table Nat :=
  t.filter (fun e => decide (wordKey p 3 ≤ e.1 ∧ e.1 < wordKey p 5))

/-- `STAT.ANYFAULT`: some FAULT bit is set whose FAULTEN bit is 1 (R40). -/
def anyFault (t : Table Nat) (p : Nat) : Bool :=
  let en := regRead t (Reg.HDR_FAULTEN.onPage p)
  t.any (fun e => decide (wordKey p 4 ≤ e.1 ∧ e.1 < wordKey p 5) && decide (e.2 ≠ 0) && en.testBit (e.1 % 32))

/-- The value of STAT and FAULT of page `p` changed between two register stores. -/
def pageChanged (t t' : Table Nat) (p : Nat) : Bool :=
  decide (statFaultEntries t p ≠ statFaultEntries t' p) || (anyFault t p != anyFault t' p)

/-- The pages that list an entry in STAT, FAULT or FAULTEN, in the order met, without repeats in a row. -/
def statPages : Table Nat → List Nat
  | [] => []
  | e :: t =>
    let w := (e.1 / 32) % 1024
    let rest := statPages t
    if e.1 < wordKey 4096 0 ∧ 3 ≤ w ∧ w ≤ 5 then
      if rest.contains (e.1 / 32768) then rest else (e.1 / 32768) :: rest
    else rest

/-- The pages whose STAT or FAULT changed. -/
def changedPages (t t' : Table Nat) : List Nat :=
  ((statPages t) ++ (statPages t').filter (fun p => !(statPages t).contains p)).filter (pageChanged t t')

/-- Increments the SEQ of one page, and `ATTN.SEQ` with it for a page from 0x002 to 0x1FF (R41, R58). -/
def bumpSeq (s : State) (p : Nat) : State :=
  let s := s.countWrap (Reg.HDR_SEQ.onPage p) 1
  if 2 ≤ p ∧ p ≤ 0x1FF then s.countWrap (Reg.HDR_SEQ.onPage 1) 1 else s

/-- A command that took the machine from `s` to `s'` was a P, B, W or S reset, or a loss of power: SEQ starts at 0 (R40). -/
def seqCleared (s s' : State) : Bool :=
  !s'.pwr.powered || (s'.pwr.epoch ≠ s.pwr.epoch && decide (1 ≤ regRead s'.regs Reg.MODE_RCAUSE_LAST ∧
    regRead s'.regs Reg.MODE_RCAUSE_LAST ≤ 4))

/-- Closes a command that took the machine from `s` to `s'` in one SYS cycle: every page whose STAT or FAULT changed
increments its SEQ once (R41); what a P, B, W or S reset changes counts nothing (R40). -/
def settle (s s' : State) : State :=
  if seqCleared s s' then s' else (changedPages s.regs s'.regs).foldl bumpSeq s'

/-- A port that a takeover still waits for (R420): enabled, and neither ACTIVE nor unsound (out of service, failed, or its
nodes not joining). -/
def portPending (s : State) (p : Nat) : Bool :=
  let st := regRead s.regs (Reg.SEG_STAT_PSTATE.inst p)
  regRead s.regs (Reg.SEG_CTRL_EN.inst p) = 1 && st ≠ 4 && st ≠ 5 && st ≠ 6 &&
    regRead s.regs (Reg.SEG_FAULT_NOJOIN.inst p) = 0

/-- A takeover is complete when the new active is in DRIVE and every sound port is ACTIVE: LASTTKO shows the time since the
last renewal of the old active (R420). -/
def takeoverCheck (s : State) : State :=
  match s.pair.takeoverFrom with
  | none => s
  | some t =>
    if s.prpt.out = .drive && !(List.range 32).any (portPending s) then
      { s with regs := regWrite s.regs Reg.PAIR_LASTTKO_MS ((s.now - t) / 1000000), pair := { s.pair with takeoverFrom := none } }
    else s

/-- What every command leaves as it is: the queue, and the time that has passed. -/
def commandEnd (s s' : State) : State := { s' with pending := s.pending, now := max s.now s'.now }

/-- The outcome of a command whose effect is `s'`. -/
def done (s s' : State) : Host.Outcome State Fault Refusal := .next (settle s (takeoverCheck (commandEnd s s')))

/-! ### Time (ns of the SYS clock) -/

/-- One microsecond, one millisecond and one second in ns. -/
def usec : Nat := 1000
/-- One millisecond in ns. -/
def msec : Nat := 1000000
/-- One second in ns. -/
def second : Nat := 1000000000

/-- Time passes up to instant `t`, if it has not passed yet: a time-driven command happens at its deadline. -/
def State.reach (s : State) (t : Nat) : State := { s with now := max s.now t }

/-- The part of the pending slew that has been applied by now, at 200 ppm at most (R285). -/
def slewDone (s : State) : Int :=
  let room : Int := ((s.now - s.time.since) / 5000 : Nat)
  max (-room) (min room s.time.slew)

/-- TAI in ns since the PTP epoch (R284). -/
def taiNs (s : State) : Nat := ((s.time.tai + (s.now - s.time.since) : Nat) + slewDone s).toNat
/-- MONO in ns since the last P, B, W or S reset (R284). -/
def monoNs (s : State) : Nat := ((s.time.mono + (s.now - s.time.since) : Nat) + slewDone s).toNat
/-- TAI in microseconds. -/
def taiUs (s : State) : Nat := taiNs s / 1000
/-- TAI in milliseconds. -/
def taiMs (s : State) : Nat := taiNs s / msec
/-- MONO in microseconds. -/
def monoUs (s : State) : Nat := monoNs s / 1000

/-- The least time in ns after which a counter that slews by `slew` at 200 ppm has advanced by `d` ns (R285): one ns is gained, or
lost, with every 5,000 that pass. -/
def elapsedFor (slew : Int) (d : Nat) : Nat :=
  if 0 ≤ slew then max (d - d / 5001) (d - slew.toNat)
  else min (d + (d - 1) / 4999) (d + (-slew).toNat)

/-- The first instant from now on at which TAI has reached `tai` ns. -/
def instantOfTai (s : State) (tai : Nat) : Nat := max s.now (s.time.since + elapsedFor s.time.slew (tai - s.time.tai))
/-- The first instant from now on at which MONO has reached `m` ns. -/
def instantOfMono (s : State) (m : Nat) : Nat := max s.now (s.time.since + elapsedFor s.time.slew (m - s.time.mono))
/-- The first instant from now on at which MONO has reached `m` µs. -/
def instantOfMonoUs (s : State) (m : Nat) : Nat := instantOfMono s (m * 1000)

/-- Folds the time that has passed into the counters' base, so that they may be stepped or slewed anew. -/
def timeRebase (s : State) : State :=
  { s with time := { s.time with tai := taiNs s, mono := monoNs s, since := s.now, slew := s.time.slew - slewDone s } }

/-! ### DOZE (R30) -/

/-- DOZE ends; the watchdog restarts with a full period (R30, R438), and the IRC starts at the wake (R467). -/
def dozeWake (s : State) : State :=
  if !s.bit Reg.MODE_PWRST_DOZE then s
  else
    let s := s.set Reg.MODE_PWRST_DOZE 0
    let kept := s.pwr.dozes.filter (fun (d : Nat × Nat) => decide (s.now < d.2 + second))
    { s with pwr := { s.pwr with dozes := kept ++ [(s.pwr.dozeAt, s.now)], wdAt := s.now },
             clk := { s.clk with ircFrom := some s.now } }

/-- A wake event ends DOZE (R30); after a sealed commit only an F restart and tamper wake the module (R455). -/
def wakeEvent (s : State) : State := if s.get Reg.CSN_STAT_CSTATE = 6 then s else dozeWake s

/-! ### Messages that leave the module -/

/-- Appends a message to what has left the module. -/
def State.emit (s : State) (o : Out) : State := { s with out := s.out ++ [o] }

/-- Several messages, in order. -/
def State.emitAll (s : State) (os : List Out) : State := { s with out := s.out ++ os }

/-! ### Requests to a page (R78) -/

/-- The master reaches the register window through the host bridge (R13). -/
def viaBridge : Master → Bool
  | .req r => decide (r.val ≤ 9)
  | _ => false

/-- The page's block is in a D reset (R78). -/
def pageBusy (s : State) (p : Nat) : Bool := s.bit (Reg.HDR_STAT_DRBUSY.onPage p)

/-- A request to page `p` takes effect unless the page's block is in a D reset (R78). -/
def unlessBusy (p : Nat) (f : State → State) (s : State) : State := if pageBusy s p then s else f s

/-- A request of requester `r` to page `p`: in a D reset it has no effect, and a fabric master gets a bus error (R78). -/
def askPage (r : Fin 16) (p : Nat) (f : State → State) (s : State) : State :=
  if pageBusy s p then (if viaBridge (.req r) then s else s.emit (.busError (.req r))) else f s

/-! ### Free values -/

/-- Advances the counter of free values after one has been drawn. -/
def State.drawn (s : State) : State := { s with freeCtr := s.freeCtr + 1 }

/-! ### The trim window (R595) -/

/-- Restarts the trim window of the calendar clock: it runs when a source is selected and valid (R595). -/
def trimRestart (s : State) : State :=
  let src := s.get Reg.RTC_CFG_TSRC
  let ok := (src = 1 ∧ s.bit Reg.MTR_STAT_LFVALID) ∨ (src = 2 ∧ s.bit Reg.TBASE_STAT_LOCK)
  if ok then
    ({ s with rtc := { s.rtc with trimAt := some s.now, trimLcyc := s.get Reg.MTR_LCYC_COUNT } }).raise Reg.RTC_STAT_TRIMRUN
  else ({ s with rtc := { s.rtc with trimAt := none } }).set Reg.RTC_STAT_TRIMRUN 0

/-- The reference of trim source `src` becomes valid or invalid: the window of that source restarts, without a result (R595). -/
def trimReference (src : Nat) (changed : Bool) (s : State) : State :=
  if changed && decide (s.get Reg.RTC_CFG_TSRC = src) then trimRestart s else s

end Sys2Proof.Machine
end

