-- ==== Sys2Proof/Machine/Log.lean ====
section
/-! DEFINITION. The event recorder (spec/16_rtc_log.md, R599 to R609): submission, buffer, segments, overwrite, readers. -/

namespace Sys2Proof.Machine

/-- The band of a severity (R605). -/
def logBand (sev : Nat) : Nat := if sev ≤ 3 then 0 else if sev ≤ 6 then 1 else 2

/-- The floor of each band, in segments (R605). -/
def logFloor : Nat := 16

/-- The size of a record in bytes (R599). -/
def logSize (r : LogRecord) : Nat := 24 + 8 * r.items.length

/-- Operating time in ms (R601). -/
def optimeMs (s : State) : Nat := s.log.optBase + (s.now - s.log.optAt) / msec

/-- How many segments a band holds. -/
def bandCount (segs : List LogSegment) (b : Nat) : Nat := segs.countP (fun g => g.band = b)

/-- The place of the oldest segment whose band meets `q`. -/
def oldestSeg (segs : List LogSegment) (q : Nat → Bool) : Option Nat := segs.findIdx? (fun g => q g.band)

/-- The segment that band `b` takes, by the four steps of R606: none when a free segment exists. -/
def segToTake (segs : List LogSegment) (b : Nat) : Option Nat :=
  if segs.length < 256 then none
  else
    let rich := fun c => decide (bandCount segs c > logFloor)
    let own := oldestSeg segs (fun c => c = b)
    let low := if rich 0 then oldestSeg segs (fun c => c = 0)
      else if b ≥ 1 && rich 1 then oldestSeg segs (fun c => c = 1)
      else if b ≥ 2 && rich 2 then oldestSeg segs (fun c => c = 2)
      else own
    if bandCount segs b < logFloor then
      match oldestSeg segs rich with
      | some i => some i
      | none => low
    else low

/-- `q` stands at or after `r` within half the range of the sequence numbers (R607). -/
def seqAtOrAfter (q r : Nat) : Bool := (q + 2 ^ 32 - r % 2 ^ 32) % 2 ^ 32 < 2 ^ 31

/-- Some reader in use has not yet passed sequence number `q` (R606). -/
def unreadBy (s : State) (q : Nat) : Bool :=
  [0, 1, 2, 3].any (fun k => s.bit (Reg.LOG_RUSE_INUSE.ix k) && seqAtOrAfter q (s.get (Reg.LOG_RPTR_SEQ.ix k)))

/-- Counts the records of a segment that is taken (R606). -/
def countOverwritten (s : State) (rs : List LogRecord) : State :=
  rs.foldl (fun s r =>
    let s' := s.countSat (Reg.LOG_OVWR_COUNT.ix (r.sev % 8)) 1
    if unreadBy s r.seq then s'.raise Reg.LOG_FAULT_OVWR else s') s

/-- Opens a segment for band `b` with the record in it. -/
def openSegment (s : State) (b : Nat) (r : LogRecord) : State :=
  let fresh : LogSegment := { band := b, used := logSize r, records := [r] }
  match segToTake s.log.segs b with
  | none => { s with log := { s.log with segs := s.log.segs ++ [fresh] } }
  | some i =>
    let lost := match s.log.segs[i]? with | some g => g.records | none => []
    let s := countOverwritten s lost
    { s with log := { s.log with segs := s.log.segs.eraseIdx i ++ [fresh] } }

/-- Puts the record into the newest segment of its band if it fits there. -/
def appendToBand (b : Nat) (r : LogRecord) : List LogSegment → Option (List LogSegment)
  | [] => none
  | g :: t =>
    match appendToBand b r t with
    | some t' => some (g :: t')
    | none =>
      if g.band = b ∧ g.used + logSize r ≤ 65536 ∧ t.all (fun h => h.band ≠ b) then
        some ({ g with used := g.used + logSize r, records := g.records ++ [r] } :: t)
      else none

/-- The segment counts shown in `LOG.SEGS`. -/
def showSegs (s : State) : State :=
  ((s.set Reg.LOG_SEGS_B0 (bandCount s.log.segs 0)).set Reg.LOG_SEGS_B1 (bandCount s.log.segs 1)).set
    Reg.LOG_SEGS_B2 (bandCount s.log.segs 2)

/-- Writes a record to MRAM (R603, R605, R606). -/
def logStore (s : State) (r : LogRecord) : State :=
  let b := logBand r.sev
  match appendToBand b r s.log.segs with
  | some segs => { s with log := { s.log with segs := segs } }
  | none => showSegs (openSegment s b r)

/-- The bytes in the buffer. -/
def bufBytes (s : State) : Nat := (s.log.buffer.map logSize).sum

/-- Submits an event record: it takes a SEQ and goes to MRAM (severity 6 and 7) or into the buffer, or is dropped when the
buffer has no room for it (R603). -/
def logEvent (typ sev : Nat) (items : List Nat) (s : State) : State :=
  let r : LogRecord := { typ := typ, sev := sev, seq := s.get Reg.LOG_NEXTSEQ_SEQ, optime := optimeMs s % 2 ^ 48,
                         pcc := s.get Reg.LOG_PCC_COUNT, items := items.map (· % 2 ^ 64) }
  if sev ≥ 6 then
    (logStore s r).countWrap Reg.LOG_NEXTSEQ_SEQ 1
  else if bufBytes s + logSize r ≤ 65536 then
    let s1 := { s with log := { s.log with buffer := s.log.buffer ++ [r],
                                           bufSince := if s.log.buffer.isEmpty then s.now else s.log.bufSince } }
    (s1.countWrap Reg.LOG_NEXTSEQ_SEQ 1).set Reg.LOG_BUFUSE_BYTES (bufBytes s1)
  else
    let s1 := { s with log := { s.log with drops := tabMap 0 sev (· + 1) s.log.drops } }
    ((s1.countSat (Reg.LOG_DROP_COUNT.ix (sev % 8)) 1).raise Reg.LOG_FAULT_DROP).raise Reg.LOG_STAT_BUFFULL

/-- An integer item of a record body, sign-extended to 64 bits (R600). -/
def signedItem (x : Int) : Nat := toField 64 x

/-- The number of items that R656 lists for a record type; none for a reserved code, and any number from 1 to 32 for the
firmware diagnostic codes. -/
def itemsOfType (t : Nat) : Option Nat :=
  match t with
  | 0x0001 => some 4 | 0x0002 => some 5 | 0x0003 => some 1 | 0x0004 => some 6
  | 0x0010 => some 3 | 0x0011 => some 2 | 0x0012 => some 1 | 0x0013 => some 1
  | 0x0100 => some 5 | 0x0101 => some 2 | 0x0102 => some 1 | 0x0200 => some 3 | 0x0201 => some 3
  | 0x0300 => some 2 | 0x0301 => some 3 | 0x0302 => some 2 | 0x0303 => some 2
  | 0x0400 => some 2 | 0x0401 => some 1 | 0x0402 => some 4 | 0x0403 => some 1 | 0x0404 => some 2
  | 0x0500 => some 2 | 0x0501 => some 2 | 0x0502 => some 4 | 0x0503 => some 5
  | 0x0600 => some 3 | 0x0601 => some 3 | 0x0700 => some 3 | 0x0701 => some 5 | 0x0702 => some 4
  | 0x0800 => some 3 | 0x0801 => some 3 | 0x0900 => some 2 | 0x0901 => some 3 | 0x0902 => some 5
  | 0x0A00 => some 2 | 0x0A01 => some 2 | 0x0B00 => some 2 | 0x0B01 => some 2 | 0x0B02 => some 2
  | _ => none

/-- The type and body length are ones that a firmware submission may carry (R600, R609). -/
def goodTypeLen (typ blen : Nat) : Bool :=
  1 ≤ blen && blen ≤ 32 && (typ ≥ 0xF000 || decide (itemsOfType typ = some blen))

/-- The image of a record, with its CRC-32C (R599). -/
def recordBytes (r : LogRecord) : List Nat :=
  let head := [r.items.length % 64, r.sev % 8 + (if r.cmt then 8 else 0)] ++ leBytes 2 r.typ ++ leBytes 4 r.seq ++
    leBytes 6 r.optime ++ [0, 0] ++ leBytes 4 r.pcc
  let body := r.items.flatMap (leBytes 8)
  head ++ leBytes 4 (crc32c (head ++ [0, 0, 0, 0] ++ body)) ++ body

/-- Every record in MRAM. -/
def storedRecords (s : State) : List LogRecord := s.log.segs.flatMap (fun g => g.records)

/-- The stored record with the lowest SEQ at or after `p` (R607). -/
def nextRecord (rs : List LogRecord) (p : Nat) : Option LogRecord :=
  rs.foldl (fun best r =>
    if seqAtOrAfter r.seq p then
      match best with
      | none => some r
      | some b => if (r.seq + 2 ^ 32 - p) % 2 ^ 32 < (b.seq + 2 ^ 32 - p) % 2 ^ 32 then some r else best
    else best) none

/-- Writes a list of words into a repeated field from place 0. -/
def setWords (f : RegField) (s : State) : List Nat → Nat → State
  | [], _ => s
  | w :: ws, i => setWords f (s.set (f.ix i) w) ws (i + 1)

/-- A LOAD by requester `r` through `RSEL` (R607). -/
def readerLoad (r : Nat) (s : State) : State :=
  let k := s.get (Reg.LOG_RSEL_READER.by r)
  let p := s.get (Reg.LOG_RPTR_SEQ.ix k)
  let s := s.raise (Reg.LOG_RUSE_INUSE.ix k)
  match nextRecord (storedRecords s) p with
  | none => s.raise (Reg.LOG_RRES_EMPTY.by r)
  | some rec =>
    let gap := (rec.seq + 2 ^ 32 - p) % 2 ^ 32
    let s := setWords (Reg.LOG_RDATA.by r) s (wordsOfBytes (recordBytes rec)) 0
    let s := (((s.raise (Reg.LOG_RRES_VALID.by r)).set (Reg.LOG_RRES_EMPTY.by r) 0).setBit
      (Reg.LOG_RRES_GAP.by r) (decide (gap > 0))).set (Reg.LOG_RRES_BYTES.by r) (logSize rec)
    let s := if gap > 0 then (s.countSat (Reg.LOG_RGAP_COUNT.ix k) gap).raise Reg.LOG_FAULT_GAP else s
    if s.bit (Reg.LOG_RSEL_ADV.by r) then s.set (Reg.LOG_RPTR_SEQ.ix k) (rec.seq + 1) else s

/-- Writes the whole buffer to MRAM and reports the drops, if any, in one LOG_OVERFLOW record (R603). -/
def flushBuffer (s : State) : State :=
  let s := s.log.buffer.foldl logStore { s with log := { s.log with buffer := [] } }
  let s := (s.set Reg.LOG_BUFUSE_BYTES 0).set Reg.LOG_STAT_BUFFULL 0
  if s.log.drops.isEmpty then s
  else
    let counts := [0, 1, 2, 3, 4, 5].map (tabGet 0 s.log.drops)
    logEvent 0x0004 5 counts { s with log := { s.log with drops := [] } }

/-! ### The commands -/

/-- LOG_RECORD_SUBMIT (R603). -/
def execLogRecordSubmit (typ : BitVec 16) (sev : Fin 8) (items : List (BitVec 64)) (s : State) :
    Host.Outcome State Fault Refusal :=
  done s (logEvent typ.toNat sev.val (items.map BitVec.toNat) s)

/-- The items that the WBODY words of requester `r` hold. -/
def wbodyItems (s : State) (r n : Nat) : List Nat :=
  (List.range n).map (fun i => s.get ((Reg.LOG_WBODY.by r).ix (2 * i)) + 2 ^ 32 * s.get ((Reg.LOG_WBODY.by r).ix (2 * i + 1)))

/-- LOG_FIRMWARE_SUBMIT (R603, R609): a write of `WGO` by a firmware context. -/
def firmwareSubmit (r : Nat) (s : State) : State :=
  let typ := s.get (Reg.LOG_WHDR_TYPE.by r)
  let sev := s.get (Reg.LOG_WHDR_SEV.by r)
  let blen := s.get (Reg.LOG_WHDR_BLEN.by r)
  if goodTypeLen typ blen then
    let fits := decide (sev ≥ 6) || decide (bufBytes s + 24 + 8 * blen ≤ 65536)
    (logEvent typ sev (wbodyItems s r blen) s).set (Reg.LOG_WRES_RESULT.by r) (if fits then 0 else 1)
  else s.set (Reg.LOG_WRES_RESULT.by r) 2

/-- LOG_FIRMWARE_SUBMIT by firmware context 4 or 5 (requester copies 14 and 15). -/
def execLogFirmwareSubmit (context : Fin 2) (s : State) : Host.Outcome State Fault Refusal :=
  done s (firmwareSubmit (14 + context.val) s)

/-- LOG_FLUSH (R603): at 4 KiB at once, otherwise 100 ms after the oldest record entered. -/
def execLogFlush (s : State) : Host.Outcome State Fault Refusal :=
  let s1 := if bufBytes s ≥ 4096 ∨ s.log.buffer.isEmpty then s else s.reach (s.log.bufSince + 100 * msec)
  done s (flushBuffer s1)

/-- LOG_READER_LOAD (R607). -/
def execLogReaderLoad (requester : Fin 16) (s : State) : Host.Outcome State Fault Refusal :=
  done s (readerLoad requester.val s)

/-- UTC in ms since the PTP epoch's date: TAI − UTCOFF. -/
def utcMs (s : State) : Nat := taiMs s - 1000 * s.get Reg.TBASE_CFG_UTCOFF

/-- LOG_TIMEMARK (R602): once when SET first becomes 1 after a start, then at each whole UTC hour while SET is 1. -/
def timeMark (s : State) : State :=
  if s.bit Reg.TBASE_STAT_SET then
    match s.log.lastMark with
    | none => logEvent 0x0003 1 [taiMs s] { s with log := { s.log with lastMark := some (utcMs s / 3600000) } }
    | some h =>
      let hour := utcMs s / 3600000
      let h' := if h < hour then hour else hour + 1
      let t := (h' * 3600000 + 1000 * s.get Reg.TBASE_CFG_UTCOFF) * msec
      let s := s.reach (instantOfTai s t)
      logEvent 0x0003 1 [taiMs s] { s with log := { s.log with lastMark := some h' } }
  else s

/-- LOG_TIMEMARK (R602). -/
def execLogTimemark (s : State) : Host.Outcome State Fault Refusal := done s (timeMark s)

/-- OPTIME_SAVE (R601): every 1 s. -/
def execOptimeSave (s : State) : Host.Outcome State Fault Refusal :=
  let s1 := s.reach (s.log.optSaveAt + second)
  done s { s1 with log := { s1.log with optSaved := optimeMs s1, optSaveAt := s1.now } }

end Sys2Proof.Machine
end

