-- ==== Sys2Proof/Machine/Lanes.lean ====
section
/-! DEFINITION. Tenancy lanes (spec/09_lanes_parapet.md, R357 to R366): lane sets, write sets and lane violations. -/

namespace Sys2Proof.Machine

/-- The charter in force; with none installed, and in modes UNPROVISIONED and ZEROIZED, the empty charter. -/
def charter (s : State) : Charter :=
  if s.get Reg.MODE_STAT_MODE = 0 ∨ s.get Reg.MODE_STAT_MODE = 7 then {} else match s.sheets.charter with | some c => c | none => {}

/-- The lane set with one lane. -/
def laneSet1 (l : Nat) : BitVec 256 := 1#256 <<< l

/-- The write set of a source that the charter gives one lane: a steward source (lane 255) has lanes 0 and 255 (R357). -/
def singleWriteSet (l : Nat) : BitVec 256 := if l = 255 then laneSet1 0 ||| laneSet1 255 else laneSet1 l

/-- The source class of a source identifier (R95). -/
def srcClass (src : Nat) : Nat := src / 8192
/-- The source instance of a source identifier (R95). -/
def srcInst (src : Nat) : Nat := src % 8192

/-- The source identifier of a class and instance (R95). -/
def mkSrc (c i : Nat) : Nat := c * 8192 + i % 8192

/-- The lane set of a requester copy: its session, connection or `LANE.FWSET` entry (R67, R96, R363). Copy 16 is the engine
port of DMA window elements, which has the set of firmware context 4 (R507). -/
def requesterLanes (s : State) (r : Nat) : BitVec 256 :=
  if r ≤ 9 then (tabGet {} s.sessions r).lanes
  else if r ≤ 15 then tabGet 0 (charter s).fwSets (r - 10)
  else tabGet 0 (charter s).fwSets 4

/-- The write set of a source (R96, R357: a steward source is a node, circuit, loop, task or emergency input), where `lane` is the lane that a segment port attaches. Source 0 of the emergency class, the
parapet, which no charter lists, may write every lane (assumption 80; DESIGN CHOICE). -/
def writeSet (s : State) (src : Nat) (lane : Option Nat) : BitVec 256 :=
  let i := srcInst src
  match srcClass src with
  | 0 => if i = 0 then BitVec.allOnes 256 else tabGet 0 (charter s).emergencySets i
  | 1 => singleWriteSet (match lane with | some l => l | none => tabGet 0 (charter s).nodeLanes i)
  | 2 => laneSet1 (if i < 24 then tabGet 0 (charter s).uioLanes i
      else if i = 48 then (charter s).liftLane else (charter s).accLane)
  | 3 => singleWriteSet (tabGet 0 (charter s).circuitLanes i)
  | 4 => singleWriteSet (tabGet 0 (charter s).loopLanes i)
  | 5 => singleWriteSet (tabGet 0 (charter s).taskLanes i)
  | 6 => requesterLanes s i
  | _ => 0

/-- A source with this set may write lane `l`: lane 255 asks for lane 0 (R67, R100). -/
def mayWriteLane (set : BitVec 256) (l : Nat) : Bool := if l = 255 then set.getLsbD 0 else set.getLsbD l

/-- A requester with this set may read lane `l`: lane 255 is readable by all (R67, R137). -/
def mayReadLane (set : BitVec 256) (l : Nat) : Bool := l = 255 || set.getLsbD l

/-- The FAULT bit of an entrance, coded as `LVSRC.WHERE` (R364, R387). -/
def laneFaultOf (place : Nat) : RegField :=
  if place = 2 then Reg.LANE_FAULT_FABRIC else if place = 3 then Reg.LANE_FAULT_PORT
  else if place = 4 then Reg.LANE_FAULT_KEY else Reg.LANE_FAULT_POINT

/-- A failed lane check (R366): the FAULT bit, the captured failure, and one record per source per second. -/
def laneViolation (place src lane idx : Nat) (s : State) : State :=
  let s := s.raise (laneFaultOf place)
  let s := ((s.set Reg.LANE_LVSRC_LANE lane).set Reg.LANE_LVSRC_WHERE place).set Reg.LANE_LVSRC_SRC src
  let s := (s.set Reg.LANE_LVIDX_INDEX idx).set Reg.LANE_LVTIME_MS (taiMs s)
  let fresh := match tabFind src s.lane.logged with
    | none => true
    | some t => decide (t + second ≤ s.now)
  if fresh then
    logEvent 0x0502 5 [src, lane, place, idx] { s with lane := { s.lane with logged := tabInsert src s.now s.lane.logged } }
  else s

/-- The source identifier of a requester copy (R95); DMA window elements go by firmware context 4 (R507). -/
def requesterSrc (r : Nat) : Nat := mkSrc 6 (if r ≤ 15 then r else 14)

/-- A denial at the host bridge, counted in FABCNT (R364). -/
def fabricDenial (r lane idx : Nat) (s : State) : State :=
  laneViolation 2 (requesterSrc r) lane idx (s.countSat Reg.LANE_FABCNT_COUNT 1)

/-- The lane that owns page `p`: lane 0 or the lane to which the charter moves it (R51, R359). -/
def pageLane (s : State) (p : Nat) : Nat := tabGet 0 (charter s).pageLanes p

/-- An access of requester copy `r` that writes page `p`: the host bridge asks for the page's lane (R52, R364). -/
def askHost (r : Fin 16) (p : Nat) (f : State → State) (s : State) : State :=
  if viaBridge (.req r) && !mayWriteLane (requesterLanes s r.val) (pageLane s p) then fabricDenial r.val (pageLane s p) p s else f s

end Sys2Proof.Machine
end

