-- ==== Sys2Proof/Machine/Sched.lean ====
section
/-! DEFINITION. What the sheet schedules against TAI: loop samples and task releases, and what a forward step of TAI skips
(spec/06_control_loops.md, R244, R248, R269; spec/07_cyclic_tasks.md, R286, R289). -/

namespace Sys2Proof.Machine

/-- The configuration sheet in force; without one, and in modes UNPROVISIONED, PROVISIONING and ZEROIZED, nothing is
configured (R134, R312, R353). -/
def sheet (s : State) : ConfigSheet :=
  let m := s.get Reg.MODE_STAT_MODE
  if m = 0 ∨ m = 1 ∨ m = 7 then {} else match s.sheets.config with | some c => c | none => {}

/-- The module mode drives outputs: ACTIVE or DEGRADED. -/
def modeDrives (s : State) : Bool := s.get Reg.MODE_STAT_MODE = 3 || s.get Reg.MODE_STAT_MODE = 4

/-! ### Loops -/

/-- The run-time state of a loop. -/
def State.loop (s : State) (n : Nat) : LoopState := tabGet {} s.cle.loops n

/-- Stores the run-time state of a loop. -/
def State.setLoop (s : State) (n : Nat) (x : LoopState) : State :=
  { s with cle := { s.cle with loops := tabPut {} n x s.cle.loops } }

/-- A loop slot's configuration, if the sheet defines it (R244). -/
def loopCfg (s : State) (n : Nat) : Option LoopCfg := tabFind n (sheet s).loops

/-- The slots in use. -/
def loopSlots (s : State) : List Nat := (sheet s).loops.map (fun e => e.1)

/-- The engine evaluates: the mode is ACTIVE or DEGRADED, RUN is 1 and it is not halted (R278, R280). -/
def cleRuns (s : State) : Bool := modeDrives s && s.bit Reg.CLE_CTRL_RUN && !s.bit Reg.CLE_STAT_HALTED

/-- How many instants of a schedule lie at or before `t` ms. -/
def instantsUpTo (period phase t : Nat) : Nat := if t < phase then 0 else (t - phase) / max 1 period + 1

/-- How many instants of a schedule lie after `t0` and before `t1`. -/
def instantsBetween (period phase t0 t1 : Nat) : Nat := instantsUpTo period phase (t1 - 1) - instantsUpTo period phase t0

/-- The first instant of a schedule at or after `t` ms. -/
def instantFrom (period phase t : Nat) : Nat :=
  if t ≤ phase then phase else phase + (t - phase + max 1 period - 1) / max 1 period * max 1 period

/-- The time in whole ms of TAI, rounded up: the first ms instant that has not passed. -/
def msUp (s : State) : Nat := (taiNs s + msec - 1) / msec

/-- The ms instant up to which loop `n` has been served when TAI reads `t0`: an instant already served is not skipped (R269). -/
def servedUpTo (c : LoopCfg) (x : LoopState) (t0 : Nat) : Nat :=
  match x.lastK with
  | some k => max t0 (k * max 1 c.period + c.phase)
  | none => t0

/-- An output whose apply instant a step to `t1` has passed waits for the next instant reached (R269). -/
def carryHeld (t1 n : Nat) (s : State) : State :=
  match loopCfg s n, (s.loop n).held with
  | some c, some (v, ms) =>
    if ms < t1 then s.setLoop n { s.loop n with held := some (v, instantFrom c.period c.phase t1) } else s
  | _, _ => s

/-- Forward steps skip sample instants: those after `t0` and before `t1` ms that no earlier sample has served are counted, and
held outputs are presented for the next instant reached (R269). -/
def skipSamples (t0 t1 : Nat) (s : State) : State :=
  let n := (loopSlots s).foldl (fun acc n => match loopCfg s n with
    | some c => acc + instantsBetween c.period c.phase (servedUpTo c (s.loop n) t0) t1
    | none => acc) 0
  let s := (loopSlots s).foldl (fun s n => carryHeld t1 n s) s
  if cleRuns s ∧ n > 0 then (s.countSat Reg.CLE_SKIPCNT_COUNT n).raise Reg.CLE_FAULT_SKIP else s

/-! ### Tasks -/

/-- The tasks of the sheet: of the 16 that the engine has (R286, R288). -/
def tasksIn (s : State) : Table TaskCfg := (sheet s).tasks.filter (fun e => decide (e.1 < 16))

/-- A task's configuration, if the sheet defines it (R288). -/
def taskCfg (s : State) (t : Nat) : Option TaskCfg := tabFind t (tasksIn s)

/-- The run-time state of a task. -/
def State.task (s : State) (t : Nat) : TaskRun := tabGet {} s.cte.tasks t

/-- Stores the run-time state of a task. -/
def State.setTask (s : State) (t : Nat) (x : TaskRun) : State :=
  { s with cte := { s.cte with tasks := tabPut {} t x s.cte.tasks } }

/-- `TSTAT.STATE` of a task: 0 UNUSED, 1 STOPPED, 2 IDLE, 3 GATHER, 4 RUNNING, 5 PREEMPTED, 6 COMMIT, 7 WDSTOP (R314). -/
def taskState (s : State) (t : Nat) : Nat := s.get (Reg.CTE_TSTAT_STATE.ix t)

/-- Sets a task's state. -/
def setTaskState (t v : Nat) (s : State) : State := s.set (Reg.CTE_TSTAT_STATE.ix t) v

/-- The tasks that the sheet defines. -/
def taskSlots (s : State) : List Nat := (tasksIn s).map (fun e => e.1)

/-- The engine releases: the mode is ACTIVE or DEGRADED, RUN is 1 and it is not halted (R312, R313). -/
def cteRuns (s : State) : Bool := modeDrives s && s.bit Reg.CTE_CTRL_RUN && !s.bit Reg.CTE_STAT_HALTED

/-- The ms instant up to which the releases of a task are served or have passed. -/
def releasedUpTo (x : TaskRun) : Nat := max x.passedMs (match x.lastMs with | some m => m | none => 0)

/-- A forward step skips the periodic releases that it passes, but for those already served or counted (R286, R302). -/
def skipReleases (t0 t1 : Nat) (s : State) : State :=
  let n := (tasksIn s).foldl (fun acc e =>
    let st := taskState s e.1
    if e.2.event || st = 0 || st = 1 || st = 7 then acc
    else acc + instantsBetween e.2.period e.2.phase (max t0 (releasedUpTo (s.task e.1))) t1) 0
  let s := (tasksIn s).foldl (fun s e => if e.2.event then s else s.setTask e.1 { s.task e.1 with passedMs := t1 - 1 }) s
  if cteRuns s ∧ n > 0 then (s.countSat Reg.CTE_SKIPCNT_COUNT n).raise Reg.CTE_FAULT_SKIP else s

/-- A backward step brings releases again that have passed unserved (R286). -/
def unpassReleases (s : State) : State :=
  (tasksIn s).foldl (fun s e => s.setTask e.1 { s.task e.1 with passedMs := 0 }) s

/-- The ms instant at which the event of `at'` releases a task: the first commit instant at least 100 µs after it, and no sooner than
MININT after the previous release (R290). -/
def eventReleaseMs (c : TaskCfg) (x : TaskRun) (at' : Nat) (s : State) : Nat :=
  let due := taiNs s - (s.now - at') + 100000
  max (max ((due + msec - 1) / msec) (msUp s)) (match x.lastMs with | some m => m + c.minint | none => 0)

/-! ### The next scheduled instant (R31, R287) -/

/-- The earliest of two optional instants. -/
def minOpt (a b : Option Nat) : Option Nat :=
  match a, b with
  | some x, some y => some (min x y)
  | some x, none => some x
  | none, y => y

/-- The next scheduled loop sample or task release, in ms of TAI, if anything is scheduled. -/
def nextInstantMs (s : State) : Option Nat :=
  let t := taiMs s + 1
  let l := if cleRuns s then (sheet s).loops.foldl (fun a e => minOpt a (some (instantFrom e.2.period e.2.phase t))) none
    else none
  if cteRuns s then
    (tasksIn s).foldl (fun a e =>
      let st := taskState s e.1
      if st = 0 || st = 1 || st = 7 then a
      else if e.2.event then
        (match (s.task e.1).evtAt with
          | some at' => if st = 2 then minOpt a (some (eventReleaseMs e.2 (s.task e.1) at' s)) else a
          | none => a)
      else minOpt a (some (instantFrom e.2.period e.2.phase t))) l
  else l

end Sys2Proof.Machine
end

