-- ==== Sys2Proof/Machine/Points.lean ====
section
/-! DEFINITION. The point engine (spec/03_points.md, R81 to R134): records, admission, commit, publication, forces,
persistence and restore. The commands of its pages are in PointPages. -/

namespace Sys2Proof.Machine

/-! ### Records and references -/

/-- The record at a local index; an unlisted index is unused (R81). -/
def State.point (s : State) (i : Nat) : PointRec := tabGet {} s.pt.recs i

/-- Stores a record. -/
def State.setPoint (s : State) (i : Nat) (r : PointRec) : State := { s with pt := { s.pt with recs := tabPut {} i r s.pt.recs } }

/-- The module is a member of a redundant pair (R378). -/
def paired (s : State) : Bool := s.bit Reg.PRPT_AO_PAIRED

/-- The key of a peer: 2 × slot + member; 508 is an abutment outside the viaduct (source 0xFE of R396). -/
def peerKey (slot memb : Nat) : Nat := 2 * slot + memb

/-- The key of this module: its slot and its member of a pair. -/
def ownKey (s : State) : Nat :=
  peerKey (s.get Reg.VIA_IDENT_SLOT) (if paired s then s.get Reg.PAIR_CFG_MEMB else 0)

/-- The identity digest of this module, as `ENC.IDDIG` shows it (R548). -/
def ownDigest (s : State) : Nat := ((List.range 8).map (fun k => s.get (Reg.ENC_IDDIG.ix k) * 2 ^ (32 * k))).sum

/-- This module's own digest is enrolled for its own slot and member (R398, R399): otherwise it is unenrolled. -/
def selfEnrolled (s : State) : Bool := tabFind (ownKey s) s.via.enrolled = some (ownDigest s)

/-- The module holds a viaduct identity (R18): not in UNPROVISIONED, PROVISIONING or ZEROIZED, a configuration sheet gives it, and
the module is enrolled. -/
def hasIdentity (s : State) : Bool :=
  let m := s.get Reg.MODE_STAT_MODE
  m ≠ 0 && m ≠ 1 && m ≠ 7 && s.sheets.config.isSome && selfEnrolled s

/-- The store takes writes: it is READY, and the mode is not ZEROIZED, in which every write returns NOT_READY (R131, R134). -/
def takesWrites (s : State) : Bool := s.bit Reg.PNT_STAT_READY && s.get Reg.MODE_STAT_MODE ≠ 7

/-- A global point reference is valid: its reserved field is 0 (R15, R16). -/
def gprValid (g : Nat) : Bool := g < 2 ^ 48 && g / 2 ^ 20 % 64 = 0

/-- The global point reference of a native record of this module (R15, R17). -/
def ownGpr (s : State) (i : Nat) : Nat :=
  s.get Reg.VIA_IDENT_VIAID * 2 ^ 32 + s.get Reg.VIA_IDENT_SLOT * 2 ^ 26 + i

/-- The local index to which a target resolves, if it names a record in use (R14, R18). -/
def resolve (s : State) (t : PointTarget) : Option Nat :=
  let used := fun i => if i < 2 ^ 20 ∧ (s.point i).typ ≠ 0 then some i else none
  match t with
  | .idx i => used i
  | .gpr g =>
    if gprValid g && hasIdentity s then
      if g / 2 ^ 26 = s.get Reg.VIA_IDENT_VIAID * 2 ^ 6 + s.get Reg.VIA_IDENT_SLOT then used (g % 2 ^ 20)
      else match tabFind g s.pt.directory with
        | some i => used i
        | none => none
    else none

/-- The source identifier that a binding address names (R86, R166, R351, R610, R258, R293). -/
def boundSource (addr : Nat) : Nat :=
  let c := addr / 2 ^ 45 % 8
  let low := addr % 2 ^ 45
  match c with
  | 1 => mkSrc 1 (low / 2 ^ 34 % 2 ^ 11)
  | 2 => mkSrc 2 (low / 2 ^ 32)
  | 3 => mkSrc 3 (low / 2 ^ 39)
  | _ => mkSrc c low

/-- The value matches the encoding of the type (R89, R91). -/
def typeOk (typ v : Nat) : Bool :=
  match typ with
  | 1 => v ≤ 1
  | 2 => v < 2 ^ 16
  | 3 => (v + 2 ^ 31) % 2 ^ 64 < 2 ^ 32 && v < 2 ^ 64
  | 4 => v < 2 ^ 32
  | 5 => v < 2 ^ 64
  | 6 => v < 2 ^ 64
  | 7 => v < 2 ^ 32 && !fpIsNan (f32 v)
  | 8 => v < 2 ^ 64 && !fpIsNan (f64 v)
  | 9 => v < 2 ^ 32
  | _ => false

/-- The number that a value of an integer or floating type stands for. -/
def valueFp (typ v : Nat) : Fp :=
  match typ with
  | 3 => fpOfInt (ofField 64 v)
  | 5 => fpOfInt (ofField 64 v)
  | 7 => f32 v
  | 8 => f64 v
  | _ => fpOfInt v

/-- The change test of a record's type between two encodings (R89, R90, R116). -/
def changeTest (r : PointRec) (a b : Nat) : Bool :=
  let bits := r.typ = 1 || r.typ = 2 || r.typ = 9
  let db := f32 r.deadband
  if bits || fpEq db (.fin false 0 0) then a ≠ b
  else
    let d := fpAdd (valueFp r.typ a) (fpNeg (valueFp r.typ b))
    let d := if r.typ = 7 ∨ r.typ = 8 then f64 (toF64 d) else d
    fpLt db (fpAbs d)

/-! ### Priority arrays (R109 to R111) -/

/-- The stored value of a level, 1 to 16, of a priority array; a level never written reads 0. -/
def levelValue (s : State) (paix n : Nat) : Nat := tabGet 0 s.pt.arrays (paix * 16 + (n - 1))

/-- Stores the value of a level. -/
def setLevel (s : State) (paix n v : Nat) : State :=
  { s with pt := { s.pt with arrays := tabPut 0 (paix * 16 + (n - 1)) v s.pt.arrays } }

/-- The highest occupied level minus 1 of a PAMASK, from bit `i` on. -/
def firstLevel (mask : Nat) : Nat → Nat → Nat
  | 0, i => i
  | n + 1, i => if mask.testBit i then i else firstLevel mask n (i + 1)

/-- PV, RELINQ and ACTLVL of a command point from its force, its array and its relinquish default (R109). While RELINQ is 1 ACTLVL
reads 0 (assumption 72; DESIGN CHOICE, R86 calls it valid only while RELINQ is 0). -/
def resolveArray (s : State) (i : Nat) (r : PointRec) : PointRec :=
  let lvl := firstLevel r.pamask 16 0
  let r' := if r.pamask % 65536 = 0 then { r with relinq := true, actlvl := 0, pv := r.sv }
    else { r with relinq := false, actlvl := lvl, pv := levelValue s r.paix (lvl + 1) }
  match tabFind i s.pt.forces with
  | some f => { r' with pv := f.value, forced := true, orphan := f.orphan }
  | none => { r' with forced := false, orphan := false }

/-- PV and the force flags of a native non-command record: the force, else SV (R119). -/
def resolvePlain (s : State) (i : Nat) (r : PointRec) : PointRec :=
  match tabFind i s.pt.forces with
  | some f => { r with pv := f.value, forced := true, orphan := f.orphan }
  | none => if r.forced then { r with pv := r.sv, forced := false, orphan := false } else { r with orphan := false }

/-! ### Persistence units (R127 to R129) -/

/-- The dirty-set key of a record unit is its index; that of a half of an array follows all records. -/
def unitOfHalf (paix half : Nat) : Nat := 2 ^ 20 + paix * 2 + half

/-- The half of the array that holds level `n`. -/
def halfOfLevel (n : Nat) : Nat := if n ≤ 8 then 0 else 1

/-- Marks a unit dirty at the commit of tick `t`. An update is admitted only where its units fit the set (R128); a change that is no
update, such as a quality that a report brings, enters nothing while the set is full (assumption 73). -/
def markDirty (s : State) (u t : Nat) : State :=
  match tabFind u s.pt.dirty with
  | some _ => s
  | none =>
    if 4096 ≤ s.pt.dirty.length then s else
    let d := tabInsert u t s.pt.dirty
    ({ s with pt := { s.pt with dirty := d } }).set Reg.PNT_DIRTY_COUNT d.length

/-- The units that an update would make dirty (R127): the record's where it is PERSIST or where PAMASK or SV of a command point
changes, and the half of the array where the level's value changes. -/
def unitsOf (s : State) (r : PointRec) (i : Nat) (k : UpdateKind) : List Nat :=
  let rec' := fun (change : Bool) => if r.persist || change then [i] else []
  let half := fun (n v : Nat) => if levelValue s r.paix n ≠ v then [unitOfHalf r.paix (halfOfLevel n)] else []
  match k with
  | .level n v => rec' (!r.pamask.testBit (n - 1)) ++ half n v
  | .relinquish n => rec' (r.pamask.testBit (n - 1)) ++ half n 0
  | .relDefault v => rec' (decide (r.sv ≠ v))
  | _ => rec' false

/-- The cost of an update in admission units (R98). -/
def updateCost (r : PointRec) (k : UpdateKind) : Nat :=
  match k with
  | .level _ _ => 10
  | .relinquish _ => 10
  | _ => if r.persist then 10 else 1

/-! ### Results -/

/-- Result codes of R102. -/
def resWritten : Nat := 0
/-- SUPERSEDED_SAME_TICK. -/
def resSuperseded : Nat := 1
/-- WRITTEN_FORCED. -/
def resWrittenForced : Nat := 2
/-- REF_ERROR. -/
def resRefError : Nat := 3
/-- LANE_DENIED. -/
def resLaneDenied : Nat := 4
/-- NOT_WRITABLE. -/
def resNotWritable : Nat := 5
/-- TYPE_ERROR. -/
def resTypeError : Nat := 6
/-- BAD_LEVEL. -/
def resBadLevel : Nat := 7
/-- QUOTA. -/
def resQuota : Nat := 8
/-- DROPPED_OOS. -/
def resDroppedOos : Nat := 9
/-- FORCE_FULL. -/
def resForceFull : Nat := 10
/-- NOT_FORCED. -/
def resNotForced : Nat := 11
/-- BAD_SELECT. -/
def resBadSelect : Nat := 12
/-- NOT_READY. -/
def resNotReady : Nat := 13

/-- Ends a window operation of requester `r` on page `p` with an error code (R54, R138). -/
def windowDone (p r code : Nat) (s : State) : State :=
  let s := (s.set ((Reg.WIN_BUSY.onPage p).by r) 0).set ((Reg.WIN_ERR.onPage p).by r) code
  if s.bit ((Reg.WIN_AUTOINC.onPage p).by r) then s.countWrap ((Reg.WIN_INDEX.onPage p).by r) 1 else s

/-- Ends a CMD operation of requester `r` (R142, R143). -/
def cmdDone (r code tick : Nat) (s : State) : State :=
  ((((s.set (Reg.CMD_CGO_GO.by r) 0).set (Reg.CMD_CRES_BUSY.by r) 0).set (Reg.CMD_CRES_DONE.by r) 1).set (Reg.CMD_CRES_RESULT.by r) code).set
    (Reg.CMD_CRES_TICK.by r) tick

/-- Ends a FORCE operation of requester `r`; FRES has the layout of CRES (R144). -/
def forceDone (r code tick : Nat) (s : State) : State :=
  (s.set (Reg.FORCE_FGO_GO.by r) 0).set (Reg.FORCE_FRES.by r) (2 ^ 30 + code * 2 ^ 16 + tick % 2 ^ 16)

/-- Delivers a result to its path; results of loops, tasks and BACnet/SC requests are left for their blocks. -/
def deliver (p : ResultPath) (code tick : Nat) (s : State) : State :=
  match p with
  | .none => s
  | .window r => windowDone 0x041 r code s
  | .cmd r => cmdDone r code tick s
  | .force r => forceDone r code tick s
  | _ => { s with pt := { s.pt with results := s.pt.results ++ [(p, code)] } }

/-- The number of the current deck tick (R82). -/
def tickNow (s : State) : Nat := taiMs s

/-! ### Queues (R97, R99) -/

/-- The queue of a class. -/
def queueOf (s : State) (c : Nat) : List Update := tabGet [] s.pt.queues c

/-- Replaces the queue of a class and shows its depth. -/
def setQueue (s : State) (c : Nat) (q : List Update) : State :=
  ({ s with pt := { s.pt with queues := tabPut [] c q s.pt.queues } }).set (Reg.PNT_QIN_DEPTH.ix c) q.length

/-- A report to the point engine, which takes effect at the next commit. -/
def report (r : PointReport) (s : State) : State := { s with pt := { s.pt with reports := s.pt.reports ++ [r] } }

/-- Several reports; the engine wakes for them (R30, R163). -/
def reportAll (rs : List PointReport) (s : State) : State :=
  let s := if rs = [] then s else wakeEvent s
  { s with pt := { s.pt with reports := s.pt.reports ++ rs } }

/-- The source's updates wake the module from DOZE (R30): segment ports, access readers and lift by the frame that brings them,
metering, viaduct peers. -/
def wakesDoze (src : Nat) : Bool :=
  let c := srcClass src
  c = 1 || c = 3 || c = 7 || (c = 2 && 24 ≤ srcInst src)

/-- The expansion joint, with the port's channel, by which a source outside the SYS and PE domains reaches the point engine: segment
ports 6, metering 8, loops 2, viaduct 4 (R483); as `clk.broken` lists joints. -/
def sourceJoint (src : Nat) : Option Nat :=
  match srcClass src with
  | 1 => some (32 * 6 + srcInst src / 64 % 32)
  | 3 => some (32 * 8)
  | 4 => some (32 * 2)
  | 7 => some (32 * 4)
  | _ => none

/-- The joint of the source, while it is broken (R484). -/
def closedJoint (s : State) (src : Nat) : Option Nat := (sourceJoint src).filter (fun k => (tabFind k s.clk.broken).isSome)

/-- A source places an update in the queue of its class, or is held while that queue is full (R97, R99). -/
def enqueue (u : Update) (s : State) : State :=
  let c := srcClass u.src
  let q := queueOf s c
  let h := tabGet [] s.pt.held c
  if q.length < 4096 ∧ h = [] then setQueue s c (q ++ [u])
  else { s with pt := { s.pt with held := tabPut [] c (h ++ [u]) s.pt.held } }

/-- A source offers an update to the point engine; it holds it while the joint between them is broken (R484). -/
def submit (u : Update) (s : State) : State :=
  let s := if wakesDoze u.src then wakeEvent s else s
  match closedJoint s u.src with
  | some k => { s with pt := { s.pt with offered := tabPut [] k (tabGet [] s.pt.offered k ++ [u]) s.pt.offered } }
  | none => enqueue u s

/-- Several updates of one source, in order. -/
def submitAll (us : List Update) (s : State) : State := us.foldl (fun s u => submit u s) s

/-- Held updates enter their queue as it drains (R99). -/
def refill (c : Nat) (s : State) : State :=
  let q := queueOf s c
  let h := tabGet [] s.pt.held c
  let n := 4096 - q.length
  let s := { s with pt := { s.pt with held := tabPut [] c (h.drop n) s.pt.held } }
  setQueue s c (q ++ h.take n)

/-- An update leaves its ingress queue: the GO that submitted it self-clears (R142, R144). -/
def goClear (p : ResultPath) (s : State) : State :=
  match p with
  | .cmd r => s.set (Reg.CMD_CGO_GO.by r) 0
  | .force r => s.set (Reg.FORCE_FGO_GO.by r) 0
  | _ => s

/-- Every update that waits or is admitted is answered NOT_READY, and the queues are empty: the store that it was meant for is
replaced (R131). -/
def refuseAll (s : State) : State :=
  let us := (s.pt.queues ++ s.pt.held).flatMap (fun e => e.2) ++ s.pt.admitted.map (fun a => a.upd)
  let s : State := { s with pt := { s.pt with queues := [], held := [], admitted := [], reports := [] } }
  let s := (List.range 8).foldl (fun s c => setQueue s c []) s
  us.foldl (fun s u => deliver u.path resNotReady (tickNow s - 1) s) s

/-! ### Admission (R100, R101) -/

/-- Forces that admitted updates of this tick will add to the table (R118). -/
def comingForces (s : State) : List Nat :=
  s.pt.admitted.foldl (fun l a => match a.upd.kind with
    | .force _ => if (tabFind a.index s.pt.forces).isSome || l.contains a.index then l else a.index :: l
    | _ => l) []

/-- Step 3 of R100: the source may write the record (R101, R118, R139 to R141). `none` where it may. A tuning write to a mirror
without lane 0 returns BAD_SELECT by R140, where R101 gives NOT_WRITABLE to any other write (assumption 103; DESIGN CHOICE). -/
def writeRule (s : State) (i : Nat) (r : PointRec) (u : Update) : Option Nat :=
  let cls := srcClass u.src
  let lane0 := (writeSet s u.src u.lane).getLsbD 0
  if r.mirror then
    match u.kind with
    | .publication _ _ _ _ _ _ _ => if cls = 7 then none else some resNotWritable
    | .tuning _ _ _ _ _ => if lane0 then some resNotWritable else some resBadSelect
    | _ => some resNotWritable
  else
    match u.kind with
    | .publication _ _ _ _ _ _ _ => some resNotWritable
    | .value _ _ =>
      if r.cmd then some resNotWritable
      else if u.src = boundSource r.addr then none
      else if cls = 6 ∧ r.oos then none
      else some resNotWritable
    | .level n _ => if !r.cmd then some resNotWritable
      else if n = 0 ∨ n > 16 ∨ (n ≤ 2 ∧ cls ≠ 0) then some resBadLevel else none
    | .relinquish n => if !r.cmd then some resNotWritable
      else if n = 0 ∨ n > 16 ∨ (n ≤ 2 ∧ cls ≠ 0) then some resBadLevel else none
    | .relDefault _ => if !r.cmd then some resNotWritable else if lane0 then none else some resLaneDenied
    | .tuning _ _ _ _ _ => if lane0 then none else some resBadSelect
    | .service _ => if cls = 6 then none else some resNotWritable
    | .force _ => if cls ≠ 6 then some resNotWritable
      else if (tabFind i s.pt.forces).isSome || (comingForces s).contains i then none
      else if s.pt.forces.length + (comingForces s).length ≥ 16384 then some resForceFull else none
    | .release => if cls ≠ 6 then some resNotWritable
      else match tabFind i s.pt.forces with
        | some _ => none
        | none => some resNotForced

/-- The update comes from the record's bound source (R91, R101). -/
def fromBound (r : PointRec) (u : Update) : Bool :=
  match u.kind with
  | .value _ _ => decide (u.src = boundSource r.addr)
  | .publication _ _ _ _ _ _ _ => true
  | _ => false

/-- Step 4 of R100: the value matches the type, except for the bound source's values (R91, R140). -/
def typeRule (r : PointRec) (u : Update) : Bool :=
  match u.kind with
  | .value v _ => fromBound r u || typeOk r.typ v
  | .level _ v => typeOk r.typ v
  | .relDefault v => typeOk r.typ v
  | .force v => typeOk r.typ v
  | .tuning db _ _ _ _ =>
    let d := f32 db
    !fpIsNan d && !fpLt d (.fin false 0 0) && (fpEq d (.fin false 0 0) || !(r.typ = 1 || r.typ = 2 || r.typ = 9))
  | _ => true

/-- The source may write the record's lane (R100 step 2). A viaduct peer writes only into mirrors, in their owner's lane (R20, R96):
those of points that its slot owns. -/
def laneRule (s : State) (u : Update) (r : PointRec) : Bool :=
  if srcClass u.src = 7 then
    r.mirror && decide (r.addr / 2 ^ 26 = s.get Reg.VIA_IDENT_VIAID * 2 ^ 6 + srcInst u.src)
  else mayWriteLane (writeSet s u.src u.lane) r.lane

/-- Steps 1 to 4 of R100 in their order: the record's index, or the first failure. -/
def accessCheck (s : State) (u : Update) : Except Nat Nat :=
  match resolve s u.target with
  | none => .error resRefError
  | some i =>
    let r := s.point i
    if !laneRule s u r then .error resLaneDenied
    else match writeRule s i r u with
      | some e => .error e
      | none => if !typeRule r u then .error resTypeError else .ok i

/-- The checks of R100 in their order: the record's index, or the first failure. -/
def admitCheck (s : State) (u : Update) : Except Nat Nat :=
  match accessCheck s u with
  | .error e => .error e
  | .ok i =>
    let l := (s.point i).lane
    let lim := s.get (Reg.PNT_QUOTA_QLIM.ix l)
    if lim ≠ 0 ∧ tabGet 0 s.pt.quotaUsed l ≥ lim then .error resQuota else .ok i

/-- The index that a failed update names, for the lane guard. -/
def targetIndex (u : Update) : Nat :=
  match u.target with
  | .idx i => i
  | .gpr g => g % 2 ^ 20

/-- Counts a failed update on the PNT page (R100, R103, R135). -/
def countRefusal (u : Update) (code : Nat) (s : State) : State :=
  let i := match resolve s u.target with | some i => i | none => targetIndex u
  let r := s.point i
  if code = resRefError then (s.countSat Reg.PNT_REFCNT_COUNT 1).raise Reg.PNT_FAULT_REFERR
  else if code = resLaneDenied then
    laneViolation 1 u.src r.lane i ((s.countSat Reg.PNT_LANECNT_COUNT 1).raise Reg.PNT_FAULT_LANEERR)
  else if code = resQuota then (s.countSat (Reg.PNT_QUOTA_QDROP.ix r.lane) 1).raise Reg.PNT_FAULT_QUOTA
  else if code = resForceFull then s.raise Reg.PNT_FAULT_FORCEFULL
  else s

/-- The rank of a source in a same-tick conflict (R106). -/
def sourceRank (s : State) (u : Update) : Nat :=
  if srcClass u.src = 0 then 1 else if (writeSet s u.src u.lane).getLsbD 0 then 2 else 3

/-- A publication that is not newer than the one the mirror last took (R126), compared within one pair epoch (R407). A mirror that
has taken none takes any. -/
def isDuplicate (s : State) (i : Nat) (u : Update) : Bool :=
  let r := s.point i
  match u.kind, tabFind i s.via.mirrorEpoch with
  | .publication _ _ _ _ _ q e, some last =>
    e < last || e = last && ((q + 65536 - r.rseq) % 65536 = 0 || (q + 65536 - r.rseq) % 65536 ≥ 32768)
  | _, _ => false

/-- A queued publication is a duplicate: it is discarded before any quota is looked at. -/
def duplicateNow (s : State) (u : Update) : Bool :=
  match accessCheck s u with
  | .ok i => isDuplicate s i u
  | .error _ => false

/-- The clean units of `us` and those that the updates `as`, each with its record, will make dirty. -/
def unitsWith (s : State) (us : List Nat) (as : List (Nat × UpdateKind)) : List Nat :=
  as.foldl (fun us a =>
    us ++ (unitsOf s (s.point a.1) a.1 a.2).filter (fun u => (tabFind u s.pt.dirty).isNone && !us.contains u)) us

/-- Units that admitted updates of this tick will make dirty, beside those that are dirty. -/
def comingUnits (s : State) : List Nat := unitsWith s [] (s.pt.admitted.map (fun a => (a.index, a.upd.kind)))

/-- The updates `as` would make a clean unit dirty while the dirty set is full (R128). -/
def dirtyBlocked (s : State) (as : List (Nat × UpdateKind)) : Bool :=
  let coming := comingUnits s
  let after := unitsWith s coming as
  decide (coming.length < after.length ∧ 4096 < s.pt.dirty.length + after.length)

/-- The update passes admission and is then discarded, its record being out of service (R101). -/
def discardedOos (r : PointRec) (u : Update) : Bool := r.oos && fromBound r u && !r.mirror

/-- What happens to the head of a queue. -/
inductive HeadFate where
  /-- It failed a check with this code. -/
  | refused (code : Nat)
  /-- It is a duplicate publication. -/
  | duplicate
  /-- It takes capacity and is discarded, the record being out of service. -/
  | droppedOos (i cost : Nat)
  /-- It does not fit, or waits for the dirty set (`true`), and its class is passed over. -/
  | waits (dirty : Bool)
  /-- It is admitted. -/
  | admitted (i cost : Nat)
deriving DecidableEq, Repr

/-- The fate of one update at the head of its queue (R98 to R103, R126, R128). An update that is discarded because its record is out
of service takes the full cost of R98 (assumption 74; DESIGN CHOICE, R101 has it pass admission and R98 gives the cost of an update
that changes a record). -/
def headFate (s : State) (u : Update) : HeadFate :=
  if duplicateNow s u then .duplicate
  else match admitCheck s u with
  | .error e => .refused e
  | .ok i =>
    let r := s.point i
    let cost := updateCost r u.kind
    if s.pt.capUsed + cost > 20000 then .waits false
    else if discardedOos r u then .droppedOos i cost
    else if dirtyBlocked s [(i, u.kind)] then .waits true
    else .admitted i cost

/-- Uses capacity and quota of the open tick (R98, R103). -/
def takeCapacity (i cost : Nat) (s : State) : State :=
  let l := (s.point i).lane
  let s := { s with pt := { s.pt with capUsed := s.pt.capUsed + cost, quotaUsed := tabMap 0 l (· + 1) s.pt.quotaUsed } }
  let s := s.countWrap Reg.PNT_ADMIT_COUNT 1
  if s.get Reg.PNT_ADMPEAK_UNITS < s.pt.capUsed then s.set Reg.PNT_ADMPEAK_UNITS s.pt.capUsed else s

/-- Admits an update into the open tick (R82). -/
def admitOne (i cost : Nat) (u : Update) (s : State) : State :=
  takeCapacity i cost { s with pt := { s.pt with admitted := s.pt.admitted ++ [{ index := i, upd := u, rank := sourceRank s u }] } }

/-- An update fails: it is counted and its result delivered (R100). -/
def refuse (u : Update) (code : Nat) (s : State) : State := deliver u.path code (tickNow s - 1) (countRefusal u code s)

/-- Marks a class as passed over for the rest of the tick; an update held on the dirty set is counted once (R98, R128). -/
def passOver (c : Nat) (dirty : Bool) (s : State) : State :=
  let s := { s with pt := { s.pt with passed := c :: s.pt.passed } }
  if dirty && !s.pt.stalled.contains c then
    (({ s with pt := { s.pt with stalled := c :: s.pt.stalled } }).countSat Reg.PNT_PERSSTALL_COUNT 1).raise Reg.PNT_FAULT_PERSFULL
  else s

/-- Takes the head off queue `c`, whose GO self-clears, and lets a held update in. -/
def popQueue (c : Nat) (s : State) : State :=
  let s := match queueOf s c with | u :: _ => goClear u.path s | [] => s
  let s := { s with pt := { s.pt with stalled := s.pt.stalled.filter (· ≠ c) } }
  refill c (setQueue s c (queueOf s c).tail)

/-! ### Task batches (R296) -/

/-- The updates of the batch at the head of queue 5, those that wait before the queue among them (R99). -/
def headBatch (s : State) (b : Nat) : List Update :=
  (queueOf s 5 ++ tabGet [] s.pt.held 5).takeWhile (fun u => u.batch = b)

/-- The updates of a batch that pass steps 1 to 4 of R100, each with its record: those that take capacity and quota. -/
def batchPasses (s : State) (us : List Update) : List (Nat × Update) :=
  us.filterMap (fun u =>
    match accessCheck s u with
    | .ok i => some (i, u)
    | .error _ => none)

/-- The capacity that the updates of a batch need (R98). -/
def batchCost (s : State) (as : List (Nat × Update)) : Nat := (as.map (fun a => updateCost (s.point a.1) a.2.kind)).sum

/-- The quota that is left covers every update of a batch: the charge falls on the lane of the target (R103, R296). -/
def batchQuota (s : State) (as : List (Nat × Update)) : Bool :=
  as.all (fun a =>
    let l := (s.point a.1).lane
    let lim := s.get (Reg.PNT_QUOTA_QLIM.ix l)
    lim = 0 || decide (tabGet 0 s.pt.quotaUsed l + (as.filter (fun b => (s.point b.1).lane = l)).length ≤ lim))

/-- The updates of a batch would make a clean unit dirty while the dirty set is full (R128). -/
def batchBlocked (s : State) (as : List (Nat × Update)) : Bool :=
  dirtyBlocked s ((as.filter (fun a => !discardedOos (s.point a.1) a.2)).map (fun a => (a.1, a.2.kind)))

/-- One update of an admitted batch: it is checked on its own, and never refused for QUOTA (R296). -/
def batchOne (s : State) (u : Update) : State :=
  match accessCheck s u with
  | .error e => popQueue 5 (refuse u e s)
  | .ok i =>
    let c := updateCost (s.point i) u.kind
    if discardedOos (s.point i) u then popQueue 5 (deliver u.path resDroppedOos (tickNow s - 1) (takeCapacity i c s))
    else popQueue 5 (admitOne i c u s)

/-- The batch at the head of queue 5 is admitted whole where capacity, quota and dirty set cover it; otherwise its class is
passed over (R98, R128, R296). -/
def batchStep (b : Nat) (s : State) : State :=
  let us := headBatch s b
  let as := batchPasses s us
  let fits := decide (s.pt.capUsed + batchCost s as ≤ 20000) && batchQuota s as
  if fits && !batchBlocked s as then us.foldl batchOne s else passOver 5 (fits && batchBlocked s as) s

/-! ### One admission (R97) -/

/-- The classes in the order in which the engine looks at them now: class 0, then 1 to 7 from the next class on. -/
def classOrder (s : State) : List Nat := 0 :: (List.range 7).map (fun k => (s.pt.nextClass - 1 + k) % 7 + 1)

/-- The first class with an update that has not been passed over in this tick. -/
def nextServed (s : State) : Option Nat :=
  (classOrder s).find? (fun c => queueOf s c ≠ [] && !s.pt.passed.contains c)

/-- After class `c` has been served, the round-robin goes on with the class behind it. -/
def advanceClass (c : Nat) (s : State) : State :=
  if c = 0 then s else { s with pt := { s.pt with nextClass := c % 7 + 1 } }

/-- One update is taken from a queue and admitted, refused or discarded; classes whose head must wait are passed over on
the way (R97 to R103, R126, R128). -/
def admitNext : Nat → State → State
  | 0, s => s
  | n + 1, s =>
    match nextServed s with
    | none => s
    | some c =>
      match queueOf s c with
      | [] => s
      | u :: _ =>
        if u.batch ≠ 0 then
          let s' := batchStep u.batch s
          if s'.pt.passed.contains c then admitNext n s' else advanceClass c s'
        else
          match headFate s u with
          | .refused e => advanceClass c (popQueue c (refuse u e s))
          | .duplicate => advanceClass c (popQueue c (s.countSat Reg.VIA_DUPDROP_COUNT 1))
          | .droppedOos i k => advanceClass c (popQueue c (deliver u.path resDroppedOos (tickNow s - 1) (takeCapacity i k s)))
          | .waits d => admitNext n (passOver c d s)
          | .admitted i k => advanceClass c (popQueue c (admitOne i k u s))

/-- The store admits: READY and not HALTED (R130, R131). -/
def admits (s : State) : Bool := s.bit Reg.PNT_STAT_READY && !s.bit Reg.PNT_STAT_HALTED

/-- Before READY, and in ZEROIZED, the head of a queue returns NOT_READY (R131, R134). -/
def refuseNotReady (s : State) : State :=
  match (classOrder s).find? (fun c => queueOf s c ≠ []) with
  | none => s
  | some c =>
    match queueOf s c with
    | [] => s
    | u :: _ => popQueue c (deliver u.path resNotReady (tickNow s - 1) s)

/-- UPDATE_ADMISSION: one update leaves an ingress queue. While HALTED after a warning nothing is admitted (R130). -/
def admission (s : State) : State :=
  if admits s then admitNext 8 s
  else if s.bit Reg.PNT_STAT_READY && s.get Reg.MODE_STAT_MODE ≠ 7 then s
  else refuseNotReady s

/-! ### Publication (R114 to R117) -/

/-- Milliseconds since the last publication of record `i`; none means longer than any interval (R114). -/
def sincePub (s : State) (i now : Nat) : Option Nat :=
  match (tabGet {} s.pt.pubs i).last with
  | none => none
  | some t => some (now - t)

/-- At least `ms` milliseconds have passed since the last publication. -/
def pubAged (s : State) (i now ms : Nat) : Bool :=
  match sincePub s i now with
  | none => true
  | some d => decide (ms ≤ d)

/-- A publication: LPV takes PV, PENDING clears and the time is recorded (R115). -/
def publishPoint (i now : Nat) (s : State) : State :=
  let r := s.point i
  let s := s.setPoint i { r with lpv := r.pv }
  { s with pt := { s.pt with pubs := tabInsert i { last := some now, pending := false } s.pt.pubs,
                             published := s.pt.published ++ [i] } }

/-- The evaluation of R115 for record `i` at the commit at `now` ms; `flags` says that QUAL, FORCED or OOS changed. -/
def evalPublication (i now : Nat) (flags : Bool) (s : State) : State :=
  let r := s.point i
  if !r.pub || r.mirror || r.typ = 0 then s
  else if flags then publishPoint i now s
  else
    let differs := changeTest r r.pv r.lpv
    let side := tabGet {} s.pt.pubs i
    let pending := side.pending || differs
    let due := pending && pubAged s i now r.minpub
    if due && differs then publishPoint i now s
    else
      let s := { s with pt := { s.pt with pubs := tabPut {} i { side with pending := pending && !due } s.pt.pubs } }
      if r.maxpub ≠ 0 && pubAged s i now (r.maxpub * 1000) then publishPoint i now s else s

/-! ### Commit (R104 to R108) -/

/-- The level that an update writes, for same-tick conflicts: 1 to 16 for levels, 0 for the one value of a non-command
record (R104), 17 for the relinquish default. Tuning (18), service (19) and force writes, releases included (20), write no level of
the array; the model takes each as one more level, so that R106 settles them too (assumption 75). -/
def conflictLevel (k : UpdateKind) : Nat :=
  match k with
  | .value _ _ => 0
  | .level n _ => n
  | .relinquish n => n
  | .relDefault _ => 17
  | .tuning _ _ _ _ _ => 18
  | .service _ => 19
  | .force _ => 20
  | .release => 20
  | .publication _ _ _ _ _ _ _ => 0

/-- The order in which the winners of a tick apply to a record, so that arrival order changes nothing (R106): forces, service and
tuning first, then emergency writes, which release a force (R120), then the rest. -/
def applyPhase (a : Admitted) : Nat :=
  if 18 ≤ conflictLevel a.upd.kind then 0 else if srcClass a.upd.src = 0 then 1 else 2

/-- Two admitted updates write the same level of the same record. -/
def sameLevel (a b : Admitted) : Bool :=
  decide (a.index = b.index ∧ conflictLevel a.upd.kind = conflictLevel b.upd.kind)

/-- `a` wins over `b` by rank, then by lower source identifier (R106). -/
def outranks (a b : Admitted) : Bool :=
  decide (a.rank < b.rank ∨ (a.rank = b.rank ∧ a.upd.src < b.upd.src))

/-- The winner among the admitted updates that write the level of `a`: the best rank, and of one source its last write
(R105, R106). -/
def winnerOf (a : Admitted) (all : List Admitted) : Admitted :=
  (all.filter (sameLevel a)).foldl (fun w b => if outranks w b then w else b) a

/-- One supersession: counted, reported and recorded at most once per point and second (R107). The record gives 0 as the level of a
conflict over a value that is no level of the array (assumption 76; DESIGN CHOICE). -/
def supersede (w l : Admitted) (tick : Nat) (s : State) : State :=
  let s := (s.countSat Reg.PNT_SUPCNT_COUNT 1).raise Reg.PNT_FAULT_SUPERSEDE
  let lvl := conflictLevel w.upd.kind
  let fresh := match tabFind w.index s.pt.supLogged with
    | none => true
    | some t => decide (t + 1000 ≤ tick)
  if fresh then
    logEvent 0x0100 3 [w.index, if lvl ≤ 16 then lvl else 0, w.upd.src, l.upd.src, tick]
      { s with pt := { s.pt with supLogged := tabInsert w.index tick s.pt.supLogged } }
  else s.countSat Reg.PNT_LOGSUP_COUNT 1

/-- Removes the force of a record; the table is written through (R119, R121). -/
def dropForce (i : Nat) (s : State) : State :=
  let fs := tabErase i s.pt.forces
  (({ s with pt := { s.pt with forces := fs } }).set Reg.PNT_FCOUNT_COUNT fs.length).set Reg.FORCE_FCNT_COUNT fs.length

/-- Enters or replaces a force (R118, R121, R145). -/
def putForce (i : Nat) (f : Force) (s : State) : State :=
  let fs := tabInsert i f s.pt.forces
  (({ s with pt := { s.pt with forces := fs } }).set Reg.PNT_FCOUNT_COUNT fs.length).set Reg.FORCE_FCNT_COUNT fs.length

/-- Sets the OOS flag of a record, written through to the bitmap (R122, R124). -/
def setOos (i : Nat) (v : Bool) (r : PointRec) (s : State) : State × PointRec :=
  let s := { s with pt := { s.pt with oosMap := tabPut 0 i (if v then 1 else 0) s.pt.oosMap } }
  let others := s.pt.returning.filter (· ≠ i)
  if v then ({ s with pt := { s.pt with returning := others } }, { r with oos := true })
  else ({ s with pt := { s.pt with returning := if r.oos && r.cmd then i :: others else others } },
    { r with oos := false, qual := if r.oos then 2 else r.qual })

/-- Applies one winning update to its record; answers the state, the record and the result code (R91, R93, R108 to R110,
R118 to R122, R126, R140). A command point leaves UNINIT with the first admitted write of its array or its relinquish default
(assumption 77; DEDUCED, R93 says the first commit of its priority array, R132 its first commit). A host value write to a record out
of service sets SV with PV (assumption 78; DESIGN CHOICE, so that a release of a force returns to it by R119). Forces, releases,
service and tuning writes leave TS and LASTSRC as they are (assumption 105; DESIGN CHOICE, R108 does not say whether they count). -/
def applyUpdate (a : Admitted) (commitUs : Nat) (s : State) : State × PointRec × Nat :=
  let i := a.index
  let r := s.point i
  let forcedNow := (tabFind i s.pt.forces).isSome
  let wrote := if forcedNow then resWrittenForced else resWritten
  let mine := { r with ts := commitUs, lastsrc := a.upd.src }
  let emergency := srcClass a.upd.src = 0
  -- an emergency write releases the force at the same commit (R120)
  let freed := if emergency && forcedNow then
      match tabFind i s.pt.forces with
      | some f => logEvent 0x0101 5 [i, f.src] (dropForce i s)
      | none => s
    else s
  match a.upd.kind with
  | .value v flag =>
    if fromBound r a.upd then
      let r1 := if typeOk r.typ v then
          match flag with
          | .valid => { mine with sv := v, qual := if r.oos then r.qual else 1 }
          | .invalid => { mine with sv := v, qual := 3 }
          | .uncertain => { mine with sv := v, qual := 4 }
        else { mine with qual := 3 }
      (s, if forcedNow || !typeOk r.typ v then r1 else { r1 with pv := r1.sv }, if typeOk r.typ v then wrote else resWritten)
    else (s, if forcedNow then { mine with sv := v } else { mine with sv := v, pv := v }, wrote)
  | .level n v =>
    let s := setLevel freed r.paix n v
    (s, { mine with pamask := r.pamask ||| 2 ^ (n - 1), qual := if r.qual = 0 then 1 else r.qual },
      if emergency then resWritten else wrote)
  | .relinquish n =>
    let s := setLevel freed r.paix n 0
    (s, { mine with pamask := r.pamask - (if r.pamask.testBit (n - 1) then 2 ^ (n - 1) else 0),
                    qual := if r.qual = 0 then 1 else r.qual }, if emergency then resWritten else wrote)
  | .relDefault v => (s, { mine with sv := v, qual := if r.qual = 0 then 1 else r.qual }, wrote)
  | .tuning db mn mx st ma =>
    (s, { r with deadband := db, minpub := mn, maxpub := mx, staleto := st, maxage := ma }, resWritten)
  | .service v => let x := setOos i v r s; (x.1, x.2, resWritten)
  | .force v => (putForce i { value := v, src := a.upd.src } s, r, resWritten)
  | .release => (dropForce i s, r, resWritten)
  | .publication v q f o ts rs e =>
    let s : State := { s with via := { s.via with mirrorEpoch := tabInsert i e s.via.mirrorEpoch } }
    let late := min (commitUs - ts) (2 ^ 32 - 1)
    (s.set Reg.VIA_LATMAX_US (max (s.get Reg.VIA_LATMAX_US) late),
      { r with pv := v, sv := v, qual := q, forced := f, oos := o, ts := ts, rseq := rs, lastsrc := a.upd.src }, resWritten)

/-- Applies one report of an output path, a port or the viaduct (R93, R122, R157). -/
def applyReport (p : PointReport) (s : State) : State :=
  match p with
  | .delivered i =>
    let r := s.point i
    let back := s.pt.returning.contains i
    let s : State := { s with pt := { s.pt with returning := s.pt.returning.filter (· ≠ i) } }
    if r.cmd && (r.qual = 5 || (r.qual = 2 && back)) then s.setPoint i { r with qual := 1 } else s
  | .undelivered i =>
    let r := s.point i
    if r.cmd && r.qual = 1 then s.setPoint i { r with qual := 5 } else s
  | .unreached i => s.setPoint i { s.point i with qual := 5 }
  | .lost i =>
    let r := s.point i
    if r.typ ≠ 0 && (r.qual = 1 || r.qual = 4) then s.setPoint i { r with qual := 2 } else s
  | .dropped i =>
    let r := s.point i
    if r.typ ≠ 0 then s.setPoint i { r with qual := 2 } else s
  | .oos i v =>
    let r := s.point i
    if r.typ = 0 then s else let x := setOos i v r s; x.1.setPoint i x.2

/-- Recomputes a record after its updates (R108, R109, R119). -/
def recompute (s : State) (i : Nat) (r : PointRec) : PointRec :=
  if r.mirror then r else if r.cmd then resolveArray s i r else resolvePlain s i r

/-- The units of a record that changed from `old` to `new` become dirty at the commit of tick `t` (R127). -/
def dirtyRecord (i t : Nat) (old new : PointRec) (s : State) : State :=
  if new.mirror then s
  else if new.persist then (if old ≠ new then markDirty s i t else s)
  else if new.cmd ∧ (old.pamask ≠ new.pamask ∨ old.sv ≠ new.sv) then markDirty s i t
  else s

/-- Some of the eight levels of a half of an array differ between two stores. -/
def halfChanged (s s' : State) (paix half : Nat) : Bool :=
  (List.range 8).any (fun k => levelValue s paix (half * 8 + k + 1) ≠ levelValue s' paix (half * 8 + k + 1))

/-- The halves of a command point's array that changed since `before` become dirty (R111, R127). -/
def dirtyArray (before : State) (r : PointRec) (t : Nat) (s : State) : State :=
  if r.cmd then
    let s' := if halfChanged before s r.paix 0 then markDirty s (unitOfHalf r.paix 0) t else s
    if halfChanged before s r.paix 1 then markDirty s' (unitOfHalf r.paix 1) t else s'
  else s

/-- What RSEQ counts: PV, SV, QUAL, the flags and the priority array (R86). -/
def rseqView (r : PointRec) : List Nat :=
  [r.pv, r.sv, r.qual, r.forced.toNat, r.oos.toNat, r.orphan.toNat, r.relinq.toNat, r.actlvl, r.pamask]

/-- QUAL, FORCED or OOS of a record differ from the store before the commit (R115). -/
def flagsChanged (before s : State) (i : Nat) : Bool :=
  let a := before.point i
  let b := s.point i
  decide (a.qual ≠ b.qual ∨ a.forced ≠ b.forced ∨ a.oos ≠ b.oos)

/-- Closes the commit of one touched record: flags, RSEQ and dirty units (R108, R127). `before` is the store at the previous
commit. -/
def closeRecord (before : State) (tick : Nat) (i : Nat) (s : State) : State :=
  let old := before.point i
  let array := old.cmd && (halfChanged before s old.paix 0 || halfChanged before s old.paix 1)
  let r := recompute s i (s.point i)
  let r := if !r.mirror ∧ (rseqView r ≠ rseqView old ∨ array) then { r with rseq := (r.rseq + 1) % 65536 } else r
  let s := dirtyArray before r tick (dirtyRecord i tick old r (s.setPoint i r))
  if r = old then s else { s with pt := { s.pt with changed := s.pt.changed ++ [i] } }

/-- The indices without repeats, in order of first appearance. -/
def distinct : List Nat → List Nat
  | [] => []
  | a :: t => if t.contains a then distinct t else a :: distinct t

/-- The index that a report concerns. -/
def reportIndex : PointReport → Nat
  | .delivered i => i
  | .undelivered i => i
  | .unreached i => i
  | .lost i => i
  | .dropped i => i
  | .oos i _ => i

/-- OVLD follows ten ticks with a full queue and a hundred with none (R99). -/
def overloadRule (s : State) : State :=
  let full := (List.range 8).filter (fun c => (queueOf s c).length ≥ 4096)
  let s := full.foldl (fun s c => s.countSat (Reg.PNT_QIN_FULLS.ix c) 1) s
  let f := if full = [] then 0 else s.pt.fullTicks + 1
  let c := if full = [] then s.pt.clearTicks + 1 else 0
  let s := { s with pt := { s.pt with fullTicks := f, clearTicks := c } }
  if f ≥ 10 ∧ !s.bit Reg.PNT_STAT_OVLD then (s.raise Reg.PNT_STAT_OVLD).raise Reg.PNT_FAULT_OVLD
  else if c ≥ 100 then s.set Reg.PNT_STAT_OVLD 0 else s

/-- DIRTYFULL follows the same rule of the dirty set (R128). -/
def dirtyFullRule (s : State) : State :=
  let full := s.pt.dirty.length ≥ 4096
  let f := if full then s.pt.dirtyFullTicks + 1 else 0
  let c := if full then 0 else s.pt.dirtyClearTicks + 1
  let s := { s with pt := { s.pt with dirtyFullTicks := f, dirtyClearTicks := c } }
  if f ≥ 10 then s.raise Reg.PNT_STAT_DIRTYFULL else if c ≥ 100 then s.set Reg.PNT_STAT_DIRTYFULL 0 else s

/-- Every record with `PUB` 1 is evaluated at a commit (R115): those of `first` before the others. -/
def evalPublications (before : State) (first : List Nat) (now : Nat) (s : State) : State :=
  let others := (s.pt.recs.filter (fun (e : Nat × PointRec) => e.2.pub && !first.contains e.1)).map (fun e => e.1)
  (first ++ others).foldl (fun s i => evalPublication i now (flagsChanged before s i) s) s

/-- The updates of a tick without those that a later write of their source to the same level replaces (R105). -/
def lastWrites : List Admitted → List Admitted
  | [] => []
  | a :: t => if t.any (fun b => sameLevel a b && decide (a.upd.src = b.upd.src)) then lastWrites t else a :: lastWrites t

/-- The updates that a later write of their source replaces report WRITTEN (R105). -/
def replacedWrites (tick : Nat) : List Admitted → State → State
  | [], s => s
  | a :: t, s => replacedWrites tick t
      (if t.any (fun b => sameLevel a b && decide (a.upd.src = b.upd.src)) then deliver a.upd.path resWritten tick s else s)

/-- Applies the admitted updates of the tick: winners take effect, the last write of every other source loses, and earlier writes of
one source report WRITTEN (R104 to R108). Where sources write different levels of one record, LASTSRC names the last applied, in the
order of admission within a phase (assumption 104; DESIGN CHOICE). -/
def applyAdmitted (admitted : List Admitted) (tick : Nat) (s : State) : State :=
  let all := lastWrites admitted
  let phase := fun k => all.filter (fun a => applyPhase a = k)
  (phase 0 ++ phase 1 ++ phase 2).foldl (fun s a =>
    let w := winnerOf a all
    if w.upd.src ≠ a.upd.src then deliver a.upd.path resSuperseded tick (supersede w a tick s)
    else
      let x := applyUpdate a ((tick + 1) * 1000) s
      deliver a.upd.path x.2.2 tick (x.1.setPoint a.index x.2.1)) (replacedWrites tick admitted s)

/-- Opens the next tick: capacity, quotas and passed classes are new, and the round-robin starts one class further
(R97, R98, R103). -/
def openTick (s : State) : State :=
  let c := s.pt.startClass % 7 + 1
  { s with pt := { s.pt with admitted := [], reports := [], capUsed := 0, quotaUsed := [], passed := [],
                             startClass := c, nextClass := c } }

/-- The commit at the end of the current tick (R82, R104 to R109): the tick's updates and the waiting reports take effect
together. -/
def pointCommit (s0 : State) : State :=
  let tick := tickNow s0
  let s := s0.reach (instantOfTai s0 ((tick + 1) * msec))
  if !s.bit Reg.PNT_STAT_READY then { s with pt := { s.pt with lastTick := tick } }
  else
    let all := s.pt.admitted
    let reports := s.pt.reports
    let s := { s with pt := { s.pt with changed := [], published := [], lastTick := tick } }
    let before := s
    let s := applyAdmitted all tick s
    let s := reports.foldl (fun s p => applyReport p s) s
    let touched := distinct (all.map (fun a => a.index) ++ reports.map reportIndex)
    let s := touched.foldl (fun s i => closeRecord before tick i s) s
    let s := evalPublications before touched (tick + 1) s
    openTick (dirtyFullRule (overloadRule s))

/-! ### Timers of records -/

/-- The tick instant (ms) at which record `i` goes STALE if no update comes (R93), if its timeout runs. -/
def staleDue (s : State) (i : Nat) : Option Nat :=
  let r := s.point i
  if r.typ ≠ 0 ∧ r.staleto ≠ 0 ∧ (r.qual = 1 ∨ r.qual = 4) then
    let due := (r.ts + r.staleto * 100000 + 999) / 1000
    some (if due ≤ taiMs s ∧ taiNs s % msec ≠ 0 then taiMs s + 1 else max due (taiMs s))
  else none

/-- STALE_TIMEOUT (R93): at the first commit instant at which STALETO × 100 ms have passed since TS. -/
def staleTimeout (i : Nat) (s : State) : State :=
  match staleDue s i with
  | none => s
  | some ms =>
    let r := s.point i
    let s := s.reach (instantOfTai s (ms * msec))
    let s' := closeRecord s (ms - 1) i (wakeEvent (s.setPoint i { r with qual := 2 }))
    evalPublication i ms (flagsChanged s s' i) s'

/-- The tick instant (ms) at which the publication timer of record `i` next falls due, if one runs (R115). -/
def pubDue (s : State) (i : Nat) : Option Nat :=
  let r := s.point i
  let side := tabGet {} s.pt.pubs i
  let at' := fun ms => match side.last with
    | none => taiMs s
    | some t => max (taiMs s) (t + ms)
  if !r.pub || r.mirror || r.typ = 0 then none
  else if side.pending then
    if r.maxpub ≠ 0 then some (min (at' r.minpub) (at' (r.maxpub * 1000))) else some (at' r.minpub)
  else if r.maxpub ≠ 0 then some (at' (r.maxpub * 1000)) else none

/-- The next timer of the point engine, staleness or publication, in ms of TAI (R84). -/
def nextPointTimer (s : State) : Option Nat :=
  s.pt.recs.foldl (fun a e => minOpt a (minOpt (staleDue s e.1) (pubDue s e.1))) none

/-- PUBLICATION_TIMER (R115). -/
def publicationTimer (i : Nat) (s : State) : State :=
  match pubDue s i with
  | none => s
  | some ms =>
    let s := wakeEvent (s.reach (instantOfTai s (ms * msec)))
    evalPublication i (taiMs s) false s

/-- The image of a record: its whole layout (R85, R129). -/
def imageOf (r : PointRec) : PointRec := r

/-- Writes a unit to MRAM with its state now (R127). -/
def writeUnit (u : Nat) (s : State) : State :=
  let pt := s.pt
  let pt := if u < 2 ^ 20 then { pt with images := tabInsert u (imageOf (s.point u)) pt.images }
    else
      let base := (u - 2 ^ 20) * 8
      { pt with arrayImages := (List.range 8).foldl (fun t k => tabPut 0 (base + k) (tabGet 0 pt.arrays (base + k)) t) pt.arrayImages }
  let d := tabErase u pt.dirty
  let s := { s with pt := { pt with dirty := d, unitWritten := tabInsert u (taiMs s) pt.unitWritten } }
  (s.countWrap Reg.PNT_PERSW_COUNT 1).set Reg.PNT_DIRTY_COUNT d.length

/-- PERSISTENCE_WRITE (R127): the coalescer writes a dirty unit at the end of the first eligible tick. -/
def persistenceWrite (u : Nat) (s : State) : State :=
  match tabFind u s.pt.dirty with
  | none => s
  | some t =>
    let last := match tabFind u s.pt.unitWritten with
      | none => 0
      | some w => w + 100
    writeUnit u (s.reach (instantOfTai s (max (t + 2) last * msec)))

/-! ### Mirrors (R19, R20, R125) -/

/-- The lowest index from `k` on that a rising list of records leaves unused. -/
def lowestFree : Table PointRec → Nat → Nat
  | [], k => k
  | (j, _) :: t, k => if j = k then lowestFree t (k + 1) else k

/-- Shows the number of mirrors. -/
def showMirrors (s : State) : State := s.set Reg.PNT_MIRROR_COUNT s.pt.directory.length

/-- Creates the mirror of a subscribed point at the lowest unused index; refused where none remains (R19, R125). -/
def createMirror (m : MirrorCfg) (s : State) : State :=
  if (tabFind m.gpr s.pt.directory).isSome || !gprValid m.gpr then s
  else
    let i := lowestFree s.pt.recs 0
    if i ≥ 2 ^ 20 then (s.countSat Reg.PNT_MIRREF_COUNT 1).raise Reg.PNT_FAULT_MIRFULL
    else
      let r : PointRec := { typ := m.typ, lane := m.lane, mirror := true, addr := m.gpr, staleto := m.staleto, maxage := m.maxage }
      let s := s.setPoint i r
      showMirrors { s with pt := { s.pt with directory := tabInsert m.gpr i s.pt.directory } }

/-- Removes the mirror of a point; its index becomes unused (R125). -/
def removeMirror (gpr : Nat) (s : State) : State :=
  match tabFind gpr s.pt.directory with
  | none => s
  | some i =>
    let s := s.setPoint i {}
    showMirrors { s with pt := { s.pt with directory := tabErase gpr s.pt.directory },
                         via := { s.via with mirrorEpoch := tabErase i s.via.mirrorEpoch } }

/-! ### Restore (R131, R132) -/

/-- A native record as the configuration sheet builds it (R131 step 2). -/
def freshRecord (r : PointRec) : PointRec :=
  { r with pv := 0, lpv := 0, ts := 0, qual := 0, forced := false, oos := false, orphan := false, relinq := r.cmd,
           actlvl := 0, rseq := 0, pamask := 0, lastsrc := 0, mirror := false, sv := if r.cmd then r.sv else 0 }

/-- The halves of an array whose image fails, as the levels of PAMASK that they hold. -/
def badLevels (badList : List Nat) (paix : Nat) : Nat :=
  (if badList.contains (unitOfHalf paix 0) then 0xFF else 0) + (if badList.contains (unitOfHalf paix 1) then 0xFF00 else 0)

/-- Restores one native record from its MRAM image (R129, R131 step 3, R132). A half of an array whose image fails holds no value
(assumption 79). -/
def restoreRecord (s : State) (badList : List Nat) (i : Nat) (r : PointRec) : PointRec :=
  if badList.contains i then r
  else
    match tabFind i s.pt.images with
    | none => r
    | some m =>
      let m := { m with pamask := m.pamask - (m.pamask &&& badLevels badList r.paix) }
      let r := if r.cmd then { r with sv := m.sv, pamask := m.pamask } else r
      if r.persist then { r with pv := m.pv, sv := m.sv, ts := m.ts, qual := if r.cmd then r.qual else 2 } else r

/-- The units of MRAM that a restore reads: the record of every PERSIST record and command point, and the halves of every array. -/
def restoredUnits (pts : Table PointRec) : List Nat :=
  (pts.filter (fun e => e.2.persist || e.2.cmd)).map (fun e => e.1) ++
    (pts.filter (fun e => e.2.cmd)).flatMap (fun e => [unitOfHalf e.2.paix 0, unitOfHalf e.2.paix 1])

/-- The arrays as MRAM holds them, without the halves whose image fails. -/
def goodArrays (badList : List Nat) (t : Table Nat) : Table Nat :=
  t.filter (fun e => !badList.contains (2 ^ 20 + e.1 / 8))

/-- Steps 2 to 5 of R131: the store is rebuilt from the sheet and MRAM; `badList` names the units whose image fails its ECC check
(R132). Forces that a P reset emptied are reported (R121). -/
def storeRebuild (badList : List Nat) (s : State) : State :=
  let pts : Table PointRec := (sheet s).points.filter (fun (e : Nat × PointRec) => decide (e.2.typ ≠ 0))
  let recs : Table PointRec := pts.map (fun e => (e.1, restoreRecord s badList e.1 (freshRecord e.2)))
  let bad := ((restoredUnits pts).filter (fun u => badList.contains u)).length
  let s : State := { s with pt := { s.pt with recs := recs, arrays := goodArrays badList s.pt.arrayImages, pubs := [], directory := [],
                                              returning := [], freshAt := [] } }
  let s := if s.pt.forcesCleared ≠ 0 then
      logEvent 0x0102 4 [s.pt.forcesCleared] (({ s with pt := { s.pt with forcesCleared := 0 } }).raise Reg.PNT_FAULT_FORCECLR)
    else s
  let recs := s.pt.recs.map (fun e =>
    let r := { e.2 with oos := decide (tabGet 0 s.pt.oosMap e.1 = 1) }
    (e.1, recompute s e.1 r))
  let s := { s with pt := { s.pt with recs := recs } }
  let s := (s.set Reg.PNT_FCOUNT_COUNT s.pt.forces.length).set Reg.FORCE_FCNT_COUNT s.pt.forces.length
  let s := (s.set Reg.PNT_RESTBAD_COUNT bad).set Reg.PNT_NATIVE_COUNT pts.length
  let s := if bad > 0 then s.raise Reg.PNT_FAULT_RESTFAIL else s
  let s := { s with via := { s.via with mirrorEpoch := [], keystoneOf := [], subscribed := false } }
  (sheet s).via.mirrors.foldl (fun s m => createMirror m s) (showMirrors s)

/-- POINT_STORE_RESTORE (R131): the store is rebuilt from the sheet and MRAM, and READY is set. -/
def storeRestore (badList : List Nat) (s : State) : State :=
  if s.bit Reg.PNT_STAT_READY then s
  else
    let s := refuseAll s
    let s := storeRebuild badList { s with pt := { s.pt with dirty := [] } }
    ((s.set Reg.PNT_DIRTY_COUNT 0).set Reg.PNT_STAT_RESTORING 0).raise Reg.PNT_STAT_READY

end Sys2Proof.Machine
end

