-- ==== Sys2Proof/Machine/PointPages.lean ====
section
/-! DEFINITION. The pages of the point engine (spec/03_points.md, R135 to R145): PNTWIN, CMD and FORCE. -/

namespace Sys2Proof.Machine

/-- A bit as a number. -/
def b2n (b : Bool) : Nat := if b then 1 else 0

/-- The STAT word of a record (R86). -/
def statWord (r : PointRec) : Nat :=
  r.qual * 2 ^ 28 + b2n r.forced * 2 ^ 27 + b2n r.oos * 2 ^ 26 + b2n r.orphan * 2 ^ 25 + b2n r.relinq * 2 ^ 24 +
    r.actlvl * 2 ^ 20 + r.rseq

/-- The CFG word of a record (R86). -/
def cfgWord (r : PointRec) : Nat :=
  r.lane * 2 ^ 24 + r.typ * 2 ^ 20 + b2n r.persist * 2 ^ 19 + b2n r.cmd * 2 ^ 18 + b2n r.mirror * 2 ^ 17 +
    b2n r.pub * 2 ^ 16 + r.staleto

/-- The 16 words of a record image (R85). -/
def recordWords (r : PointRec) : List Nat :=
  [r.pv % 2 ^ 32, r.pv / 2 ^ 32, r.sv % 2 ^ 32, r.sv / 2 ^ 32, r.lpv % 2 ^ 32, r.lpv / 2 ^ 32, r.ts % 2 ^ 32, r.ts / 2 ^ 32,
   r.deadband, r.maxpub * 2 ^ 16 + r.minpub, cfgWord r, statWord r, r.pamask * 2 ^ 16 + r.maxage, r.paix,
   r.addr % 2 ^ 32, r.lastsrc * 2 ^ 16 + r.addr / 2 ^ 32]

/-! ### Windows (R54, R56) -/

/-- The record index in a window copy. -/
def winIndex (s : State) (p r : Nat) : Nat := s.get ((Reg.WIN_INDEX.onPage p).by r)
/-- DATA word `k` of a window copy. -/
def winData (s : State) (p r k : Nat) : Nat := s.get (((Reg.WIN_DATA.onPage p).by r).ix k)
/-- A window copy is busy. -/
def winBusy (s : State) (p r : Nat) : Bool := s.bit ((Reg.WIN_BUSY.onPage p).by r)
/-- Fills DATA of a window copy from word 0. -/
def winFill (p r : Nat) (ws : List Nat) (s : State) : State := setWords ((Reg.WIN_DATA.onPage p).by r) s ws 0

/-- A LOAD ends with an image (R54): VALID 1 and no error. -/
def winLoaded (p r : Nat) (ws : List Nat) (s : State) : State :=
  windowDone p r 0 ((winFill p r ws s).set ((Reg.WIN_VALID.onPage p).by r) 1)

/-- A LOAD fails: VALID 0, the error code, and DATA keeps its previous image (R137). -/
def winFailed (p r code : Nat) (s : State) : State := windowDone p r code (s.set ((Reg.WIN_VALID.onPage p).by r) 0)

/-- LOAD of a point record by requester `r` (R83, R131, R137). -/
def pntLoad (r : Nat) (s : State) : State :=
  let i := winIndex s 0x041 r
  let x := s.point i
  if !s.bit Reg.PNT_STAT_READY then winFailed 0x041 r resNotReady s
  else if x.typ = 0 then winFailed 0x041 r resRefError s
  else if !mayReadLane (requesterLanes s r) x.lane then winFailed 0x041 r resLaneDenied (fabricDenial r x.lane i s)
  else winLoaded 0x041 r (recordWords x) s

/-- An update of requester `r` is submitted through its window copy, which is busy until the result (R138). -/
def pntSubmit (r : Nat) (k : UpdateKind) (s : State) : State :=
  submit { src := requesterSrc r, target := .idx (winIndex s 0x041 r), kind := k, path := .window r }
    (s.raise ((Reg.WIN_BUSY.onPage 0x041).by r))

/-- COMMIT on PNTWIN by requester `r`, by `WSEL.MODE` (R138 to R141): NOT_READY before the store is, and in ZEROIZED (R131, R134), and ignored while BUSY
is 1 (R56). -/
def pntCommit (r : Nat) (s : State) : State :=
  let d := winData s 0x041 r
  if winBusy s 0x041 r then s
  else if !takesWrites s then windowDone 0x041 r resNotReady s
  else match s.get (Reg.PNTWIN_WSEL_MODE.by r) with
    | 0 => pntSubmit r (.value (d 0 + 2 ^ 32 * d 1) .valid) s
    | 1 => pntSubmit r (.tuning (d 8) (d 9 % 2 ^ 16) (d 9 / 2 ^ 16) (d 10 % 2 ^ 16) (d 12 % 2 ^ 16)) s
    | 2 => pntSubmit r (.service ((d 11).testBit 26)) s
    | _ => windowDone 0x041 r resBadSelect s

/-- Requester `r` sets index and selection of its PNTWIN copy; ignored while BUSY is 1 (R56). -/
def pntSelect (r i mode : Nat) (s : State) : State :=
  if winBusy s 0x041 r then s
  else (s.set ((Reg.WIN_INDEX.onPage 0x041).by r) i).set (Reg.PNTWIN_WSEL_MODE.by r) mode

/-- Requester `r` writes one DATA word of its PNTWIN copy; ignored while BUSY is 1 (R56). -/
def pntData (r k v : Nat) (s : State) : State :=
  if winBusy s 0x041 r then s else s.set (((Reg.WIN_DATA.onPage 0x041).by r).ix k) v

/-- PNTWIN_VALUE_WRITE (R139). -/
def pntValueWrite (r i v : Nat) (s : State) : State :=
  pntCommit r (pntData r 1 (v / 2 ^ 32) (pntData r 0 (v % 2 ^ 32) (pntSelect r i 0 s)))

/-- PNTWIN_VALUE_WRITE (R139): COMMIT with `WSEL.MODE` 0. -/
def execPntwinValueWrite (requester : Fin 16) (index : BitVec 20) (value : BitVec 64) (s : State) :
    Host.Outcome State Fault Refusal :=
  done s (pntValueWrite requester.val index.toNat value.toNat s)

/-- PNTWIN_TUNING_WRITE (R140): COMMIT with `WSEL.MODE` 1. -/
def pntTuningWrite (r i db mn mx st ma : Nat) (s : State) : State :=
  let s := pntData r 9 (mx * 2 ^ 16 + mn) (pntData r 8 db (pntSelect r i 1 s))
  pntCommit r (pntData r 12 ma (pntData r 10 st s))

/-- PNTWIN_TUNING_WRITE (R140). -/
def execPntwinTuningWrite (requester : Fin 16) (index : BitVec 20) (deadband : Word)
    (minpub maxpub staleto maxage : BitVec 16) (s : State) : Host.Outcome State Fault Refusal :=
  done s (pntTuningWrite requester.val index.toNat deadband.toNat minpub.toNat maxpub.toNat staleto.toNat maxage.toNat s)

/-- PNTWIN_SERVICE_WRITE (R141): COMMIT with `WSEL.MODE` 2. -/
def execPntwinServiceWrite (requester : Fin 16) (index : BitVec 20) (oos : Bool) (s : State) :
    Host.Outcome State Fault Refusal :=
  let r := requester.val
  done s (pntCommit r (pntData r 11 (b2n oos * 2 ^ 26) (pntSelect r index.toNat 2 s)))

/-- PNTWIN_RESERVED_SELECT (R141): COMMIT with `WSEL.MODE` 3 returns BAD_SELECT. -/
def execPntwinReservedSelect (requester : Fin 16) (index : BitVec 20) (s : State) : Host.Outcome State Fault Refusal :=
  let r := requester.val
  done s (pntCommit r (pntSelect r index.toNat 3 s))

/-! ### CMD (R142, R143) -/

/-- The tick that a result without an update names: the one whose commit is the last before it (R143). -/
def servedTick (s : State) : Nat := (tickNow s - 1) % 2 ^ 16

/-- The array of a command point is read into the copy of requester `r` (R143). -/
def cmdRead (r i : Nat) (s : State) : State :=
  let x := s.point i
  let s := (List.range 16).foldl (fun s k =>
    let v := levelValue s x.paix (k + 1)
    (s.set ((Reg.CMD_ARRAY_VALLO.by r).ix k) (v % 2 ^ 32)).set ((Reg.CMD_ARRAY_VALHI.by r).ix k) (v / 2 ^ 32)) s
  ((s.set (Reg.CMD_AMASK_MASK.by r) x.pamask).set (Reg.CMD_ARELLO_VAL.by r) (x.sv % 2 ^ 32)).set (Reg.CMD_ARELHI_VAL.by r)
    (x.sv / 2 ^ 32)

/-- A GO on the CMD page by requester `r` (R142, R143), which reads 1 until the update is admitted or refused; ignored while BUSY is
1. An unused record is REF_ERROR before lane 0 is asked for (R81, R100). -/
def cmdGo (r : Nat) (s : State) : State :=
  if s.bit (Reg.CMD_CRES_BUSY.by r) then s
  else
    let s := s.set (Reg.CMD_CRES_DONE.by r) 0
    let i := s.get (Reg.CMD_CTGT_INDEX.by r)
    let lvl := s.get (Reg.CMD_COP_LEVEL.by r)
    let v := s.get (Reg.CMD_CVALLO_VAL.by r) + 2 ^ 32 * s.get (Reg.CMD_CVALHI_VAL.by r)
    let x := s.point i
    let send := fun k => submit { src := requesterSrc r, target := .idx i, kind := k, path := .cmd r }
      ((s.raise (Reg.CMD_CRES_BUSY.by r)).raise (Reg.CMD_CGO_GO.by r))
    let unused := cmdDone r resRefError (servedTick s) ((s.countSat Reg.PNT_REFCNT_COUNT 1).raise Reg.PNT_FAULT_REFERR)
    if !s.bit Reg.PNT_STAT_READY || (!takesWrites s && s.get (Reg.CMD_COP_OP.by r) ≠ 2) then cmdDone r resNotReady (servedTick s) s
    else match s.get (Reg.CMD_COP_OP.by r) with
      | 0 => send (.level lvl v)
      | 1 => send (.relinquish lvl)
      | 2 =>
        if x.typ = 0 then unused
        else if !mayReadLane (requesterLanes s r) x.lane then cmdDone r resLaneDenied (servedTick s) (fabricDenial r x.lane i s)
        else if !x.cmd then cmdDone r resNotWritable (servedTick s) s
        else cmdDone r resWritten (servedTick s) (cmdRead r i s)
      | _ =>
        if x.typ = 0 then unused
        else if !(requesterLanes s r).getLsbD 0 then cmdDone r resLaneDenied (servedTick s) (fabricDenial r x.lane i s)
        else send (.relDefault v)

/-- Target, operation and value of a CMD submission, then GO (R143). -/
def cmdSubmit (r i op lvl v : Nat) (s : State) : State :=
  let s := ((s.set (Reg.CMD_CTGT_INDEX.by r) i).set (Reg.CMD_COP_OP.by r) op).set (Reg.CMD_COP_LEVEL.by r) lvl
  cmdGo r ((s.set (Reg.CMD_CVALLO_VAL.by r) (v % 2 ^ 32)).set (Reg.CMD_CVALHI_VAL.by r) (v / 2 ^ 32))

/-- CMD_WRITE_LEVEL (R110, R142): OP 0. -/
def execCmdWriteLevel (requester : Fin 16) (index : BitVec 20) (level : BitVec 5) (value : BitVec 64) (s : State) :
    Host.Outcome State Fault Refusal :=
  done s (cmdSubmit requester.val index.toNat 0 level.toNat value.toNat s)

/-- CMD_RELINQUISH_LEVEL (R110, R142): OP 1. -/
def execCmdRelinquishLevel (requester : Fin 16) (index : BitVec 20) (level : BitVec 5) (s : State) :
    Host.Outcome State Fault Refusal :=
  done s (cmdSubmit requester.val index.toNat 1 level.toNat 0 s)

/-- CMD_READ_ARRAY (R143): OP 2. -/
def execCmdReadArray (requester : Fin 16) (index : BitVec 20) (s : State) : Host.Outcome State Fault Refusal :=
  done s (cmdSubmit requester.val index.toNat 2 0 0 s)

/-- CMD_WRITE_RELINQUISH_DEFAULT (R113, R143): OP 3. -/
def execCmdWriteRelinquishDefault (requester : Fin 16) (index : BitVec 20) (value : BitVec 64) (s : State) :
    Host.Outcome State Fault Refusal :=
  done s (cmdSubmit requester.val index.toNat 3 0 value.toNat s)

/-! ### FORCE (R144, R145) -/

/-- The force state of a record is read into FINFO of requester `r` (R144). -/
def forceInfo (r i : Nat) (s : State) : State :=
  match tabFind i s.pt.forces with
  | some f => ((s.set (Reg.FORCE_FINFO_ACTIVE.by r) 1).setBit (Reg.FORCE_FINFO_ORPHAN.by r) f.orphan).set
      (Reg.FORCE_FINFO_SRC.by r) f.src
  | none => ((s.set (Reg.FORCE_FINFO_ACTIVE.by r) 0).set (Reg.FORCE_FINFO_ORPHAN.by r) 0).set (Reg.FORCE_FINFO_SRC.by r) 0

/-- A GO on the FORCE page by requester `r` (R144), which reads 1 until the update is admitted or refused; ignored while BUSY is 1, as
on CMD. -/
def forceGo (r : Nat) (s : State) : State :=
  if (s.get (Reg.FORCE_FRES.by r)).testBit 31 then s
  else
    let i := s.get (Reg.FORCE_FTGT_INDEX.by r)
    let v := s.get (Reg.FORCE_FVALLO_VAL.by r) + 2 ^ 32 * s.get (Reg.FORCE_FVALHI_VAL.by r)
    let x := s.point i
    let send := fun k => submit { src := requesterSrc r, target := .idx i, kind := k, path := .force r }
      ((s.set (Reg.FORCE_FRES.by r) (2 ^ 31)).raise (Reg.FORCE_FGO_GO.by r))
    if !s.bit Reg.PNT_STAT_READY || (!takesWrites s && s.get (Reg.FORCE_FOP_OP.by r) ≠ 2) then
      forceDone r resNotReady (servedTick s) s
    else match s.get (Reg.FORCE_FOP_OP.by r) with
      | 0 => send (.force v)
      | 1 => send .release
      | 2 =>
        if x.typ = 0 then forceDone r resRefError (servedTick s) ((s.countSat Reg.PNT_REFCNT_COUNT 1).raise Reg.PNT_FAULT_REFERR)
        else if !mayReadLane (requesterLanes s r) x.lane then forceDone r resLaneDenied (servedTick s) (fabricDenial r x.lane i s)
        else forceDone r resWritten (servedTick s) (forceInfo r i s)
      | _ => forceDone r resBadSelect (servedTick s) s

/-- Target, operation and value of a FORCE submission, then GO. -/
def forceSubmit (r i op v : Nat) (s : State) : State :=
  let s := (s.set (Reg.FORCE_FTGT_INDEX.by r) i).set (Reg.FORCE_FOP_OP.by r) op
  forceGo r ((s.set (Reg.FORCE_FVALLO_VAL.by r) (v % 2 ^ 32)).set (Reg.FORCE_FVALHI_VAL.by r) (v / 2 ^ 32))

/-- FORCE_APPLY (R118, R144): OP 0. -/
def execForceApply (requester : Fin 16) (index : BitVec 20) (value : BitVec 64) (s : State) :
    Host.Outcome State Fault Refusal :=
  done s (forceSubmit requester.val index.toNat 0 value.toNat s)

/-- FORCE_RELEASE (R119, R144): OP 1. -/
def execForceRelease (requester : Fin 16) (index : BitVec 20) (s : State) : Host.Outcome State Fault Refusal :=
  done s (forceSubmit requester.val index.toNat 1 0 s)

/-- FORCE_READ (R144): OP 2. -/
def execForceRead (requester : Fin 16) (index : BitVec 20) (s : State) : Host.Outcome State Fault Refusal :=
  done s (forceSubmit requester.val index.toNat 2 0 s)

/-- FORCE_RESERVED_OP (R144): OP 3 returns BAD_SELECT. -/
def execForceReservedOp (requester : Fin 16) (index : BitVec 20) (s : State) : Host.Outcome State Fault Refusal :=
  done s (forceSubmit requester.val index.toNat 3 0 s)

/-! ### Submission, persistence and restore -/

/-- POINT_UPDATE_SUBMIT (R97, R99). -/
def execPointUpdateSubmit (update : Update) (s : State) : Host.Outcome State Fault Refusal := done s (submit update s)

/-- PERSISTENCE_WRITE (R127): `unit` is a record index, or 2^20 + 2 × array + half. -/
def execPersistenceWrite (unit : Nat) (s : State) : Host.Outcome State Fault Refusal := done s (persistenceWrite unit s)

end Sys2Proof.Machine
end

