-- ==== Sys2Proof/Machine/Parapet.lean ====
section
/-! DEFINITION. The parapet (spec/09_lanes_parapet.md, R367 to R388): evaluation of entries, output states, latches and the
entry window. The withdrawal of a lease reaches the ports and is defined with them. -/

namespace Sys2Proof.Machine

/-- The parapet sheet in force; with none installed, the empty sheet. -/
def parapetSheet (s : State) : ParapetSheet := match s.sheets.parapet with | some p => p | none => {}

/-- The configured part of an entry. -/
def entryCfg (s : State) (e : Nat) : EntryCfg := tabGet {} (parapetSheet s).entries e

/-- The run-time part of an entry. -/
def entryState (s : State) (e : Nat) : EntryState := tabGet {} s.prpt.entries e

/-- Stores the run-time part of an entry. -/
def setEntry (e : Nat) (x : EntryState) (s : State) : State :=
  { s with prpt := { s.prpt with entries := tabPut {} e x s.prpt.entries } }

/-- The counter and the FAULT bit of a limit kind (R374, R388); kinds 5 and 6 have no counter on PRPT. -/
def kindFields (k : Nat) : Option RegField × RegField :=
  match k with
  | 1 => (some Reg.PRPT_RANGECNT_COUNT, Reg.PRPT_FAULT_RANGE)
  | 2 => (some Reg.PRPT_SLEWCNT_COUNT, Reg.PRPT_FAULT_SLEW)
  | 3 => (some Reg.PRPT_DWELLCNT_COUNT, Reg.PRPT_FAULT_DWELL)
  | 4 => (some Reg.PRPT_RATECNT_COUNT, Reg.PRPT_FAULT_RATE)
  | 5 => (none, Reg.PRPT_FAULT_FEEDCLIP)
  | 6 => (none, Reg.PRPT_FAULT_BUSCEIL)
  | _ => (some Reg.PRPT_LIFTDROP_COUNT, Reg.PRPT_FAULT_LIFTCEIL)

/-- A limit clips or holds a new request: counters, FAULT and at most one PRPT_CLIP record in 10 s per entry or port and
kind (R374). `who` is the entry for kinds 1 to 4, the port for 5 and 6, 0 for 7. -/
def clipEvent (k who req rel src : Nat) (s : State) : State :=
  let f := kindFields k
  let s := match f.1 with
    | some c => s.countSat c 1
    | none => s
  let s := s.raise f.2
  let key := who * 8 + k
  let fresh := match tabFind key s.prpt.logged with
    | none => true
    | some t => decide (t + 10 * second ≤ s.now)
  if fresh then
    logEvent 0x0503 3 [who, k, req, rel, src] { s with prpt := { s.prpt with logged := tabInsert key s.now s.prpt.logged } }
  else s.countSat Reg.PRPT_LOGSUP_COUNT 1

/-- Encodes a number in the type of an analogue point (R370). -/
def encodeAs (typ : Nat) (x : Fp) : Nat := if typ = 7 then toF32 x else toF64 x

/-- Two values of one type in order. -/
def valueLt (typ a b : Nat) : Bool := fpLt (valueFp typ a) (valueFp typ b)

/-- A value clipped into LO to HI; for BITS32 it is ANDed with HI (R371). -/
def clipValue (c : EntryCfg) (typ v : Nat) : Nat :=
  if c.kind = 2 then v
  else if typ = 9 then v &&& c.hi
  else if valueLt typ v c.lo then c.lo else if valueLt typ c.hi v then c.hi else v

/-- The largest change in `ns` nanoseconds at RATE (R371), in binary64. -/
def rateStep (rate ns : Nat) : Fp :=
  match f32 rate with
  | .fin neg m e => f64 (fpRoundRat 11 52 neg (m * ns) second e)
  | x => x

/-- A change from `rel` to `target` limited to `step` (R371 step 2); `true` where it limited. -/
def slewValue (typ rel target : Nat) (step : Fp) : Nat × Bool :=
  let d := fpAdd (valueFp typ target) (fpNeg (valueFp typ rel))
  if fpLt step (fpAbs d) then
    let toward := if fpLt d (.fin false 0 0) then fpNeg step else step
    (encodeAs typ (fpAdd (valueFp typ rel) toward), true)
  else (target, false)

/-- The value in effect comes from level 1 or 2 and the entry has EMBYP (R373). -/
def bypass (c : EntryCfg) (r : PointRec) : Bool := c.embyp && !r.relinq && r.actlvl ≤ 1 && r.cmd

/-- The tokens of a binary entry now, in the unit of `EntryState.tokens` (R372). -/
def tokensNow (s : State) (x : EntryState) (maxchg : Nat) : Nat :=
  match x.tokens with
  | none => maxchg * 3600 * second
  | some t => min (t + (s.now - x.tokensAt) * maxchg) (maxchg * 3600 * second)

/-- Counts limit `k` for the entry's request once (R374). -/
def countClip (k e req rel src : Nat) (s : State) : State :=
  let x := entryState s e
  if x.counted.contains k then s
  else clipEvent k e req rel src (setEntry e { x with counted := k :: x.counted, eclip := min (x.eclip + 1) (2 ^ 32 - 1) } s)

/-- A new value leaves an entry: REL and LCHG, and for a segment item a release for its port (R369, R371, R377). -/
def releaseValue (e v : Nat) (safe force : Bool) (s : State) : State :=
  let x := entryState s e
  let changed := decide (x.rel ≠ v)
  let s := setEntry e { x with rel := v, lchg := if changed || safe then taiMs s else x.lchg } s
  if 64 ≤ e ∧ (changed || force) then
    { s with prpt := { s.prpt with releases := s.prpt.releases ++ [{ entry := e, value := v, safe := safe }] } }
  else s

/-- Notes the request of an evaluation; a new request is counted anew. -/
def noteRequest (e req : Nat) (s : State) : State :=
  let x := entryState s e
  if x.req = some req then s else setEntry e { x with req := some req, counted := [] } s

/-- One evaluation of an analogue or discrete entry in DRIVE (R371, R373, R374). -/
def evalAnalogue (e : Nat) (s : State) : State :=
  let c := entryCfg s e
  let r := s.point c.point
  let s := noteRequest e r.pv s
  let x := entryState s e
  let clipped := clipValue c r.typ r.pv
  let rng := decide (clipped ≠ r.pv)
  let free := c.kind = 3 || bypass c r || fpEq (f32 c.rate) (.fin false 0 0)
  let y := if free then (clipped, false) else slewValue r.typ x.rel clipped (rateStep c.rate (s.now - x.evalAt))
  let s := setEntry e { x with rng := rng, slw := y.2, dwl := false, rat := false, held := false, fresh := false } s
  let s := if rng then countClip 1 e r.pv y.1 r.lastsrc s else s
  let s := if y.2 then countClip 2 e r.pv y.1 r.lastsrc s else s
  releaseValue e y.1 false x.fresh s

/-- One evaluation of a binary entry in DRIVE (R372 to R374). -/
def evalBinary (e : Nat) (s : State) : State :=
  let c := entryCfg s e
  let r := s.point c.point
  let s := noteRequest e r.pv s
  let x := entryState s e
  if r.pv = x.rel then
    let s := setEntry e { x with rng := false, slw := false, dwl := false, rat := false, held := false, fresh := false } s
    if x.fresh then releaseValue e x.rel false true s else s
  else
    let maxchg := c.rate % 65536
    let dwell := if x.rel = 1 then c.lo % 2 ^ 32 else c.hi % 2 ^ 32
    let by' := bypass c r
    let dwellOk := by' || decide (x.lchg + dwell ≤ taiMs s)
    let tk := tokensNow s x maxchg
    let tokenOk := by' || maxchg = 0 || decide (3600 * second ≤ tk)
    if dwellOk && tokenOk then
      let x' := { x with rng := false, slw := false, dwl := false, rat := false, held := false, fresh := false }
      let x' := if by' || maxchg = 0 then x' else { x' with tokens := some (tk - 3600 * second), tokensAt := s.now }
      releaseValue e r.pv false false (setEntry e x' s)
    else
      let s := setEntry e { x with rng := false, slw := false, dwl := !dwellOk, rat := dwellOk && !tokenOk, held := true } s
      if !dwellOk then countClip 3 e r.pv x.rel r.lastsrc s else countClip 4 e r.pv x.rel r.lastsrc s

/-- Local output `e` has no fault: a universal channel at its limit (R613), a binary output tripped (R614). -/
def outputSound (s : State) (e : Nat) : Bool :=
  if e < 24 then !s.bit (Reg.UIO_USTAT_OUTFLT.ix e) else !(s.get Reg.UIO_BOSTAT_SHORT).testBit (e - 24)

/-- A fresh command of a local output is delivered as it is released, unless the output has a fault (R122, R613, R614). -/
def localDelivered (e : Nat) (fresh : Bool) (s : State) : State :=
  if fresh && e < 32 && outputSound s e && !(entryState s e).held then reportAll [.delivered (entryCfg s e).point] s else s

/-- One evaluation of an entry in DRIVE; while its point has OOS 1 it makes no release (R371). -/
def evalEntry (e : Nat) (s : State) : State :=
  let c := entryCfg s e
  let r := s.point c.point
  let fresh := (entryState s e).fresh
  let s' := if c.kind = 0 ∨ r.typ = 0 ∨ r.oos then s
    else localDelivered e fresh (if c.kind = 2 then evalBinary e s else evalAnalogue e s)
  setEntry e { entryState s' e with evalAt := s.now } s'

/-- The entry is due: a local output at every evaluation; a segment item when its request changed, and every 100 ms while
a slew or hold is unfinished (R371). -/
def entryDue (s : State) (e : Nat) : Bool :=
  let x := entryState s e
  e < 64 || x.fresh || decide (x.req ≠ some (s.point (entryCfg s e).point).pv) ||
    ((x.slw || x.held) && decide (x.evalAt + 100 * msec ≤ s.now))

/-- The entries in use. -/
def entriesInUse (s : State) : List Nat := ((parapetSheet s).entries.filter (fun e => e.2.kind ≠ 0)).map (fun e => e.1)

/-- The instant of the next evaluation: a whole millisecond at which the last commit is 1 ms old (R371). -/
def evalInstant (s : State) : Nat :=
  let ms := if taiNs s % msec = 0 ∧ s.prpt.evalAt ≠ s.now then taiMs s else taiMs s + 1
  instantOfTai s (max ms (s.pt.lastTick + 2) * msec)

/-- PARAPET_EVALUATION (R371): at a whole millisecond every entry that is due is evaluated. -/
def parapetEvaluate (s : State) : State :=
  let s := s.reach (evalInstant s)
  let s := { s with prpt := { s.prpt with evalAt := s.now } }
  if s.prpt.out = .drive then
    (entriesInUse s).foldl (fun s e => if entryDue s e then evalEntry e s else s) s
  else s

/-! ### Output states (R377 to R380) -/

/-- Shows the output state in `PRPT.STAT`. -/
def showOut (s : State) : State :=
  (s.setBit Reg.PRPT_STAT_SAFE (s.prpt.out = .safe)).setBit Reg.PRPT_STAT_RELEASED (s.prpt.out = .released)

/-- SVLATCH is set with its cause; a later cause does not overwrite it (R379). -/
def latchSafe (cause : Nat) (s : State) : State :=
  if s.bit Reg.PRPT_AO_SVLATCH then s else (s.raise Reg.PRPT_AO_SVLATCH).set Reg.PRPT_AO_SVRSN cause

/-- The releases that a change of output state made go by a shadow buffer where the entry asks for it. -/
def markShadow (want : EntryCfg → Bool) (s : State) : State :=
  { s with prpt := { s.prpt with releases := s.prpt.releases.map (fun r => { r with shadow := want (entryCfg s r.entry) }) } }

/-- Entry to SAFE: safe values at once, past every limit, with the dwell timers restarted (R380). -/
def enterSafe (cause : Nat) (s : State) : State :=
  let s := showOut { s with prpt := { s.prpt with out := .safe } }
  let s := latchSafe cause s
  markShadow EntryCfg.pri ((entriesInUse s).foldl (fun s e =>
    let x := entryState s e
    releaseValue e (entryCfg s e).safe true true
      (setEntry e { x with rng := false, slw := false, dwl := false, rat := false, held := false } s)) s)

/-- Entry to RELEASED: outputs disconnected, none sent (R377). -/
def enterReleased (cause : Nat) (s : State) : State :=
  latchSafe cause (showOut { s with prpt := { s.prpt with out := .released } })

/-- Entry to DRIVE (R380): from SAFE an analogue entry starts at SAFE clipped into range; from RELEASED or DEFAULT each
entry starts at PV. Every segment item is sent anew. -/
def enterDrive (s : State) : State :=
  let fromSafe := decide (s.prpt.out = .safe)
  let fromReleased := decide (s.prpt.out = .released)
  let s := showOut { s with prpt := { s.prpt with out := .drive } }
  let s := s.set Reg.PRPT_AO_SVLATCH 0
  markShadow (fun c => fromReleased && c.tko) ((entriesInUse s).foldl (fun s e =>
    let c := entryCfg s e
    let r := s.point c.point
    let x := entryState s e
    let v := if r.oos || r.typ = 0 then x.rel
      else if fromSafe then (if c.kind = 1 then clipValue c r.typ c.safe else if c.kind = 2 then x.rel else clipValue c r.typ r.pv)
      else clipValue c r.typ r.pv
    releaseValue e v false true (setEntry e { x with evalAt := s.now, req := none, counted := [] } s)) s)

/-- The parapet follows mode, sheet, pairing and permission (R378); `cause` is what `SVRSN` records. A configuration sheet that makes the
module a member of a pair, or no longer one, takes SAFE to RELEASED or back (assumption 117; DEDUCED). -/
def parapetFollow (cause : Nat) (s : State) : State :=
  let paired := s.bit Reg.PRPT_AO_PAIRED
  match s.prpt.out with
  | .dflt => if s.bit Reg.PRPT_STAT_NOSHEET then s else if paired then enterReleased 4 s else enterSafe 4 s
  | .safe => if paired then enterReleased 4 s else if modeDrives s then enterDrive s else s
  | .released =>
    if !paired then enterSafe 4 s else if modeDrives s && s.prpt.permission then enterDrive s else s
  | .drive =>
    if paired then (if modeDrives s && s.prpt.permission then s else enterReleased cause s)
    else if modeDrives s then s else enterSafe cause s

/-- Any reset other than P takes the parapet to SAFE, or to RELEASED of a paired member (R378). -/
def parapetReset (s : State) : State :=
  if s.prpt.out = .dflt then s
  else if s.bit Reg.PRPT_AO_PAIRED then enterReleased 1 s else enterSafe 1 s

/-- The entries under a new parapet sheet (R368, R372, R380): what has been released, its instant and the tokens stand for an entry of the
same point and kind; in SAFE a changed safe value is applied at once. -/
def renewEntries (old : ParapetSheet) (s : State) : State :=
  let same := fun (e : Nat) => decide ((tabGet {} old.entries e).kind = (entryCfg s e).kind ∧ (tabGet {} old.entries e).point = (entryCfg s e).point)
  let t : Table EntryState := s.prpt.entries.filter (fun (e : Nat × EntryState) => same e.1 && decide ((entryCfg s e.1).kind ≠ 0))
  let s : State := { s with prpt := { s.prpt with entries := t.map (fun (e : Nat × EntryState) =>
    (e.1, ({ rel := e.2.rel, lchg := e.2.lchg, tokens := e.2.tokens, tokensAt := e.2.tokensAt } : EntryState))) } }
  if s.prpt.out = .safe then
    (entriesInUse s).foldl (fun s e =>
      if (entryState s e).rel = (entryCfg s e).safe then s else releaseValue e (entryCfg s e).safe true false s) s
  else s

/-- The safe values of entries 0 to 31 are copied into the always-on latches, and PACTIVE is set (R379). -/
def latchSheet (s : State) : State :=
  let t : Table EntryCfg := (parapetSheet s).entries.filter (fun (e : Nat × EntryCfg) => decide (e.1 < 32 ∧ e.2.kind ≠ 0))
  ({ s with prpt := { s.prpt with latches := t.map (fun (e : Nat × EntryCfg) => (e.1, e.2.safe)) } }).raise Reg.PRPT_AO_PACTIVE

/-! ### The entry window (R369, R388) -/

/-- The output-state code of ESTAT. -/
def outCode : OutState → Nat
  | .dflt => 0
  | .safe => 1
  | .released => 2
  | .drive => 3

/-- The 16 words of an entry record (R369). -/
def entryWords (s : State) (e : Nat) : List Nat :=
  let c := entryCfg s e
  let x := entryState s e
  let ecfg := c.kind * 2 ^ 30 + b2n c.pri * 2 ^ 29 + b2n c.tko * 2 ^ 28 + b2n c.embyp * 2 ^ 27 + c.lane * 2 ^ 16
  let clipped := x.rng || x.slw || x.dwl || x.rat
  let estat := b2n clipped * 2 ^ 31 + b2n x.held * 2 ^ 30 + outCode s.prpt.out * 2 ^ 28 + b2n x.rng * 2 ^ 27 +
    b2n x.slw * 2 ^ 26 + b2n x.dwl * 2 ^ 25 + b2n x.rat * 2 ^ 24
  [ecfg, c.point, c.lo % 2 ^ 32, c.lo / 2 ^ 32, c.hi % 2 ^ 32, c.hi / 2 ^ 32, c.rate, 0, c.safe % 2 ^ 32, c.safe / 2 ^ 32,
   x.rel % 2 ^ 32, x.rel / 2 ^ 32, estat, x.eclip, x.lchg % 2 ^ 32, x.lchg / 2 ^ 32]

/-- A write of `ELOAD.LOAD` by requester `r` captures the entry that EIDX names. -/
def entryLoad (r : Nat) (s : State) : State :=
  let e := s.get (Reg.PRPT_EIDX_INDEX.by r)
  (setWords (Reg.PRPT_EDATA.by r) s (entryWords s e) 0).set (Reg.PRPT_EVAL_VALID.by r) 1

/-- PRPT_ENTRY_LOAD (R388): the requester sets EIDX and writes `ELOAD.LOAD`. -/
def execPrptEntryLoad (requester : Fin 16) (entry : BitVec 16) (s : State) : Host.Outcome State Fault Refusal :=
  done s (askHost requester 0x049 (fun s => entryLoad requester.val (s.set (Reg.PRPT_EIDX_INDEX.by requester.val) entry.toNat)) s)

end Sys2Proof.Machine
end

