-- ==== Sys2Proof/Machine/SegBase.lean ====
section
/-! DEFINITION. What the parts of a segment port share (spec/04_segment_ports.md): its configuration, state, nodes, points,
reports to the point engine and the right to run and to send. -/

namespace Sys2Proof.Machine

/-- The configuration of a port. -/
def portCfg (s : State) (p : Nat) : PortCfg := tabGet {} (sheet s).ports p

/-- The state of a port beside its registers. -/
def State.segPort (s : State) (p : Nat) : SegPort := tabGet {} s.seg.ports p

/-- Stores the state of a port. -/
def State.setSegPort (s : State) (p : Nat) (x : SegPort) : State :=
  { s with seg := { s.seg with ports := tabPut {} p x s.seg.ports } }

/-- The port state of R154. -/
def pstate (s : State) (p : Nat) : Nat := s.get (Reg.SEG_STAT_PSTATE.inst p)

/-- The personality in force (R148). -/
def pers (s : State) (p : Nat) : Nat := s.get (Reg.SEG_PCFG_PERS.inst p)

/-- A mask with bit `j` set. -/
def maskSet (m j : Nat) : Nat := if m.testBit j then m else m + 2 ^ j
/-- A mask with bit `j` clear. -/
def maskClear (m j : Nat) : Nat := if m.testBit j then m - 2 ^ j else m
/-- The set bits of a mask below 64, rising. -/
def maskBits (m : Nat) : List Nat := (List.range 64).filter (fun j => m.testBit j)

/-- A 64-bit mask held in two registers. -/
def get64 (s : State) (lo hi : RegField) : Nat := s.get lo + 2 ^ 32 * s.get hi
/-- Stores a 64-bit mask in two registers. -/
def set64 (lo hi : RegField) (v : Nat) (s : State) : State := (s.set lo (v % 2 ^ 32)).set hi (v / 2 ^ 32)

/-- The expected nodes of a port. -/
def nexp (s : State) (p : Nat) : Nat := get64 s (Reg.SEG_NEXPLO_BITS.inst p) (Reg.SEG_NEXPHI_BITS.inst p)
/-- The nodes that have joined and are not lost. -/
def nup (s : State) (p : Nat) : Nat := get64 s (Reg.SEG_NUPLO_BITS.inst p) (Reg.SEG_NUPHI_BITS.inst p)
/-- The points bound to a quantity of a class 2 source (R610): instance, quantity code, door or car. -/
def localPoints (s : State) (inst qty sub : Nat) : List Nat :=
  let a := 2 * 2 ^ 45 + inst * 2 ^ 32 + qty * 2 ^ 24 + sub * 2 ^ 16
  (s.pt.recs.filter (fun (e : Nat × PointRec) => e.2.addr = a && e.2.typ ≠ 0 && !e.2.cmd && !e.2.mirror)).map (fun e => e.1)

/-- A class 2 source submits a value for the points bound to a quantity (R610). -/
def localUpdate (inst qty sub v : Nat) (flag : ValueFlag) (s : State) : State :=
  submitAll ((localPoints s inst qty sub).map (fun i => { src := mkSrc 2 inst, target := .idx i, kind := .value v flag })) s

/-- Reader `r` is online: its node has joined and is not lost, and where it asks for a secure channel that is open (R616, R617). -/
def readerUp (s : State) (r : Nat) : Bool :=
  match tabFind r (sheet s).readers with
  | none => false
  | some c => (nup s c.port).testBit c.addr && (!c.screq || (s.get Reg.ACC_RSECURE_BITS).testBit r)

/-- The reader's port holds its node. -/
def readerJoined (s : State) (r : Nat) : Bool :=
  match tabFind r (sheet s).readers with
  | none => false
  | some c => (nup s c.port).testBit c.addr

/-- One reader's online bit and points follow; a lost reader has no secure channel any more. -/
def readerFollow (r : Nat) (s : State) : State :=
  let s := if readerJoined s r then s
    else { s.set Reg.ACC_RSECURE_BITS (maskClear (s.get Reg.ACC_RSECURE_BITS) r) with acc := { s.acc with secure := tabErase r s.acc.secure } }
  let m := s.get Reg.ACC_RONLINE_BITS
  let on := readerUp s r
  if m.testBit r = on then s
  else
    let s := s.set Reg.ACC_RONLINE_BITS (if on then maskSet m r else maskClear m r)
    let s := if on then s else s.raise Reg.ACC_FAULT_OFFLINE
    (sheet s).doors.foldl (fun s (e : Nat × DoorCfg) => if e.2.reader = r then localUpdate 32 1 e.1 (if on then 1 else 0) .valid s else s) s

/-- The readers follow their ports' nodes (R616). -/
def readersFollow (s : State) : State := (List.range 32).foldl (fun s r => readerFollow r s) s

/-- Stores NUP; readers follow. -/
def setNup (p v : Nat) (s : State) : State :=
  readersFollow (set64 (Reg.SEG_NUPLO_BITS.inst p) (Reg.SEG_NUPHI_BITS.inst p) v s)

/-- The port is an OSDP port (R153, R615). -/
def osdpPort (s : State) (p : Nat) : Bool := pers s p = 2 && s.get (Reg.LINK_LCFG_FRAMING.inst p) = 1
/-- The nodes out of service. -/
def noos (s : State) (p : Nat) : Nat := get64 s (Reg.SEG_NOOSLO_BITS.inst p) (Reg.SEG_NOOSHI_BITS.inst p)
/-- Stores NOOS. -/
def setNoos (p v : Nat) (s : State) : State := set64 (Reg.SEG_NOOSLO_BITS.inst p) (Reg.SEG_NOOSHI_BITS.inst p) v s

/-- The source identifier of a node (R95). -/
def nodeSrc (p j : Nat) : Nat := mkSrc 1 (p * 64 + j)

/-- The lane that the charter gives a node (R170). -/
def nodeLane (s : State) (p j : Nat) : Nat := tabGet 0 (charter s).nodeLanes (p * 64 + j)

/-- The map entries of a port. -/
def mapsOf (s : State) (p : Nat) : List MapEntry := (sheet s).maps.filter (fun m => m.port = p)

/-- The points that the map table relates to a port, or to one node of it (R157). -/
def pointsOf (s : State) (p : Nat) (node : Option Nat) : List Nat :=
  distinct (((mapsOf s p).filter (fun m => match node with
    | none => true
    | some j => decide (m.node = j))).map (fun m => m.index))

/-- The map entry of an incoming item (R165). -/
def mapIn (s : State) (p j place : Nat) : Option MapEntry :=
  (mapsOf s p).find? (fun m => decide (m.node = j ∧ m.place = place) && !m.cmd)

/-- The map entry by which a command point leaves the module (R165). -/
def mapOut (s : State) (i : Nat) : Option MapEntry := (sheet s).maps.find? (fun m => decide (m.index = i) && m.cmd)

/-- The emergency input that a node of a port is, if the charter names it (R358, R362). -/
def nodeEmergency (s : State) (p j : Nat) : Option Nat :=
  ((charter s).emergencyInputs.find? (fun (e : Nat × EmergencyInput) => decide (e.2 = .node p j))).map (fun e => e.1)

/-- The update that a mapped item of node `j` makes, if it lies in the lane of its node or range (R170): an item of an emergency
input that its entry maps to a command point is a class 0 level write (R95, R362). `none` is a lane violation. -/
def itemUpdate (s : State) (p j lane : Nat) (m : MapEntry) (v : Nat) (flag : ValueFlag) : Option Update :=
  let r := s.point m.index
  if r.lane ≠ lane then none
  else match nodeEmergency s p j with
    | some e =>
      if r.cmd then some { src := mkSrc 0 e, target := .idx m.index, kind := .level m.level v }
      else some { src := nodeSrc p j, target := .idx m.index, kind := .value v flag, lane := some lane }
    | none => some { src := nodeSrc p j, target := .idx m.index, kind := .value v flag, lane := some lane }

/-- The service request of R157 over the expansion joint: the points of a port or node take or lose OOS at the next commit. -/
def oosRequest (p : Nat) (node : Option Nat) (v : Bool) (s : State) : State :=
  reportAll ((pointsOf s p node).map (fun i => PointReport.oos i v)) s

/-- An item of source `src` with record `i` is discarded by the lane check of R170, a failure at the port's entrance
(R364, R366). -/
def laneDrop (p src i : Nat) (s : State) : State :=
  let s := (s.countSat (Reg.SEG_LANEDROP_COUNT.inst p) 1).raise (Reg.SEG_FAULT_LANEDROP.inst p)
  laneViolation 3 src (s.point i).lane i (s.countSat Reg.LANE_PORTCNT_COUNT 1)

/-- Records reported not delivered by a port (R93, R161, R169). -/
def notDelivered (p : Nat) (is : List Nat) (s : State) : State :=
  if is = [] then s
  else
    let s := reportAll (is.map PointReport.undelivered) s
    (s.countSat (Reg.LINK_UNDELIV_COUNT.inst p) is.length).raise (Reg.LINK_FAULT_UNDELIV.inst p)

/-- Records reported delivered (R93). -/
def delivered (is : List Nat) (s : State) : State := reportAll (is.map PointReport.delivered) s

/-- The mode and the lease let ports run (R189, R410). -/
def portsMayRun (s : State) : Bool :=
  let m := s.get Reg.MODE_STAT_MODE
  if m = 3 ∨ m = 4 then !paired s || s.prpt.permission
  else if m = 5 ∨ m = 6 then !paired s else false

/-- Receivers of a port in OFF count frames: in STANDBY, and in a paired member without drive permission (R189). -/
def receiversCount (s : State) : Bool :=
  let m := s.get Reg.MODE_STAT_MODE
  m = 2 || (3 ≤ m && m ≤ 6 && paired s && !s.prpt.permission)

/-- The instant, in ns of TAI, at which the lease expires (R381). -/
def leaseEndNs (s : State) : Nat := get64 s Reg.PRPT_LEASEENDLO_US Reg.PRPT_LEASEENDHI_US * 1000

/-- A command frame of worst-case duration `ns` may start now (R382). -/
def frameFits (s : State) (ns : Nat) : Bool :=
  !paired s || (s.prpt.permission && decide (taiNs s + ns ≤ leaseEndNs s))

/-- A frame that does not fit is held and counted (R382). -/
def fitHeld (s : State) : State := (s.countSat Reg.PRPT_FITHELD_COUNT 1).raise Reg.PRPT_FAULT_FITHOLD

/-- `b` is sequence number `k` or a later one (R160). -/
def seqLater (b k : Nat) : Bool := (b + 65536 - k % 65536) % 65536 < 32768

/-- The node may exchange data and commands: it has echoed in this JOINING or is not lost, and neither it nor its return
from OOS stands in the way (R154, R157, R657). -/
def nodeOpen (s : State) (p j : Nat) : Bool :=
  let x := s.segPort p
  let up := if pstate s p = 3 then x.joined.testBit j else pstate s p = 4 && (nup s p).testBit j
  up && !(noos s p).testBit j && (tabFind j x.oosWait).isNone

/-- The stored survey grade, 0 where no result is valid (R172). -/
def storedGrade (s : State) (p : Nat) : Nat :=
  if s.bit (Reg.SEG_STAT_SVYVALID.inst p) then s.get (Reg.SEG_SVYRES_GRADE.inst p) else 0

/-- The parapet entries that guard a point (R369). -/
def guarding (s : State) (i : Nat) : List Nat := (entriesInUse s).filter (fun e => (entryCfg s e).point = i)

/-- The parapet entry of a point that leaves through an output (R367, R369): of a segment command item the one that its map entry
names. -/
def entryOf (s : State) (i : Nat) : Option Nat :=
  match mapOut s i with
  | some m => m.entry.filter (fun e => (guarding s i).contains e)
  | none => (guarding s i).head?

/-- The value that a command point's output carries: what the parapet last released, or PV where no entry guards it. -/
def outputValue (s : State) (i : Nat) : Nat :=
  match entryOf s i with
  | some e => (entryState s e).rel
  | none => (s.point i).pv

end Sys2Proof.Machine
end

