-- ==== Sys2Proof/Machine/DmaBase.lean ====
section
/-! DEFINITION. DMA channels: their registers, and where a channel stops (spec/13_cores_memory.md, R505 to R511). -/

namespace Sys2Proof.Machine

/-! ### Memory: DRAM bytes by physical address, an unlisted byte reads 0 (R491, R495) -/

/-- The physical address of a virtual address of a space, one of the 2 GiB of DRAM: a page that the tables map elsewhere answers with a
bus error, which is the command DMA_FAULT with class 4 (R491). -/
def physical (s : State) (asid va : Nat) : Nat :=
  2 ^ 32 + Config.translate s.fab.maps asid (va / 4096) % 2 ^ 19 * 4096 + va % 4096

/-- One byte of a space. -/
def State.byte (s : State) (asid va : Nat) : Nat := (Memory.read s.mem (physical s asid va)).toNat

/-- Writes bytes of a space from an address on. -/
def State.putBytes (s : State) (asid : Nat) : Nat → List Nat → State
  | _, [] => s
  | a, b :: bs => State.putBytes { s with mem := Memory.write s.mem (physical s asid a) (BitVec.ofNat 8 b) } asid (a + 1) bs

/-- Reads `n` bytes of a space from an address on. -/
def State.getBytes (s : State) (asid a n : Nat) : List Nat := (List.range n).map (fun k => s.byte asid (a + k))

/-! ### Poisoned lines (R498) -/

/-- The physical address of a poisoned line among `n` bytes of a space from an address on. -/
def poisonIn (s : State) (asid a n : Nat) : Option Nat :=
  if s.fab.poison = [] ∨ n = 0 then none
  else ((List.range (n / 64 + 1)).map (fun k => physical s asid (min (a + 64 * k) (a + n - 1)) / 64)).findSome? (fun l =>
    if s.fab.poison.contains l then some (l * 64) else none)

/-- A write of a whole line of 64 bytes replaces a poisoned one: of `n` bytes of a space from an address on, the lines that lie wholly
in them. -/
def State.cleanLines (s : State) (asid a n : Nat) : State :=
  let first := (a + 63) / 64 * 64
  let ls := (List.range ((a + n - first) / 64)).map (fun k => physical s asid (first + 64 * k) / 64)
  if s.fab.poison = [] then s
  else { s with fab := { s.fab with poison := s.fab.poison.filter (fun l => !ls.contains l) } }

/-! ### Channels -/

/-- A field of channel `c`, 0 to 31 (R505). -/
def dmaField (f : RegField) (c : Nat) : RegField := (f.inst (c / 16)).ix (c % 16)

/-- The state of a channel: 0 IDLE, 1 RUN, 2 SUSPENDED, 3 DONE, 4 ABORTED (R526). -/
def dmaState (s : State) (c : Nat) : Nat := s.get (dmaField Reg.DMA_CSTATE_STATE c)

/-- The ASID that owns a channel's work. -/
def dmaOwner (s : State) (c : Nat) : Nat := s.get (dmaField Reg.DMA_CSTATE_ASID c)

/-- Sets a channel's state, with its bit in `STAT.SUSP`. -/
def setDma (c v : Nat) (s : State) : State :=
  let f := Reg.DMA_STAT_SUSP.inst (c / 16)
  (s.set (dmaField Reg.DMA_CSTATE_STATE c) v).set f (if v = 2 then maskSet (s.get f) (c % 16) else maskClear (s.get f) (c % 16))

/-- The element at which a channel stands. -/
def dmaElement (s : State) (c : Nat) : Nat := tabGet 0 s.fab.element c

/-- The bytes or records completed in that element. -/
def dmaProgress (s : State) (c : Nat) : Nat := tabGet 0 s.fab.progress c

/-- Sets the progress of a channel in its element. -/
def setProgress (c n : Nat) (s : State) : State := { s with fab := { s.fab with progress := tabPut 0 c n s.fab.progress } }

/-- Sets the element of a channel, with nothing completed in it. -/
def setElement (c n : Nat) (s : State) : State :=
  setProgress c 0 { s with fab := { s.fab with element := tabPut 0 c n s.fab.element } }

/-- The address of the channel's current descriptor. -/
def dmaDescAddr (s : State) (c : Nat) : Nat :=
  s.get (dmaField Reg.DMA_CDESCLO_VA c) * 32 + 2 ^ 32 * s.get (dmaField Reg.DMA_CDESCHI_VA c)

/-- The channel fetches its descriptor in the owner's space (R505, R506). -/
def dmaFetch (c : Nat) (s : State) : State :=
  { s with fab := { s.fab with desc := tabPut [] c (s.getBytes (dmaOwner s c) (dmaDescAddr s c) 32) s.fab.desc } }

/-- `n` bytes at offset `o` of the channel's current descriptor, little-endian. -/
def dmaDesc (s : State) (c o n : Nat) : Nat := ofLeBytes (((tabGet [] s.fab.desc c).drop o).take n)

/-- LEN of the current descriptor. -/
def dmaLen (s : State) (c : Nat) : Nat := dmaDesc s c 0x10 4
/-- CTRL.KIND of the current descriptor. -/
def dmaKind (s : State) (c : Nat) : Nat := dmaDesc s c 0x14 4 % 4

/-- Copies `n` bytes of a space in at most `k` bursts of 64 bytes (R505). -/
def copyBursts (asid : Nat) : Nat → Nat → Nat → Nat → State → State
  | 0, _, _, _, s => s
  | k + 1, src, dst, n, s =>
    copyBursts asid k (src + 64) (dst + 64) (n - 64)
      ((s.putBytes asid dst (s.getBytes asid src (min 64 n))).cleanLines asid dst (min 64 n))

/-- Some bytes or records of the element are complete: progress, and `bytes` moved (R526). -/
def dmaMoved (c n bytes : Nat) (s : State) : State := setProgress c n (s.countWrap (dmaField Reg.DMA_CBYTES_COUNT c) bytes)

/-- The source of a copy element. -/
def dmaSource (s : State) (c : Nat) : Nat := dmaDesc s c 0 8 % 2 ^ 48

/-- The first burst of a copy element, from its progress on and below byte `o`, that reads a poisoned line: its offset and the line's
physical address (R498). -/
def poisonedBurst (s : State) (c o : Nat) : Option (Nat × Nat) :=
  let p := dmaProgress s c
  if s.fab.poison = [] then none
  else (List.range ((o - p + 63) / 64)).findSome? (fun k =>
    let x := p + 64 * k
    (poisonIn s (dmaOwner s c) (dmaSource s c + x) (min 64 (o - x))).map (fun pa => (x, pa)))

/-- A copy element of a channel has come as far as byte `o` (R506), or to the first burst that reads a poisoned line: nothing for an
element of another kind. -/
def dmaAdvance (c o : Nat) (s : State) : State :=
  let p := dmaProgress s c
  let e := min o (dmaLen s c)
  let n := (match poisonedBurst s c e with | some (x, _) => x | none => e) - p
  if dmaKind s c ≠ 0 then s
  else dmaMoved c (p + n) n
    (copyBursts (dmaOwner s c) ((n + 63) / 64) (dmaSource s c + p) (dmaDesc s c 8 8 % 2 ^ 48 + p) n s)

/-- The stop of a channel at its element is recorded (R508, R511). -/
def dmaRecord (c : Nat) (s : State) : State :=
  (s.set (dmaField Reg.DMA_CELEM_INDEX c) (dmaElement s c)).set (dmaField Reg.DMA_COFFSET_DONE c) (dmaProgress s c)

/-- A running channel stops at its next burst boundary (R511): how many bursts of a copy are complete by then is a free value;
the records of a window element are those counted so far. -/
def dmaHalt (c v : Nat) (s : State) : State :=
  let left := dmaLen s c - dmaProgress s c
  let o := dmaProgress s c + Config.freeNat s.freeCtr % (left + 1) / 64 * 64
  setDma c v (dmaRecord c (dmaAdvance c o s.drawn))

/-- A channel is aborted (R509 to R511): running, it stops; suspended, its fault record is kept. -/
def dmaAbort (c : Nat) (s : State) : State :=
  match dmaState s c with
  | 1 => dmaHalt c 4 s
  | 2 => setDma c 4 s
  | _ => s

/-- The DMA channels of a task whose cycle is abandoned are aborted (R510). -/
def abortTaskDma (t : Nat) (s : State) : State :=
  (List.range 32).foldl (fun s c => if dmaOwner s c = t + 1 then dmaAbort c s else s) s

/-- The power-fail warning stops every channel (R511): SUSPENDED with class 8; those that a task owns are aborted. -/
def dmaPowerFail (s : State) : State :=
  (List.range 32).foldl (fun s c =>
    if dmaState s c = 1 then
      let s := (dmaHalt c 2 s).set (dmaField Reg.DMA_CFSYN c) (8 * 2 ^ 28 + dmaOwner s c)
      let s := s.raise (Reg.DMA_FAULT_PFSTOP.inst (c / 16))
      if dmaOwner s c = 0 then s else dmaAbort c s
    else if dmaOwner s c ≠ 0 then dmaAbort c s else s) s

end Sys2Proof.Machine
end

