-- ==== Sys2Proof/Machine/Feed.lean ====
section
/-! DEFINITION. The field feed (spec/04_segment_ports.md, R179 to R188): closing conditions, limits, trips, shedding, PoDL. -/

namespace Sys2Proof.Machine

/-- The feed state of R195: 0 OPEN, 1 WAIT, 2 START, 3 ON, 4 LIMIT, 5 BACKOFF, 6 LATCHED, 7 SHED. -/
def fstate (s : State) (p : Nat) : Nat := s.get (Reg.SEG_STAT_FSTATE.inst p)

/-- The feed part of a port's state. -/
def feed (s : State) (p : Nat) : FeedState := (s.segPort p).feed

/-- Stores the feed part of a port's state. -/
def setFeed (p : Nat) (f : FeedState) (s : State) : State := s.setSegPort p { s.segPort p with feed := f }

/-- The switch is closed: START, ON or LIMIT. -/
def closed (s : State) (p : Nat) : Bool := 2 ≤ fstate s p && fstate s p ≤ 4

/-- The present current of a port in mA. -/
def portCurrent (s : State) (p : Nat) : Nat := s.get (Reg.SEG_FMEAS_FCUR.inst p)

/-- The sums of every group and of the module follow the port currents (R182). -/
def showSums (s : State) : State :=
  let total := ((List.range 32).map (portCurrent s)).sum
  (List.range 32).foldl (fun s p =>
    let g := ((List.range 8).map (fun k => portCurrent s (p / 8 * 8 + k))).sum
    (s.set (Reg.SEG_GCUR_MA.inst p) (min g 65535)).set (Reg.SEG_MCUR_MA.inst p) (min total 65535)) s

/-- Sets the feed state; a switch that opens carries no current any more. -/
def setFstate (p v : Nat) (s : State) : State :=
  let was := closed s p
  let s := s.set (Reg.SEG_STAT_FSTATE.inst p) v
  if was && !closed s p then
    showSums (setFeed p { feed s p with openedAt := s.now } (s.set (Reg.SEG_FMEAS_FCUR.inst p) 0))
  else s

/-- The port's limit in mA (R180). -/
def feedLimit (s : State) (p : Nat) : Nat := s.get (Reg.SEG_FCFG_FEFF.inst p) * 10

/-- The power that the port's limit allows, in mW: at the present input rail `PWR.VIN` (assumption 113; DESIGN CHOICE, R185 names no
voltage). -/
def limitMw (s : State) (p : Nat) : Nat := feedLimit s p * s.get Reg.PWR_VIN_V10M / 100

/-- The closing conditions of R179, with a PoDL class where the port runs PoDL (R185). -/
def mayClose (s : State) (p : Nat) : Bool :=
  let ps := pstate s p
  let m := s.get Reg.MODE_STAT_MODE
  let g := storedGrade s p
  2 ≤ ps && ps ≤ 5 && s.get (Reg.SEG_FCFG_FMODE.inst p) ≠ 0 && !s.bit (Reg.SEG_CTRL_FOFF.inst p) &&
    1 ≤ g && g ≤ 4 && s.get (Reg.SEG_SVYRES_FLTCODE.inst p) ≠ 5 && 3 ≤ m && m ≤ 6 &&
    (s.get (Reg.SEG_FCFG_FMODE.inst p) ≠ 2 || s.bit (Reg.SEG_PDL_CVALID.inst p))

/-- The supply lets switches close: no warning, isolation or over-voltage, no charging, and no check outstanding after an F
restart (R186, R187, R443). -/
def supplyAllows (s : State) : Bool :=
  !s.bit Reg.PWR_STAT_OV && !s.bit Reg.PWR_STAT_PFW && !s.bit Reg.PWR_STAT_ISOL && !s.seg.awaitCheck &&
    (s.get Reg.CSN_STAT_CSTATE ≠ 1 && s.get Reg.CSN_STAT_CSTATE < 5)

/-- Opens the switch of a port; LATCHED is left only by FCLR (R181). -/
def feedOpen (p : Nat) (s : State) : State :=
  if fstate s p = 6 then s else setFstate p 0 s

/-- The switch begins to close (R181). -/
def feedStart (p : Nat) (s : State) : State :=
  let s := setFeed p { feed s p with closedAt := s.now, limitSince := 0, shed := false } s
  setFstate p 2 { s with seg := { s.seg with lastClose := some s.now } }

/-- The instant from which the next switch may close, 20 ms after the last (R184). -/
def closeSpacing (s : State) : Nat := match s.seg.lastClose with | none => 0 | some t => t + 20 * msec

/-- The sum of a group in mA. -/
def groupSum (s : State) (g : Nat) : Nat := s.get (Reg.SEG_GCUR_MA.inst (g * 8))
/-- The sum of the module in mA. -/
def moduleSum (s : State) : Nat := s.get (Reg.SEG_MCUR_MA.inst 0)

/-- A shed port may reclose: 5 s have passed, group and module have 1.1 × FSHEDI of headroom, and R179 allows (R183). -/
def shedReady (s : State) (p : Nat) : Bool :=
  let need := 11 * s.get (Reg.SEG_FSHEDI_MA.inst p)
  (feed s p).shed && fstate s p ≠ 6 && !closed s p && mayClose s p && (match (feed s p).sheds.head? with
    | some t => decide (t + 5 * second ≤ s.now)
    | none => true) &&
    decide (need + 10 * groupSum s (p / 8) ≤ 60000 ∧ need + 10 * moduleSum s ≤ 160000)

/-- The instant from which a shed port may reclose, 1 s after the last (R183). -/
def recloseSpacing (s : State) : Nat := match s.seg.lastReclose with | none => 0 | some t => t + second

/-- The switch of a port is due to close now: one that waits or is open, one whose back-off has ended, or a shed port that may
reclose (R179, R181, R183, R184). -/
def feedDue (s : State) (p : Nat) : Bool :=
  if (feed s p).shed then shedReady s p && decide (recloseSpacing s ≤ s.now)
  else mayClose s p && (fstate s p ≤ 1 || fstate s p = 5) && decide ((feed s p).backoffEnd ≤ s.now)

/-- The ports whose switch is due to close. -/
def dueToClose (s : State) : List Nat := (List.range 32).filter (feedDue s)

/-- Port `a` goes before port `b`: higher SHEDPRI, then lower number (R183, R184). -/
def before (s : State) (a b : Nat) : Bool :=
  let x := s.get (Reg.SEG_FCFG_SHEDPRI.inst a)
  let y := s.get (Reg.SEG_FCFG_SHEDPRI.inst b)
  decide (x > y ∨ (x = y ∧ a < b))

/-- The first of a list of ports in the order of R184. -/
def firstPort (s : State) : List Nat → Option Nat
  | [] => none
  | a :: t => match firstPort s t with
    | none => some a
    | some b => if before s b a then some b else some a

/-- The switch of port `p` closes if R179 allows and it is the next one due, 20 ms after the last (R184); while the supply does
not allow it (R186), and until its turn, it shows WAIT. -/
def feedAsk (p : Nat) (s : State) : State :=
  if !mayClose s p then feedOpen p s
  else if supplyAllows s ∧ firstPort s (dueToClose s) = some p then feedStart p (s.reach (closeSpacing s))
  else setFstate p 1 s

/-- FEED_CLOSE (R179, R184): the switch of port `p` closes if it is the next one due; one that must wait for the supply
shows WAIT. A back-off or the wait after a shed goes on though the switch was opened meanwhile (R181, R183). -/
def feedClose (p : Nat) (s : State) : State :=
  if !mayClose s p ∨ 2 ≤ fstate s p ∨ (feed s p).shed then s
  else if !supplyAllows s then setFstate p 1 s
  else
    let s' := s.reach (max (closeSpacing s) (feed s p).backoffEnd)
    if firstPort s' (dueToClose s') = some p then feedStart p s' else s

/-- A trip (R181): counted, then BACKOFF, or LATCHED at TRIPMAX. -/
def feedTrip (p : Nat) (s : State) : State :=
  let c := min (s.get (Reg.SEG_FTRIPST_CONSEC.inst p) + 1) 15
  let s := (s.raise (Reg.SEG_FAULT_FTRIP.inst p)).countSat (Reg.SEG_FTRIPS_COUNT.inst p) 1
  let s := s.set (Reg.SEG_FTRIPST_CONSEC.inst p) c
  if c ≥ s.get (Reg.SEG_FCEIL_TRIPMAX.inst p) then (setFstate p 6 s).raise (Reg.SEG_FAULT_FLATCH.inst p)
  else
    let wait := min (100 * msec * 2 ^ (c - 1)) (s.get (Reg.SEG_FCEIL_BOMAX.inst p) * second)
    setFstate p 5 (setFeed p { feed s p with backoffEnd := s.now + wait } s)

/-- The end of the start window: 2 ms of ramp and 50 ms (R181). -/
def windowEnd (f : FeedState) : Nat := f.closedAt + 52 * msec

/-- A measurement of one port: its current, with the sums; the output voltage is measured too, and no command gives it: a free
value. -/
def setCurrent (p ma : Nat) (s : State) : State :=
  let s := s.set (Reg.SEG_FMEAS_FVOUT.inst p) (Config.freeNat s.freeCtr)
  showSums ((s.set (Reg.SEG_FMEAS_FCUR.inst p) (min ma 65535)).drawn)

/-- FEED_CURRENT_LIMIT (R181): the measured current rises above the limit, or falls back below it. -/
def currentLimit (p ma : Nat) (s : State) : State :=
  let f := feed s p
  if !closed s p then s
  else if ma > feedLimit s p then
    let s := setCurrent p (feedLimit s p) s
    if fstate s p = 4 then s else setFstate p 4 (setFeed p { f with limitSince := s.now } s)
  else
    let s := setCurrent p ma s
    if fstate s p ≠ 4 then s
    else if s.now < windowEnd f then setFstate p 2 s
    else setFstate p 3 (setFeed p { f with onSince := s.now } s)

/-- The instant at which a switch in LIMIT trips: the end of the start window if it has been in LIMIT for the whole of it,
otherwise after 10 ms outside it (R181). -/
def limitDeadline (f : FeedState) : Nat :=
  if f.limitSince ≤ f.closedAt + 2 * msec then windowEnd f else max f.limitSince (windowEnd f) + 10 * msec

/-- FEED_LIMIT_TRIP (R181). -/
def limitTrip (p : Nat) (s : State) : State :=
  if fstate s p = 4 then feedTrip p (s.reach (limitDeadline (feed s p))) else s

/-- FEED_FAST_TRIP (R181): current above twice the limit or above 2.2 A. -/
def fastTrip (p ma : Nat) (s : State) : State :=
  if closed s p ∧ (ma > 2 * feedLimit s p ∨ ma > 2200) then feedTrip p s else s

/-- FEED_OVERTEMP_TRIP (R181). -/
def overtempTrip (p : Nat) (s : State) : State :=
  if closed s p then feedTrip p (s.raise (Reg.SEG_FAULT_FTHERM.inst p)) else s

/-- FEED_BACKOFF_EXPIRY (R181, R186): the switch recloses through the start ramp. -/
def backoffExpiry (p : Nat) (s : State) : State :=
  if fstate s p ≠ 5 then s
  else
    feedAsk p (s.reach (feed s p).backoffEnd)

/-- FEED_CONSEC_RESET (R181): 10 s in ON without a trip. -/
def consecReset (p : Nat) (s : State) : State :=
  if fstate s p = 3 then (s.reach ((feed s p).onSince + 10 * second)).set (Reg.SEG_FTRIPST_CONSEC.inst p) 0 else s

/-- FEED_CLEAR (R181): FCLR leaves LATCHED and the switch closes at once if R179 allows. -/
def feedClear (p : Nat) (s : State) : State :=
  if fstate s p = 6 then
    let s := setFstate p 0 (s.set (Reg.SEG_FTRIPST_CONSEC.inst p) 0)
    let s := setFeed p { feed s p with backoffEnd := 0, shed := false } s
    let denied := s.get (Reg.SEG_FCFG_FMODE.inst p) = 2 ∧ (feed s p).classMw > limitMw s p
    let s := if denied then s.set (Reg.SEG_PDL_CVALID.inst p) 0 else s
    feedAsk p s
  else s

/-- FEFF follows FLIM and CEIL, and a request above the ceiling is clipped (R180); one that has been counted is not counted again
(R374). -/
def applyLimit (p src : Nat) (s : State) : State :=
  let flim := s.get (Reg.SEG_FCFG_FLIM.inst p)
  let ceil := s.get (Reg.SEG_FCEIL_CEIL.inst p)
  let s := s.set (Reg.SEG_FCFG_FEFF.inst p) (min flim ceil)
  if flim > ceil && decide (tabFind p s.prpt.feedReq ≠ some flim) then
    clipEvent 5 p flim (min flim ceil) src
      ({ s with prpt := { s.prpt with feedReq := tabInsert p flim s.prpt.feedReq } }.raise (Reg.SEG_FAULT_FCLIP.inst p))
  else s

/-- FEED_LIMIT_WRITE (R180): a value outside 5 to 100 leaves the field unchanged; any other is a new request (R374). -/
def limitWrite (p v : Nat) (s : State) : State :=
  if 5 ≤ v ∧ v ≤ 100 then
    applyLimit p 0 ({ s with prpt := { s.prpt with feedReq := tabErase p s.prpt.feedReq } }.set (Reg.SEG_FCFG_FLIM.inst p) v)
  else s

/-- FEED_START_WINDOW_END (R181): the window ends and START becomes ON. -/
def startWindowEnd (p : Nat) (s : State) : State :=
  if fstate s p = 2 then
    let s := s.reach (windowEnd (feed s p))
    setFstate p 3 (setFeed p { feed s p with onSince := s.now } s)
  else s

/-! ### Shedding (R182, R183) -/

/-- Stores the port currents of one measurement and the sums that follow (R182). -/
def currents (mas : List Nat) (s : State) : State :=
  let ma := fun p => if closed s p then (match mas[p]? with | some v => v | none => 0) else 0
  showSums ((List.range 32).foldl (fun s p => s.set (Reg.SEG_FMEAS_FCUR.inst p) (min (ma p) 65535)) s)

/-- The output voltages of the same measurement: free values, since a command gives the currents only (R182, R195). -/
def voltages (s : State) : State :=
  let s' := (List.range 32).foldl (fun t p => t.set (Reg.SEG_FMEAS_FVOUT.inst p) (Config.freeNat (s.freeCtr + p))) s
  { s' with freeCtr := s.freeCtr + 32 }

/-- The port that is shed among `ps`: lowest SHEDPRI, then the higher number. -/
def shedChoice (s : State) (ps : List Nat) : Option Nat :=
  (ps.filter (closed s)).foldl (fun best p =>
    match best with
    | none => some p
    | some b => if before s b p then some p else some b) none

/-- One port is shed; a third shed within 60 s latches it (R183). -/
def shedPort (p : Nat) (s : State) : State :=
  let f := feed s p
  let recent := s.now :: f.sheds.filter (fun t => decide (s.now < t + 60 * second))
  let s := { s with seg := { s.seg with lastShed := some s.now } }
  let s := setFeed p { f with sheds := recent, shed := decide (recent.length < 3) } s
  let s := s.set (Reg.SEG_FSHEDI_MA.inst p) (portCurrent s p)
  let s := (s.raise (Reg.SEG_FAULT_FSHED.inst p)).countSat (Reg.SEG_FSHEDS_COUNT.inst p) 1
  if recent.length ≥ 3 then (setFstate p 6 s).raise (Reg.SEG_FAULT_FLATCH.inst p) else setFstate p 7 s

/-- The instant of the next shed: 1 ms after the last (R182). -/
def shedInstant (s : State) : Nat := match s.seg.lastShed with | none => 0 | some t => t + msec

/-- FEED_SHED (R182): a group sum above 6,000 mA, or the module's above 16,000 mA, has stayed for 1 ms. One 1 ms timer serves all
groups and the module, the lowest group first and the module last (assumption 112; DESIGN CHOICE). -/
def feedShed (mas : List Nat) (s : State) : State :=
  let s := currents mas (s.reach (shedInstant s))
  let shed := match [0, 1, 2, 3].find? (fun g => groupSum s g > 6000) with
    | some g => shedChoice s ((List.range 8).map (fun k => g * 8 + k))
    | none => if moduleSum s > 16000 then shedChoice s (List.range 32) else none
  match shed with
  | some p => shedPort p (voltages s)
  | none => voltages s

/-- The ports that wait to reclose after a shed. -/
def shedPorts (s : State) : List Nat := (List.range 32).filter (fun p => (feed s p).shed && fstate s p ≠ 6)

/-- The instant at which a shed port may reclose next: 5 s after its shed, and 1 s after the last reclose (R183). -/
def recloseInstant (s : State) : Nat :=
  let earliest := (shedPorts s).foldl (fun m p => match (feed s p).sheds.head? with
    | some t => min m (t + 5 * second)
    | none => m) (s.now + 5 * second)
  max earliest (recloseSpacing s)

/-- FEED_SHED_RECLOSE (R183, R184, R186): at most one port a second, highest SHEDPRI first; it shows WAIT while the supply does
not let it close, or until its turn among the switches that are due. -/
def shedReclose (mas : List Nat) (s : State) : State :=
  let s := currents mas (s.reach (recloseInstant s))
  match firstPort s ((shedPorts s).filter (shedReady s)) with
  | none => voltages s
  | some p =>
    if supplyAllows s ∧ firstPort s (dueToClose s) = some p then
      let s := feedStart p ((voltages s).reach (closeSpacing s))
      { s with seg := { s.seg with lastReclose := some s.now } }
    else setFstate p 1 (voltages s)

/-! ### PoDL (R185) -/

/-- PODL_DETECTION (R185): `sig` is the class and its power in mW where SCCP finds a valid signature, and `inRange` says
that the rail lies in the range of that class. DESIGN CHOICE: the standard's class powers and ranges enter as operands. -/
def podlDetect (p : Nat) (sig : Option (Nat × Nat)) (inRange : Bool) (s : State) : State :=
  if s.get (Reg.SEG_FCFG_FMODE.inst p) ≠ 2 ∨ pers s p ≠ 0 ∨ 2 ≤ fstate s p then s
  else
    let s := s.reach (feed s p).detectAt
    let s := setFeed p { feed s p with detectAt := s.now + second } s
    match sig with
    | none => setFstate p 1 (s.set (Reg.SEG_PDL_CVALID.inst p) 0)
    | some (cls, mw) =>
      if !inRange then setFstate p 1 (s.set (Reg.SEG_PDL_CVALID.inst p) 0)
      else
        let s := (s.set (Reg.SEG_PDL_CLASS.inst p) cls).raise (Reg.SEG_PDL_CVALID.inst p)
        let s := setFeed p { feed s p with classMw := mw } s
        if mw > limitMw s p then (setFstate p 6 s).raise (Reg.SEG_FAULT_CLASSDENY.inst p) else s

/-- PODL_RAIL_OUT_OF_RANGE (R185): the port keeps feeding and reports it. -/
def podlRange (p : Nat) (s : State) : State :=
  if s.get (Reg.SEG_FCFG_FMODE.inst p) = 2 ∧ closed s p then s.raise (Reg.SEG_FAULT_PDLRANGE.inst p) else s

/-! ### Power failure and over-voltage -/

/-- At a power-fail warning every switch opens, and a running back-off or wait after a shed is cancelled (R187). -/
def openAllFeeds (s : State) : State :=
  (List.range 32).foldl (fun s p =>
    let s := if (feed s p).backoffEnd = 0 ∧ !(feed s p).shed then s else setFeed p { feed s p with backoffEnd := 0, shed := false } s
    if fstate s p = 0 ∨ fstate s p = 6 then s else setFstate p 1 s) s

/-- At an over-voltage every closed switch opens and waits (R443). -/
def openClosedFeeds (s : State) : State :=
  (List.range 32).foldl (fun s p => if closed s p then setFstate p 1 s else s) s

/-! ### The commands -/

/-- FEED_CLOSE (R179, R181, R184). -/
def execFeedClose (port : Fin 32) (s : State) : Host.Outcome State Fault Refusal := done s (feedClose port.val s)
/-- FEED_LIMIT_TRIP (R181). -/
def execFeedLimitTrip (port : Fin 32) (s : State) : Host.Outcome State Fault Refusal := done s (limitTrip port.val s)
/-- FEED_FAST_TRIP (R181), with the measured current in mA. -/
def execFeedFastTrip (port : Fin 32) (current : BitVec 16) (s : State) : Host.Outcome State Fault Refusal :=
  done s (fastTrip port.val current.toNat s)
/-- FEED_OVERTEMP_TRIP (R181). -/
def execFeedOvertempTrip (port : Fin 32) (s : State) : Host.Outcome State Fault Refusal := done s (overtempTrip port.val s)
/-- FEED_BACKOFF_EXPIRY (R181). -/
def execFeedBackoffExpiry (port : Fin 32) (s : State) : Host.Outcome State Fault Refusal := done s (backoffExpiry port.val s)
/-- FEED_CONSEC_RESET (R181). -/
def execFeedConsecReset (port : Fin 32) (s : State) : Host.Outcome State Fault Refusal := done s (consecReset port.val s)
/-- FEED_CLEAR (R181). -/
def execFeedClear (port : Fin 32) (s : State) : Host.Outcome State Fault Refusal := done s (unlessBusy (0x100 + port.val) (fun s => feedClear port.val s) s)
/-- FEED_LIMIT_WRITE (R180). -/
def execFeedLimitWrite (port : Fin 32) (value : BitVec 7) (s : State) : Host.Outcome State Fault Refusal :=
  done s (unlessBusy (0x100 + port.val) (fun s => limitWrite port.val value.toNat s) s)
/-- FEED_SHED (R182), with the measured port currents in mA. -/
def execFeedShed (currents : List (BitVec 16)) (s : State) : Host.Outcome State Fault Refusal :=
  done s (feedShed (currents.map BitVec.toNat) s)
/-- FEED_SHED_RECLOSE (R183), with the measured port currents in mA. -/
def execFeedShedReclose (currents : List (BitVec 16)) (s : State) : Host.Outcome State Fault Refusal :=
  done s (shedReclose (currents.map BitVec.toNat) s)
/-- PODL_DETECTION (R185): class and class power in mW of a valid signature. -/
def execPodlDetection (port : Fin 32) (signature : Option (Fin 16 × Nat)) (railInRange : Bool) (s : State) :
    Host.Outcome State Fault Refusal :=
  done s (podlDetect port.val (signature.map (fun x => (x.1.val, x.2))) railInRange s)
/-- PODL_RAIL_OUT_OF_RANGE (R185). -/
def execPodlRailOutOfRange (port : Fin 32) (s : State) : Host.Outcome State Fault Refusal := done s (podlRange port.val s)
/-- FEED_CURRENT_LIMIT (R181), with the load current in mA. -/
def execFeedCurrentLimit (port : Fin 32) (current : BitVec 16) (s : State) : Host.Outcome State Fault Refusal :=
  done s (currentLimit port.val current.toNat s)
/-- FEED_START_WINDOW_END (R181). -/
def execFeedStartWindowEnd (port : Fin 32) (s : State) : Host.Outcome State Fault Refusal :=
  done s (startWindowEnd port.val s)

end Sys2Proof.Machine
end

