-- ==== Sys2Proof/Machine/PbusBase.lean ====
section
/-! DEFINITION. The priority bus below its commands (spec/05_priority_bus.md): frames, ranges, messages, transmit slots,
shadow buffers, cancellation, error counters. -/

namespace Sys2Proof.Machine

/-- The PBUS part of a port's configuration. -/
def pcfg (s : State) (p : Nat) : PbusCfg := (portCfg s p).pbus

/-- The PBUS state of a port. -/
def State.bus (s : State) (p : Nat) : PbusPort := tabGet {} s.pbus p

/-- Stores the PBUS state of a port. -/
def State.setBus (s : State) (p : Nat) (x : PbusPort) : State := { s with pbus := tabPut {} p x s.pbus }

/-! ### Frames -/

/-- The payload length of a DLC (R197): at most 8 in a classical frame. -/
def dlcLen (fdf : Bool) (d : Nat) : Nat :=
  if d ≤ 8 then d
  else if !fdf then 8
  else match d with
    | 9 => 12
    | 10 => 16
    | 11 => 20
    | 12 => 24
    | 13 => 32
    | 14 => 48
    | _ => 64

/-- Byte `i` of a frame's payload; bytes beyond it read 0. -/
def frameByte (f : CanFrame) (i : Nat) : Nat :=
  if i < dlcLen f.fdf f.dlc.val then (match f.data[i]? with | some b => b.toNat | none => 0) else 0

/-- A frame from its fields. -/
def mkFrame (id : Nat) (ide fdf brs : Bool) (dlc : Nat) (bytes : List Nat) : CanFrame :=
  { id := BitVec.ofNat 29 id, ide := ide, fdf := fdf, brs := brs, dlc := Fin.ofNat 16 dlc,
    data := bytes.map (BitVec.ofNat 8) }

/-- The place of an identifier in arbitration: lower wins; a base frame wins over an extended one with the same first 11
bits. -/
def arbKey (f : CanFrame) : Nat :=
  if f.ide then f.id.toNat / 2 ^ 18 * 2 ^ 20 + 2 ^ 19 + f.id.toNat % 2 ^ 18 else f.id.toNat % 2 ^ 11 * 2 ^ 20

/-- The nominal bit time in ns (R203). -/
def nominalBit (c : PbusCfg) : Nat := (1 + c.ntseg1 + c.ntseg2) * c.nbrp * 4
/-- The data bit time in ns. -/
def dataBit (c : PbusCfg) : Nat := (1 + c.dtseg1 + c.dtseg2) * c.dbrp * 4

/-- The bits of SOF and the arbitration field, first to last (R232). -/
def arbBits (f : CanFrame) : List Bool :=
  let id := f.id.toNat
  if f.ide then
    false :: (List.range 11).map (fun k => id.testBit (28 - k)) ++ [true, true] ++
      (List.range 18).map (fun k => id.testBit (17 - k)) ++ [f.rtr && !f.fdf]
  else false :: (List.range 11).map (fun k => id.testBit (10 - k)) ++ [f.rtr && !f.fdf]

/-- The number of bits on the line up to and with the last of `bs`, where `run` equal bits `last` stand before them: after
five equal bits a stuff bit follows. -/
def stuffedLength : List Bool → Bool → Nat → Nat
  | [], _, _ => 0
  | b :: bs, last, run =>
    if run = 5 then
      let stuff := !last
      2 + (if b = stuff then stuffedLength bs b 2 else stuffedLength bs b 1)
    else 1 + (if b = last ∧ run ≠ 0 then stuffedLength bs b (run + 1) else stuffedLength bs b 1)

/-- The sample point of the last bit of the arbitration field, in ns after SOF (R232). -/
def arbSample (c : PbusCfg) (f : CanFrame) : Nat :=
  (stuffedLength (arbBits f) false 0 - 1) * nominalBit c + (1 + c.ntseg1) * c.nbrp * 4

/-- The worst-case duration in ns of a frame from SOF to the end of the intermission, with the most stuff bits possible
(R382). PRESUMED: the field lengths and stuffing rules of ISO 11898-1, which the specification names. -/
def frameNs (c : PbusCfg) (f : CanFrame) : Nat :=
  let n := 8 * dlcLen f.fdf f.dlc.val
  if f.fdf then
    let arb := if f.ide then 36 else 17
    let arbStuff := (arb - 1) / 4
    let stuff := (arb + 5 + n - 1) / 4 - arbStuff
    let crc := if n ≤ 128 then 4 + 17 + 6 else 4 + 21 + 7
    let fast := 5 + n + stuff + crc
    (arb + arbStuff + 1 + 2 + 7 + 3) * nominalBit c + fast * (if f.brs then dataBit c else nominalBit c)
  else
    let plain := if f.ide then 54 else 34
    (plain + n + (plain + n - 1) / 4 + 13) * nominalBit c

/-! ### Ranges, messages and items -/

/-- The identifier is reserved (R211). -/
def reservedId (c : PbusCfg) (ide : Bool) (id : Nat) : Bool :=
  !ide && (id = c.refid || id = c.bcnid || id = c.bcnid + 1 || (c.echobase ≤ id && id ≤ c.echobase + 63))

/-- The range that holds an identifier; a reserved one lies in no range (R211). -/
def rangeOf (s : State) (p : Nat) (ide : Bool) (id : Nat) : Option IdRange :=
  if reservedId (pcfg s p) ide id then none
  else match (charter s).ranges.find? (fun e => decide (e.1 / 32 = p ∧ e.2.ide = ide ∧ e.2.low ≤ id ∧ id ≤ e.2.high)) with
  | some e => some e.2
  | none => none

/-- Message `m` of a port. -/
def msgOf (s : State) (p m : Nat) : MsgEntry := match (pcfg s p).msgs[m]? with | some e => e | none => {}

/-- The map entries of the items of message `m` in one direction (R208). -/
def itemsOf (s : State) (p m : Nat) (out : Bool) : List MapEntry :=
  (mapsOf s p).filter (fun e => decide (e.place / 2 ^ 16 = m) && e.cmd == out)

/-- The item's first byte (R208). -/
def itemByte (e : MapEntry) : Nat := e.place / 2 ^ 10 % 64
/-- The item's bit within its byte. -/
def itemBit (e : MapEntry) : Nat := e.place / 2 ^ 7 % 8
/-- The item's width in bytes; 0 for one bit. -/
def itemWidth (e : MapEntry) : Nat :=
  match e.place / 2 ^ 4 % 8 with
  | 1 => 1
  | 2 => 2
  | 3 => 4
  | 4 => 8
  | _ => 0

/-- The value of an item in a payload, in the encoding of its record's type (R209). -/
def itemValue (typ : Nat) (e : MapEntry) (f : CanFrame) : Nat :=
  let w := itemWidth e
  if w = 0 then (frameByte f (itemByte e) / 2 ^ itemBit e) % 2
  else
    let v := ofLeBytes ((List.range w).map (fun k => frameByte f (itemByte e + k)))
    if (typ = 3 ∨ typ = 5) ∧ v ≥ 2 ^ (8 * w - 1) then v + 2 ^ 64 - 2 ^ (8 * w) else v

/-- Puts the value of an item into a payload. -/
def putItem (e : MapEntry) (v : Nat) (bs : List Nat) : List Nat :=
  let w := itemWidth e
  if w = 0 then
    let i := itemByte e
    let old := match bs[i]? with | some b => b | none => 0
    bs.set i (if v % 2 = 1 then maskSet old (itemBit e) else maskClear old (itemBit e))
  else (List.range w).foldl (fun bs k => bs.set (itemByte e + k) (v / 2 ^ (8 * k) % 256)) bs

/-- The value that an item carries: the last released since port start, otherwise its parapet safe value (R213). -/
def itemOutValue (s : State) (p i : Nat) : Nat :=
  match tabFind i (s.bus p).values with
  | some v => v
  | none => match entryOf s i with
    | some e => (entryCfg s e).safe
    | none => (s.point i).pv

/-- The frame of message `m`, composed from the values of its items (R213); with `FDEN` 0 it is a classical one (R199). -/
def composeMsg (s : State) (p m : Nat) : CanFrame :=
  let c := msgOf s p m
  let fdf := c.fdf && (pcfg s p).fden
  let blank := List.replicate (dlcLen fdf c.dlc) 0
  let bytes := (itemsOf s p m true).foldl (fun bs e => putItem e (itemOutValue s p e.index) bs) blank
  mkFrame c.id c.ide fdf (fdf && c.brs) c.dlc bytes

/-- The records of message `m`. -/
def msgPoints (s : State) (p m : Nat) : List Nat := (itemsOf s p m true).map (fun e => e.index)

/-! ### Transmit slots (R217, R218) -/

/-- The state of a slot: 0 EMPTY, 1 PENDING, 2 TXING, 3 DONE. -/
def txState (s : State) (p j : Nat) : Nat := s.get ((Reg.PBUS_TXSTAT_STATE.inst p).ix j)

/-- Shows whether some frame waits for a token (R230). -/
def showCeil (p : Nat) (s : State) : State :=
  s.setBit (Reg.PBUS_STAT_CEILHOLD.inst p) ((List.range 63).any (fun j => s.bit ((Reg.PBUS_TXSTAT_HELD.inst p).ix j)))

/-- A slot's frame does not wait for a token, or not any more. -/
def clearHeld (p j : Nat) (s : State) : State :=
  if s.bit ((Reg.PBUS_TXSTAT_HELD.inst p).ix j) then showCeil p (s.set ((Reg.PBUS_TXSTAT_HELD.inst p).ix j) 0) else s

/-- A frame waits for the lease and is counted once (R382): code `k` is a slot of firmware, 64 + buffer, or 1,000 + message. -/
def holdFrame (p k : Nat) (s : State) : State :=
  if (s.bus p).held.contains k then s else (fitHeld s).setBus p { s.bus p with held := k :: (s.bus p).held }

/-- The frames with these codes no longer wait for the lease. -/
def unholdFrames (p : Nat) (ks : Nat → Bool) (s : State) : State :=
  if (s.bus p).held.any ks then s.setBus p { s.bus p with held := (s.bus p).held.filter (fun k => !ks k) } else s

/-- The slot takes a state with its status bits. -/
def setTx (p j st : Nat) (sent late cancelled missed : Bool) (s : State) : State :=
  let s := unholdFrames p (fun k => k = j) s
  let s := (s.set ((Reg.PBUS_TXSTAT_STATE.inst p).ix j) st).setBit ((Reg.PBUS_TXSTAT_SENT.inst p).ix j) sent
  let s := (s.setBit ((Reg.PBUS_TXSTAT_CANCEL_LATE.inst p).ix j) late).setBit
    ((Reg.PBUS_TXSTAT_CANCELLED.inst p).ix j) cancelled
  clearHeld p j (s.setBit ((Reg.PBUS_TXSTAT_MISSED.inst p).ix j) missed)

/-- The slot becomes PENDING with its status clear. -/
def slotPend (p j : Nat) (s : State) : State := setTx p j 1 false false false false s

/-- The pending messages of a slot. -/
def slotMsgs (s : State) (p j : Nat) : List Nat := tabGet [] (s.bus p).msgs j

/-- Replaces the pending messages of a slot. -/
def setSlotMsgs (p j : Nat) (ms : List Nat) (s : State) : State :=
  let b := s.bus p
  let gone := (tabGet [] b.msgs j).filter (fun m => !ms.contains m)
  unholdFrames p (fun k => gone.any (fun m => k = 1000 + m)) (s.setBus p { b with msgs := tabPut [] j ms b.msgs })

/-- The message on the line, if any. -/
def msgOnLine (s : State) (p : Nat) : Option Nat :=
  match (s.bus p).tx with
  | some t => match t.target with
    | .slot _ (some m) => some m
    | _ => none
  | none => none

/-- Message `m` becomes pending, or is staged while its own frame is on the line (R213). The beacon's slot and a slot of the
firmware take no message: its items are not delivered (R217). -/
def msgPend (p m : Nat) (s : State) : State :=
  let j := (msgOf s p m).slot
  let b := s.bus p
  if 63 ≤ j ∨ s.bit ((Reg.PBUS_SLOTCFG_OWNER.inst p).ix j) then notDelivered p (msgPoints s p m) s
  else if msgOnLine s p = some m then
    if b.staged.contains m then s else s.setBus p { b with staged := b.staged ++ [m] }
  else
    let ms := slotMsgs s p j
    let s := if ms.contains m then s else setSlotMsgs p j (ms ++ [m]) s
    if txState s p j = 0 ∨ txState s p j = 3 then slotPend p j s else s

/-- The lowest message of a slot in message table order (R217). -/
def firstMsg (ms : List Nat) : Option Nat := ms.foldl (fun b m => match b with | none => some m | some x => some (min x m)) none

/-- The frame that a pending slot offers, with its message (R217). -/
def slotOffer (s : State) (p j : Nat) : Option (CanFrame × Option Nat) :=
  if j = 63 then match (s.bus p).beacon with
    | f :: _ => some (f, none)
    | [] => none
  else match firstMsg (slotMsgs s p j) with
    | some m => some (composeMsg s p m, some m)
    | none => match tabFind j (s.bus p).frames with
      | some f => some (f, none)
      | none => none

/-- The slot goes to DONE by a cancellation; a standing MISSED stays (R218, R233). -/
def slotDone (p j : Nat) (sent late cancelled : Bool) (s : State) : State :=
  setTx p j 3 sent late cancelled (s.bit ((Reg.PBUS_TXSTAT_MISSED.inst p).ix j)) s

/-- A slot whose frame has ended goes on with its other messages (R217). -/
def slotGoesOn (p j : Nat) (s : State) : State := if slotMsgs s p j ≠ [] then slotPend p j s else s

/-- A slot's contents are dropped when it goes to DONE by cancellation; the items of its messages are not delivered (R214). -/
def slotDrop (p j : Nat) (s : State) : State :=
  let ms := slotMsgs s p j
  let s := notDelivered p (ms.flatMap (msgPoints s p)) (setSlotMsgs p j [] s)
  let b := s.bus p
  s.setBus p { b with frames := tabErase j b.frames }

/-! ### Shadow buffers (R220) -/

/-- The status field of shadow buffer `k`. -/
def shField (p k : Nat) : RegField :=
  (match k with
    | 0 => Reg.PBUS_SHSTAT0
    | 1 => Reg.PBUS_SHSTAT1
    | 2 => Reg.PBUS_SHSTAT2
    | _ => Reg.PBUS_SHSTAT3).inst p

/-- The status value of a shadow buffer. -/
def shStat (armed sent late cancelled : Bool) : Nat := b2n armed * 8 + b2n sent * 4 + b2n late * 2 + b2n cancelled

/-- The shadow buffer. -/
def shadowOf (s : State) (p k : Nat) : Shadow := tabGet {} (s.bus p).shadows k

/-- Stores a shadow buffer. -/
def setShadow (p k : Nat) (x : Shadow) (s : State) : State :=
  let b := s.bus p
  unholdFrames p (fun h => h = 64 + k) (s.setBus p { b with shadows := tabPut {} k x b.shadows })

/-- The slot bound to a shadow buffer. -/
def shadowSlot (s : State) (p k : Nat) : Nat := match (pcfg s p).shslots[k]? with | some j => j | none => 0

/-- The shadow buffer is armed and not on the line. -/
def shadowReady (s : State) (p k : Nat) : Bool :=
  (shadowOf s p k).frame.isSome && (match (s.bus p).tx with
    | some t => decide (t.target ≠ .shadow k)
    | none => true)

/-- The items of the message that a shadow buffer carries, if any (R214). -/
def shadowPoints (s : State) (p k : Nat) : List Nat :=
  match (shadowOf s p k).msg with
  | some m => if (shadowOf s p k).frame.isSome then msgPoints s p m else []
  | none => []

/-- A shadow buffer gives up its frame with these status bits. -/
def shadowClear (p k : Nat) (sent late cancelled : Bool) (s : State) : State :=
  (setShadow p k { shadowOf s p k with frame := none, msg := none } s).set (shField p k) (shStat false sent late cancelled)

/-- Arms a shadow buffer with a frame, of message `m` if it is one of the point path; refused when it was armed less than 100 ms
before (R220). Answers whether it was armed. -/
def shadowArm (p k : Nat) (f : CanFrame) (m : Option Nat) (s : State) : State × Bool :=
  let x := shadowOf s p k
  let soon := match x.armedAt with
    | none => false
    | some t => decide (s.now < t + 100 * msec)
  if soon then (s, false)
  else ((setShadow p k { frame := some f, armedAt := some s.now, msg := m } s).set (shField p k) (shStat true false false false), true)

/-! ### Cancellation (R231 to R234) -/

/-- A late request is noted on the frame on the line. -/
def markLate (p : Nat) (s : State) : State :=
  let b := s.bus p
  match b.tx with
  | some t => s.setBus p { b with tx := some { t with late := true } }
  | none => s

/-- The frame on the line ends without being sent. -/
def clearTx (p : Nat) (s : State) : State := s.setBus p { s.bus p with tx := none }

/-- A request at this instant still takes effect on the frame on the line (R232). -/
def cancelInTime (s : State) (p : Nat) (t : Transmission) : Bool :=
  match t.win with
  | .event => decide (s.now < t.startedAt + arbSample (pcfg s p) t.frame)
  | .arb => decide (s.now < t.startedAt + arbSample (pcfg s p) t.frame)
  | _ => false

/-- The slot goes to DONE with CANCELLED (R233). -/
def slotCancelled (p j : Nat) (s : State) : State :=
  (slotDone p j false false true (slotDrop p j s)).countSat (Reg.PBUS_CANCNT_COUNT.inst p) 1

/-- A shadow buffer's frame is cancelled; the items of its message are not delivered (R214, R233). -/
def shadowCancelled (p k : Nat) (s : State) : State :=
  let is := shadowPoints s p k
  notDelivered p is ((shadowClear p k false false true s).countSat (Reg.PBUS_CANCNT_COUNT.inst p) 1)

/-- The bit of slot `j` in TXCANLO or TXCANHI. -/
def cancelBit (p j : Nat) (v : Bool) (s : State) : State :=
  let m := get64 s (Reg.PBUS_TXCANLO_BITS.inst p) (Reg.PBUS_TXCANHI_BITS.inst p)
  set64 (Reg.PBUS_TXCANLO_BITS.inst p) (Reg.PBUS_TXCANHI_BITS.inst p) (if v then maskSet m j else maskClear m j) s

/-- The target on the line is slot `j`. -/
def onLine (t : Transmission) (j : Nat) : Bool :=
  match t.target with
  | .slot i _ => i = j
  | _ => false

/-- A message staged during its own transmission becomes pending again (R213). -/
def unstage (p m : Nat) (s : State) : State :=
  let b := s.bus p
  if b.staged.contains m then msgPend p m (s.setBus p { b with staged := b.staged.filter (· ≠ m) }) else s

/-- A cancellation takes effect on the frame on the line: its message's items are not delivered, and a value released meanwhile makes
it pending again (R213, R214, R232, R233). -/
def cancelSending (p j : Nat) (t : Transmission) (s : State) : State :=
  let s := slotCancelled p j (clearTx p s)
  match t.target with
  | .slot _ (some m) => unstage p m (notDelivered p (msgPoints s p m) s)
  | _ => s

/-- PBUS_SLOT_CANCEL (R231 to R233) for one slot. -/
def slotCancel (p j : Nat) (s : State) : State :=
  if j = 63 then s
  else match txState s p j with
    | 1 => slotCancelled p j s
    | 2 => match (s.bus p).tx with
      | some t =>
        if onLine t j then
          if cancelInTime s p t then cancelSending p j t s
          else cancelBit p j true (markLate p s)
        else s
      | none => s
    | _ => s

/-- PBUS_SHADOW_CANCEL (R231 to R233) for one shadow buffer. -/
def shadowCancel (p k : Nat) (s : State) : State :=
  if (shadowOf s p k).frame.isNone then s
  else match (s.bus p).tx with
    | some t =>
      if t.target = .shadow k then
        if cancelInTime s p t then shadowCancelled p k (clearTx p s)
        else (markLate p s).set (Reg.PBUS_SHCAN_BITS.inst p) (maskSet (s.get (Reg.PBUS_SHCAN_BITS.inst p)) k)
      else shadowCancelled p k s
    | none => shadowCancelled p k s

/-- A late request to a slot is settled: its bit clears, and it counts (R233). -/
def lateSettled (p j : Nat) (s : State) : State := (cancelBit p j false s).countSat (Reg.PBUS_LATECNT_COUNT.inst p) 1

/-- A late request to a shadow buffer is settled. -/
def lateShadow (p k : Nat) (s : State) : State :=
  (s.set (Reg.PBUS_SHCAN_BITS.inst p) (maskClear (s.get (Reg.PBUS_SHCAN_BITS.inst p)) k)).countSat (Reg.PBUS_LATECNT_COUNT.inst p) 1

/-- A frame on the line ends unsent: after a late request it is cancelled, otherwise it is offered again; in an EXCL window
it stays PENDING with MISSED (R229, R233). -/
def txFails (p : Nat) (s : State) : State :=
  match (s.bus p).tx with
  | none => s
  | some t =>
    let s := clearTx p s
    match t.target with
    | .slot j m =>
      if t.late then
        let s := match m with
          | some k => notDelivered p (msgPoints s p k) s
          | none => s.setBus p { s.bus p with frames := tabErase j (s.bus p).frames }
        let s := lateSettled p j (setTx p j 3 false false true false s)
        match m with
        | some k => unstage p k (slotGoesOn p j s)
        | none => s
      else
        let s := match m with
          | some k =>
            let b := s.bus p
            setSlotMsgs p j (k :: (slotMsgs s p j).filter (· ≠ k)) (s.setBus p { b with staged := b.staged.filter (· ≠ k) })
          | none => s
        let s := s.set ((Reg.PBUS_TXSTAT_STATE.inst p).ix j) 1
        if t.win = .excl then s.raise ((Reg.PBUS_TXSTAT_MISSED.inst p).ix j) else s
    | .shadow k =>
      if t.late then
        let is := shadowPoints s p k
        notDelivered p is (lateShadow p k (shadowClear p k false false true s))
      else s
    | .reference => s

/-! ### Starting and stopping the controller (R239 to R241) -/

/-- The controller begins to integrate (R239). -/
def busIntegrate (p : Nat) (s : State) : State :=
  (((s.setBus p { s.bus p with foreignSeen := false }).raise (Reg.PBUS_STAT_INTEG.inst p))).set (Reg.PBUS_STAT_TTSYNC.inst p) 0

/-- The personality starts: integration, and no released values yet (R213, R239). -/
def busStart (p : Nat) (s : State) : State :=
  busIntegrate p (s.setBus p { s.bus p with values := [], tx := none, beacon := [], beaconNext := [], winUsed := none })

/-- Every pending point-path frame is cancelled at once, a staged one and those in shadow buffers with it (R383, R384). -/
def busCancelPath (p : Nat) (s : State) : State :=
  let staged := (s.bus p).staged
  let s := notDelivered p (staged.flatMap (msgPoints s p)) (s.setBus p { s.bus p with staged := [] })
  let s := (List.range 4).foldl (fun s k =>
    if shadowReady s p k && (shadowOf s p k).msg.isSome then shadowCancelled p k s else s) s
  (List.range 63).foldl (fun s j => if txState s p j = 1 ∧ slotMsgs s p j ≠ [] then slotCancelled p j s else s) s

/-- A beacon that slot 63 holds is cancelled by the port itself, and the slot goes to DONE with CANCELLED (assumption 116; DESIGN
CHOICE: R218 knows no other way out of PENDING and TXING, and R231 speaks of requests only). -/
def beaconCancel (p : Nat) (s : State) : State :=
  if txState s p 63 = 1 ∨ txState s p 63 = 2 then slotCancelled p 63 s else s

/-- The beacon that waits is dropped; of one on the line only that frame is left. -/
def busDropBeacon (p : Nat) (s : State) : State :=
  let b := s.bus p
  if txState s p 63 = 2 then s.setBus p { b with beacon := b.beacon.take 1, beaconNext := [] }
  else beaconCancel p (s.setBus p { b with beacon := [], beaconNext := [] })

/-- The frame on the line ends because the controller stops: one with a late request as after an error (R233), a point-path frame
cancelled, a firmware frame PENDING again, a shadow frame armed (R241, R384). -/
def busCut (p : Nat) (s : State) : State :=
  match (s.bus p).tx with
  | none => s
  | some t =>
    if t.late then txFails p s
    else match t.target with
      | .slot j m =>
        if j = 63 then clearTx p s
        else match m with
          | some k => slotCancelled p j (notDelivered p (msgPoints s p k) (clearTx p s))
          | none => (clearTx p s).set ((Reg.PBUS_TXSTAT_STATE.inst p).ix j) 1
      | _ => clearTx p s

/-- The controller stops: its frame and its pending point-path frames end, undelivered (R241, R384). -/
def busStop (p : Nat) (s : State) : State :=
  let s := busCancelPath p (busCut p s)
  let s := notDelivered p ((s.bus p).confirms.flatMap (fun c => msgPoints s p c.1)) s
  let s := beaconCancel p (s.setBus p { s.bus p with beacon := [], beaconNext := [], confirms := [], foreignSeen := false })
  (s.set (Reg.PBUS_STAT_INTEG.inst p) 0).set (Reg.PBUS_STAT_TTSYNC.inst p) 0

/-- Every slot and shadow buffer is empty after a reset of the port or a new sheet, with their status bits and the requests to them
(R218, R220, R231, R241). -/
def busEmpty (p : Nat) (s : State) : State :=
  let s := (List.range 64).foldl (fun s j => setTx p j 0 false false false false s) s
  let s := (List.range 4).foldl (fun s k => s.set (shField p k) 0) (s.set (Reg.PBUS_SHCAN_BITS.inst p) 0)
  let s := set64 (Reg.PBUS_TXCANLO_BITS.inst p) (Reg.PBUS_TXCANHI_BITS.inst p) 0 s
  s.setBus p { s.bus p with msgs := [], staged := [], frames := [], beacon := [], beaconNext := [], shadows := [], tx := none, confirms := [] }

/-- The beacon is due: its frames take slot 63, one FD frame or two classical ones; behind a beacon that has begun to leave, they
follow it (R215). -/
def busBeacon (p : Nat) (bytes : List Nat) (s : State) : State :=
  let c := pcfg s p
  let fs := if c.fden then [mkFrame c.bcnid false true c.bcnbrs 10 bytes]
    else [mkFrame c.bcnid false false false 8 (bytes.take 8), mkFrame (c.bcnid + 1) false false false 8 (bytes.drop 8)]
  let b := s.bus p
  if txState s p 63 = 2 ∨ (b.beacon.length = 1 ∧ !c.fden) then s.setBus p { b with beaconNext := fs }
  else slotPend p 63 (s.setBus p { b with beacon := fs })

/-! ### Error counters (R235; the steps are those of ISO 11898-1, PRESUMED) -/

/-- The receive error counter, 0 to 127 or above. -/
def recOf (s : State) (p : Nat) : Nat :=
  if s.bit (Reg.PBUS_ERRC_RP.inst p) then 128 else s.get (Reg.PBUS_ERRC_REC.inst p)

/-- Stores both counters and the states that follow from them; BUS-OFF is entered by its own command. -/
def setErrors (p tec rec' : Nat) (s : State) : State :=
  let s := s.set (Reg.PBUS_ERRC_TEC.inst p) (min tec 511)
  let s := (s.setBit (Reg.PBUS_ERRC_RP.inst p) (decide (rec' > 127))).set (Reg.PBUS_ERRC_REC.inst p) (min rec' 127)
  let warn := decide (tec ≥ 96 ∨ rec' ≥ 96)
  let pass := decide (tec > 127 ∨ rec' > 127)
  let s := if warn && !s.bit (Reg.PBUS_STAT_EWARN.inst p) then s.raise (Reg.PBUS_FAULT_EWARN.inst p) else s
  let s := s.setBit (Reg.PBUS_STAT_EWARN.inst p) warn
  if s.get (Reg.PBUS_STAT_ECS.inst p) = 2 then s
  else
    let s := if pass && s.get (Reg.PBUS_STAT_ECS.inst p) = 0 then s.raise (Reg.PBUS_FAULT_EPASS.inst p) else s
    s.set (Reg.PBUS_STAT_ECS.inst p) (if pass then 1 else 0)

/-- A frame has been sent: the transmit counter falls by one. -/
def tecDown (p : Nat) (s : State) : State := setErrors p (s.get (Reg.PBUS_ERRC_TEC.inst p) - 1) (recOf s p) s

/-- A frame has been received: the receive counter falls by one, or from above 127 to a value from 119 to 127 that the
standard leaves open. -/
def recDown (p : Nat) (s : State) : State :=
  let r := recOf s p
  if r > 127 then setErrors p (s.get (Reg.PBUS_ERRC_TEC.inst p)) (119 + Config.freeNat s.freeCtr % 9) s.drawn
  else setErrors p (s.get (Reg.PBUS_ERRC_TEC.inst p)) (r - 1) s

/-- The controller takes part in the bus: not stopped, not in BUS-OFF. -/
def busLive (s : State) (p : Nat) : Bool :=
  pers s p = 1 && (pstate s p = 2 || pstate s p = 3 || pstate s p = 4) && s.get (Reg.PBUS_STAT_ECS.inst p) ≠ 2

end Sys2Proof.Machine
end

