-- ==== Sys2Proof/Machine/Segment.lean ====
section
/-! DEFINITION. Segment ports (spec/04_segment_ports.md, R146 to R178, R189, R190): states, span survey, beacon and echo. -/

namespace Sys2Proof.Machine

/-! ### Field point messages on the line (R164, R167, R168) -/

/-- The bytes of a field point message. -/
def fpmBytes (typ node seq bseq count flags : Nat) (payload : List Nat) : List Nat :=
  [16 + typ, node] ++ leBytes 2 seq ++ leBytes 2 bseq ++ [count, flags] ++ payload

/-- The bytes of an item. -/
def itemBytes (item flags value : Nat) : List Nat := leBytes 2 item ++ [flags, 0] ++ leBytes 8 value

/-- The learned address of node 0 (R151). -/
def hubAddr (s : State) (p : Nat) : Nat :=
  ((List.range 4).map (fun k => s.get ((Reg.LINK_HUBADDR_ADDR.inst p).ix k) * 2 ^ (32 * k))).sum

/-- Stores the learned address. -/
def setHubAddr (p a : Nat) (s : State) : State :=
  (List.range 4).foldl (fun s k => s.set ((Reg.LINK_HUBADDR_ADDR.inst p).ix k) (a / 2 ^ (32 * k) % 2 ^ 32)) s

/-- The address ff02::1 of beacons (R167). -/
def allNodes : Nat := 0xff02 * 2 ^ 112 + 1

/-- Sends a field point message on T1L or S485. -/
def sendFpm (p node : Nat) (bytes : List Nat) (s : State) : State :=
  let s := s.countWrap (Reg.LINK_TXFRM_COUNT.inst p) 1
  if pers s p = 0 then s.emit (.fpm p (if node = 0xFF then allNodes else hubAddr s p) (s.get (Reg.LINK_FPMPORT_PORT.inst p)) bytes)
  else
    let body := [node, bytes.length] ++ bytes
    s.emit (.fpm p 0 0 (body ++ leBytes 2 (crc16 body)))

/-! ### The span beacon (R160 to R162) -/

/-- The beacon payload; `leave` is its LEAVE flag. -/
def beaconPayload (s : State) (p : Nat) (leave : Bool) : List Nat :=
  let flags := b2n (decide (s.prpt.out ≠ .drive)) + 2 * b2n (decide (pstate s p = 3)) + 4 * b2n leave
  let via := if hasIdentity s then s.get Reg.VIA_IDENT_VIAID else 0
  let slot := if hasIdentity s then s.get Reg.VIA_IDENT_SLOT else 0xFF
  [1, flags] ++ leBytes 2 via ++ [slot, p] ++ leBytes 2 (s.get (Reg.SEG_BSEQ_LAST.inst p)) ++
    leBytes 4 (taiMs s) ++ [s.get Reg.MODE_STAT_MODE, s.get (Reg.SEG_PCFG_BINT.inst p)] ++
    leBytes 2 (s.get (Reg.SEG_CFGEP_EPOCH.inst p))

/-- The next beacon sequence number leaves, or would have left (R160): on T1L without a link, and on an OSDP
port (R616), nothing is sent. It takes the next message sequence number of the port (R164). -/
def beaconOut (p : Nat) (leave : Bool) (s : State) : State :=
  let s := s.countWrap (Reg.SEG_BSEQ_LAST.inst p) 1
  let x := s.segPort p
  let s := s.setSegPort p { x with echoed := 0, polled := 0, beaconOut := true, beaconAt := s.now }
  let bytes := beaconPayload s p leave
  if pers s p = 1 then busBeacon p bytes s
  else if (pers s p = 0 && !s.bit (Reg.LINK_STAT_LINKUP.inst p)) || osdpPort s p then s
  else
    let s := s.setSegPort p { s.segPort p with txSeq := (x.txSeq + 1) % 65536 }
    sendFpm p 0xFF (fpmBytes 5 0xFF x.txSeq (s.get (Reg.SEG_BSEQ_LAST.inst p)) 0 0 bytes) (s.countWrap (Reg.SEG_BTX_COUNT.inst p) 1)

/-! ### Commands that end undelivered -/

/-- Every command item for the port, or for one node of it, is dropped and reported not delivered (R161). -/
def dropCmds (p : Nat) (node : Option Nat) (s : State) : State :=
  let hit := fun n => match node with | none => true | some j => decide (n = j)
  let x := s.segPort p
  let waiting := x.cmds.filter (fun c => hit c.node)
  let flying := (x.sent.filter (fun m => hit m.node)).flatMap (fun m => m.items)
  let s := s.setSegPort p { x with cmds := x.cmds.filter (fun c => !hit c.node), sent := x.sent.filter (fun m => !hit m.node) }
  notDelivered p ((flying ++ waiting).map (fun c => c.index)) s

/-- The pending messages to a node are dropped from their slots (R161). -/
def busDropNode (p j : Nat) (s : State) : State :=
  (List.range 63).foldl (fun s k =>
    let ms := slotMsgs s p k
    let gone := ms.filter (fun m => (msgOf s p m).node = j)
    if gone = [] ∨ txState s p k ≠ 1 then s
    else
      let kept := ms.filter (fun m => (msgOf s p m).node ≠ j)
      if kept = [] then slotCancelled p k s
      else notDelivered p (gone.flatMap (msgPoints s p)) (setSlotMsgs p k kept s)) s

/-- NODE_LOST (R161), a wake event (R163). -/
def loseNode (p j : Nat) (s : State) : State :=
  let s := setNup p (maskClear (nup s p) j) (wakeEvent s)
  let x := s.segPort p
  let s := s.setSegPort p { x with misses := tabErase j x.misses, joined := maskClear x.joined j, lost := maskSet x.lost j }
  let s := reportAll ((pointsOf s p (some j)).map PointReport.lost) s
  let s := dropCmds p (some j) s
  let s := if pers s p = 1 then busDropNode p j s else s
  (s.raise (Reg.SEG_FAULT_NODELOST.inst p)).countSat (Reg.SEG_NLOST_COUNT.inst p) 1

/-! ### States (R154, R155) -/

/-- The expected nodes of a port that are not lost: those that may miss a beacon (R161). -/
def keptNodes (s : State) (p : Nat) : List Nat := (maskBits (nexp s p)).filter (fun j => !(s.segPort p).lost.testBit j)

/-- Bus monitoring of a PBUS port: in OOS, and in OFF while receivers count frames, but for a paired member in SERVICE and SAFE-HOLD
(R241). -/
def showMonitor (p : Nat) (s : State) : State :=
  if pers s p ≠ 1 then s
  else
    let st := pstate s p
    s.setBit (Reg.PBUS_STAT_MON.inst p) (decide (st = 5) || (decide (st = 0) && receiversCount s && decide (s.get Reg.MODE_STAT_MODE ≤ 4)))

/-- Sets the port state; bus monitoring follows it. -/
def setPstate (p v : Nat) (s : State) : State := showMonitor p (s.set (Reg.SEG_STAT_PSTATE.inst p) v)

/-- The link of a T1L port goes down (R151, R160). -/
def linkDown (p : Nat) (s : State) : State :=
  setHubAddr p 0 (((s.set (Reg.LINK_STAT_LINKUP.inst p) 0).set (Reg.LINK_STAT_ANDONE.inst p) 0).set (Reg.LINK_STAT_LVL10.inst p) 0)

/-- The nodes of a port that the map table names. -/
def mappedNodes (s : State) (p : Nat) : List Nat := distinct ((mapsOf s p).map (fun m => m.node))

/-- A node's OOS waits for the echo of a beacon that is sent from now on (R157, R657). -/
def waitForEcho (p j : Nat) (s : State) : State :=
  let x := s.segPort p
  s.setSegPort p { x with oosWait := tabInsert j ((s.get (Reg.SEG_BSEQ_LAST.inst p) + 1) % 65536) x.oosWait }

/-- The port leaves OOS, by whatever way: its nodes' points wait for the echo of a later beacon (R157). -/
def leaveOos (p : Nat) (s : State) : State :=
  if pstate s p = 5 then ((mappedNodes s p).filter (fun j => !(noos s p).testBit j)).foldl (fun s j => waitForEcho p j s) s else s

/-- The line stops: no node is joined, no command waits (R155). -/
def lineStop (p : Nat) (s : State) : State :=
  let s := setNup p 0 (dropCmds p none (leaveOos p s))
  let x := s.segPort p
  let s := s.setSegPort p { x with joined := 0, joinEchoed := 0, joinSent := 0, misses := [], lost := 0, beaconOut := false, visit := none, echoed := 0 }
  let s := if pers s p = 1 then busStop p s else s
  if pers s p = 0 then linkDown p s else s

/-- The port enters JOINING: nodes join anew, and their misses go on (R155, R160, R161). -/
def enterJoining (p : Nat) (s : State) : State :=
  let s := setNup p 0 (setPstate p 3 s)
  let x := s.segPort p
  s.setSegPort p { x with joined := 0, joinEchoed := 0, joinSent := 0, joinSince := s.now, visit := none }

/-- The port enters READY and its personality starts; with no grade A to D it stays there (R155, R176, R178). -/
def enterReady (p : Nat) (s : State) : State :=
  let s := setPstate p 2 s
  let g := storedGrade s p
  let s := if pers s p = 1 then busStart p s else s
  if g = 5 then s.raise (Reg.SEG_FAULT_SVYFAIL.inst p)
  else if g ≠ 0 ∧ pers s p = 2 then enterJoining p s else s

/-- The port enters OOS and sends one beacon with LEAVE (R157); on PBUS a controller that was not running integrates for it. -/
def enterOos (p : Nat) (s : State) : State :=
  let running := pstate s p = 3 ∨ pstate s p = 4
  let s := if pers s p = 1 then (if running then busCancelPath p s else busStart p s) else s
  let s := dropCmds p none (beaconOut p true s)
  oosRequest p none true (setPstate p 5 s)

/-- The port enters ACTIVE; nodes that have not echoed are lost (R155, R156). -/
def enterActive (p : Nat) (s : State) : State :=
  let s := (setPstate p 4 s).countSat (Reg.SEG_JOINS_COUNT.inst p) 1
  (keptNodes s p).foldl (fun s j => if (s.segPort p).joined.testBit j then s else loseNode p j s) s

/-- JOINING ends when every expected node has echoed in it, or JOINTO beacons are sent and at least one node has, be it lost again
meanwhile (R155). -/
def joinEnds (p : Nat) (s : State) : State :=
  let x := s.segPort p
  if pstate s p = 3 ∧ x.joinEchoed ≠ 0 ∧
      ((maskBits (nexp s p)).all (fun k => x.joinEchoed.testBit k) = true ∨ x.joinSent ≥ s.get (Reg.SEG_PCFG_JOINTO.inst p)) then
    enterActive p s
  else s

/-! ### The span survey (R172 to R178) -/

/-- The survey engine of a group is free. -/
def engineFree (s : State) (g : Nat) : Bool := (tabFind g s.seg.svyBusy).isNone

/-- The survey queue of a group. -/
def svyQueue (s : State) (g : Nat) : List Nat := tabGet [] s.seg.svyQueue g

/-- Replaces a survey queue, and SVYQUEUED of a port follows. -/
def setSvyQueue (g p : Nat) (q : List Nat) (s : State) : State :=
  ({ s with seg := { s.seg with svyQueue := tabPut [] g q s.seg.svyQueue } }).setBit (Reg.SEG_STAT_SVYQUEUED.inst p) (q.contains p)

/-- A survey starts: the port is out of service with its feed open (R173, R177). -/
def surveyBegin (p : Nat) (s : State) : State :=
  let frm := pstate s p
  let s := feedOpen p (lineStop p s)
  let s := s.setSegPort p { s.segPort p with svyFrom := frm, svyAt := s.now }
  let s := { s with seg := { s.seg with svyBusy := tabInsert (p / 8) p s.seg.svyBusy } }
  (setPstate p 1 s).raise (Reg.SEG_STAT_SVYBUSY.inst p)

/-- An accepted survey starts, waits in its group's queue, or is refused by a full queue (R177). A second request of a port that
already waits takes a second place (assumption 111; DESIGN CHOICE). -/
def surveyAccept (p : Nat) (s : State) : State :=
  let g := p / 8
  let q := svyQueue s g
  if engineFree s g then surveyBegin p s
  else if q.length < 8 then setSvyQueue g p (q ++ [p]) s
  else s.raise (Reg.SEG_FAULT_SVYREJ.inst p)

/-- SURVEY_REQUEST (R177, R189); `svc` says that the write came through the service port. -/
def surveyRequest (p : Nat) (svc : Bool) (s : State) : State :=
  let m := s.get Reg.MODE_STAT_MODE
  let st := pstate s p
  let refuse := s.raise (Reg.SEG_FAULT_SVYREJ.inst p)
  if m = 0 ∨ m = 2 ∨ m = 7 then refuse
  else if m = 1 then (if svc then (if st = 1 then s else surveyAccept p s) else refuse)
  else if st = 3 ∨ st = 4 then refuse
  else if st = 0 ∨ st = 1 then s
  else surveyAccept p s

/-- The port leaves the survey queue of its group. -/
def surveyForget (p : Nat) (s : State) : State :=
  let q := svyQueue s (p / 8)
  if q.contains p then setSvyQueue (p / 8) p (q.filter (· ≠ p)) s else s

/-- The engine of the port's group is free again. -/
def surveyEnd (p : Nat) (s : State) : State :=
  ({ s with seg := { s.seg with svyBusy := tabErase (p / 8) s.seg.svyBusy } }).set (Reg.SEG_STAT_SVYBUSY.inst p) 0

/-- SURVEY_ABORT (R178): a running survey stops and stores nothing. -/
def surveyAbort (p : Nat) (s : State) : State :=
  if pstate s p = 1 then (surveyEnd p s).raise (Reg.SEG_FAULT_SVYABORT.inst p) else s

/-- The state to which a port returns after a survey (R155, R178). -/
def surveyReturn (p : Nat) (s : State) : State :=
  let g := storedGrade s p
  if !portsMayRun s then setPstate p 0 s
  else if 1 ≤ g ∧ g ≤ 4 ∧ (s.segPort p).svyFrom = 5 then enterOos p s
  else enterReady p s

/-- At a power-fail warning a running survey stops, stores nothing, and the port leaves SURVEY (R178). -/
def surveyStop (p : Nat) (s : State) : State := if pstate s p = 1 then surveyReturn p (surveyAbort p s) else s

/-- SURVEY_START (R177): a queued survey starts when the engine is free, in a mode that has surveys (R189). A port that has reached
JOINING or ACTIVE while it waited is surveyed from there and returns to READY (assumption 110; DESIGN CHOICE). -/
def surveyStart (g : Nat) (s : State) : State :=
  match svyQueue s g with
  | [] => s
  | p :: q =>
    if engineFree s g && (portsMayRun s || s.get Reg.MODE_STAT_MODE = 1) then surveyBegin p (setSvyQueue g p q s) else s

/-- The distance of a reflection in half metres by the velocity factor (R174), truncated (assumption 107; DESIGN CHOICE). -/
def halfMetres (vf ps : Nat) : Nat := ps * 299792458 * vf / 1000000000000000

/-- Reflections up to 1,200 m, as distance and 1000 × Γ, in the order of their distance. -/
def sights (vf : Nat) (rs : List Reflection) : List (Nat × Int) :=
  ((rs.map (fun r => (halfMetres vf r.ps, r.gamma))).filter (fun x => decide (x.1 ≤ 2400)))

/-- The far end: the first reflection of +0.8 or above (R174). -/
def farEnd (xs : List (Nat × Int)) : Option Nat :=
  match xs.find? (fun x => decide (x.2 ≥ 800)) with
  | some x => some x.1
  | none => none

/-- The reflections before the far end. -/
def beforeEnd (xs : List (Nat × Int)) : List (Nat × Int) := xs.takeWhile (fun x => decide (x.2 < 800))

/-- The fault kind of a reflection (R175); 0 for none. -/
def faultKind (g : Int) : Nat := if g < -800 then 1 else if g ≥ 50 then 2 else if g ≤ -50 then 3 else 0

/-- The faults found, in the order of R175, as kind, distance and 1000 × Γ. -/
def surveyFaults (xs : List (Nat × Int)) (far : Option Nat) (lowIns : Bool) : List (Nat × Nat × Int) :=
  let located := ((beforeEnd xs).map (fun x => (faultKind x.2, x.1, x.2))).filter (fun x => x.1 ≠ 0)
  let rest := (if lowIns then [(4, 0, 0)] else []) ++ (if far.isNone then [(6, 0, 0)] else [])
  located ++ rest

/-- The first 16 entries: those without a distance are kept (R175). -/
def listedFaults (fs : List (Nat × Nat × Int)) : List (Nat × Nat × Int) :=
  let bare := fs.filter (fun f => decide (f.1 ≥ 4))
  let located := fs.filter (fun f => decide (f.1 < 4))
  located.take (16 - bare.length) ++ bare

/-- The largest step (R175, R176), in units of 0.001; a short is no step. -/
def largestStep (xs : List (Nat × Int)) : Nat :=
  (beforeEnd xs).foldl (fun m x => if x.2 < -800 then m else max m x.2.natAbs) 0

/-- The most severe kind (R175); of a STEP_UP and a STEP_DOWN of one magnitude the nearer (assumption 109; DESIGN CHOICE). -/
def severest (fs : List (Nat × Nat × Int)) : Nat :=
  let has := fun k => fs.any (fun f => f.1 = k)
  if has 1 then 1 else if has 5 then 5 else if has 4 then 4
  else
    let steps := fs.filter (fun f => f.1 = 2 ∨ f.1 = 3)
    match steps.foldl (fun (b : Option (Nat × Nat × Int)) f => match b with
      | none => some f
      | some x => if f.2.2.natAbs > x.2.2.natAbs then some f else some x) none with
    | some f => f.1
    | none => if has 6 then 6 else 0

/-- The estimated losses at 1, 4 and 10 MHz in 0.01 dB from a loop resistance in 0.1 Ω (R174), truncated (assumption 107; DESIGN
CHOICE); √10 to 12 places. -/
def estimatedLoss (r : Nat) : Nat × Nat × Nat :=
  let cap := fun x => if x > 65534 then 0xFFFE else x
  (cap (r * 345 / 1000), cap (r * 7 / 10), cap (r * (34 * 3162277660168 + 5 * 1000000000000) / 100000000000000))

/-- The grade of one criterion by its four limits: 1 A to 5 E (R176). -/
def gradeBy (x a b c d : Nat) : Nat := if x ≤ a then 1 else if x ≤ b then 2 else if x ≤ c then 3 else if x ≤ d then 4 else 5

/-- The grade of the impedance in 0.1 Ω. -/
def gradeZ (z : Nat) : Nat :=
  if 850 ≤ z ∧ z ≤ 1350 then 1 else if 700 ≤ z ∧ z ≤ 1500 then 3 else if 600 ≤ z ∧ z ≤ 1700 then 4 else 5

/-- The grade of a survey (R176). -/
def surveyGrade (far : Option Nat) (il4 nrms gmax z rins code : Nat) : Nat :=
  let len := match far with | none => 4 | some d => gradeBy d 800 1400 2000 2400
  let loss := if il4 = 0xFFFF then 1 else gradeBy il4 800 1400 2000 2600
  let ins := if rins ≥ 1000 then 1 else if rins ≥ 100 then 4 else 5
  let flt := if code = 1 ∨ code = 5 then 5 else 1
  [len, loss, gradeBy nrms 500 1000 2000 5000, gradeBy gmax 50 100 200 300, gradeZ z, ins, flt].foldl max 1

/-- The pair is multi-drop: a step above 0.1 more than 2 m from both ends (R176). -/
def isMultiDrop (xs : List (Nat × Int)) (far : Option Nat) : Bool :=
  (beforeEnd xs).any (fun x => decide (x.2.natAbs > 100 ∧ x.1 > 4) && (match far with
    | none => true
    | some d => decide (x.1 + 4 < d)))

/-- RECNET (R176). -/
def recNet (g : Nat) (multi : Bool) (far : Option Nat) : Nat :=
  match g with
  | 1 => if multi then 3 else (match far with | some d => if d ≤ 400 then 2 else 1 | none => 1)
  | 2 => if multi then 4 else 1
  | 3 => if multi then 5 else 1
  | 4 => if multi then 7 else 6
  | _ => 0

/-- RECS485 (R176). -/
def recS485 (g : Nat) : Nat := match g with | 1 => 9 | 2 => 9 | 3 => 10 | 4 => 11 | _ => 0

/-- Stores the fault list (R175); MAG = Γ × 128 is truncated toward zero and saturates (assumption 108; DESIGN CHOICE). -/
def setFaults (p : Nat) (fs : List (Nat × Nat × Int)) (s : State) : State :=
  (List.range 16).foldl (fun s k =>
    let f := match fs[k]? with | some f => f | none => (0, 0, 0)
    let mag := if f.1 ≥ 4 then 0 else toField 8 (satSigned 8 (Int.tdiv (f.2.2 * 128) 1000))
    ((s.set ((Reg.SEG_FLT_KIND.inst p).ix k) f.1).set ((Reg.SEG_FLT_DIST.inst p).ix k) f.2.1).set
      ((Reg.SEG_FLT_MAG.inst p).ix k) mag) s

/-- Stores the summary of a survey result (R173 to R176). -/
def storeResult (p nflt code grade net s485 : Nat) (est : Bool) (m : SurveyMeasure) (s : State) : State :=
  let s := (s.set (Reg.SEG_SVYRES_NFLT.inst p) (min nflt 255)).set (Reg.SEG_SVYRES_FLTCODE.inst p) code
  let s := ((s.set (Reg.SEG_SVYRES_GRADE.inst p) grade).set (Reg.SEG_SVYRES_RECNET.inst p) net).set
    (Reg.SEG_SVYRES_RECS485.inst p) s485
  let s := (s.setBit (Reg.SEG_SVYRES_ESTIL.inst p) est).set (Reg.SEG_SVYDC_VDC.inst p) (toField 16 (satSigned 16 m.vdc))
  (s.set (Reg.SEG_SVYTIME_SEC.inst p) (taiNs s / second)).raise (Reg.SEG_STAT_SVYVALID.inst p)

/-- Stores the measurements of stages 3 to 7. -/
def storeMeasures (p len gmax z il1 il4 il10 rins rloop npk nrms : Nat) (s : State) : State :=
  let cap := fun x => min x 65535
  let s := ((s.set (Reg.SEG_SVYLEN_HALFM.inst p) len).set (Reg.SEG_SVYZ_GMAX.inst p) (min gmax 1023)).set
    (Reg.SEG_SVYZ_Z.inst p) (cap z)
  let s := ((s.set (Reg.SEG_SVYIL_IL1.inst p) il1).set (Reg.SEG_SVYIL_IL4.inst p) il4).set (Reg.SEG_SVYIL10_IL10.inst p) il10
  let s := (s.set (Reg.SEG_SVYR_RINS.inst p) (cap rins)).set (Reg.SEG_SVYR_RLOOP.inst p) (cap rloop)
  (s.set (Reg.SEG_SVYN_NPK.inst p) (cap npk)).set (Reg.SEG_SVYN_NRMS.inst p) (cap nrms)

/-- The survey aborts at stage 2: above 5 V DC or 5 V RMS (R173). -/
def foreignVoltage (m : SurveyMeasure) : Bool := m.vdc.natAbs > 500 || m.dcMax > 500 || m.acMax > 500

/-- SURVEY_COMPLETE (R173 to R176): a complete survey grades the pair; a stage 2 abort stores grade E. -/
def surveyComplete (p : Nat) (m : SurveyMeasure) (s : State) : State :=
  if pstate s p ≠ 1 then s
  else if foreignVoltage m then
    let s := s.reach ((s.segPort p).svyAt + 200 * msec)
    let s := storeMeasures p 0 0 0 0 0 0 0 0 0 0 (storeResult p 1 5 5 0 0 false m s)
    let s := setFaults p [(5, 0, 0)] s
    let s := (s.raise (Reg.SEG_FAULT_FOREIGNV.inst p)).raise (Reg.SEG_FAULT_SVYFAIL.inst p)
    surveyReturn p (surveyEnd p s)
  else
    let s := s.reach ((s.segPort p).svyAt + 1800 * msec)
    let xs := sights (s.get (Reg.SEG_SVYVF_VF.inst p)) m.reflections
    let far := farEnd xs
    let fs := surveyFaults xs far (decide (m.rins < 1000))
    let gmax := largestStep xs
    let il := match far, m.rloop with
      | some _, _ => (min m.il1 65534, min m.il4 65534, min m.il10 65534)
      | none, some r => estimatedLoss r
      | none, none => (0xFFFF, 0xFFFF, 0xFFFF)
    let est := far.isNone && m.rloop.isSome
    let code := severest fs
    let g := surveyGrade far il.2.1 m.nrms gmax m.z m.rins code
    let s := storeMeasures p (match far with | some d => d | none => 0xFFFF) gmax m.z il.1 il.2.1 il.2.2 m.rins
      (match m.rloop with | some r => min r 65534 | none => 0xFFFF) m.npk m.nrms s
    let s := storeResult p fs.length code g (recNet g (isMultiDrop xs far) far) (recS485 g) est m s
    let s := setFaults p (listedFaults fs) s
    let s := if g = 5 then s.raise (Reg.SEG_FAULT_SVYFAIL.inst p) else s
    surveyReturn p (surveyEnd p s)

/-! ### Enable, disable, fail, service -/

/-- EN written 1 on a port in OFF (R155), in a mode and with a lease that let ports run (R189). -/
def portEnable (p : Nat) (s : State) : State :=
  let s := s.raise (Reg.SEG_CTRL_EN.inst p)
  if pstate s p ≠ 0 ∨ !portsMayRun s then s
  else
    let g := storedGrade s p
    if g = 0 then (if (svyQueue s (p / 8)).contains p then s else surveyAccept p s)
    else if g ≠ 5 ∧ s.bit (Reg.SEG_POOS_OOS.inst p) then enterOos p s
    else enterReady p s

/-- The port goes to OFF: its survey is aborted, its feed opens, its line stops (R155, R178, R189); in ZEROIZED a switch is held
where `FEED_HOLD` is 1. -/
def portOff (p : Nat) (leave : Bool) (s : State) : State :=
  let s := if leave ∧ (pstate s p = 3 ∨ pstate s p = 4) then beaconOut p true s else s
  let s := lineStop p (surveyForget p (surveyAbort p s))
  let s := if s.get Reg.MODE_STAT_MODE = 7 ∧ s.bit Reg.PWR_AO_FEED_HOLD then s else feedOpen p s
  setPstate p 0 s

/-- A port that may not run any more goes to OFF once no frame is on its line and its LEAVE beacon has been sent; in BUS-OFF none
can be (R189, R236, R383, R384). -/
def settleOff (p : Nat) (s : State) : State :=
  let b := s.bus p
  if !portsMayRun s && s.get Reg.MODE_STAT_MODE ≠ 1 && pstate s p ≠ 0 && b.tx.isNone &&
      (b.beacon = [] || s.get (Reg.PBUS_STAT_ECS.inst p) = 2) then portOff p false s else s

/-- A running PBUS port stops: its point-path frames are cancelled, and what is left is the frame on the line and, with `leave`, the
LEAVE beacon (R189, R383, R384). -/
def busLeave (p : Nat) (leave : Bool) (s : State) : State :=
  let s := busCancelPath p (dropCmds p none s)
  let s := if leave ∧ (pstate s p = 3 ∨ pstate s p = 4) then beaconOut p true s else if leave then s else busDropBeacon p s
  settleOff p s

/-- SEG_DISABLE (R155): EN written 0, which opens a held switch in every mode (R188). -/
def portDisable (p : Nat) (s : State) : State := feedOpen p (portOff p false (s.set (Reg.SEG_CTRL_EN.inst p) 0))

/-- PORT_FAIL (R158): causes 1 self-test, 2 short, 3 foreign voltage, 4 thermal shutdowns. A foreign voltage is found only once the
feed has been open for 100 ms. -/
def portFail (p cause : Nat) (s : State) : State :=
  if pstate s p = 0 ∨ pstate s p = 6 ∨ (cause = 3 ∧ closed s p) then s
  else
    let s := if cause = 3 then s.reach ((feed s p).openedAt + 100 * msec) else s
    let s := if pstate s p = 1 then surveyEnd p s else s
    let s := (keptNodes s p).foldl (fun s j => loseNode p j s) s
    let s := feedOpen p (lineStop p s)
    let s := (setPstate p 6 s).raise (Reg.SEG_FAULT_PORTFAIL.inst p)
    logEvent 0x0200 5 [p, cause, pers s p] s

/-- PORT_RESTART (R155, R172): a FAILED port is surveyed. -/
def portRestart (p : Nat) (s : State) : State := if pstate s p = 6 then surveyAccept p s else s

/-- PORT_OOS_SET (R157). -/
def portOosSet (p : Nat) (s : State) : State :=
  let s := s.raise (Reg.SEG_POOS_OOS.inst p)
  if pstate s p = 3 ∨ pstate s p = 4 then enterOos p s else s

/-- PORT_OOS_CLEAR (R157): the port joins under the safe-rejoin rule. -/
def portOosClear (p : Nat) (s : State) : State :=
  let s := s.set (Reg.SEG_POOS_OOS.inst p) 0
  if pstate s p = 5 then
    let s := leaveOos p s
    enterJoining p (if pers s p = 1 then busIntegrate p (busDropBeacon p s) else s)
  else s

/-- NODE_OOS_SET (R657). -/
def nodeOosSet (p j : Nat) (s : State) : State :=
  if (noos s p).testBit j then s
  else
    let s := setNoos p (maskSet (noos s p) j) s
    let x := s.segPort p
    let s := s.setSegPort p { x with oosWait := tabErase j x.oosWait }
    let s := dropCmds p (some j) s
    let s := if pers s p = 1 then busDropNode p j s else s
    oosRequest p (some j) true s

/-- NODE_OOS_CLEAR (R657): the points stay out of service until the node echoes a later beacon. -/
def nodeOosClear (p j : Nat) (s : State) : State :=
  if (noos s p).testBit j then waitForEcho p j (setNoos p (maskClear (noos s p) j) s) else s

/-! ### Links, beacons and echoes -/

/-- T1L_LINK_UP (R150, R155): `lvl10` is the agreed level; the link rises only at a level that the port offers,
and not while the PHYs are held (R476). -/
def linkUp (p : Nat) (lvl10 : Bool) (sqi : Nat) (s : State) : State :=
  let sel := s.get (Reg.LINK_LCFG_T1LLVL.inst p)
  let agreed := sel = 0 ∨ (sel = 1 ∧ !lvl10) ∨ (sel = 2 ∧ lvl10)
  let st := pstate s p
  let g := storedGrade s p
  if pers s p ≠ 0 ∨ !agreed ∨ s.bit Reg.CLK_STAT_FALLBACK ∨ s.bit (Reg.LINK_STAT_LINKUP.inst p) ∨ !(2 ≤ st ∧ st ≤ 5) ∨ g = 0 ∨ g = 5 then s
  else
    let s := ((s.raise (Reg.LINK_STAT_LINKUP.inst p)).raise (Reg.LINK_STAT_ANDONE.inst p)).setBit
      (Reg.LINK_STAT_LVL10.inst p) lvl10
    let s := s.set (Reg.LINK_SQI_LEVEL.inst p) sqi
    if st = 2 ∨ st = 4 then enterJoining p s else s

/-- T1L_LINK_LOST (R151, R160). -/
def linkLost (p : Nat) (s : State) : State :=
  if pers s p ≠ 0 ∨ !s.bit (Reg.LINK_STAT_LINKUP.inst p) then s
  else
    let s := linkDown p s
    if pstate s p = 3 ∨ pstate s p = 4 then
      (s.countSat (Reg.LINK_LINKDN_COUNT.inst p) 1).raise (Reg.LINK_FAULT_LINKDN.inst p)
    else s

/-- The next beacon instant of a port (R160). -/
def beaconInstant (s : State) (p : Nat) : Nat :=
  let per := max 1 (s.get (Reg.SEG_PCFG_BINT.inst p)) * 10 * msec
  let off := p * 250000
  let t := taiNs s
  let x := s.segPort p
  let t := if x.beaconOut ∧ x.beaconAt = s.now then t + 1 else t
  let k := if t ≤ off then 0 else (t - off + per - 1) / per
  instantOfTai s (k * per + off)

/-- The misses of the beacon that ends now (R161): a node of an S485 port that was not polled misses nothing. -/
def judgeEchoes (p : Nat) (s : State) : State :=
  let x := s.segPort p
  if !x.beaconOut then s
  else (keptNodes s p).foldl (fun s j =>
    let x := s.segPort p
    if x.echoed.testBit j ∨ (pers s p = 2 ∧ !x.polled.testBit j) then s
    else
      let m := tabGet 0 x.misses j + 1
      let s := s.setSegPort p { x with misses := tabInsert j m x.misses }
      if m ≥ s.get (Reg.SEG_PCFG_BMISS.inst p) then loseNode p j s else s) s

/-- BEACON_SEND (R155, R160, R161): the previous beacon is judged, the next beacon leaves, and JOINING may end. A PBUS port that
only waits for its LEAVE beacon sends no other (R189). -/
def beaconSend (p : Nat) (s : State) : State :=
  if (pstate s p ≠ 3 ∧ pstate s p ≠ 4) ∨ (pers s p = 1 ∧ !portsMayRun s) then s
  else
    let s := judgeEchoes p (s.reach (beaconInstant s p))
    let x := s.segPort p
    joinEnds p (beaconOut p false (if pstate s p = 3 then s.setSegPort p { x with joinSent := x.joinSent + 1 } else s))

/-- NOJOIN_TIMEOUT (R156): 10 s of JOINING in which no node has echoed. -/
def noJoin (p : Nat) (s : State) : State :=
  if pstate s p = 3 ∧ (s.segPort p).joinEchoed = 0 then
    (s.reach ((s.segPort p).joinSince + 10 * second)).raise (Reg.SEG_FAULT_NOJOIN.inst p)
  else s

/-- A node that has echoed the last beacon returns from out of service, if that beacon was sent since (R157, R657). -/
def oosReturn (p j : Nat) (s : State) : State :=
  let x := s.segPort p
  match tabFind j x.oosWait with
  | none => s
  | some k =>
    if seqLater (s.get (Reg.SEG_BSEQ_LAST.inst p)) k then
      oosRequest p (some j) false (s.setSegPort p { x with oosWait := tabErase j x.oosWait })
    else s

/-- Node `j` has joined, or returned, by its echo: a wake event where it was not up (R161, R163). -/
def nodeUp (p j : Nat) (s : State) : State :=
  let back := !(nup s p).testBit j
  let x := s.segPort p
  let s := setNup p (maskSet (nup s p) j) (s.setSegPort p { x with joined := maskSet x.joined j, joinEchoed := maskSet x.joinEchoed j,
                                                                             lost := maskClear x.lost j })
  let s := if back then
      let s := wakeEvent s
      { s with seg := { s.seg with returned := s.seg.returned ++ [(p, j, taiUs s)] } }
    else s
  joinEnds p (oosReturn p j s)

/-- A valid message or echo frame of expected node `j` carries BSEQ `b`: an echo of the last beacon, if it is that or a later one. In
JOINING the beacon must be one of that JOINING (R155, R160, R161). -/
def nodeEcho (p j b : Nat) (s : State) : State :=
  let x := s.segPort p
  if (pstate s p = 3 ∨ pstate s p = 4) ∧ x.beaconOut ∧ seqLater b (s.get (Reg.SEG_BSEQ_LAST.inst p)) then
    let s := s.setSegPort p { x with echoed := maskSet x.echoed j, misses := tabErase j x.misses }
    if pstate s p = 3 ∧ x.joinSent = 0 then s else nodeUp p j s
  else s

/-! ### Modes and resets (R148, R189, R190) -/

/-- Firmware enables every port that the sheet enables (R159). -/
def enablePorts (s : State) : State :=
  (List.range 32).foldl (fun s p => if (portCfg s p).enable then portEnable p s else s) s

/-- Every port goes to OFF, and waits for no survey; in UNPROVISIONED and PROVISIONING a switch that was held opens too (R189). -/
def portsOff (leave : Bool) (s : State) : State :=
  (List.range 32).foldl (fun s p =>
    if pstate s p = 0 then
      showMonitor p (surveyForget p (if s.get Reg.MODE_STAT_MODE ≤ 1 then feedOpen p s else s))
    else if pers s p = 1 ∧ 3 ≤ pstate s p ∧ pstate s p ≤ 5 then busLeave p leave s
    else portOff p leave s) s

/-- The ports follow the mode and the lease (R189): OFF where they may not run, enabled where they may again; `ran` says that they
might run before. -/
def portsFollow (ran leave : Bool) (s : State) : State :=
  if portsMayRun s then (if ran then s else enablePorts s) else portsOff leave s

/-! ### The commands -/

/-- SEG_ENABLE (R155). -/
def execSegEnable (port : Fin 32) (s : State) : Host.Outcome State Fault Refusal := done s (unlessBusy (0x100 + port.val) (fun s => portEnable port.val s) s)
/-- SURVEY_COMPLETE (R173). -/
def execSurveyComplete (port : Fin 32) (measured : SurveyMeasure) (s : State) : Host.Outcome State Fault Refusal :=
  done s (surveyComplete port.val measured s)
/-- PORT_OOS_SET (R157). -/
def execPortOosSet (port : Fin 32) (s : State) : Host.Outcome State Fault Refusal := done s (unlessBusy (0x100 + port.val) (fun s => portOosSet port.val s) s)
/-- PORT_OOS_CLEAR (R157). -/
def execPortOosClear (port : Fin 32) (s : State) : Host.Outcome State Fault Refusal := done s (unlessBusy (0x100 + port.val) (fun s => portOosClear port.val s) s)
/-- NODE_OOS_SET (R657). -/
def execNodeOosSet (port : Fin 32) (node : Fin 64) (s : State) : Host.Outcome State Fault Refusal :=
  done s (unlessBusy (0x100 + port.val) (fun s => nodeOosSet port.val node.val s) s)
/-- NODE_OOS_CLEAR (R657). -/
def execNodeOosClear (port : Fin 32) (node : Fin 64) (s : State) : Host.Outcome State Fault Refusal :=
  done s (unlessBusy (0x100 + port.val) (fun s => nodeOosClear port.val node.val s) s)
/-- OOS_SERVICE_REQUEST (R157): of a whole port, or of one node. -/
def execOosServiceRequest (port : Fin 32) (node : Option (Fin 64)) (oos : Bool) (s : State) :
    Host.Outcome State Fault Refusal :=
  done s (unlessBusy (0x100 + port.val) (fun s => oosRequest port.val (node.map Fin.val) oos s) s)
/-- T1L_LINK_UP (R155). -/
def execT1lLinkUp (port : Fin 32) (lvl10 : Bool) (sqi : Fin 8) (s : State) : Host.Outcome State Fault Refusal :=
  done s (linkUp port.val lvl10 sqi.val s)
/-- T1L_LINK_LOST (R160). -/
def execT1lLinkLost (port : Fin 32) (s : State) : Host.Outcome State Fault Refusal := done s (linkLost port.val s)
/-- BEACON_SEND (R160). -/
def execBeaconSend (port : Fin 32) (s : State) : Host.Outcome State Fault Refusal := done s (beaconSend port.val s)
/-- NOJOIN_TIMEOUT (R156). -/
def execNojoinTimeout (port : Fin 32) (s : State) : Host.Outcome State Fault Refusal := done s (noJoin port.val s)

end Sys2Proof.Machine
end

