-- ==== Sys2Proof/Machine/Fpm.lean ====
section
/-! DEFINITION. Field point messages and their commands (spec/04_segment_ports.md, R164 to R171): reception, items, command
delivery, the S485 master, and the way of released values to the ports. -/

namespace Sys2Proof.Machine

/-! ### The receive queue (R171) -/

/-- Shows the depth of the receive queue. -/
def showRxq (p : Nat) (s : State) : State :=
  let n := (s.segPort p).rxq.length
  (s.set (Reg.LINK_RXQ_DEPTH.inst p) n).setBit (Reg.LINK_STAT_RXHELD.inst p) (decide (n > 0))

/-- The ingress queue of segment ports is full (R99). -/
def ingressFull (s : State) : Bool := (queueOf s 1).length ≥ 4096 || tabGet [] s.pt.held 1 ≠ []

/-- The updates of a received message go to the point engine, or are held while its queue is full, or are discarded (R171); on a
PBUS port `LINK.FAULT.RXOVF` reads 0 (R212). -/
def passUpdates (p : Nat) (us : List Update) (s : State) : State :=
  let x := s.segPort p
  if us = [] then s
  else if x.rxq = [] ∧ !ingressFull s then submitAll us s
  else if x.rxq.length < 64 then showRxq p (s.setSegPort p { x with rxq := x.rxq ++ [us] })
  else
    let s := s.countSat (Reg.LINK_RXOVF_COUNT.inst p) 1
    if pers s p = 1 then s else s.raise (Reg.LINK_FAULT_RXOVF.inst p)

/-- Held messages of a port enter the ingress queue while it has room. -/
def drainPort (p : Nat) : Nat → State → State
  | 0, s => s
  | n + 1, s =>
    let x := s.segPort p
    match x.rxq with
    | [] => s
    | us :: rest =>
      if ingressFull s then s
      else drainPort p n (showRxq p (submitAll us (s.setSegPort p { x with rxq := rest })))

/-- Every port's held messages, lowest port first. -/
def drainPorts (s : State) : State :=
  (List.range 32).foldl (fun s p => if (s.segPort p).rxq = [] then s else drainPort p 64 s) s

/-! ### Reception -/

/-- A discard counted in UNKNOWN (R165); on a PBUS port these LINK fields read 0 (R212). -/
def linkUnknown (p : Nat) (s : State) : State :=
  (s.countSat (Reg.LINK_UNKNOWN_COUNT.inst p) 1).raise (Reg.LINK_FAULT_UNKNOWN.inst p)

/-- The source address is the learned one, or this message makes the join of node 0 (R151). -/
def addressOk (s : State) (p src node : Nat) : Bool :=
  let hub := hubAddr s p
  let open' := if pstate s p = 3 then !(s.segPort p).joined.testBit 0 else !(nup s p).testBit 0
  (node = 0 && (hub = 0 || open')) || (hub ≠ 0 && src = hub)

/-- The visit of the S485 master to this node ends with its answer (R168). -/
def visitEnds (p node : Nat) (s : State) : State :=
  let x := s.segPort p
  match x.visit with
  | some v => if v.node = node then s.setSegPort p { x with visit := none } else s
  | none => s

/-- A field point message arrives from `node` at address `src` and UDP port `udp` with BSEQ `b`; `k` handles its items (R151,
R155, R160, R165, R167). In OOS, and in OFF while receivers count, it is counted and discarded (R154, R189). On an OSDP port the
access block owns the traffic (R153). -/
def fpmReceive (p : Nat) (crcOk : Bool) (src udp node b : Nat) (k : State → State) (s : State) : State :=
  let st := pstate s p
  let counting := st = 5 ∨ (st = 0 ∧ receiversCount s)
  if pers s p = 1 ∨ osdpPort s p ∨ !(st = 3 ∨ st = 4 ∨ counting) ∨ (pers s p = 0 ∧ udp ≠ s.get (Reg.LINK_FPMPORT_PORT.inst p)) then s
  else if !crcOk then s.countSat (Reg.LINK_CRCERR_COUNT.inst p) 1
  else
    let s := s.countWrap (Reg.LINK_RXFRM_COUNT.inst p) 1
    if counting then s
    else if pers s p = 0 ∧ !addressOk s p src node then s
    else if !(nexp s p).testBit node then linkUnknown p s
    else
      let before := (nup s p).testBit node
      let s := nodeEcho p node b (visitEnds p node s)
      let s := if pers s p = 0 ∧ node = 0 ∧ (hubAddr s p = 0 ∨ (!before ∧ (nup s p).testBit 0)) then setHubAddr p src s else s
      k s

/-- The flag of a DATA item (R164). -/
def itemFlag (f : Nat) : ValueFlag := match f % 4 with | 0 => .valid | 2 => .uncertain | _ => .invalid

/-- A message that carries items is a wake event (R163). -/
def wakeFor {α : Type} (items : List α) (s : State) : State := if items.isEmpty then s else wakeEvent s

/-- FPM_DATA_RECEIVE (R165, R170): mapped items of the node's lane become class 1 updates, those of an emergency input class 0 (R362). -/
def dataItems (p node : Nat) (items : List FpmItem) (s : State) : State :=
  let s := wakeFor items s
  if !nodeOpen s p node then s
  else
    let lane := nodeLane s p node
    let x := items.foldl (fun (acc : State × List Update) it =>
      match mapIn acc.1 p node it.item.toNat with
      | none => (linkUnknown p acc.1, acc.2)
      | some m =>
        match itemUpdate acc.1 p node lane m it.value.toNat (itemFlag it.flags.toNat) with
        | none => (laneDrop p (nodeSrc p node) m.index acc.1, acc.2)
        | some u => (acc.1, acc.2 ++ [u])) (s, [])
    passUpdates p x.2 x.1

/-- FPM_ACK_RECEIVE (R169): items listed without REJECT are delivered, those with REJECT are not. -/
def ackItems (p node seq : Nat) (items : List (Nat × Bool)) (s : State) : State :=
  let s := wakeFor items s
  let x := s.segPort p
  match x.sent.find? (fun m => decide (m.node = node ∧ m.seq = seq)) with
  | none => s
  | some m =>
    let listed := fun (c : CmdItem) => items.any (fun a => a.1 = c.item)
    let refused := fun (c : CmdItem) => items.any (fun a => a.1 = c.item && a.2)
    let rest := m.items.filter (fun c => !listed c)
    let others := x.sent.filter (fun n => decide (n ≠ m))
    let s := s.setSegPort p { x with sent := if rest = [] then others else others ++ [{ m with items := rest }] }
    let s := delivered ((m.items.filter (fun c => listed c && !refused c)).map (fun c => c.index)) s
    notDelivered p ((m.items.filter refused).map (fun c => c.index)) s

/-! ### Commands (R169, R213) -/

/-- A command item waits for its node; it takes the place of an older one of the same item. -/
def addCmd (p : Nat) (c : CmdItem) (s : State) : State :=
  let x := s.segPort p
  s.setSegPort p { x with cmds := x.cmds.filter (fun d => !(d.node = c.node && d.item = c.item)) ++ [c] }

/-- A command for record `i` goes to its port: to the slot of its message, or to its node's items. A lost node, a port that does
not run, and an OSDP port take none: the item is not delivered (R153, R161, R300; for the OSDP port assumption 82; DESIGN CHOICE). -/
def routeCommand (i v : Nat) (safe resend : Bool) (s : State) : State :=
  match mapOut s i with
  | none => s
  | some m =>
    let p := m.port
    let st := pstate s p
    let s := if pers s p = 1 then s.setBus p { s.bus p with values := tabInsert i v (s.bus p).values } else s
    if (s.point i).oos ∨ (noos s p).testBit m.node then s
    else if !osdpPort s p ∧ (st = 2 ∨ st = 3 ∨ (st = 4 ∧ (nup s p).testBit m.node)) then
      if pers s p = 1 then
        match rangeOf s p (msgOf s p (m.place / 2 ^ 16)).ide (msgOf s p (m.place / 2 ^ 16)).id with
        | some r => if r.lane = (s.point i).lane then msgPend p (m.place / 2 ^ 16) s else laneDrop p (nodeSrc p m.node) i s
        | none => laneDrop p (nodeSrc p m.node) i s
      else addCmd p { node := m.node, item := m.place % 65536, index := i, value := v, safe := safe, resend := resend } s
    else notDelivered p [i] s

/-- The port and message of a release that leaves on the priority bus. -/
def releaseMsg (s : State) (r : Released) : Option (Nat × Nat) :=
  match mapOut s (entryCfg s r.entry).point with
  | some m => if pers s m.port = 1 then some (m.port, m.place / 2 ^ 16) else none
  | none => none

/-- The message's lane check (R170): the range of its identifier has the lane of its records. -/
def msgLaneOk (s : State) (p m : Nat) : Bool :=
  match rangeOf s p (msgOf s p m).ide (msgOf s p m).id with
  | some r => (msgPoints s p m).all (fun i => (s.point i).lane = r.lane)
  | none => false

/-- Arms the shadow buffer bound to the slot of message `m` with its frame; answers whether it was armed (R220, R386). -/
def armMessage (p m : Nat) (s : State) : State × Bool :=
  match (List.range 4).find? (fun k => decide (shadowSlot s p k = (msgOf s p m).slot)) with
  | some k =>
    if (pstate s p = 3 ∨ pstate s p = 4) ∧ msgLaneOk s p m then shadowArm p k (composeMsg s p m) (some m) s else (s, false)
  | none => (s, false)

/-- What the parapet has released for segment items goes to the ports (R169, R213). Values are stored first, so that a
shadow frame carries all of them; a message whose shadow buffer cannot be armed goes through its slot. -/
def routeReleases (s : State) : State :=
  let rs := s.prpt.releases.filter (fun r => (mapOut s (entryCfg s r.entry).point).any (fun m => m.entry = some r.entry))
  let s := { s with prpt := { s.prpt with releases := [] } }
  let s := rs.foldl (fun s r => match releaseMsg s r with
    | some (p, _) =>
      s.setBus p { s.bus p with values := tabInsert (entryCfg s r.entry).point r.value (s.bus p).values }
    | none => s) s
  let wanted := (rs.filter (fun r => r.shadow)).filterMap (releaseMsg s)
  let armed := wanted.foldl (fun (acc : State × List (Nat × Nat)) pm =>
    if acc.2.contains pm then acc
    else
      let r := armMessage pm.1 pm.2 acc.1
      if r.2 then (r.1, acc.2 ++ [pm]) else (r.1, acc.2)) (s, [])
  rs.foldl (fun s r =>
    match releaseMsg s r with
    | some pm => if armed.2.contains pm then s else routeCommand (entryCfg s r.entry).point r.value r.safe false s
    | none => routeCommand (entryCfg s r.entry).point r.value r.safe false s) armed.1

/-- The worst-case duration of a command message of `n` bytes in ns (R382). -/
def fpmNs (s : State) (p n : Nat) : Nat :=
  if pers s p = 0 then (max 64 (14 + 40 + 8 + n + 4) + 20) * 800
  else
    let rate := match s.get (Reg.LINK_LCFG_SRATE.inst p) with
      | 0 => 9600
      | 1 => 19200
      | 2 => 38400
      | 3 => 57600
      | 4 => 115200
      | 5 => 250000
      | 6 => 500000
      | 7 => 1000000
      | 8 => 2000000
      | _ => 3000000
    (n + 6) * 10 * second / rate

/-- The bytes of a CMD message. -/
def cmdBytes (s : State) (p : Nat) (m : CmdMsg) : List Nat :=
  fpmBytes 2 m.node m.seq (s.get (Reg.SEG_BSEQ_LAST.inst p)) m.items.length 0
    (m.items.flatMap (fun c => itemBytes c.item (b2n c.safe + 2 * b2n c.resend) c.value))

/-- A command may leave for a node: the node is open, and on T1L the link is up (R154, R160). -/
def cmdMayGo (s : State) (p node : Nat) : Bool :=
  nodeOpen s p node && !osdpPort s p && (pers s p ≠ 0 || s.bit (Reg.LINK_STAT_LINKUP.inst p))

/-- The items of a frame to a node wait for the lease: the frame counts once (R382). -/
def holdItems (p : Nat) (items : List CmdItem) (s : State) : State :=
  let s := if items.any (fun c => c.held) then s else fitHeld s
  let x := s.segPort p
  s.setSegPort p { x with cmds := x.cmds.map (fun c => if items.contains c then { c with held := true } else c) }

/-- The items of a message that is sent again: after entry to SAFE they carry the safe values (R384). -/
def itemsAgain (s : State) (m : CmdMsg) : List CmdItem :=
  if s.prpt.out = .safe then m.items.map (fun c => { c with value := outputValue s c.index, safe := true }) else m.items

/-- COMMAND_SEND (R169, R170, R382): the node's pending items leave in one message of at most 100 or 20 items. Answers
whether a message was sent. -/
def commandSend (p node : Nat) (s : State) : State × Bool :=
  let x := s.segPort p
  let lane := nodeLane s p node
  let all := x.cmds.filter (fun c => c.node = node)
  if pers s p = 1 ∨ all = [] ∨ !cmdMayGo s p node then (s, false)
  else
    let bad := all.filter (fun c => (s.point c.index).lane ≠ lane)
    let good := all.filter (fun c => (s.point c.index).lane = lane)
    let s := bad.foldl (fun s c => laneDrop p (nodeSrc p node) c.index s) s
    let s := s.setSegPort p { x with cmds := x.cmds.filter (fun c => !(c.node = node && (s.point c.index).lane ≠ lane)) }
    let items := good.take (if pers s p = 0 then 100 else 20)
    if items = [] then (s, false)
    else if !frameFits s (fpmNs s p (8 + 12 * items.length)) then (holdItems p items s, false)
    else
      let x := s.segPort p
      let m : CmdMsg := { node := node, seq := x.txSeq, items := items, sentAt := s.now }
      let s := s.setSegPort p { x with cmds := x.cmds.filter (fun c => !items.contains c), sent := x.sent ++ [m],
                                       txSeq := (x.txSeq + 1) % 65536 }
      (sendFpm p node (cmdBytes s p m) s, true)

/-- A CMD message is sent again, or its items are not delivered after the third attempt (R169). An attempt whose frame may not
leave passes without one (R154, R160). -/
def cmdAgain (p : Nat) (m : CmdMsg) (s : State) : State :=
  let x := s.segPort p
  let others := x.sent.filter (fun n => decide (n ≠ m))
  if m.attempts < 3 then
    if !cmdMayGo s p m.node then s.setSegPort p { x with sent := others ++ [{ m with attempts := m.attempts + 1, sentAt := s.now }] }
    else if frameFits s (fpmNs s p (8 + 12 * m.items.length)) then
      let m' := { m with attempts := m.attempts + 1, sentAt := s.now, items := itemsAgain s m }
      let s := (s.setSegPort p { x with sent := others ++ [m'] }).countSat (Reg.LINK_RETRY_COUNT.inst p) 1
      sendFpm p m.node (cmdBytes s p m') s
    else if m.held then s
    else (fitHeld s).setSegPort p { x with sent := others ++ [{ m with held := true }] }
  else notDelivered p (m.items.map (fun c => c.index)) (s.setSegPort p { x with sent := others })

/-- The instant at which the ACK timeout of the personality has passed for a message. -/
def ackDeadline (s : State) (p : Nat) (m : CmdMsg) : Nat :=
  m.sentAt + (if pers s p = 0 then s.get (Reg.LINK_LCFG_CMDTO.inst p) else s.get (Reg.LINK_LCFG_RESPTO.inst p)) * msec

/-- COMMAND_ACK_TIMEOUT (R169): the ACK timeout of the personality has passed. On S485 the message waits for its node's next turn,
unless this was its third attempt (R168). -/
def ackTimeout (p seq : Nat) (s : State) : State :=
  match (s.segPort p).sent.find? (fun m => m.seq = seq) with
  | none => s
  | some m =>
    let s := s.reach (ackDeadline s p m)
    if pers s p = 2 ∧ m.attempts < 3 then s else cmdAgain p m s

/-! ### The S485 master (R168) -/

/-- The node to visit next among the expected ones. -/
def nextVisit (s : State) (p : Nat) : Option Nat :=
  let js := maskBits (nexp s p)
  match js.find? (fun j => decide ((s.segPort p).pollNext ≤ j)) with
  | some j => some j
  | none => js.head?

/-- A POLL message. -/
def sendPoll (p node : Nat) (s : State) : State :=
  let x := s.segPort p
  sendFpm p node (fpmBytes 4 node x.txSeq (s.get (Reg.SEG_BSEQ_LAST.inst p)) 0 0 [])
    (s.setSegPort p { x with txSeq := (x.txSeq + 1) % 65536 })

/-- The turn of node `j`: a CMD message whose ACK is overdue goes out again, or the node's pending commands, or a POLL. -/
def s485Turn (p j : Nat) (s : State) : State :=
  let poll := fun (s : State) =>
    let r := commandSend p j s
    if r.2 then r.1 else sendPoll p j r.1
  match (s.segPort p).sent.find? (fun m => decide (m.node = j ∧ ackDeadline s p m ≤ s.now)) with
  | none => poll s
  | some m =>
    if 3 ≤ m.attempts then poll (cmdAgain p m s)
    else if !cmdMayGo s p j || !frameFits s (fpmNs s p (8 + 12 * m.items.length)) then sendPoll p j (cmdAgain p m s)
    else cmdAgain p m s

/-- S485_POLL (R168): the next expected node is visited with CMD or POLL. -/
def s485Poll (p : Nat) (s : State) : State :=
  if pers s p ≠ 2 ∨ s.get (Reg.LINK_LCFG_FRAMING.inst p) ≠ 0 ∨ !(pstate s p = 3 ∨ pstate s p = 4) then s
  else match (s.segPort p).visit, nextVisit s p with
    | none, some j =>
      let x := s.segPort p
      let s := s.setSegPort p { x with pollNext := (j + 1) % 64, polled := maskSet x.polled j,
                                       visit := some { node := j, sentAt := s.now } }
      s485Turn p j s
    | _, _ => s

/-- COMMAND_SEND on a port: on S485 the message leaves at the node's turn of the polling master, never beside it (R168). -/
def commandTurn (p node : Nat) (s : State) : State :=
  if pers s p ≠ 2 then (commandSend p node s).1
  else if nextVisit s p = some node ∧ (s.segPort p).cmds.any (fun c => c.node = node) ∧ cmdMayGo s p node then s485Poll p s
  else s

/-- S485_RESPONSE_TIMEOUT (R168, R169): no answer within RESPTO, or a corrupt one. -/
def s485Timeout (p : Nat) (corrupt : Bool) (s : State) : State :=
  match (s.segPort p).visit with
  | none => s
  | some v =>
    let s := if corrupt then s.countSat (Reg.LINK_CRCERR_COUNT.inst p) 1
      else s.reach (v.sentAt + s.get (Reg.LINK_LCFG_RESPTO.inst p) * msec)
    let s := s.countSat (Reg.LINK_TIMEOUT_COUNT.inst p) 1
    let x := s.segPort p
    match x.sent.find? (fun m => decide (m.node = v.node ∧ m.sentAt = v.sentAt)) with
    | some m =>
      let again := m.attempts < 3
      cmdAgain p m (s.setSegPort p { x with visit := if again then some { v with attempts := v.attempts + 1, sentAt := s.now }
                                                     else none })
    | none =>
      if v.attempts < 2 then
        sendPoll p v.node (s.setSegPort p { x with visit := some { v with attempts := v.attempts + 1, sentAt := s.now } })
      else s.setSegPort p { x with visit := none }

/-! ### The commands -/

/-- FPM_ECHO_RECEIVE (R160): an ECHO message from `node` at address `source`, UDP port `udp`. -/
def execFpmEchoReceive (port : Fin 32) (crcOk : Bool) (source : BitVec 128) (udp : BitVec 16) (node : Fin 64) (bseq : BitVec 16) (s : State) :
    Host.Outcome State Fault Refusal :=
  done s (fpmReceive port.val crcOk source.toNat udp.toNat node.val bseq.toNat id s)

/-- FPM_DATA_RECEIVE (R165). -/
def execFpmDataReceive (port : Fin 32) (crcOk : Bool) (source : BitVec 128) (udp : BitVec 16) (node : Fin 64) (bseq : BitVec 16)
    (items : List FpmItem) (s : State) : Host.Outcome State Fault Refusal :=
  done s (fpmReceive port.val crcOk source.toNat udp.toNat node.val bseq.toNat (dataItems port.val node.val items) s)

/-- FPM_ACK_RECEIVE (R169): the acknowledged SEQ, and the items with their REJECT bits. -/
def execFpmAckReceive (port : Fin 32) (crcOk : Bool) (source : BitVec 128) (udp : BitVec 16) (node : Fin 64) (bseq seq : BitVec 16)
    (items : List (BitVec 16 × Bool)) (s : State) : Host.Outcome State Fault Refusal :=
  done s (fpmReceive port.val crcOk source.toNat udp.toNat node.val bseq.toNat
    (ackItems port.val node.val seq.toNat (items.map (fun a => (a.1.toNat, a.2)))) s)

/-- COMMAND_SEND (R169). -/
def execCommandSend (port : Fin 32) (node : Fin 64) (s : State) : Host.Outcome State Fault Refusal :=
  done s (commandTurn port.val node.val s)

/-- COMMAND_ACK_TIMEOUT (R169). -/
def execCommandAckTimeout (port : Fin 32) (seq : BitVec 16) (s : State) : Host.Outcome State Fault Refusal :=
  done s (ackTimeout port.val seq.toNat s)

/-- S485_POLL (R168). -/
def execS485Poll (port : Fin 32) (s : State) : Host.Outcome State Fault Refusal := done s (s485Poll port.val s)

/-- S485_RESPONSE_TIMEOUT (R168). -/
def execS485ResponseTimeout (port : Fin 32) (corrupt : Bool) (s : State) : Host.Outcome State Fault Refusal :=
  done s (s485Timeout port.val corrupt s)

end Sys2Proof.Machine
end

