-- ==== Sys2Proof/Machine/Pbus.lean ====
section
/-! DEFINITION. The commands of the priority bus (spec/05_priority_bus.md, R197 to R243). -/

namespace Sys2Proof.Machine

/-! ### The receive queue (R221) -/

/-- Shows whether the receive queue is full. -/
def showRxqFull (p : Nat) (s : State) : State :=
  s.setBit (Reg.PBUS_STAT_RXQFULL.inst p)
    (decide ((s.get (Reg.PBUS_RXQPUT_PUT.inst p) + 512 - s.get (Reg.PBUS_RXQGET_GET.inst p)) % 512 = 256))

/-- RXQ_ENTRY_WRITE (R221): the frame enters the receive queue, a wake event (R241), or is lost to a full queue, no base, or an IOMMU fault. -/
def rxqWrite (p lane : Nat) (f : CanFrame) (sofUs : Nat) (mmuFault : Bool) (s : State) : State :=
  let base := s.get (Reg.PBUS_RXQBASELO_ADDR.inst p) * 64 + 2 ^ 32 * s.get (Reg.PBUS_RXQBASEHI_ADDR.inst p)
  let put := s.get (Reg.PBUS_RXQPUT_PUT.inst p)
  if base = 0 ∨ mmuFault ∨ s.bit (Reg.PBUS_STAT_RXQFULL.inst p) then
    (s.countSat (Reg.PBUS_RXQOVF_COUNT.inst p) 1).raise (Reg.PBUS_FAULT_RXQOVF.inst p)
  else
    let b := s.bus p
    let fid := f.id.toNat + 2 ^ 29 * b2n f.ide + 2 ^ 30 * b2n f.fdf + 2 ^ 31 * b2n f.brs
    let bytes := leBytes 4 fid ++ [f.dlc.val + 16 * b2n f.esi, lane] ++ leBytes 2 b.eseq ++ leBytes 8 sofUs ++
      (List.range 64).map (frameByte f)
    let s := (s.putBytes 0 (base + 80 * (put % 256)) bytes).setBus p { b with eseq := (b.eseq + 1) % 65536 }
    wakeEvent (showRxqFull p (s.set (Reg.PBUS_RXQPUT_PUT.inst p) (put + 1)))

/-- RXQ_GET_WRITE (R221): a write that would pass PUT is ignored. -/
def rxqGet (p v : Nat) (s : State) : State :=
  let get := s.get (Reg.PBUS_RXQGET_GET.inst p)
  let held := (s.get (Reg.PBUS_RXQPUT_PUT.inst p) + 512 - get) % 512
  if (v + 512 - get) % 512 > held then s else showRxqFull p (s.set (Reg.PBUS_RXQGET_GET.inst p) v)

/-! ### Reception (R212) -/

/-- A discard counted in UNKNOWN (R212). -/
def busUnknown (p : Nat) (s : State) : State :=
  (s.countSat (Reg.PBUS_UNKNOWN_COUNT.inst p) 1).raise (Reg.PBUS_FAULT_UNKNOWN.inst p)

/-- A frame whose identifier lies in no range fails the lane check of the port (R212, R364, R366): the source is the port's, and the
target lane, which there is none of, a free value. -/
def busNoRange (p : Nat) (s : State) : State :=
  laneViolation 3 (mkSrc 1 (64 * p)) (Config.freeNat s.freeCtr) (0x120 + p) (busUnknown p s).drawn

/-- The direction-0 message that a frame matches, by identifier, format and DLC (R207, R212). -/
def matchMsg (s : State) (p : Nat) (f : CanFrame) : Option Nat :=
  (pcfg s p).msgs.findIdx? (fun m => !m.out && decide (m.id = f.id.toNat) && m.ide == f.ide && m.fdf == f.fdf &&
    decide (m.dlc = f.dlc.val))

/-- The flag of a frame's items (R210). -/
def frameFlag (m : MsgEntry) (f : CanFrame) : ValueFlag := if m.qoff = 0xFF then .valid else itemFlag (frameByte f m.qoff)

/-- A frame of message `m` is decoded into updates (R209, R210, R212 rule 3). -/
def decodeFrame (p mi : Nat) (lane : Nat) (f : CanFrame) (s : State) : State :=
  let m := msgOf s p mi
  if !(nexp s p).testBit m.node then busUnknown p s
  else if !nodeOpen s p m.node then s
  else
    let x := (itemsOf s p mi false).foldl (fun (acc : State × List Update) e =>
      let r := acc.1.point e.index
      match itemUpdate acc.1 p m.node lane e (itemValue r.typ e f) (frameFlag m f) with
      | none => (laneDrop p (nodeSrc p m.node) e.index acc.1, acc.2)
      | some u => (acc.1, acc.2 ++ [u])) (s, [])
    passUpdates p x.2 (wakeFor x.2 x.1)

/-- TT_FOREIGN_REFERENCE (R228): time-triggered transmission stops for eight basic cycles. -/
def foreignRef (p : Nat) (s : State) : State :=
  let s := (s.countSat (Reg.PBUS_FREFCNT_COUNT.inst p) 1).raise (Reg.PBUS_FAULT_FOREIGNREF.inst p)
  let b := s.bus p
  let s := s.setBus p { b with holdUntil := some (s.now + 8 * (pcfg s p).cyclen * usec), foreignSeen := b.foreignSeen || !s.bit (Reg.PBUS_STAT_INTEG.inst p) }
  s.raise (Reg.PBUS_STAT_FREF.inst p)

/-- The confirmation window of a port in ns: `CMDTO` of its sheet; the field reads 0 on a PBUS port (R212, R214). -/
def confirmNs (s : State) (p : Nat) : Nat := (portCfg s p).cmdto * msec

/-- Frames awaiting confirmation by this identifier are delivered (R214). -/
def confirmFrames (p : Nat) (f : CanFrame) (s : State) : State :=
  let b := s.bus p
  let hit := fun (c : Nat × Nat) =>
    decide ((msgOf s p c.1).confid = f.id.toNat ∧ s.now ≤ c.2 + confirmNs s p)
  let done' := b.confirms.filter hit
  if done' = [] then s
  else delivered (done'.flatMap (fun c => msgPoints s p c.1)) (s.setBus p { b with confirms := b.confirms.filter (fun c => !hit c) })

/-- PBUS_FRAME_RECEIVE (R197, R212, R216, R241). -/
def frameReceive (p : Nat) (f : CanFrame) (sofUs : Nat) (mmuFault : Bool) (s : State) : State :=
  let c := pcfg s p
  let id := f.id.toNat
  let monitoring := s.bit (Reg.PBUS_STAT_MON.inst p)
  if pers s p ≠ 1 ∨ s.get (Reg.PBUS_STAT_ECS.inst p) = 2 ∨ !(monitoring ∨ busLive s p) then s
  else
    let s := s.countWrap (Reg.PBUS_RXOK_COUNT.inst p) 1
    if monitoring then s
    else
      let s := recDown p s
      if f.rtr then s.countSat (Reg.PBUS_UNKNOWN_COUNT.inst p) 1
      else
        let s := confirmFrames p f s
        if reservedId c f.ide id then
          if c.echobase ≤ id ∧ id ≤ c.echobase + 63 then
            if f.dlc.val ≥ 3 ∧ (nexp s p).testBit (id - c.echobase) then
              nodeEcho p (id - c.echobase) (frameByte f 0 + 256 * frameByte f 1) s
            else s
          else if id = c.refid ∧ c.tten then foreignRef p s else s
        else match rangeOf s p f.ide id with
          | none => busNoRange p s
          | some r => match matchMsg s p f with
            | some mi =>
              let s := decodeFrame p mi r.lane f s
              if (msgOf s p mi).copy then rxqWrite p r.lane f sofUs mmuFault s else s
            | none => if r.rxq then rxqWrite p r.lane f sofUs mmuFault s else busUnknown p s

/-! ### Transmission (R219, R225, R230) -/

/-- The ceiling bucket now, in 10^-9 tokens (R230). -/
def busTokens (s : State) (p : Nat) : Nat :=
  let b := s.bus p
  let cap := s.get (Reg.PBUS_CEIL_TXBURST.inst p) * second
  match b.tokens with
  | none => cap
  | some t => min cap (t + (s.now - b.tokensAt) * s.get (Reg.PBUS_CEIL_TXCEIL.inst p))

/-- A pending frame waits for a token (R230, R374). -/
def ceilHold (p j : Nat) (s : State) : State :=
  if s.bit ((Reg.PBUS_TXSTAT_HELD.inst p).ix j) then s
  else
    let s := (s.raise ((Reg.PBUS_TXSTAT_HELD.inst p).ix j)).raise (Reg.PBUS_STAT_CEILHOLD.inst p)
    clipEvent 6 p 0 0 0 ((s.countSat (Reg.PBUS_CEILHELD_COUNT.inst p) 1).raise (Reg.PBUS_FAULT_CEIL.inst p))

/-- SOF of a frame; an FD frame carries ESI recessive while the controller is error passive (R197, R235). -/
def driveSof (p : Nat) (t : TxTarget) (f : CanFrame) (w : WinKind) (s : State) : State :=
  let f := { f with esi := f.fdf && decide (s.get (Reg.PBUS_STAT_ECS.inst p) = 1) }
  (s.setBus p { s.bus p with tx := some { target := t, frame := f, win := w, startedAt := s.now } }).emit (.canStart p f)

/-- A pending slot may start its frame: its node is open, it fits the lease and it has a token. The first obstacle holds it. -/
def offerSlot (p j : Nat) (f : CanFrame) (m : Option Nat) (w : WinKind) (s : State) : State × Bool :=
  let nodeOk := match m with | some k => nodeOpen s p (msgOf s p k).node | none => true
  if j = 63 then (driveSof p (.slot 63 none) f w (s.set ((Reg.PBUS_TXSTAT_STATE.inst p).ix 63) 2), true)
  else if !nodeOk then (s, false)
  else if !frameFits s (frameNs (pcfg s p) f) then (holdFrame p (match m with | some k => 1000 + k | none => j) s, false)
  else
    let t := busTokens s p
    if t < second then (ceilHold p j s, false)
    else
      let s := s.setBus p { s.bus p with tokens := some (t - second), tokensAt := s.now }
      let s := clearHeld p j (s.set ((Reg.PBUS_TXSTAT_STATE.inst p).ix j) 2)
      let s := match m with
        | some k => setSlotMsgs p j ((slotMsgs s p j).filter (· ≠ k)) s
        | none => s
      (driveSof p (.slot j m) f w s, true)

/-- The first of a list of slots that can start does. -/
def startFirst (p : Nat) (w : WinKind) : List Nat → State → State
  | [], s => s
  | j :: js, s =>
    match slotOffer s p j with
    | none => startFirst p w js s
    | some (f, m) =>
      let r := offerSlot p j f m w s
      if r.2 then r.1 else startFirst p w js r.1

/-- A slot placed before the others that lose arbitration against it. -/
def insertSlot (s : State) (p j : Nat) : List Nat → List Nat
  | [] => [j]
  | k :: ks =>
    let key := fun i => match slotOffer s p i with | some x => arbKey x.1 | none => 2 ^ 32
    if key j < key k ∨ (key j = key k ∧ j < k) then j :: k :: ks else k :: insertSlot s p j ks

/-- The pending slots from 0 to 62 in bus arbitration order (R219). -/
def pendingSlots (s : State) (p : Nat) (ok : Nat → Bool) : List Nat :=
  ((List.range 63).filter (fun j => txState s p j = 1 && ok j)).foldl (fun l j => insertSlot s p j l) []

/-- The first armed shadow buffer among some whose frame fits the lease; those before it that do not are held (R382). -/
def fittingShadow (p : Nat) (ok : Nat → Bool) (s : State) : State × Option Nat :=
  (List.range 4).foldl (fun (r : State × Option Nat) k =>
    if r.2.isSome || !(ok k && shadowReady r.1 p k) then r
    else match (shadowOf r.1 p k).frame with
      | some f => if frameFits r.1 (frameNs (pcfg r.1 p) f) then (r.1, some k) else (holdFrame p (64 + k) r.1, none)
      | none => r) (s, none)

/-- Starts the frame of a shadow buffer. -/
def startShadow (p k : Nat) (w : WinKind) (s : State) : State :=
  match (shadowOf s p k).frame with
  | some f => driveSof p (.shadow k) f w s
  | none => s

/-- The line may be used: idle, integrated, not in BUS-OFF, and the port runs, or sends the LEAVE beacon on its way to OOS. -/
def lineReady (s : State) (p : Nat) : Bool :=
  let st := pstate s p
  pers s p = 1 && (s.bus p).tx.isNone && !s.bit (Reg.PBUS_STAT_INTEG.inst p) && s.get (Reg.PBUS_STAT_ECS.inst p) ≠ 2 &&
    (st = 3 || st = 4 || (st = 5 && (s.bus p).beacon ≠ []))

/-- Cycle time in ns and cycle count now (R223, R224). -/
def cycleNow (s : State) (p : Nat) : Nat × Nat :=
  let c := pcfg s p
  let len := max 1 c.cyclen * 1000
  (taiNs s % len, taiNs s / len % 2 ^ c.ncycexp)

/-- The used column whose transmit allowance covers cycle time `t` ns (R225). -/
def columnAt (c : PbusCfg) (t : Nat) : Option Nat :=
  c.cols.findIdx? (fun w => decide (w.2 ≠ 0 ∧ w.1 * 1000 ≤ t ∧ t < (w.1 + min c.txen w.2) * 1000))

/-- The cell of a column in a basic cycle (R225). -/
def cellOf (c : PbusCfg) (cyc w : Nat) : Nat := tabGet 0 c.cells (32 * cyc + w)

/-- The number of the window now, by column over all basic cycles since the PTP epoch (R224). -/
def windowNow (s : State) (p : Nat) : Option Nat :=
  let c := pcfg s p
  match columnAt c (cycleNow s p).1 with
  | some w => some (taiNs s / (max 1 c.cyclen * 1000) * 32 + w)
  | none => none

/-- The time until the next window opens, 0 within the allowance of one that has not had its frame (R225, R229). -/
def nextOpening (s : State) (p : Nat) : Nat :=
  let c := pcfg s p
  let len := max 1 c.cyclen * 1000
  let t := (cycleNow s p).1
  if (windowNow s p).isSome ∧ windowNow s p ≠ (s.bus p).winUsed then 0
  else (c.cols.filter (fun w => w.2 ≠ 0)).foldl (fun m w => min m (if w.1 * 1000 = t then len else (w.1 * 1000 + len - t) % len)) len

/-- The reference message of a basic cycle (R223). -/
def refFrame (c : PbusCfg) (cyc : Nat) : CanFrame := mkFrame c.refid false false false 1 [cyc]

/-- The window now has had its frame, if one has been started: it takes no other (R225, R229). -/
def useWindow (p : Nat) (s : State) : State :=
  if (s.bus p).tx.isNone then s else s.setBus p { s.bus p with winUsed := windowNow s p }

/-- The reference message of the basic cycle that runs now has completed (R227, R240). -/
def refHeard (s : State) (p : Nat) : Bool :=
  let b := s.bus p
  b.refDone && !b.void && decide (s.now < b.cycleAt + max 1 (pcfg s p).cyclen * 1000)

/-- PBUS_TX_START in time-triggered operation (R225, R227, R240). A port on its way to OOS or OFF sends only its LEAVE beacon from a
slot (R157, R189). -/
def ttStart (p : Nat) (s : State) : State :=
  let c := pcfg s p
  let b := s.bus p
  if s.bit (Reg.PBUS_STAT_FREF.inst p) then s
  else if !b.refDone ∧ !b.void ∧ (cycleNow s p).1 < c.txen * 1000 then
    driveSof p .reference (refFrame c (cycleNow s p).2) .reference s
  else if !s.bit (Reg.PBUS_STAT_TTSYNC.inst p) ∨ !refHeard s p then s
  else
    let s := s.reach (s.now + nextOpening s p)
    let runs := decide (pstate s p ≠ 5) && portsMayRun s
    match columnAt c (cycleNow s p).1 with
    | none => s
    | some w =>
      let cell := cellOf c (cycleNow s p).2 w
      if !runs then (if cell = 64 + 63 ∧ txState s p 63 = 1 then useWindow p (startFirst p .excl [63] s) else s)
      else useWindow p <| if cell / 64 = 1 then
        let j := cell % 64
        match fittingShadow p (fun k => shadowSlot s p k = j) s with
        | (s, some k) => startShadow p k .excl s
        | (s, none) => if txState s p j = 1 then startFirst p .excl [j] s else s
      else if cell / 64 = 2 then
        match fittingShadow p (fun _ => true) s with
        | (s, some k) => startShadow p k .arb s
        | (s, none) => startFirst p .arb (pendingSlots s p (fun j => s.bit ((Reg.PBUS_SLOTCFG_ARB.inst p).ix j))) s
      else s

/-- PBUS_TX_START (R219): shadow buffers, the beacon, then slots in arbitration order. -/
def txStart (p : Nat) (s : State) : State :=
  if !lineReady s p then s
  else if (pcfg s p).tten then ttStart p s
  else if pstate s p = 5 ∨ !portsMayRun s then (if txState s p 63 = 1 then startFirst p .event [63] s else s)
  else match fittingShadow p (fun _ => true) s with
    | (s, some k) => startShadow p k .event s
    | (s, none) =>
      if txState s p 63 = 1 then startFirst p .event [63] s else startFirst p .event (pendingSlots s p (fun _ => true)) s

/-! ### Ends of transmissions (R218, R229, R233) -/

/-- The direction-1 message whose identifier a frame carries. -/
def messageOf (s : State) (p : Nat) (f : CanFrame) : Option Nat :=
  (pcfg s p).msgs.findIdx? (fun m => m.out && decide (m.id = f.id.toNat) && m.ide == f.ide)

/-- The items of a message whose frame has been sent: delivered, or awaiting their confirmation (R214). -/
def messageSent (p k : Nat) (s : State) : State :=
  if (msgOf s p k).ackmode then s.setBus p { s.bus p with confirms := (s.bus p).confirms ++ [(k, s.now)] }
  else delivered (msgPoints s p k) s

/-- The time in ns from SOF to the falling edge from FDF to res of an FD frame (R205). -/
def resEdge (c : PbusCfg) (f : CanFrame) : Nat :=
  stuffedLength (arbBits f ++ (if f.ide then [true] else [false, true])) false 0 * nominalBit c

/-- The frame on the line has passed its res bit: an error in the data phase, a form or acknowledgement error, or the time says so. -/
def pastRes (s : State) (p : Nat) (data : Bool) (kind : Nat) (t : Transmission) : Bool :=
  data || kind = 2 || kind = 3 || decide (t.startedAt + resEdge (pcfg s p) t.frame ≤ s.now)

/-- The transmitter's loop delay is measured at an FD frame that is sent (R205): no command gives it, a free value. -/
def measureDelay (p : Nat) (f : CanFrame) (s : State) : State :=
  if f.fdf then (s.set (Reg.PBUS_TDC_TDCV.inst p) (Config.freeNat s.freeCtr)).drawn else s

/-- The next beacon takes slot 63, or none does. -/
def nextBeacon (p : Nat) (s : State) : State :=
  let b := s.bus p
  if b.beaconNext = [] then s else slotPend p 63 (s.setBus p { b with beacon := b.beaconNext, beaconNext := [] })

/-- PBUS_TX_COMPLETE (R214, R218, R233, R240). -/
def txComplete (p : Nat) (s : State) : State :=
  match (s.bus p).tx with
  | none => s
  | some t =>
    let s := measureDelay p t.frame (tecDown p ((clearTx p s).countWrap (Reg.PBUS_TXOK_COUNT.inst p) 1))
    match t.target with
    | .slot j m =>
      if j = 63 then
        let rest := (s.bus p).beacon.tail
        let s := s.setBus p { s.bus p with beacon := rest }
        if rest = [] then nextBeacon p ((slotDone p 63 true false false s).countWrap (Reg.SEG_BTX_COUNT.inst p) 1)
        else slotPend p 63 s
      else
        let s := slotDone p j true t.late false s
        let s := if t.late then lateSettled p j s else s
        match m with
        | some k => unstage p k (slotGoesOn p j (messageSent p k s))
        | none => slotGoesOn p j (s.setBus p { s.bus p with frames := tabErase j (s.bus p).frames })
    | .shadow k =>
      let m := (shadowOf s p k).msg
      let s := shadowClear p k true t.late false s
      let s := if t.late then lateShadow p k s else s
      match m with
      | some m => messageSent p m s
      | none => s
    | .reference => (s.setBus p { s.bus p with refDone := true }).raise (Reg.PBUS_STAT_TTSYNC.inst p)

/-- Notes the kind of an error in its phase (R235). -/
def noteError (p : Nat) (data : Bool) (kind : Nat) (s : State) : State :=
  if data then s.set (Reg.PBUS_LEC_DLEC.inst p) kind else s.set (Reg.PBUS_LEC_NLEC.inst p) kind

/-- The exceptions of ISO 11898-1 under which an error leaves the transmit counter unchanged (R235): an acknowledgement error of an
error-passive transmitter that sees no dominant bit in its passive error flag, and a stuff error in arbitration in which a
recessive bit was sent and seen dominant; `exception` says that what happens on the line is so. Kinds as in `LEC`. -/
def errorExempt (s : State) (p : Nat) (data : Bool) (kind : Nat) (exception : Bool) : Bool :=
  exception && ((kind = 3 && s.get (Reg.PBUS_STAT_ECS.inst p) = 1) || (kind = 1 && !data))

/-- PBUS_TX_ERROR (R229, R235): the transmit counter rises by 8, but for the exceptions of the standard. -/
def txError (p : Nat) (data : Bool) (kind : Nat) (exception : Bool) (s : State) : State :=
  match (s.bus p).tx with
  | none => s
  | some t =>
    let exempt := errorExempt s p data kind exception
    let s := (noteError p data kind s).emit (.canError p)
    let s := if pastRes s p data kind t then measureDelay p t.frame s else s
    txFails p (if exempt then s else setErrors p (s.get (Reg.PBUS_ERRC_TEC.inst p) + 8) (recOf s p) s)

/-- PBUS_RECEIVE_ERROR (R235): the receive counter rises by 1, or by 8 where the port saw a dominant bit after its error
flag; in bus monitoring, and while the controller integrates, nothing is sent or counted (R239, R241). -/
def rxError (p : Nat) (data : Bool) (kind : Nat) (by8 : Bool) (s : State) : State :=
  if !busLive s p ∨ s.bit (Reg.PBUS_STAT_MON.inst p) ∨ s.bit (Reg.PBUS_STAT_INTEG.inst p) then s
  else
    let s := (noteError p data kind s).emit (.canError p)
    setErrors p (s.get (Reg.PBUS_ERRC_TEC.inst p)) (min 255 (recOf s p + if by8 then 8 else 1)) s

/-! ### Bus-off and integration (R236 to R239) -/

/-- PBUS_BUS_OFF (R236, R237): the transmit counter exceeds 255. -/
def busOff (p : Nat) (s : State) : State :=
  if s.get (Reg.PBUS_ERRC_TEC.inst p) ≤ 255 ∨ s.get (Reg.PBUS_STAT_ECS.inst p) = 2 then s
  else
    let s := txFails p s
    let s := s.set (Reg.PBUS_STAT_ECS.inst p) 2
    let s := (List.range 63).foldl (fun s j =>
      if txState s p j = 1 then notDelivered p ((slotMsgs s p j).flatMap (msgPoints s p)) s else s) s
    let s := (List.range 4).foldl (fun s k => notDelivered p (shadowPoints s p k) s) s
    let b := s.bus p
    let recent := s.now :: b.busoffs.filter (fun t => decide (s.now < t + 60 * second))
    let waiting := b.confirms.flatMap (fun c => msgPoints s p c.1)
    let s := notDelivered p waiting (s.setBus p { b with busoffs := recent, confirms := [] })
    let s := (s.raise (Reg.PBUS_FAULT_BUSOFF.inst p)).countSat (Reg.PBUS_BOCNT_COUNT.inst p) 1
    let s := if recent.length ≥ 3 then s.raise (Reg.PBUS_FAULT_BOLATCH.inst p) else s
    logEvent 0x0201 4 [p, s.get (Reg.PBUS_LEC_DLEC.inst p) * 16 + s.get (Reg.PBUS_LEC_NLEC.inst p), recent.length] s

/-- PBUS_BUSOFF_RECOVERY_START (R237): after a third entry within 60 s only the host's write starts it. -/
def recoveryStart (p : Nat) (host : Bool) (s : State) : State :=
  if s.get (Reg.PBUS_STAT_ECS.inst p) ≠ 2 ∨ ((s.bus p).busoffs.length ≥ 3 ∧ !host) then s
  else s.raise (Reg.PBUS_STAT_BOREC.inst p)

/-- PBUS_BUSOFF_RECOVERY_COMPLETE (R237). -/
def recoveryComplete (p : Nat) (s : State) : State :=
  if !s.bit (Reg.PBUS_STAT_BOREC.inst p) then s
  else
    let s := (s.set (Reg.PBUS_STAT_BOREC.inst p) 0).set (Reg.PBUS_STAT_ECS.inst p) 0
    let s := busIntegrate p (setErrors p 0 0 s)
    if pstate s p = 4 then enterJoining p s else s

/-- PBUS_INTEGRATION_COMPLETE (R155, R239). -/
def integrationComplete (p : Nat) (s : State) : State :=
  if !s.bit (Reg.PBUS_STAT_INTEG.inst p) then s
  else
    let s := s.set (Reg.PBUS_STAT_INTEG.inst p) 0
    let g := storedGrade s p
    if pstate s p = 2 ∧ 1 ≤ g ∧ g ≤ 4 then enterJoining p s else s

/-- PBUS_PROTOCOL_EXCEPTION (R198). -/
def protocolException (p : Nat) (s : State) : State :=
  if busLive s p ∨ (pers s p = 1 ∧ s.bit (Reg.PBUS_STAT_MON.inst p)) then
    busIntegrate p ((s.countSat (Reg.PBUS_PEXCNT_COUNT.inst p) 1).raise (Reg.PBUS_FAULT_PEX.inst p))
  else s

/-! ### Time-triggered operation (R223 to R228) -/

/-- TT_BASIC_CYCLE_START (R223, R224, R228): the next basic cycle begins, and its reference message is sent. -/
def cycleStart (p : Nat) (s : State) : State :=
  let c := pcfg s p
  if !c.tten ∨ pers s p ≠ 1 ∨ !(pstate s p = 3 ∨ pstate s p = 4) then s
  else
    let len := max 1 c.cyclen * 1000
    let t := taiNs s
    let t := if (s.bus p).cycleAt = s.now then t + 1 else t
    let s := s.reach (instantOfTai s ((t + len - 1) / len * len))
    let s := s.setBus p { s.bus p with cycleAt := s.now, refDone := false, void := false }
    if lineReady s p ∧ !s.bit (Reg.PBUS_STAT_FREF.inst p) then
      driveSof p .reference (refFrame c (cycleNow s p).2) .reference s
    else s

/-- TT_VOID_CYCLE (R227). -/
def voidCycle (p : Nat) (s : State) : State :=
  let b := s.bus p
  let c := pcfg s p
  if !c.tten ∨ b.refDone ∨ b.void ∨ s.bit (Reg.PBUS_STAT_FREF.inst p) ∨ pers s p ≠ 1 then s
  else
    let cyc := (cycleNow s p).2
    let s := s.reach (b.cycleAt + c.txen * usec)
    let tx := match b.tx with
      | some t => if t.target = .reference then none else some t
      | none => none
    let s := s.setBus p { s.bus p with void := true, tx := tx }
    let s := (s.countSat (Reg.PBUS_REFFAIL_COUNT.inst p) 1).raise (Reg.PBUS_FAULT_REFFAIL.inst p)
    (List.range c.cols.length).foldl (fun s w =>
      let cell := cellOf c cyc w
      if (c.cols.getD w (0, 0)).2 ≠ 0 ∧ cell / 64 = 1 ∧ txState s p (cell % 64) = 1 then s.raise ((Reg.PBUS_TXSTAT_MISSED.inst p).ix (cell % 64)) else s) s

/-- TT_WINDOW_MISSED (R218): the allowance of column `w` passes without the frame of its slot starting. -/
def windowMissed (p w : Nat) (s : State) : State :=
  let c := pcfg s p
  match c.cols[w]? with
  | none => s
  | some col =>
    if !c.tten ∨ col.2 = 0 then s
    else
      let len := max 1 c.cyclen * 1000
      let close := (col.1 + c.txen) * 1000
      let s := s.reach (s.now + (close + len - (cycleNow s p).1) % len)
      let cell := cellOf c (cycleNow s p).2 w
      let j := cell % 64
      if cell / 64 = 1 ∧ txState s p j = 1 then
        ((s.raise ((Reg.PBUS_TXSTAT_MISSED.inst p).ix j)).countSat (Reg.PBUS_MISSED_COUNT.inst p) 1).raise
          (Reg.PBUS_FAULT_MISSED.inst p)
      else s

/-- TT_FOREIGN_HOLD_END (R228, R240): eight basic cycles have passed without a foreign reference, which now counts as a reference
message received. -/
def holdEnd (p : Nat) (s : State) : State :=
  match (s.bus p).holdUntil with
  | none => s
  | some t =>
    let s := s.reach t
    let seen := (s.bus p).foreignSeen
    let s := (s.setBus p { s.bus p with holdUntil := none, foreignSeen := false }).set (Reg.PBUS_STAT_FREF.inst p) 0
    if seen then s.raise (Reg.PBUS_STAT_TTSYNC.inst p) else s

/-- PBUS_CONFIRM_TIMEOUT (R214). -/
def confirmTimeout (p m : Nat) (s : State) : State :=
  let b := s.bus p
  match b.confirms.find? (fun c => c.1 = m) with
  | none => s
  | some c =>
    let s := s.reach (c.2 + confirmNs s p)
    notDelivered p (msgPoints s p m) (s.setBus p { s.bus p with confirms := b.confirms.filter (fun d => decide (d ≠ c)) })

/-! ### Submissions (R220, R243) -/

/-- The identifier lies in a range whose lane is in this lane set (R170, R243, R364). -/
def idLaneOk (s : State) (p : Nat) (lanes : BitVec 256) (f : CanFrame) : Bool :=
  match rangeOf s p f.ide f.id.toNat with
  | some r => lanes.getLsbD r.lane
  | none => false

/-- PBUS_SHADOW_ARM (R220): by the parapet or an emergency-class source; the frame passes the lane check of R170. The port sends
no remote frame (R197), and with `FDEN` 0 no FD frame (R199). -/
def privilegedArm (p k src : Nat) (f : CanFrame) (s : State) : State :=
  if srcClass src ≠ 0 ∨ f.rtr ∨ (f.fdf ∧ !(pcfg s p).fden) then s
  else if !idLaneOk s p (writeSet s src none) f then laneDrop p src 0 s
  else (shadowArm p k f (messageOf s p f) s).1

/-- The frame in the firmware transmit set of requester `r` (R242). -/
def ftxFrame (s : State) (p r : Nat) : CanFrame :=
  let w := s.get ((Reg.PBUS_FTXID.inst p).by r)
  let fdf := w.testBit 30 && (pcfg s p).fden
  let dlc := s.get ((Reg.PBUS_FTXCTL_DLC.inst p).by r)
  let words := (List.range 16).map (fun i => s.get (((Reg.PBUS_FTXDATA.inst p).by r).ix i))
  mkFrame (w % 2 ^ 29) (w.testBit 29) fdf (fdf && w.testBit 31) dlc ((bytesOfWords words).take (dlcLen fdf dlc))

/-- A firmware frame whose identifier lies in no range of the context's lanes fails the lane check of R364; outside every range the
target lane is a free value. -/
def ftxDenied (p r : Nat) (f : CanFrame) (s : State) : State :=
  match rangeOf s p f.ide f.id.toNat with
  | some x => laneViolation 3 (requesterSrc r) x.lane (0x120 + p) s
  | none => laneViolation 3 (requesterSrc r) (Config.freeNat s.freeCtr) (0x120 + p) s.drawn

/-- A write of FTXGO by requester `r` (R243). -/
def ftxGo (p r : Nat) (s : State) : State :=
  let sel := s.get ((Reg.PBUS_FTXSEL_SEL.inst p).by r)
  let f := ftxFrame s p r
  let res := fun n (s : State) => s.set ((Reg.PBUS_FTXRES_RESULT.inst p).by r) n
  let shadow := 64 ≤ sel ∧ sel ≤ 67
  if !(sel ≤ 62 ∨ shadow) then res 5 s
  else if sel ≤ 62 ∧ !s.bit ((Reg.PBUS_SLOTCFG_OWNER.inst p).ix sel) then res 1 s
  else if sel ≤ 62 ∧ (txState s p sel = 1 ∨ txState s p sel = 2) then res 2 s
  else if reservedId (pcfg s p) f.ide f.id.toNat then res 4 s
  else if !idLaneOk s p (requesterLanes s r) f then res 3 (ftxDenied p r f s)
  else if shadow then
    let a := shadowArm p (sel - 64) f none s
    if a.2 then res 0 a.1 else res 2 s
  else
    let b := s.bus p
    res 0 (slotPend p sel (s.setBus p { b with frames := tabInsert sel f b.frames }))

/-! ### The commands -/

/-- PBUS_FRAME_RECEIVE (R212): the frame, the TAI of its SOF in µs, and whether a queue entry write would fault. -/
def execPbusFrameReceive (port : Fin 32) (frame : CanFrame) (sof : BitVec 64) (mmuFault : Bool) (s : State) :
    Host.Outcome State Fault Refusal :=
  done s (frameReceive port.val frame sof.toNat mmuFault s)
/-- PBUS_PROTOCOL_EXCEPTION (R198). -/
def execPbusProtocolException (port : Fin 32) (s : State) : Host.Outcome State Fault Refusal :=
  done s (protocolException port.val s)
/-- PBUS_TX_START (R219). -/
def execPbusTxStart (port : Fin 32) (s : State) : Host.Outcome State Fault Refusal := done s (txStart port.val s)
/-- PBUS_TX_COMPLETE (R218). -/
def execPbusTxComplete (port : Fin 32) (s : State) : Host.Outcome State Fault Refusal := done s (settleOff port.val (txComplete port.val s))
/-- PBUS_ARBITRATION_LOST (R229). -/
def execPbusArbitrationLost (port : Fin 32) (s : State) : Host.Outcome State Fault Refusal := done s (settleOff port.val (txFails port.val s))
/-- PBUS_TX_ERROR (R229): an error of kind 1 to 6 in the data or the nominal phase; `exception` as in `errorExempt`. -/
def execPbusTxError (port : Fin 32) (dataPhase : Bool) (kind : Fin 6) (exception : Bool) (s : State) :
    Host.Outcome State Fault Refusal :=
  done s (settleOff port.val (txError port.val dataPhase (kind.val + 1) exception s))
/-- PBUS_SLOT_CANCEL (R232): TXCANHI and TXCANLO as one mask. -/
def execPbusSlotCancel (port : Fin 32) (mask : BitVec 64) (s : State) : Host.Outcome State Fault Refusal :=
  done s (unlessBusy (0x100 + port.val) (fun s => (maskBits mask.toNat).foldl (fun s j => slotCancel port.val j s) s) s)
/-- PBUS_SHADOW_CANCEL (R231). -/
def execPbusShadowCancel (port : Fin 32) (mask : BitVec 4) (s : State) : Host.Outcome State Fault Refusal :=
  done s (unlessBusy (0x100 + port.val) (fun s => (maskBits mask.toNat).foldl (fun s k => shadowCancel port.val k s) s) s)
/-- PBUS_SHADOW_ARM (R220). -/
def execPbusShadowArm (port : Fin 32) (buffer : Fin 4) (source : BitVec 16) (frame : CanFrame) (s : State) :
    Host.Outcome State Fault Refusal :=
  done s (privilegedArm port.val buffer.val source.toNat frame s)
/-- The requester copy of firmware context 4 or 5. -/
def fwCopy (context : Fin 2) : Fin 16 := ⟨14 + context.val, by omega⟩
/-- PBUS_FIRMWARE_SUBMIT (R243) by firmware context 4 or 5 (requester copies 14 and 15). -/
def execPbusFirmwareSubmit (port : Fin 32) (context : Fin 2) (s : State) : Host.Outcome State Fault Refusal :=
  done s (askPage (fwCopy context) (0x120 + port.val) (fun s => ftxGo port.val (fwCopy context).val s) s)
/-- RXQ_GET_WRITE (R221, R243) by firmware context 4 or 5. -/
def execRxqGetWrite (port : Fin 32) (context : Fin 2) (get : BitVec 9) (s : State) : Host.Outcome State Fault Refusal :=
  done s (askPage (fwCopy context) (0x120 + port.val) (fun s => rxqGet port.val get.toNat s) s)
/-- PBUS_BUS_OFF (R236). -/
def execPbusBusOff (port : Fin 32) (s : State) : Host.Outcome State Fault Refusal := done s (busOff port.val s)
/-- PBUS_BUSOFF_RECOVERY_START (R237): a write of BOREC by a requester copy, of which 0 to 9 are the host's. -/
def execPbusBusoffRecoveryStart (port : Fin 32) (requester : Fin 16) (s : State) : Host.Outcome State Fault Refusal :=
  done s (askPage requester (0x120 + port.val) (fun s => recoveryStart port.val (viaBridge (.req requester)) s) s)
/-- PBUS_BUSOFF_RECOVERY_COMPLETE (R237). -/
def execPbusBusoffRecoveryComplete (port : Fin 32) (s : State) : Host.Outcome State Fault Refusal :=
  done s (recoveryComplete port.val s)
/-- PBUS_INTEGRATION_COMPLETE (R239). -/
def execPbusIntegrationComplete (port : Fin 32) (s : State) : Host.Outcome State Fault Refusal :=
  done s (integrationComplete port.val s)
/-- TT_BASIC_CYCLE_START (R224). -/
def execTtBasicCycleStart (port : Fin 32) (s : State) : Host.Outcome State Fault Refusal := done s (cycleStart port.val s)
/-- TT_VOID_CYCLE (R227). -/
def execTtVoidCycle (port : Fin 32) (s : State) : Host.Outcome State Fault Refusal := done s (voidCycle port.val s)
/-- TT_WINDOW_MISSED (R218) of a column. -/
def execTtWindowMissed (port : Fin 32) (column : Fin 32) (s : State) : Host.Outcome State Fault Refusal :=
  done s (windowMissed port.val column.val s)
/-- TT_FOREIGN_HOLD_END (R228). -/
def execTtForeignHoldEnd (port : Fin 32) (s : State) : Host.Outcome State Fault Refusal := done s (holdEnd port.val s)
/-- PBUS_CONFIRM_TIMEOUT (R214) of a message. -/
def execPbusConfirmTimeout (port : Fin 32) (message : BitVec 10) (s : State) : Host.Outcome State Fault Refusal :=
  done s (confirmTimeout port.val message.toNat s)
/-- PBUS_RECEIVE_ERROR (R235): an error of kind 1 to 6, which raises the counter by 1 or 8. -/
def execPbusReceiveError (port : Fin 32) (dataPhase : Bool) (kind : Fin 6) (by8 : Bool) (s : State) :
    Host.Outcome State Fault Refusal :=
  done s (rxError port.val dataPhase (kind.val + 1) by8 s)

end Sys2Proof.Machine
end

