-- ==== Sys2Proof/Machine/Loop.lean ====
section
/-! DEFINITION. The control engine (spec/06_control_loops.md, R244 to R283). -/

namespace Sys2Proof.Machine

/-- The run-time state of a group. -/
def State.group (s : State) (g : Nat) : GroupState := tabGet {} s.cle.groups g

/-- Stores the run-time state of a group. -/
def State.setGroup (s : State) (g : Nat) (x : GroupState) : State :=
  { s with cle := { s.cle with groups := tabPut {} g x s.cle.groups } }

/-- The lane of a loop slot (R244). -/
def loopLane (s : State) (n : Nat) : Nat := tabGet 0 (charter s).loopLanes n

/-- Shows RUNNING, ALIGN, HOLDN and OVRHOLD (R268, R281). -/
def showCle (s : State) : State :=
  let s := s.setBit Reg.CLE_STAT_RUNNING (cleRuns s)
  let s := s.setBit Reg.CLE_STAT_ALIGN (s.bit Reg.TBASE_STAT_LOCK)
  let s := s.set Reg.CLE_HOLDN_COUNT ((loopSlots s).countP (fun n => (s.loop n).emode = 3))
  s.setBit Reg.CLE_STAT_OVRHOLD ((loopSlots s).any (fun n => (s.loop n).latched))

/-! ### Coefficients and the loop law (R245, R252) -/

/-- The coefficients in effect. -/
def coefsOf (c : LoopCfg) (x : LoopState) : List Nat := if x.coefs = [] then c.coefs else x.coefs

/-- Coefficient `i` widened to binary64. -/
def coef (cs : List Nat) (i : Nat) : Nat := toF64 (f32 (match cs[i]? with | some v => v | none => 0))

/-- `x` is above zero. -/
def f64Pos (x : Nat) : Bool := fpLt (.fin false 0 0) (f64 x)

/-- Clamps into limits. -/
def f64Clamp (x lo hi : Nat) : Nat := if f64Lt x lo then lo else if f64Lt hi x then hi else x

/-- What the law computes from one gather. -/
structure Law where
  e : Nat
  w : Nat
  p : Nat
  d : Nat
  f : Nat
  v : Nat
  ki : Nat
  ht : Nat
  h : Nat
deriving DecidableEq, Repr

/-- The sum p + d + f + BIAS of the direct rule. -/
def directSum (cs : List Nat) (l : Law) : Nat := f64Add (f64Add (f64Add l.p l.d) l.f) (coef cs 7)

/-- The terms of R252 for coefficients `cs`. -/
def loopLaw (c : LoopCfg) (cs : List Nat) (x : LoopState) (g : Gather) : Law :=
  let h := f64Div (f64OfInt c.period) (f64OfInt 1000)
  let kp := coef cs 0
  let td := coef cs 2
  let nf := coef cs 3
  let ki := if f64Pos (coef cs 1) then f64Div (f64Mul kp h) (coef cs 1) else 0
  let tt := if f64Pos (coef cs 11) then coef cs 11 else h
  let den := f64Add td (f64Mul nf h)
  let ad := if f64Pos td then f64Div td den else 0
  let bd := if f64Pos td then f64Div (f64Mul (f64Mul kp td) nf) den else 0
  let e := f64Sub g.sp g.y
  let w := f64Sub (f64Mul (coef cs 5) g.sp) g.y
  let p := f64Mul kp (f64Sub (f64Mul (coef cs 4) g.sp) g.y)
  let d := f64Add (f64Mul ad x.dst) (f64Mul bd (f64Sub w x.wprev))
  let f := if c.ffen then f64Mul (coef cs 6) g.ff else 0
  let v := f64Add (f64Add (f64Add (f64Add p x.ist) d) f) (coef cs 7)
  { e := e, w := w, p := p, d := d, f := f, v := v, ki := ki, ht := f64Div h tt, h := h }

/-- The output u by the mode of the evaluation (R252, R257). -/
def loopOutput (cs : List Nat) (x : LoopState) (g : Gather) (l : Law) : Nat :=
  let lo := coef cs 8
  let hi := coef cs 9
  match g.action with
  | 0 =>
    let u := f64Clamp l.v lo hi
    let roc := coef cs 10
    if f64Pos roc then f64Clamp u (f64Sub x.aref (f64Mul roc l.h)) (f64Add x.aref (f64Mul roc l.h)) else u
  | 1 => f64Clamp (coef cs 13) lo hi
  | 2 => f64Clamp g.tv lo hi
  | _ => f64Clamp (coef cs 14) lo hi

/-- The state before the law runs: a bumpless coefficient change moves I by the old v minus the new v, each with D = 0 and the
WPREV that makes its own derivative step zero (R273), and an initialising sample starts with D = 0 and WPREV = w (R263). -/
def loopPrepare (c : LoopCfg) (cs : List Nat) (x : LoopState) (g : Gather) : LoopState :=
  let x := match g.oldCoefs with
    | some old =>
      let x0 := { x with dst := 0, wprev := (loopLaw c old x g).w }
      let x1 := { x with dst := 0, wprev := (loopLaw c cs x g).w }
      { x1 with ist := f64Add x1.ist (f64Sub (loopLaw c old x0 g).v (loopLaw c cs x1 g).v) }
    | none => x
  if x.init then { x with dst := 0, wprev := (loopLaw c cs x g).w } else x

/-- The value that an initialising sample takes (R263). -/
def initValue (cs : List Nat) (g : Gather) : Nat := if g.rUninit then coef cs 14 else g.r

/-- The end of an evaluation (R252): with tracking reference `a` and presented output `out`; `direct` asks for the direct
rule. -/
def loopFinish (cs : List Nat) (x : LoopState) (g : Gather) (l : Law) (a out : Nat) (direct : Bool) : LoopState :=
  let ist := if direct then f64Sub a (directSum cs l)
    else f64Add (f64Add x.ist (f64Mul l.ki l.e)) (f64Mul l.ht (f64Sub a l.v))
  { x with ist := ist, dst := l.d, wprev := l.w, aref := a, ylast := g.y, uout := out, sample := g.k % 2 ^ 32, ovrc := 0,
           init := false, gather := none, was := none, computed := true }

/-! ### Gathering (R249, R254 to R257, R259) -/

/-- One gathered record: value in binary64, quality and the record. -/
structure Sampled where
  val : Nat
  qual : Nat
  rec' : PointRec
deriving DecidableEq, Repr

/-- The record that a REF word names (R246, R249). -/
def refTarget (ref : Nat) : Option PointTarget :=
  match ref / 2 ^ 62 with
  | 1 => some (.idx (ref % 2 ^ 20))
  | 2 => some (.gpr (ref % 2 ^ 48))
  | _ => none

/-- Reads one input for loop `n`; a record outside its lanes reads BAD (R249, R255, R364, R366). -/
def readInput (n ref : Nat) (s : State) : State × Sampled :=
  let lane := loopLane s n
  match refTarget ref with
  | none => (s, { val := 0, qual := 3, rec' := {} })
  | some t => match resolve s t with
    | none => (s, { val := 0, qual := 3, rec' := {} })
    | some i =>
      let r := s.point i
      if lane = 0 ∨ r.lane = lane ∨ r.lane = 255 then (s, { val := toF64 (valueFp r.typ r.pv), qual := r.qual, rec' := r })
      else (laneViolation 5 (mkSrc 4 n) r.lane i ((s.countSat Reg.CLE_LANECNT_COUNT 1).raise Reg.CLE_FAULT_LANE), { val := 0, qual := 3, rec' := {} })

/-- An input is acceptable (R256): GOOD or UNDELIVERED, or UNCERTAIN with UNCOK. -/
def acceptable (c : LoopCfg) (q : Nat) : Bool := q = 1 || q = 5 || (q = 4 && c.uncok)

/-- The setpoint of a sample (R254, R256): its value and the last acceptable one kept; with none yet, a free value. -/
def gatherSp (c : LoopCfg) (cs : List Nat) (n : Nat) (x : LoopState) (s : State) : State × LoopState × Nat :=
  if c.refsp / 2 ^ 62 = 0 then (s, { x with spq := 1 }, coef cs 12)
  else
    let i := readInput n c.refsp s
    let x := { x with spq := i.2.qual }
    if acceptable c i.2.qual then (i.1, { x with lastSp := some i.2.val }, i.2.val)
    else match x.lastSp with
      | some v => (i.1, x, v)
      | none => (i.1.drawn, x, Config.freeNat s.freeCtr % 2 ^ 64)

/-- The feed-forward value of a sample (R254, R256). -/
def gatherFf (c : LoopCfg) (n : Nat) (x : LoopState) (s : State) : State × LoopState × Nat :=
  if !c.ffen ∨ c.refff / 2 ^ 62 = 0 then (s, x, 0)
  else
    let i := readInput n c.refff s
    if acceptable c i.2.qual then (i.1, { x with lastFf := some i.2.val }, i.2.val)
    else match x.lastFf with
      | some v => (i.1, x, v)
      | none => (i.1.drawn, x, Config.freeNat s.freeCtr % 2 ^ 64)

/-- Staged writes that are due at sample `k` take effect, coefficients first (R271, R272); a MODEREQ written in overrun HOLD
clears the latch (R277). Answers the state with the coefficients before a bumpless change. -/
def applyStaged (c : LoopCfg) (k : Nat) (x : LoopState) : LoopState × Option (List Nat) :=
  let cs := coefsOf c x
  let due := x.staged.filter (fun e => decide (e.1 < 15 ∧ e.2.2 ≤ k))
  let cs' := due.foldl (fun l e => l.set e.1 e.2.1) cs
  let bump := c.bumpcoef && [0, 2, 3, 4, 5, 6, 7].any (fun i => cs[i]? ≠ cs'[i]?)
  let rest := x.staged.filter (fun e => decide (!(e.1 < 15 ∧ e.2.2 ≤ k)))
  let x := { x with coefs := cs', staged := rest }
  let x := match tabFind 15 x.staged with
    | some (v, kk) =>
      if kk ≤ k then
        { x with modereq := v, staged := tabErase 15 x.staged, latched := x.latched && !x.clears, clears := false }
      else x
    | none => x
  (x, if bump then some cs else none)

/-- The effective mode and the evaluation by the first cause of R262 that holds: mode, HOLD reason, evaluation if any. -/
def decideMode (runs pvFail graceOut trackBad tracking : Bool) (c : LoopCfg) (x : LoopState) : Nat × Nat × Option Nat :=
  if x.modereq = 4 then (4, 0, none)
  else if !runs then (3, 3, none)
  else if x.latched then (3, 1, none)
  else if x.modereq = 3 then (3, 0, none)
  else if (pvFail && (c.infail = 0 || c.infail = 3 || (c.infail = 2 && graceOut))) || (tracking && trackBad) then (3, 2, none)
  else if pvFail && c.infail = 1 then (0, 0, some 3)
  else if tracking then (2, 0, some 2)
  else if x.modereq = 1 then (1, 0, some 1)
  else (0, 0, some 0)

/-- The output is overridden (R259). -/
def isOverridden (c : LoopCfg) (r : PointRec) : Bool :=
  r.forced || r.oos || (r.cmd && c.outcmd && !r.relinq && decide (r.actlvl + 1 < c.level))

/-- What the status word of a loop shows now: the state as at its last completed evaluation, or at a sample without one (R283). -/
def loopShown (x : LoopState) : LoopShown :=
  match x.was with
  | some w => w
  | none => { emode := x.emode, hrsn := x.hrsn, ovrd := x.ovrd, inf := x.inf, pvq := x.pvq, spq := x.spq }

/-- Sample `k` of loop `n` at `ms` (R249, R254 to R263, R271). In HOLD and OOS nothing is written: an output that waits is dropped, in a
group only where the engine has stopped, since the group goes on without this member (R262, R266). -/
def sampleLoop (n ms : Nat) (s : State) : State :=
  match loopCfg s n with
  | none => s
  | some c =>
    let k := (ms - c.phase) / c.period
    let st := applyStaged c k (s.loop n)
    let x := st.1
    let cs := coefsOf c x
    let pv := readInput n c.refpv s
    let s := pv.1
    let pvFail := !acceptable c pv.2.qual
    let used := if pvFail then x.graceUsed + 1 else 0
    let sp := gatherSp c cs n x s
    let ff := gatherFf c n sp.2.1 sp.1
    let x := ff.2.1
    let en := if c.reftrken / 2 ^ 62 = 0 then (ff.1, false)
      else
        let i := readInput n c.reftrken ff.1
        (i.1, acceptable c i.2.qual && i.2.rec'.pv ≠ 0)
    let tracking := x.modereq = 2 ∨ (en.2 ∧ x.modereq ≤ 1)
    let tv := if c.reftrkv / 2 ^ 62 = 0 then (en.1, ({ val := 0, qual := 3, rec' := {} } : Sampled)) else readInput n c.reftrkv en.1
    let s := tv.1
    let m := decideMode (cleRuns s) pvFail (decide (used > c.grace)) (!acceptable c tv.2.qual) tracking c x
    let r := s.point c.out
    let s := if pvFail ∧ !x.inf then (s.countSat Reg.CLE_INFCNT_COUNT 1).raise Reg.CLE_FAULT_INFAIL else s
    let returned := !pvFail && x.pvFailed
    let g : Gather := { k := k, tms := ms, y := if pvFail then x.ylast else pv.2.val, sp := sp.2.2, ff := ff.2.2, tv := tv.2.val,
                        r := toF64 (valueFp r.typ r.pv), rUninit := r.qual = 0, overridden := isOverridden c r,
                        action := match m.2.2 with | some a => a | none => 0, oldCoefs := st.2 }
    let entering := m.1 = 4 ∧ x.emode ≠ 4
    let was := if m.2.2.isSome then some (loopShown (s.loop n)) else none
    let x := { x with was := was, emode := m.1, hrsn := m.2.1, pvq := pv.2.qual, inf := pvFail, pvFailed := pvFail, graceUsed := used,
                      lastK := some k, ovrd := isOverridden c r, latchNew := false, init := x.init || returned || m.2.2.isNone,
                      gather := if m.2.2.isSome then some g else none, win := if m.2.2.isNone then false else x.win,
                      held := if m.2.2.isNone && (c.group.isNone || m.2.1 = 3) then none else x.held }
    let s := s.setLoop n x
    if entering ∧ c.reloos ∧ c.outcmd then
      submit { src := mkSrc 4 n, target := .idx c.out, kind := .relinquish c.level, path := .none } s
    else s

/-- Loop `n` has a sample instant at `ms` that it has not served (R248, R269). -/
def loopDue (s : State) (ms n : Nat) : Bool :=
  match loopCfg s n with
  | none => false
  | some c => decide (c.phase ≤ ms ∧ (ms - c.phase) % max 1 c.period = 0) && (match (s.loop n).lastK with
    | none => true
    | some k => decide (k < (ms - c.phase) / max 1 c.period))

/-- The next sample instant, in ms, of loop `n` at or after `ms`. -/
def nextSample (s : State) (ms n : Nat) : Nat :=
  match loopCfg s n with
  | none => ms
  | some c =>
    let per := max 1 c.period
    let k := if ms ≤ c.phase then 0 else (ms - c.phase + per - 1) / per
    let k := match (s.loop n).lastK with
      | none => k
      | some j => max k (j + 1)
    k * per + c.phase

/-- A group of which no member has gathered at the instant `ms` makes no selection there (R266, R267). -/
def clearSelection (due : List Nat) (s : State) : State :=
  (sheet s).groups.foldl (fun s e =>
    let slots := e.2.members.map (fun m => m.2)
    if slots.any (fun n => due.contains n) && slots.all (fun n => (s.loop n).gather.isNone) then
      s.setGroup e.1 { s.group e.1 with selv := false }
    else s) s

/-- LOOP_SAMPLE (R248, R249): at the next sample instant every loop that is due is sampled, in slot order. -/
def loopSample (s : State) : State :=
  let slots := loopSlots s
  if s.bit Reg.CLE_STAT_HALTED ∨ slots = [] then s
  else
    let from' := (taiNs s + msec - 1) / msec
    let ms := slots.foldl (fun m n => min m (nextSample s from' n)) (from' + 3600000)
    let s := s.reach (instantOfTai s (ms * msec))
    let due := slots.filter (loopDue s ms)
    showCle (clearSelection due (due.foldl (fun s n => sampleLoop n ms s) s))

/-! ### Evaluation (R252, R263 to R266) -/

/-- The slots of a group with their member positions, lowest position first. -/
def groupSlots (s : State) (g : Nat) : List (Nat × Nat) :=
  match tabFind g (sheet s).groups with
  | some c => (List.range 8).filterMap (fun m => (tabFind m c.members).map (fun n => (m, n)))
  | none => []

/-- The apply instant of a sample in ms (R250). -/
def applyInstant (c : LoopCfg) (g : Gather) : Nat := g.tms + c.period

/-- The compute deadline of a sample in ns of TAI (R250). -/
def deadlineNs (c : LoopCfg) (g : Gather) : Nat := applyInstant c g * msec - 50 * usec

/-- Counts an evaluation that has completed, with its slack (R281). -/
def countEval (c : LoopCfg) (g : Gather) (s : State) : State :=
  let slack := (deadlineNs c g - taiNs s) / 1000
  let least := match s.cle.slack with | some x => min x slack | none => slack
  let s := s.countWrap Reg.CLE_EVALS_COUNT 1
  ({ s with cle := { s.cle with slack := some least } }).set Reg.CLE_MINSLACK_US (min least (2 ^ 20 - 1))

/-- An evaluation of one loop outside a group (R252, R259, R263). -/
def evalLoop (n : Nat) (c : LoopCfg) (g : Gather) (s : State) : State :=
  let x := s.loop n
  let cs := coefsOf c x
  let init := x.init
  let x := loopPrepare c cs x g
  let l := loopLaw c cs x g
  let u := if init then initValue cs g else loopOutput cs x g l
  let a := if init then u else if g.overridden then g.r else u
  let y := loopFinish cs x g l a u (init || g.action ≠ 0)
  countEval c g (s.setLoop n { y with held := some (u, applyInstant c g), win := false })

/-- One member of a group as its evaluation stands: position, slot, configuration, coefficients, state, gather, law and own
output. -/
structure Member where
  pos : Nat
  slot : Nat
  cfg : LoopCfg
  cs : List Nat
  st : LoopState
  g : Gather
  law : Law
  u : Nat
  first : Bool
  failed : Bool
deriving DecidableEq, Repr

/-- The members of a group that have gathered this sample. -/
def groupMembers (s : State) (gi : Nat) : List Member :=
  (groupSlots s gi).filterMap (fun e =>
    match loopCfg s e.2, (s.loop e.2).gather with
    | some c, some g =>
      let x := s.loop e.2
      let cs := coefsOf c x
      let init := x.init
      let x := loopPrepare c cs x g
      let l := loopLaw c cs x g
      some { pos := e.1, slot := e.2, cfg := c, cs := cs, st := x, g := g, law := l,
             u := if init then initValue cs g else loopOutput cs x g l, first := init, failed := x.inf }
    | _, _ => none)

/-- The member whose output is selected: least, or greatest with INV; lower position on equal values (R265). -/
def selectMember (inv : Bool) (ms : List Member) : Option Member :=
  ms.foldl (fun b m => match b with
    | none => some m
    | some x => if (if inv then f64Lt x.u m.u else f64Lt m.u x.u) then some m else some x) none

/-- Member 0 in MANUAL or TRACK leads its group (R266). -/
def groupLead (ms : List Member) : Option Member := ms.find? (fun m => m.pos = 0 ∧ (m.g.action = 1 ∨ m.g.action = 2))

/-- A member takes part in the selection: in AUTO, its process value not failed (R265, R266). -/
def takesPart (m : Member) : Bool := m.g.action = 0 && !m.failed

/-- The tracking reference of a group's member: r where it initialises or is overridden, its own FSOUT while its process value
has failed under INFAIL 1, and else the group's output, if it presents one (R257, R259, R263, R265, R266). -/
def memberRef (lead : Bool) (out : Option Nat) (m : Member) : Nat :=
  if m.first then m.u
  else if m.g.overridden then m.g.r
  else if m.g.action = 3 ∧ !lead then m.u
  else match out with | some v => v | none => m.u

/-- One member's evaluation ends, with the group's output if it presents one; without one UOUT keeps its value. -/
def memberFinish (lead : Bool) (out win : Option Nat) (m : Member) (s : State) : State :=
  let present := match out with | some v => v | none => m.st.uout
  let y := loopFinish m.cs m.st m.g m.law (memberRef lead out m) present (m.first || lead || m.g.action ≠ 0)
  countEval m.cfg m.g (s.setLoop m.slot { y with win := decide (win = some m.pos) })

/-- The group's output goes to the buffer of member 0's slot, the source of the group (R265). -/
def holdGroup (gi v ms : Nat) (s : State) : State :=
  match tabFind 0 (groupSlots s gi) with
  | some n => s.setLoop n { s.loop n with held := some (v, ms) }
  | none => s

/-- The group's record after a selection: a winner other than the last one counts in SWITCHES (R266, R267). -/
def groupSelected (st : GroupState) (w : Member) : GroupState :=
  let changed := match st.winner with | some p => decide (p ≠ w.pos) | none => false
  { gout := some w.u, selv := true, winner := some w.pos,
    switches := if changed then (st.switches + 1) % 65536 else st.switches }

/-- An evaluation of a group (R265, R266): the selection, or member 0's output while it leads; it completes for every member
(R276). -/
def evalGroup (gi : Nat) (s : State) : State :=
  let ms := groupMembers s gi
  let inv := match tabFind gi (sheet s).groups with | some c => c.inv | none => false
  let st := s.group gi
  let lead := groupLead ms
  let sel := match lead with
    | some _ => none
    | none => selectMember inv (ms.filter takesPart)
  let src := match lead with | some m => some m | none => sel
  let s := ms.foldl (fun s m => memberFinish lead.isSome (src.map (fun w => w.u)) (sel.map (fun w => w.pos)) m s) s
  let s := (groupSlots s gi).foldl (fun s e => s.setLoop e.2 { s.loop e.2 with ovrc := 0 }) s
  let s := match src with | some w => holdGroup gi w.u (applyInstant w.cfg w.g) s | none => s
  s.setGroup gi (match lead, sel with
    | some m, _ => { st with gout := some m.u, selv := false }
    | none, some w => groupSelected st w
    | none, none => { st with selv := false })

/-- LOOP_EVALUATION_COMPLETE (R252, R265): the loop's evaluation, or that of its whole group, finishes by its deadline while the
engine runs (R278). -/
def evaluationComplete (n : Nat) (s : State) : State :=
  if !cleRuns s then s
  else match loopCfg s n with
    | none => s
    | some c => match (s.loop n).gather with
      | none => s
      | some g =>
        if taiNs s > deadlineNs c g then s
        else match c.group with
          | some (gi, _) => evalGroup gi s
          | none => evalLoop n c g s

/-- LOOP_OUTPUT_PRESENT (R250, R253): the held output enters the class 4 queue in the tick that ends at its apply instant. -/
def outputPresent (n : Nat) (s : State) : State :=
  match loopCfg s n with
  | none => s
  | some c =>
    let x := s.loop n
    match x.held with
    | none => s
    | some (v, ms) =>
      if !cleRuns s then s
      else
        let s := s.reach (instantOfTai s ((ms - 1) * msec))
        let v' := if (s.point c.out).typ = 7 then toF32 (f64 v) else v
        let k := if c.outcmd then UpdateKind.level c.level v' else .value v' .valid
        submit { src := mkSrc 4 n, target := .idx c.out, kind := k, path := .loop n ms } (s.setLoop n { x with held := none })

/-! ### Overruns (R276, R277) -/

/-- The sample of loop `n` is discarded and counts as an overrun. -/
def countLoopOverrun (n : Nat) (s : State) : State :=
  let x := s.loop n
  ((s.setLoop n { x with gather := none, ovrc := min (x.ovrc + 1) 15, ovrcnt := min (x.ovrcnt + 1) (2 ^ 32 - 1) }).countSat
    Reg.CLE_OVRCNT_COUNT 1).raise Reg.CLE_FAULT_OVERRUN

/-- Loop `n` latches overrun HOLD, with an event record of its slot and sample count (R276). -/
def latchOverrun (n : Nat) (s : State) : State :=
  let x := s.loop n
  if x.latched then s
  else logEvent 0x0300 4 [n, match x.lastK with | some k => k | none => 0]
    ((s.setLoop n { x with latched := true, latchNew := true }).raise Reg.CLE_FAULT_OVRHOLD)

/-- The unit of loops `ns` overruns: every one counts it, and three in a row of any latch all (R276). -/
def overrunUnit (ns : List Nat) (s : State) : State :=
  let s := ns.foldl (fun s n => countLoopOverrun n s) s
  if ns.any (fun n => (s.loop n).ovrc ≥ 3) then ns.foldl (fun s n => latchOverrun n s) s else s

/-- The instant for which an output is presented again: t_{k+1}, or the next that can still be reached. -/
def againMs (c : LoopCfg) (g : Gather) (s : State) : Nat := max (applyInstant c g) (instantFrom c.period c.phase (msUp s))

/-- The previous output of a loop outside a group is presented again, once there has been one (R276). -/
def presentAgain (n ms : Nat) (s : State) : State :=
  let x := s.loop n
  if x.computed then s.setLoop n { x with held := some (x.uout, ms) } else s

/-- LOOP_OVERRUN (R276), while the engine runs (R278, R280): at the compute deadline the evaluation is not complete; in a group every member overruns. The law's
state is as before the sample, and the previous output is presented again. -/
def overrun (n : Nat) (s : State) : State :=
  if !cleRuns s then s
  else match loopCfg s n, (s.loop n).gather with
  | some c, some g =>
    let s := s.reach (instantOfTai s (deadlineNs c g))
    showCle (match c.group with
      | some (gi, _) =>
        let s := overrunUnit ((groupSlots s gi).map (fun e => e.2)) s
        (match (s.group gi).gout with | some v => holdGroup gi v (againMs c g s) s | none => s)
      | none => presentAgain n (againMs c g s) (overrunUnit [n] s))
  | _, _ => s

/-! ### LOOPWIN (R267, R271, R272, R282, R283) -/

/-- The words of a binary64 value. -/
def two (v : Nat) : List Nat := [v % 2 ^ 32, v / 2 ^ 32 % 2 ^ 32]

/-- The LCFG word (R246). -/
def lcfgWord (s : State) (n : Nat) (c : LoopCfg) (x : LoopState) : Nat :=
  x.modereq * 2 ^ 29 + c.infail * 2 ^ 27 + c.grace * 2 ^ 16 + loopLane s n * 2 ^ 8 + b2n c.bumpcoef * 2 ^ 7 +
    b2n c.reloos * 2 ^ 5 + b2n c.uncok * 2 ^ 4 + b2n c.ffen * 2 ^ 3

/-- The RSTAT word (R246). -/
def rstatWord (x : LoopState) : Nat :=
  let w := loopShown x
  w.emode * 2 ^ 29 + w.hrsn * 2 ^ 26 + b2n w.ovrd * 2 ^ 25 + b2n x.win * 2 ^ 24 + b2n x.late * 2 ^ 23 + b2n x.oref * 2 ^ 22 +
    b2n w.inf * 2 ^ 21 + b2n (decide (x.staged ≠ [])) * 2 ^ 20 + w.pvq * 2 ^ 16 + w.spq * 2 ^ 12 + x.ores * 2 ^ 8 + x.ovrc

/-- The 48 words of a loop record (R245). -/
def loopWords (s : State) (n : Nat) (c : LoopCfg) : List Nat :=
  let x := s.loop n
  let grp := match c.group with | some (g, m) => 2 ^ 31 + g * 2 ^ 16 + m | none => 0
  let outref := b2n c.outcmd * 2 ^ 31 + c.level * 2 ^ 24 + c.out
  (coefsOf c x).take 15 ++ [lcfgWord s n c x, c.period, c.phase, outref, grp] ++ two c.refpv ++ two c.refsp ++ two c.refff ++
    two c.reftrkv ++ two c.reftrken ++ [0, 0] ++ two x.ist ++ two x.dst ++ two x.uout ++ two x.wprev ++ two x.aref ++
    two x.ylast ++ [x.sample, x.ovrcnt, 0, rstatWord x]

/-- The 12 words of a group record (R267). -/
def groupWords (s : State) (gi : Nat) (c : GroupCfg) : List Nat :=
  let x := s.group gi
  let mask := (c.members.map (fun e => 2 ^ e.1)).sum
  let slot := fun m => tabGet 0 c.members m
  [2 ^ 31 + b2n c.inv * 2 ^ 30 + mask] ++ (List.range 4).map (fun k => slot (2 * k) + 65536 * slot (2 * k + 1)) ++ [0] ++
    two (match x.gout with | some v => v | none => 0) ++
    [x.switches * 65536 + b2n x.selv * 8 + (match x.winner with | some p => p | none => 0), 0, 0, 0]

/-- LOAD on LOOPWIN (R282, R283). -/
def loopLoad (r : Nat) (s : State) : State :=
  let i := winIndex s 0x051 r
  let set := requesterLanes s r
  if i < 0x2000 then
    match loopCfg s i with
    | none => winFailed 0x051 r 1 s
    | some c =>
      if !set.getLsbD (loopLane s i) then winFailed 0x051 r 4 (fabricDenial r (loopLane s i) i s)
      else winLoaded 0x051 r (loopWords s i c) s
  else if 0x10000 ≤ i ∧ i < 0x10400 then
    match tabFind (i - 0x10000) (sheet s).groups with
    | none => winFailed 0x051 r 1 s
    | some c =>
      let lane := match c.members.head? with | some e => loopLane s e.2 | none => 0
      if !set.getLsbD lane then winFailed 0x051 r 4 (fabricDenial r lane i s)
      else winLoaded 0x051 r (groupWords s (i - 0x10000) c) s
  else winFailed 0x051 r 1 s

/-- A set of coefficients satisfies R247: finite, in range, NF where TD is used, OUTHI above OUTLO. -/
def coefsOk (cs : List Nat) : Bool :=
  let v := fun i => f32 (match cs[i]? with | some x => x | none => 0)
  let zero : Fp := .fin false 0 0
  let one : Fp := .fin false 1 0
  cs.all (fun x => fpIsFinite (f32 x)) && fpLe zero (v 4) && fpLe (v 4) one && fpLe zero (v 5) && fpLe (v 5) one &&
    fpLt (v 8) (v 9) && (fpEq (v 2) zero || (fpLe one (v 3) && fpLe (v 3) (.fin false 1000 0)))

/-- The sample count at which a write registered now takes effect: of the first instant strictly later that is still to be
served (R269, R271). -/
def effectSample (s : State) (c : LoopCfg) (x : LoopState) : Nat :=
  let ph := c.phase * msec
  let k := if taiNs s < ph then 0 else (taiNs s - ph) / (max 1 c.period * msec) + 1
  match x.lastK with | some j => max k (j + 1) | none => k

/-- A write of MODEREQ is staged: in overrun HOLD it will clear the latch; one registered after the overrun that set the latch
and before its sample instant takes effect one instant later and clears it (R277). -/
def stageMode (v k : Nat) (x : LoopState) : LoopState × Nat :=
  let fresh := x.latched && x.latchNew
  let k := if fresh then k + 1 else k
  ({ x with staged := tabInsert 15 (v, k) x.staged, clears := fresh || (x.latched && decide (x.emode = 3 ∧ x.hrsn = 1)) }, k)

/-- The coefficients as the staged set will leave them (R272). -/
def stagedCoefs (c : LoopCfg) (x : LoopState) : List Nat :=
  (x.staged.filter (fun e => decide (e.1 < 15))).foldl (fun l e => l.set e.1 e.2.1) (coefsOf c x)

/-- COMMIT on LOOPWIN (R271, R272, R277, R282, R283). -/
def loopCommit (r : Nat) (s : State) : State :=
  let i := winIndex s 0x051 r
  let fail := fun n (s : State) => windowDone 0x051 r n s
  let mode := s.get (Reg.LOOPWIN_WSEL_MODE.by r)
  let field := s.get (Reg.LOOPWIN_WSEL_FIELD.by r)
  if 0x10000 ≤ i ∧ i < 0x10400 then
    (if (tabFind (i - 0x10000) (sheet s).groups).isSome then fail 6 s else fail 1 s)
  else match loopCfg s i with
    | none => fail 1 s
    | some c =>
      let x := s.loop i
      let lane := loopLane s i
      if !(requesterLanes s r).getLsbD lane then fail 4 (fabricDenial r lane i s)
      else if mode = 3 ∨ (mode = 0 ∧ field > 14) then fail 6 s
      else if !s.bit Reg.CLE_CTRL_RUN ∨ s.bit Reg.CLE_STAT_HALTED then fail 8 s
      else if mode = 0 then
        let v := winData s 0x051 r field
        if coefsOk ((stagedCoefs c x).set field v) then
          let k := effectSample s c x
          fail 0 ((s.setLoop i { x with staged := tabInsert field (v, k) x.staged }).set (Reg.LOOPWIN_WEFF_SAMPLE.by r) k)
        else fail 5 s
      else if mode = 1 then
        let v := winData s 0x051 r 15 / 2 ^ 29 % 8
        if v > 4 then fail 5 s
        else if (v == 1 || v == 2) && (match c.group with | some (_, m) => decide (m ≠ 0) | none => false) then fail 7 s
        else
          let y := stageMode v (effectSample s c x) x
          fail 0 ((s.setLoop i y.1).set (Reg.LOOPWIN_WEFF_SAMPLE.by r) y.2)
      else fail 0 (s.setLoop i { x with ovrcnt := 0 })

/-- Requester `r` sets index and selection of its LOOPWIN copy; ignored while BUSY is 1 (R56). -/
def loopSelect (r i mode field : Nat) (s : State) : State :=
  if winBusy s 0x051 r then s
  else ((s.set ((Reg.WIN_INDEX.onPage 0x051).by r) i).set (Reg.LOOPWIN_WSEL_MODE.by r) mode).set
    (Reg.LOOPWIN_WSEL_FIELD.by r) field

/-- One DATA word of a window copy; ignored while BUSY is 1 (R56). -/
def winPut (p r k v : Nat) (s : State) : State :=
  if winBusy s p r then s else s.set (((Reg.WIN_DATA.onPage p).by r).ix k) v

/-- LOOP_COEFFICIENT_WRITE (R271): COMMIT with `WSEL.MODE` 0. -/
def coefficientWrite (r i field v : Nat) (s : State) : State := loopCommit r (winPut 0x051 r field v (loopSelect r i 0 field s))

/-! ### Start and power failure (R278 to R280) -/

/-- Every loop initialises at its next evaluated sample (R263, R278 to R280). -/
def initLoops (s : State) : State :=
  { s with cle := { s.cle with loops := s.cle.loops.map (fun e => (e.1, { e.2 with init := true, gather := none, held := none })) } }

/-- A write of `CLE.CTRL` has set RUN: the engine starts, and every loop initialises (R263). -/
def cleStarted (ran : Bool) (s : State) : State :=
  showCle (if !ran && s.bit Reg.CLE_CTRL_RUN then initLoops s else s)

/-- The engine reloads every record from the sheet (R279). -/
def cleReload (s : State) : State :=
  let recs := (sheet s).loops.map (fun e =>
    (e.1, ({ coefs := e.2.coefs, modereq := e.2.modereq } : LoopState)))
  showCle { s with cle := { s.cle with loops := recs, groups := [] } }

/-! ### The commands -/

/-- LOOP_SAMPLE (R249). -/
def execLoopSample (s : State) : Host.Outcome State Fault Refusal := done s (loopSample s)
/-- LOOP_EVALUATION_COMPLETE (R252) of a loop, or of the group that it belongs to. -/
def execLoopEvaluationComplete (slot : BitVec 13) (s : State) : Host.Outcome State Fault Refusal :=
  done s (evaluationComplete slot.toNat s)
/-- LOOP_OUTPUT_PRESENT (R250). -/
def execLoopOutputPresent (slot : BitVec 13) (s : State) : Host.Outcome State Fault Refusal :=
  done s (outputPresent slot.toNat s)
/-- LOOP_OVERRUN (R276). -/
def execLoopOverrun (slot : BitVec 13) (s : State) : Host.Outcome State Fault Refusal := done s (overrun slot.toNat s)
/-- LOOP_COEFFICIENT_WRITE (R271). -/
def execLoopCoefficientWrite (requester : Fin 16) (index : BitVec 20) (field : BitVec 4) (value : Word) (s : State) :
    Host.Outcome State Fault Refusal :=
  done s (askPage requester 0x050 (fun s => coefficientWrite requester.val index.toNat field.toNat value.toNat s) s)
/-- LOOP_MODE_WRITE (R271): `WSEL.MODE` 1 with MODEREQ in the LCFG word. -/
def execLoopModeWrite (requester : Fin 16) (index : BitVec 20) (mode : BitVec 3) (s : State) :
    Host.Outcome State Fault Refusal :=
  let r := requester.val
  done s (askPage requester 0x050 (fun s => loopCommit r (winPut 0x051 r 15 (mode.toNat * 2 ^ 29) (loopSelect r index.toNat 1 0 s))) s)
/-- LOOP_CLEAR_OVRCNT (R282): `WSEL.MODE` 2. -/
def execLoopClearOvrcnt (requester : Fin 16) (index : BitVec 20) (s : State) : Host.Outcome State Fault Refusal :=
  done s (askPage requester 0x050 (fun s => loopCommit requester.val (loopSelect requester.val index.toNat 2 0 s)) s)
/-- LOOP_RESERVED_SELECT (R283): `WSEL.MODE` 3 returns error 6. -/
def execLoopReservedSelect (requester : Fin 16) (index : BitVec 20) (s : State) : Host.Outcome State Fault Refusal :=
  done s (askPage requester 0x050 (fun s => loopCommit requester.val (loopSelect requester.val index.toNat 3 0 s)) s)

end Sys2Proof.Machine
end

