-- ==== Sys2Proof/Machine/Measure.lean ====
section
/-! DEFINITION. The measurement registers of the enclave (spec/14_security.md, R534, R535). -/

namespace Sys2Proof.Machine

/-- The 512 bits of a measurement register, word 0 lowest. -/
def measWords (s : State) (r : Nat) : List Nat := (List.range 16).map (fun k => s.get (Reg.ENC_MEAS.ix2 r k))

/-- The bytes of a 512-bit digest. -/
def digestBytes (d : Nat) : List Nat := leBytes 64 d

/-- Sets the sixteen words of a measurement register. -/
def setMeas (r v : Nat) (s : State) : State :=
  (List.range 16).foldl (fun s k => s.set (Reg.ENC_MEAS.ix2 r k) (v / 2 ^ (32 * k))) s

/-- An extend: SHA-512 of the register's value followed by the digest of the object (R535). -/
def measExtend (r digest : Nat) (s : State) : State :=
  (setMeas r (Config.sha512 (bytesOfWords (measWords s r) ++ digestBytes digest)) s).countSat (Reg.ENC_MEASCNT_COUNT.ix r) 1

/-- The registers begin at 64 zero bytes (R535). -/
def measClear (s : State) : State :=
  (List.range 8).foldl (fun s r => (setMeas r 0 s).set (Reg.ENC_MEASCNT_COUNT.ix r) 0) s

end Sys2Proof.Machine
end

