-- ==== Sys2Proof/Machine/Task.lean ====
section
/-! DEFINITION. The cyclic task engine (spec/07_cyclic_tasks.md, R288 to R316), with the task side of core faults
(spec/13_cores_memory.md, R502, R503, R510). -/

namespace Sys2Proof.Machine

/-! ### Tasks and their state -/

/-- The lane of a task (R288). -/
def taskLane (s : State) (t : Nat) : Nat := tabGet 0 (charter s).taskLanes t

/-- The source identifier of a task (R288). -/
def taskSrc (t : Nat) : Nat := mkSrc 5 t

/-- The active image of a task; without one it is empty. -/
def taskImage (s : State) (t : Nat) : TaskImage := match (s.task t).active with | some i => i | none => {}

/-- GATHER, RUNNING or PREEMPTED: a cycle that has not completed. -/
def inCycle (st : Nat) : Bool := st = 3 || st = 4 || st = 5

/-- The core of a task. -/
def taskCore (s : State) (t : Nat) : Nat := match taskCfg s t with | some c => c.core % 4 | none => 0

/-- The priority of a task. -/
def taskPrio (s : State) (t : Nat) : Nat := match taskCfg s t with | some c => c.prio | none => 16

/-- Shows RUNNING, WDSTOP, SWAPPEND and the flags of each task. -/
def showCte (s : State) : State :=
  let s := s.setBit Reg.CTE_STAT_RUNNING (cteRuns s)
  let s := s.setBit Reg.CTE_STAT_WDSTOP ((taskSlots s).any (fun t => taskState s t = 7))
  let s := s.setBit Reg.CTE_STAT_SWAPPEND ((taskSlots s).any (fun t => (s.task t).swap))
  (taskSlots s).foldl (fun s t => s.setBit (Reg.CTE_TSTAT_STG.ix t) (decide ((s.task t).changes ≠ []))) s

/-! ### Timers (R298) -/

/-- Q and ET in ms of a cell at MONO `m` µs: TON, TOF or TP. -/
def timerOut (c : TimerCell) (m : Nat) : Bool × Nat :=
  match c.kind, c.stamp with
  | 0, some t => if c.inp then (decide (m - t ≥ c.pt * 1000), min ((m - t) / 1000) c.pt) else (false, 0)
  | 1, some t => if c.inp then (true, 0) else (decide (m - t < c.pt * 1000), min ((m - t) / 1000) c.pt)
  | 1, none => (c.inp, 0)
  | 2, some t => if m - t < c.pt * 1000 then (true, (m - t) / 1000) else (false, if c.inp then c.pt else 0)
  | _, _ => (false, 0)

/-- IN and PT as a committed cycle sets them; a change of IN is stamped with MONO `m` of the cycle's release. -/
def timerSet (c : TimerCell) (inp : Bool) (pt m : Nat) : TimerCell :=
  let rise := inp && !c.inp
  let fall := !inp && c.inp
  let stamp := match c.kind with
    | 0 => if rise then some m else c.stamp
    | 1 => if rise then none else if fall then some m else c.stamp
    | _ => if rise && !(timerOut c m).1 then some m else c.stamp
  { c with inp := inp, pt := pt, stamp := stamp }

/-- A timer cell. -/
def timerCell (s : State) (k : Nat) : TimerCell := tabGet {} s.cte.timers k

/-- Sets the cells that a cycle's output image drives. -/
def setTimers (ts : List (Nat × Bool × Nat)) (m : Nat) (s : State) : State :=
  ts.foldl (fun s e => { s with cte := { s.cte with timers := tabInsert e.1 (timerSet (timerCell s e.1) e.2.1 e.2.2 m) s.cte.timers } }) s

/-- Resets the cells of an image, but for those in `keep`. -/
def resetTimers (im : TaskImage) (keep : List Nat) (s : State) : State :=
  im.timers.foldl (fun s e => if keep.contains e.1 then s else
    { s with cte := { s.cte with timers := tabInsert e.1 { kind := e.2 } s.cte.timers } }) s

/-! ### Edge latches (R299) and task events (R290) -/

/-- A task event (R290): schedules the release, sets PEND, or is merged; it wakes the module (R30). -/
def taskEvent (t : Nat) (s : State) : State :=
  let x := s.task t
  let st := taskState s t
  if st = 0 || st = 1 || st = 7 then s
  else
  let s := wakeEvent s
  if x.evtAt.isNone && !inCycle st && st ≠ 6 then s.setTask t { x with evtAt := some s.now }
  else if !s.bit (Reg.CTE_TSTAT_PEND.ix t) then (s.setTask t { x with pendAt := s.now }).raise (Reg.CTE_TSTAT_PEND.ix t)
  else (s.countSat (Reg.CTE_TEVT_COUNT.ix t) 1).raise Reg.CTE_FAULT_EVTMERGE

/-- A task reads records of this lane (R293). -/
def taskReads (lane l : Nat) : Bool := lane = 0 || l = lane || l = 255

/-- The publication of a native record, or a commit into a mirror, is an event of the tasks bound to it in whose readable lanes
it lies (R290). -/
def pointEvent (i : Nat) (s : State) : State :=
  (tasksIn s).foldl (fun s e =>
    if e.2.event && e.2.evtSrc = 1 && e.2.evtIx = i && taskReads (taskLane s e.1) (s.point i).lane then taskEvent e.1 s else s) s

/-- The state of a latch. -/
def latchOf (s : State) (l : Nat) : LatchState := tabGet {} s.cte.latches l

/-- Stores the state of a latch. -/
def setLatch (l : Nat) (x : LatchState) (s : State) : State :=
  { s with cte := { s.cte with latches := tabPut {} l x s.cte.latches } }

/-- The tasks whose active image takes latch `l`. -/
def latchTaken (s : State) (l : Nat) : Bool := (taskSlots s).any (fun t => (tabFind l (taskImage s t).latches).isSome)

/-- The binary state of a latch's source now (R299). -/
def sourceLevel (s : State) (src : LatchSrc) : Bool :=
  match src with
  | .uio n => s.bit (Reg.UIO_USTAT_LEVEL.ix n)
  | .record i => (s.point i).pv ≠ 0

/-- A latch starts clear at the present level of its source. -/
def startLatch (l : Nat) (src : LatchSrc) (s : State) : State := setLatch l { level := sourceLevel s src } s

/-- The latches of every image take the present level of their sources, which is no edge. -/
def latchesFollow (s : State) : State :=
  (taskSlots s).foldl (fun s t => (taskImage s t).latches.foldl (fun s e =>
    setLatch e.1 { latchOf s e.1 with level := sourceLevel s e.2 } s) s) s

/-- The edge selection of `EVT` (R315): 1 rising, 2 falling, 3 either. -/
def edgeSelected (sel : Nat) (rise : Bool) : Bool := sel = 3 || (sel = 1 && rise) || (sel = 2 && !rise)

/-- An edge of a latch's source (R299): counted, with the time of the first edge, and an event of the task that takes the latch and
names it with this edge (R290). -/
def latchEdge (l : Nat) (rise : Bool) (s : State) : State :=
  let x := latchOf s l
  if !latchTaken s l || x.level == rise then s
  else
    let up := x.rising + b2n rise
    let dn := x.falling + b2n (!rise)
    let y : LatchState := { rising := min up 65535, falling := min dn 65535, ovf := x.ovf || decide (up > 65535 ∨ dn > 65535),
                            first := match x.first with | some m => some m | none => some (monoUs s), level := rise }
    (tasksIn s).foldl (fun s e =>
      if e.2.event && e.2.evtSrc = 2 && e.2.evtIx = l && (tabFind l (taskImage s e.1).latches).isSome && edgeSelected e.2.edge rise
      then taskEvent e.1 s else s) (setLatch l y s)

/-- The latches that take a source. -/
def latchesOf (s : State) (src : LatchSrc) : List Nat :=
  (taskSlots s).flatMap (fun t => ((taskImage s t).latches.filter (fun e => decide (e.2 = src))).map (fun e => e.1))

/-- The binary state of a source becomes `v` (R299). -/
def sourceEdge (src : LatchSrc) (v : Bool) (s : State) : State := (latchesOf s src).foldl (fun s l => latchEdge l v s) s

/-! ### Cores (R291, R492, R502, R503) -/

/-- The tasks of a core with a cycle in progress. -/
def coreTasks (s : State) (core : Nat) : List Nat :=
  (taskSlots s).filter (fun t => decide (taskCore s t = core) && inCycle (taskState s t))

/-- The task of highest priority among those with a cycle in progress. -/
def topTask (s : State) (core : Nat) : Option Nat :=
  (coreTasks s core).foldl (fun a t => match a with
    | none => some t
    | some u => if taskPrio s t < taskPrio s u then some t else some u) none

/-- Shows what a core that is online runs. -/
def showCore (core : Nat) (s : State) : State :=
  let st := s.get (Reg.CORE_CSTATE_STATE.inst core)
  if st = 1 ∨ st = 2 then
    match (coreTasks s core).find? (fun t => taskState s t = 4) with
    | some t => (s.set (Reg.CORE_CSTATE_STATE.inst core) 1).set (Reg.CORE_CSTATE_ASID.inst core) (t + 1)
    | none => (s.set (Reg.CORE_CSTATE_STATE.inst core) 2).set (Reg.CORE_CSTATE_ASID.inst core) 0
  else s

/-- A running task that is not the highest of its core is pre-empted, and its context is saved (R291, R503). -/
def preemptOthers (core : Nat) (s : State) : State :=
  match topTask s core with
  | none => s
  | some top => (coreTasks s core).foldl (fun s t =>
      if t ≠ top ∧ taskState s t = 4 then
        (setTaskState t 5 (s.setTask t { s.task t with ctx := true })).countWrap (Reg.CORE_PREEMPT_COUNT.inst core) 1
      else s) s

/-- At a cycle boundary the task is IDLE, or STOPPED after STOP, and a pending event becomes the next release (R290). -/
def cycleEnd (t : Nat) (s : State) : State :=
  let x := s.task t
  let st := if x.stop then 1 else 2
  let pend := s.bit (Reg.CTE_TSTAT_PEND.ix t)
  let ev := if pend && x.evtAt.isNone then some x.pendAt else x.evtAt
  let s := if pend && x.evtAt.isNone then s.set (Reg.CTE_TSTAT_PEND.ix t) 0 else s
  setTaskState t st (s.setTask t { x with stop := false, late := false, ctx := false, evtAt := ev })

/-- A cycle is abandoned (R295): the committed copy stays, nothing is presented, and the task's channels stop (R510). -/
def abandonCycle (t : Nat) (s : State) : State :=
  if inCycle (taskState s t) then cycleEnd t (abortTaskDma t s) else s

/-- A resumed context fails its check (R502, R503): fault class 7, the cycle is abandoned. No access faulted: the address is a free
value. -/
def contextFail (core t : Nat) (s : State) : State :=
  let fsyn := 7 * 2 ^ 28 + (t + 1)
  let s := (s.set (Reg.CORE_FSYN.inst core) fsyn).countSat (Reg.CORE_FCNT_COUNT.inst core) 1
  let s := (s.countSat (Reg.CORE_CTXFAILS_COUNT.inst core) 1).raise (Reg.CORE_FAULT_CTXFAIL.inst core)
  let va := Config.freeNat s.freeCtr % 2 ^ 48
  let s := (s.set (Reg.CORE_FADDRLO_VA.inst core) (va % 2 ^ 32)).set (Reg.CORE_FADDRHI_VA.inst core) (va / 2 ^ 32)
  abandonCycle t (logEvent 0x0901 4 [t, fsyn, va] s.drawn)

/-- The highest task of a core runs once its gather is complete; `bad` says that the saved context it resumes from fails
its check (R291, R503). -/
def dispatchCore (core : Nat) (bad : Bool) (s : State) : State :=
  let s := preemptOthers core s
  showCore core (match topTask s core with
    | none => s
    | some t =>
      if taskState s t = 5 then
        if bad && (s.task t).ctx then
          let s := contextFail core t s
          match topTask s core with
          | some u => if taskState s u = 5 then setTaskState u 4 (s.setTask u { s.task u with ctx := false }) else s
          | none => s
        else setTaskState t 4 (s.setTask t { s.task t with ctx := false })
      else s)

/-! ### Gather and release (R289 to R294) -/

/-- One input of task `t` (R293, R294). An input that is not resolved or not readable reads BAD with a value that the
specification does not state. -/
def gatherInput (t : Nat) (g : PointTarget) (s : State) : State × TaskInput :=
  let bad : TaskInput := { pv := Config.freeNat s.freeCtr % 2 ^ 64, qual := 3, forced := false, oos := false }
  match resolve s g with
  | none => (s.drawn, bad)
  | some i =>
    let r := s.point i
    if taskReads (taskLane s t) r.lane then (s, { pv := r.pv, qual := r.qual, forced := r.forced, oos := r.oos })
    else (laneViolation 5 (taskSrc t) r.lane i ((s.countSat Reg.CTE_LANECNT_COUNT 1).raise Reg.CTE_FAULT_LANE).drawn, bad)

/-- The gather of a release (R294, R298, R299): inputs, timers, latches, which are cleared, and counters. -/
def gatherTask (t : Nat) (s : State) : State :=
  let im := taskImage s t
  let g := im.inputs.foldl (fun (acc : State × List TaskInput) p =>
    let x := gatherInput t p acc.1
    (x.1, acc.2 ++ [x.2])) (s, [])
  let s := g.1
  let x := s.task t
  let cnt : List (Nat × Nat) := im.counters.map (fun ch =>
    let v := s.get (Reg.UIO_UCNT.ix ch)
    (v, (v + 2 ^ 32 - tabGet 0 x.counts ch) % 2 ^ 32))
  let img : InputImage := { inputs := g.2, timers := im.timers.map (fun e => (e.1, timerOut (timerCell s e.1) (monoUs s))),
                            latches := im.latches.map (fun e => (e.1, latchOf s e.1)), counters := cnt }
  let counts := im.counters.foldl (fun tb ch => tabPut 0 ch (s.get (Reg.UIO_UCNT.ix ch)) tb) x.counts
  im.latches.foldl (fun s e => setLatch e.1 { level := (latchOf s e.1).level } s)
    (s.setTask t { x with image := img, counts := counts })

/-- A staged change is stored in the committed variables (R308). -/
def applyChange (im : TaskImage) (vars : Table Nat) (entry v : Nat) : Table Nat :=
  match tabFind entry im.changes with
  | some c => tabInsert c.var v vars
  | none => vars

/-- Staged changes that are due at release `k` take effect, in the order registered (R308). -/
def applyChanges (t k : Nat) (s : State) : State :=
  let x := s.task t
  let due := x.changes.filter (fun c => decide (c.2.2 ≤ k))
  let vars := due.foldl (fun vs c => applyChange (taskImage s t) vs c.1 c.2.1) x.vars
  s.setTask t { x with vars := vars, changes := x.changes.filter (fun c => !decide (c.2.2 ≤ k)) }

/-- Task `t` is released at the present instant as release `k` and enters GATHER (R289, R291, R294). -/
def releaseNow (t k : Nat) (s : State) : State :=
  let s := gatherTask t (applyChanges t k s)
  let x := s.task t
  let s := s.setTask t { x with relk := k, relUs := taiUs s, relMono := monoUs s, relAt := s.now, lastMs := some (taiMs s),
                                evtAt := none, late := false }
  let s := (s.countWrap Reg.CTE_RELS_COUNT 1).set (Reg.CTE_TRELK_COUNT.ix t) k
  let s := setTaskState t 3 s
  let core := taskCore s t
  showCte (showCore core (preemptOthers core s))

/-- An overrun is counted once per cycle (R302). -/
def countOverrun (t : Nat) (s : State) : State :=
  let x := s.task t
  if x.late then s
  else (((s.setTask t { x with late := true }).countSat (Reg.CTE_TOVR_COUNT.ix t) 1).raise (Reg.CTE_TSTAT_OVR.ix t)).raise
    Reg.CTE_FAULT_OVERRUN

/-- The next release instant of a periodic task's schedule, in ms (R286, R289). -/
def nextRelease (c : TaskCfg) (x : TaskRun) (s : State) : Nat :=
  instantFrom c.period c.phase (match x.lastMs with
    | some m => max (max m x.passedMs + 1) (msUp s)
    | none => if x.passedMs = 0 then msUp s else max (x.passedMs + 1) (msUp s))

/-- The engine may release task `t`: it runs, the core is online and the task holds an image and is not stopped (R312,
R313, R493). -/
def mayRelease (t : Nat) (s : State) : Bool :=
  let st := taskState s t
  cteRuns s && s.bit (Reg.CORE_STAT_ONLINE.inst (taskCore s t)) && (s.task t).active.isSome && st ≠ 0 && st ≠ 1 && st ≠ 7

/-! ### Swap (R310, R311) -/

/-- The variables of an image at start: initial values, with the retained ones from `saved`. -/
def initialVars (im : TaskImage) (saved : Table Nat) : Table Nat :=
  im.vars.map (fun e => (e.1, if e.2.retained then tabGet e.2.init saved e.1 else e.2.init))

/-- The variables after a swap: retained ones that the carry table matches by name and type, else initial (R310). -/
def carriedVars (old new : TaskImage) (vars : Table Nat) : Table Nat :=
  new.vars.map (fun e =>
    let from' := old.vars.find? (fun o => o.2.retained && decide (o.2.name = e.2.name ∧ o.2.typ = e.2.typ))
    (e.1, match from' with
      | some o => if new.carry.contains e.2.name then tabGet o.2.init vars o.1 else e.2.init
      | none => e.2.init))

/-- The outputs that some active image maps. -/
def mappedOutputs (s : State) : List Nat := (taskSlots s).flatMap (fun t => (taskImage s t).outputs.map (fun o => o.index))

/-- Records `i` whose mapping ended or began take or lose ORPHAN while they are forced (R311). -/
def orphanRule (t : Nat) (is : List Nat) (s : State) : State :=
  let mapped := mappedOutputs s
  is.foldl (fun s i => match tabFind i s.pt.forces with
    | none => s
    | some f =>
      let v := !mapped.contains i
      if v = f.orphan then s
      else
        let before := s
        let s := closeRecord before (tickNow s) i { s with pt := { s.pt with forces := tabInsert i { f with orphan := v } s.pt.forces } }
        if v then logEvent 0x0303 4 [i, t] (s.raise Reg.CTE_FAULT_ORPHAN) else s) s

/-- The swap itself (R310, R311, R534). -/
def swapNow (t : Nat) (s : State) : State :=
  let x := s.task t
  match x.staged with
  | none => s
  | some new =>
    let old := taskImage s t
    let gone := old.outputs.filter (fun o => !(new.outputs.any (fun n => n.index = o.index)))
    let s := s.setTask t { x with active := some new, staged := none, swap := false, overlay := [], changes := [],
                                  vars := carriedVars old new x.vars, counts := [], saved := [] }
    let s := resetTimers new new.carryTimers s
    let s := new.latches.foldl (fun s e => if tabFind e.1 old.latches = some e.2 then s else startLatch e.1 e.2 s) s
    let s := if taskState s t = 0 then setTaskState t 2 s else s
    let rel : List Update := (gone.filter (fun o => o.level ≠ 0)).map (fun o =>
      { src := taskSrc t, target := .idx o.index, kind := .relinquish o.level, path := .task t })
    let s := submitAll rel s
    let s := reportAll ((gone.filter (fun o => o.level = 0)).map (fun o => PointReport.dropped o.index)) s
    let s := orphanRule t (distinct (gone.map (fun o => o.index) ++ new.outputs.map (fun o => o.index))) s
    showCte (measExtend 7 new.digest s)

/-- A pending swap is applied once no cycle is in progress and the last one has committed (R310). -/
def applySwap (t : Nat) (s : State) : State :=
  if (s.task t).swap && !inCycle (taskState s t) && taskState s t ≠ 6 then swapNow t s else s

/-! ### Releases -/

/-- TASK_RELEASE (R289, R302, R308): the next instant of the task's schedule. With a STOP or SWAP pending the last cycle is committed
first: a release instant that passes meanwhile is not served (R310). -/
def taskRelease (t : Nat) (s : State) : State :=
  match taskCfg s t with
  | none => s
  | some c =>
    if c.event then s
    else
      let ms := nextRelease c (s.task t) s
      if !mayRelease t s then s
      else
        let s := s.reach (instantOfTai s (ms * msec))
        let x := s.task t
        if inCycle (taskState s t) then showCte (countOverrun t (s.setTask t { x with passedMs := ms }))
        else if taskState s t = 6 ∧ (x.stop ∨ x.swap) then s.setTask t { x with passedMs := ms }
        else releaseNow t ((ms - c.phase) / max 1 c.period) (applySwap t s)

/-- TASK_EVENT_RELEASE (R290): the first commit instant at least 100 µs after the event and MININT after the last release. -/
def taskEventRelease (t : Nat) (s : State) : State :=
  match taskCfg s t, (s.task t).evtAt with
  | some c, some at' =>
    if !c.event || !mayRelease t s || inCycle (taskState s t) || taskState s t = 6 then s
    else
      let s := s.reach (instantOfTai s (eventReleaseMs c (s.task t) at' s * msec))
      releaseNow t ((s.task t).relk + 1) (applySwap t s)
  | _, _ => s

/-- TASK_GATHER_COMPLETE (R291, R294): the task runs, or waits behind a higher one of its core. -/
def gatherComplete (t : Nat) (s : State) : State :=
  if taskState s t = 3 then dispatchCore (taskCore s t) false (setTaskState t 5 s) else s

/-! ### Completion, overrun and watchdog (R295 to R297, R302 to R305) -/

/-- Presents a batch of task `t` to queue 5 (R295, R296). -/
def presentBatch (t : Nat) (us : List Update) (s : State) : State :=
  let b := s.cte.batches + 1
  let s := { s with cte := { s.cte with batches := b } }
  let x := s.task t
  submitAll (us.map (fun u => { u with batch := b })) (s.setTask t { x with batch := b, open' := if us = [] then x.open' else x.open' ++ [b] })

/-- An output of a cycle as an update. -/
def outUpdate (t : Nat) (o : OutMap) (v : Nat) : Update :=
  { src := taskSrc t, target := .idx o.index, kind := if o.level = 0 then .value v .valid else .level o.level v, path := .task t }

/-- The safe batch (R303): safe action 0 relinquishes, or leaves a non-command record; safe action 1 writes. -/
def safeBatch (t : Nat) (im : TaskImage) : List Update :=
  im.outputs.filterMap (fun o =>
    if o.safeAct then some (outUpdate t o o.safeVal)
    else if o.level ≠ 0 then
      some { src := taskSrc t, target := .idx o.index, kind := .relinquish o.level, path := .task t }
    else none)

/-- The time after which the watchdog expires, or the budget, from a release, in ns (R302, R303). -/
def taskLimitNs (c : TaskCfg) : Nat := (if c.event then c.budget else c.period) * msec

/-- Steps 1 to 3 of R303: the cycle stops, the safe batch is presented and the task enters WDSTOP. -/
def watchdogStop (t : Nat) (s : State) : State :=
  let s := abortTaskDma t s
  let s := presentBatch t (safeBatch t (taskImage s t)) s
  let s := s.setTask t { s.task t with late := false, stop := false, ctx := false, evtAt := none }
  let s := (setTaskState t 7 (s.set (Reg.CTE_TSTAT_PEND.ix t) 0)).raise Reg.CTE_FAULT_WATCHDOG
  showCte (dispatchCore (taskCore s t) false s)

/-- The watchdog expires on a cycle in progress (R303). -/
def watchdogNow (t : Nat) (s : State) : State :=
  let x := s.task t
  watchdogStop t (logEvent 0x0301 5 [t, x.relk, (taskImage s t).progid] s)

/-- TASK_WATCHDOG_EXPIRY (R303). -/
def watchdogExpiry (t : Nat) (s : State) : State :=
  match taskCfg s t with
  | some c => if inCycle (taskState s t) then watchdogNow t (s.reach ((s.task t).relAt + 4 * taskLimitNs c)) else s
  | none => s

/-- TASK_BUDGET_OVERRUN (R302): an event-released cycle is not complete within BUDGET. -/
def budgetOverrun (t : Nat) (s : State) : State :=
  match taskCfg s t with
  | some c =>
    if c.event && inCycle (taskState s t) then countOverrun t (s.reach ((s.task t).relAt + taskLimitNs c)) else s
  | none => s

/-- TASK_CYCLE_COMPLETE (R295, R302, R305): the program returns with its outputs, variables and timer settings; `bad` says
that the context resumed next fails its check. -/
def cycleComplete (t : Nat) (outs : List Nat) (vars : Table Nat) (timers : List (Nat × Bool × Nat)) (bad : Bool) (s : State) :
    State :=
  match taskCfg s t with
  | none => s
  | some c =>
    if taskState s t ≠ 4 then s
    else if s.now ≥ (s.task t).relAt + 4 * taskLimitNs c then watchdogNow t s
    else
      let passed := if c.event then decide (s.now > (s.task t).relAt + taskLimitNs c)
        else match (s.task t).lastMs with
          | some m => decide (taiNs s > instantFrom c.period c.phase (max m (s.task t).passedMs + 1) * msec)
          | none => false
      let s := if passed then countOverrun t s else s
      let x := s.task t
      let us := (s.now - x.relAt) / usec
      let s := (s.set (Reg.CTE_TEXEC_US.ix t) us).set (Reg.CTE_TEXMAX_US.ix t) (max us (s.get (Reg.CTE_TEXMAX_US.ix t)))
      let core := taskCore s t
      if x.late then showCte (dispatchCore core bad (cycleEnd t s))
      else
        let im := taskImage s t
        let ups := im.outputs.zipWith (fun o v => outUpdate t o v) outs
        let known := vars.filter (fun e => (tabFind e.1 im.vars).isSome)
        let s := s.setTask t { x with vars := known.foldl (fun tb e => tabInsert e.1 e.2 tb) x.vars, ctx := false }
        let s := setTimers (timers.filter (fun e => (tabFind e.1 im.timers).isSome)) x.relMono s
        let s := s.set (Reg.CTE_TSTAT_OVR.ix t) 0
        let s := if ups = [] then cycleEnd t s else setTaskState t 6 (presentBatch t ups s)
        showCte (dispatchCore core bad s)

/-- Batches of task `t` took effect at the commit of `tick`, and those in `rest` still wait (R296, R314, R315): the cycle ends where
its own is among them. -/
def batchCommitted (t tick : Nat) (rest : List Nat) (s : State) : State :=
  let x := s.task t
  let s := s.setTask t { x with cmtUs := (tick + 1) * 1000, open' := rest }
  let s := s.set (Reg.CTE_TCMT_TICK.ix t) tick
  if taskState s t = 6 ∧ !rest.contains x.batch then showCte (cycleEnd t s) else s

/-- The result of one output of a task (R297). -/
def taskResult (t code : Nat) (s : State) : State :=
  if code = resSuperseded then s.countSat (Reg.CTE_TSUP_COUNT.ix t) 1
  else if code = resWritten ∨ code = resWrittenForced then s
  else (s.countSat (Reg.CTE_TREF_COUNT.ix t) 1).raise Reg.CTE_FAULT_OUTREF

/-! ### Retained variables (R309) -/

/-- The retained variables of the committed copy. -/
def retainedOf (im : TaskImage) (vars : Table Nat) : Table Nat :=
  vars.filter (fun e => match tabFind e.1 im.vars with | some v => v.retained | none => false)

/-- RETAIN_SAVE (R309): at the first commit that follows 1 s after the previous save. -/
def retainSave (t : Nat) (s : State) : State :=
  let x := s.task t
  let im := taskImage s t
  if x.active.isNone || s.bit Reg.CTE_STAT_HALTED then s
  else
    let s := s.reach (x.savedAt + second)
    let s := s.reach (instantOfTai s (msUp s * msec))
    s.setTask t { x with saved := retainedOf im x.vars, savedAt := s.now }

/-! ### Commands (R304, R307, R308, R310, R315, R316) -/

/-- The task returns to its start values: retained as saved, the rest initial, overlay constants, timers reset and latches
cleared (R304, R308, R313); changes that are staged wait on (R308). -/
def freshTask (t : Nat) (s : State) : State :=
  let x := s.task t
  let im := taskImage s t
  let vars := x.overlay.foldl (fun vs e => applyChange im vs e.1 e.2) (initialVars im x.saved)
  let s := s.setTask t { x with vars := vars, late := false, stop := false, ctx := false, evtAt := none }
  im.latches.foldl (fun s e => startLatch e.1 e.2 s) (resetTimers im [] s)

/-- The value satisfies a change-table entry: right encoding and inside the entry's range, by its type (R91, R307). -/
def changeOk (im : TaskImage) (c : ChangeEntry) (v : Nat) : Bool :=
  match tabFind c.var im.vars with
  | some e => typeOk e.typ v && fpLe (valueFp e.typ c.lo) (valueFp e.typ v) && fpLe (valueFp e.typ v) (valueFp e.typ c.hi)
  | none => false

/-- The entries used in the change overlay of a task, which holds 4,096 (R308). -/
def overlayUsed (s : State) (t : Nat) : Nat := (s.task t).overlay.length

/-- The release count at which a change registered now takes effect (R308). -/
def effectRelease (s : State) (t : Nat) : Nat :=
  match taskCfg s t with
  | some c =>
    if c.event then (s.task t).relk + 1
    else
      let ms := instantFrom c.period c.phase (max (taiMs s + 1) (match (s.task t).lastMs with | some m => m + 1 | none => 0))
      (ms - c.phase) / max 1 c.period
  | none => 0

/-- A refused TASKWIN COMMIT (R314, R316). -/
def taskReject (r code : Nat) (s : State) : State := windowDone 0x059 r code (s.raise Reg.CTE_FAULT_CHGREJ)

/-- An on-line change (R307, R308). -/
def changeValue (r t item v : Nat) (s : State) : State :=
  let im := taskImage s t
  let x := s.task t
  match tabFind item im.changes with
  | none => taskReject r 6 s
  | some c =>
    let const := match tabFind c.var im.vars with | some e => e.const | none => false
    if !changeOk im c v then taskReject r 5 s
    else if const && (tabFind item x.overlay).isNone && overlayUsed s t ≥ 4096 then taskReject r 9 s
    else
      let k := effectRelease s t
      let ov := if const then tabInsert item v x.overlay else x.overlay
      let s := s.setTask t { x with changes := x.changes ++ [(item, v, k)], overlay := ov }
      showCte (windowDone 0x059 r 0 (s.set (Reg.TASKWIN_WEFF_RELEASE.by r) k))

/-- A task command: 1 START, 2 STOP, 3 RESTART, 4 SWAP (R304, R310). -/
def taskCommand (r t cmd : Nat) (s : State) : State :=
  let x := s.task t
  let st := taskState s t
  let ok := fun s => showCte (windowDone 0x059 r 0 s)
  match cmd with
  | 1 => if st = 1 then ok (setTaskState t 2 s) else taskReject r 7 s
  | 2 =>
    if st = 2 then ok (setTaskState t 1 s)
    else if inCycle st ∨ st = 6 then ok (s.setTask t { x with stop := true })
    else taskReject r 7 s
  | 3 => if st = 7 then ok (setTaskState t 2 (freshTask t s)) else taskReject r 7 s
  | 4 => if x.staged.isNone then taskReject r 10 s else ok (s.setTask t { x with swap := true })
  | _ => taskReject r 6 s

/-- The counters of a task are cleared (R315). -/
def clearTaskCounters (t : Nat) (s : State) : State :=
  [Reg.CTE_TEXMAX_US, Reg.CTE_TOVR_COUNT, Reg.CTE_TSUP_COUNT, Reg.CTE_TREF_COUNT, Reg.CTE_TUND_COUNT, Reg.CTE_TEVT_COUNT].foldl
    (fun s f => s.set (f.ix t) 0) s

/-- COMMIT on TASKWIN (R307, R310, R315, R316). -/
def taskCommit (r : Nat) (s : State) : State :=
  let t := winIndex s 0x059 r
  if winBusy s 0x059 r then s
  else if (taskCfg s t).isNone then taskReject r 1 s
  else if !(requesterLanes s r).getLsbD (taskLane s t) then taskReject r 4 (fabricDenial r (taskLane s t) t s)
  else match s.get (Reg.TASKWIN_WSEL_MODE.by r) with
    | 0 =>
      if !s.bit Reg.CTE_CTRL_RUN ∨ s.bit Reg.CTE_STAT_HALTED then taskReject r 8 s
      else changeValue r t (s.get (Reg.TASKWIN_WSEL_ITEM.by r)) (winData s 0x059 r 0 + 2 ^ 32 * winData s 0x059 r 1) s
    | 1 =>
      if !s.bit Reg.CTE_CTRL_RUN ∨ s.bit Reg.CTE_STAT_HALTED then taskReject r 8 s
      else taskCommand r t (winData s 0x059 r 0 % 16) s
    | 2 =>
      if !s.bit Reg.CTE_CTRL_RUN ∨ s.bit Reg.CTE_STAT_HALTED then taskReject r 8 s
      else windowDone 0x059 r 0 (clearTaskCounters t s)
    | _ => taskReject r 6 s

/-- The 32 words of a task record (R315). -/
def taskWords (s : State) (t : Nat) (c : TaskCfg) : List Nat :=
  let x := s.task t
  let im := taskImage s t
  [2 ^ 31 + b2n c.event * 2 ^ 30 + c.core * 2 ^ 28 + c.prio * 2 ^ 24 + taskLane s t * 2 ^ 8,
   if c.event then 0 else c.period, if c.event then 0 else c.phase, c.evtSrc * 2 ^ 30 + c.edge * 2 ^ 28 + c.evtIx,
   c.budget * 2 ^ 16 + c.minint,
   im.inputs.length * 2 ^ 16 + im.outputs.length, im.timers.length * 2 ^ 16 + im.latches.length, im.retainBytes] ++
  two im.progid ++ [im.progver, im.changes.length + 2 ^ 16 * overlayUsed s t, 0, 0, 0, 0] ++
  two x.relUs ++ two x.cmtUs ++ two x.relk ++ [0, 0] ++ List.replicate 8 0

/-- LOAD on TASKWIN (R315, R316). -/
def taskLoad (r : Nat) (s : State) : State :=
  let t := winIndex s 0x059 r
  match taskCfg s t with
  | none => winFailed 0x059 r 1 s
  | some c =>
    if !(requesterLanes s r).getLsbD (taskLane s t) then winFailed 0x059 r 4 (fabricDenial r (taskLane s t) t s)
    else winLoaded 0x059 r (taskWords s t c) s

/-- Requester `r` sets index and selection of its TASKWIN copy; ignored while BUSY is 1 (R56). -/
def taskSelect (r t mode item : Nat) (s : State) : State :=
  if winBusy s 0x059 r then s
  else ((s.set ((Reg.WIN_INDEX.onPage 0x059).by r) t).set (Reg.TASKWIN_WSEL_MODE.by r) mode).set (Reg.TASKWIN_WSEL_ITEM.by r) item

/-! ### Modes and resets (R312, R313) -/

/-- Every cycle in progress is abandoned (R312, R313). -/
def abandonCycles (s : State) : State :=
  let s := (taskSlots s).foldl (fun s t => abandonCycle t s) s
  showCte ([1, 2, 3].foldl (fun s c => showCore c s) s)

/-- The engine reloads images, overlays and retained variables (R309, R313). `bad` names the tasks whose retained area fails
its check. In UNPROVISIONED, PROVISIONING and ZEROIZED every task is UNUSED (R312). -/
def cteReload (bad : List Nat) (s : State) : State :=
  let m := s.get Reg.MODE_STAT_MODE
  let off := m = 0 || m = 1 || m = 7
  let s := { s with cte := { s.cte with timers := [], latches := [] } }
  let s := (List.range 16).foldl (fun s t =>
    let x := s.task t
    let used := !off && (taskCfg s t).isSome && x.active.isSome
    let s := if used && bad.contains t then
        logEvent 0x0302 4 [t, (taskImage s t).progid] (s.raise Reg.CTE_FAULT_RETFAIL) else s
    let s := s.setTask t { active := x.active, staged := x.staged, overlay := x.overlay,
                           saved := if bad.contains t then [] else x.saved, savedAt := s.now }
    let s := s.set (Reg.CTE_TSTAT_PEND.ix t) 0
    if used then setTaskState t 2 (freshTask t s) else setTaskState t 0 s) s
  showCte (s.set Reg.CTE_TASKS_MASK (((taskSlots s).map (fun t => 2 ^ t)).sum))

/-! ### The commands -/

/-- TASK_RELEASE (R289). -/
def execTaskRelease (task : Fin 16) (s : State) : Host.Outcome State Fault Refusal := done s (taskRelease task.val s)
/-- TASK_EVENT_RELEASE (R290). -/
def execTaskEventRelease (task : Fin 16) (s : State) : Host.Outcome State Fault Refusal := done s (taskEventRelease task.val s)
/-- TASK_GATHER_COMPLETE (R294). -/
def execTaskGatherComplete (task : Fin 16) (s : State) : Host.Outcome State Fault Refusal := done s (gatherComplete task.val s)
/-- TASK_CYCLE_COMPLETE (R295). -/
def execTaskCycleComplete (task : Fin 16) (outputs : List Nat) (vars : List (Nat × Nat)) (timers : List (Nat × Bool × Nat))
    (contextBad : Bool) (s : State) : Host.Outcome State Fault Refusal :=
  done s (cycleComplete task.val outputs vars timers contextBad s)
/-- TASK_BUDGET_OVERRUN (R302). -/
def execTaskBudgetOverrun (task : Fin 16) (s : State) : Host.Outcome State Fault Refusal := done s (budgetOverrun task.val s)
/-- TASK_WATCHDOG_EXPIRY (R303). -/
def execTaskWatchdogExpiry (task : Fin 16) (s : State) : Host.Outcome State Fault Refusal := done s (watchdogExpiry task.val s)
/-- RETAIN_SAVE (R309). -/
def execRetainSave (task : Fin 16) (s : State) : Host.Outcome State Fault Refusal := done s (retainSave task.val s)
/-- EDGE_LATCH_EDGE (R299). -/
def execEdgeLatchEdge (latch : Fin 128) (rising : Bool) (s : State) : Host.Outcome State Fault Refusal :=
  done s (latchEdge latch.val rising s)
/-- TASK_VALUE_CHANGE (R307). -/
def execTaskValueChange (requester : Fin 16) (index : BitVec 20) (item : BitVec 16) (value : BitVec 64) (s : State) :
    Host.Outcome State Fault Refusal :=
  let r := requester.val
  done s (askPage requester 0x058 (fun s => taskCommit r (winPut 0x059 r 1 (value.toNat / 2 ^ 32) (winPut 0x059 r 0 (value.toNat % 2 ^ 32)
    (taskSelect r index.toNat 0 item.toNat s)))) s)
/-- A TASKWIN COMMIT with `WSEL.MODE` 1 and a command code. -/
def commandCommit (r t cmd : Nat) (s : State) : State := taskCommit r (winPut 0x059 r 0 cmd (taskSelect r t 1 0 s))
/-- TASK_START (R310). -/
def execTaskStart (requester : Fin 16) (index : BitVec 20) (s : State) : Host.Outcome State Fault Refusal :=
  done s (askPage requester 0x058 (fun s => commandCommit requester.val index.toNat 1 s) s)
/-- TASK_STOP (R310). -/
def execTaskStop (requester : Fin 16) (index : BitVec 20) (s : State) : Host.Outcome State Fault Refusal :=
  done s (askPage requester 0x058 (fun s => commandCommit requester.val index.toNat 2 s) s)
/-- TASK_RESTART (R304). -/
def execTaskRestart (requester : Fin 16) (index : BitVec 20) (s : State) : Host.Outcome State Fault Refusal :=
  done s (askPage requester 0x058 (fun s => commandCommit requester.val index.toNat 3 s) s)
/-- TASK_SWAP (R310). -/
def execTaskSwap (requester : Fin 16) (index : BitVec 20) (s : State) : Host.Outcome State Fault Refusal :=
  done s (askPage requester 0x058 (fun s => commandCommit requester.val index.toNat 4 s) s)
/-- TASK_SWAP_APPLY (R310). -/
def execTaskSwapApply (task : Fin 16) (s : State) : Host.Outcome State Fault Refusal := done s (applySwap task.val s)
/-- TASK_CLEAR_COUNTERS (R315). -/
def execTaskClearCounters (requester : Fin 16) (index : BitVec 20) (s : State) : Host.Outcome State Fault Refusal :=
  done s (askPage requester 0x058 (fun s => taskCommit requester.val (taskSelect requester.val index.toNat 2 0 s)) s)
/-- TASK_RESERVED_SELECT (R316): `WSEL.MODE` 3, or command code `command` with `WSEL.MODE` 1. -/
def execTaskReservedSelect (requester : Fin 16) (index : BitVec 20) (command : Option (Fin 16)) (s : State) :
    Host.Outcome State Fault Refusal :=
  match command with
  | some c => done s (askPage requester 0x058 (fun s => commandCommit requester.val index.toNat c.val s) s)
  | none => done s (askPage requester 0x058 (fun s => taskCommit requester.val (taskSelect requester.val index.toNat 3 0 s)) s)

end Sys2Proof.Machine
end

