-- ==== Sys2Proof/Machine/Signal.lean ====
section
/-! DEFINITION. The signal chain of metering (spec/08_metering.md, R317 to R321, R325 to R328): from the modulators' bits to
calibrated samples, direction-filtered power, fundamental phasors and harmonics. Values are exact rationals in V, A and W. -/

namespace Sys2Proof.Machine

/-- A circuit's configuration. -/
def circuitCfg (s : State) (c : Nat) : Option CircuitCfg := tabFind c (sheet s).meter.circuits

/-- The circuits in use. -/
def circuits (s : State) : List Nat := (sheet s).meter.circuits.map (fun e => e.1)

/-- The voltage and current channel of element `e` of a circuit; of 1P2W, T equals A (R323). -/
def elementChannels (c : CircuitCfg) (e : Nat) : Nat × Nat :=
  let e := if c.threePhase then e else 0
  ((match c.volts[e]? with | some v => v | none => 0), 12 + (match c.amps[e]? with | some v => v | none => 0))

/-- The elements with channels of their own: A, or A, B and C (R323). -/
def phaseCount (c : CircuitCfg) : Nat := if c.threePhase then 3 else 1

/-- The tracker of a voltage channel is valid (R325). -/
def trackerValid (s : State) (v : Nat) : Bool := s.mtr.trackers.testBit v

/-- The tracker of voltage channel `v` was valid at the TAI instant `us`: the last change before it decides. -/
def trackedAt (s : State) (v us : Nat) : Bool :=
  let ms := s.mtr.marks.filter (fun m => m.1 = v)
  match (ms.filter (fun m => m.2.1 ≤ us)).getLast?, ms.head? with
  | some m, _ => m.2.2
  | none, some m => !m.2.2
  | none, none => trackerValid s v

/-! ### Numbers -/

/-- The rational that a finite decoded number is. -/
def fpRat : Fp → Option ℚ
  | .fin neg m e => some ((signedMant neg m : ℚ) * (2 : ℚ) ^ e)
  | _ => none

/-- A rational rounded to binary64. -/
def ratF64 (q : ℚ) : Nat := fpRoundRat 11 52 (decide (q < 0)) q.num.natAbs q.den 0

/-- A quotient of two quantities; by zero it is a value that the specification does not state. -/
def quotient (a b : Nat) : Nat := if f64 b = .fin false 0 (-1074) ∨ f64 b = .fin true 0 (-1074) then Config.zeroQuotient a else f64Div a b

/-- The mean of a list; of none, 0. -/
def meanOf (xs : List ℚ) : ℚ := xs.sum / xs.length

/-! ### Filters -/

/-- One sample through a filter. -/
def filterStep (f : Filter) (x : FilterState) (v : ℚ) : ℚ × FilterState :=
  let xs := (v :: x.xs).take f.feed.length
  let y := (f.feed.zipWith (fun a b => a * b) xs).sum - (f.back.zipWith (fun a b => a * b) x.ys).sum
  (y, { xs := xs, ys := (y :: x.ys).take f.back.length })

/-- `z` is the filter's response at `f` Hz, at 32,000 samples a second. -/
def hasResponse (h : Filter) (f : ℝ) (z : ℂ) : Prop :=
  z * (1 + (h.back.zipIdx.map (fun e => (e.1 : ℂ) * Complex.exp (-(2 * Real.pi * f * (e.2 + 1) / 32000) * Complex.I))).sum) =
    (h.feed.zipIdx.map (fun e => (e.1 : ℂ) * Complex.exp (-(2 * Real.pi * f * e.2 / 32000) * Complex.I))).sum

/-- Steps 1 and 2 are flat within ±0.05 dB from 0 to 6 kHz (R319). -/
def firLimits : Prop :=
  ∀ (f g : ℝ) (z : ℂ), 0 < f → f ≤ 6000 → hasResponse { feed := Config.compensation } f z →
    g * (128 * Real.sin (Real.pi * f / 4096000)) = Real.sin (Real.pi * f / 32000) →
    (10 : ℝ) ^ (-(0.05 : ℝ) / 20) ≤ ‖z‖ * |g| ^ 3 ∧ ‖z‖ * |g| ^ 3 ≤ (10 : ℝ) ^ ((0.05 : ℝ) / 20)

/-- Step 3 removes offset and has half the power, −3 dB, at 0.5 Hz (R319). -/
def highPassLimits : Prop :=
  hasResponse Config.highPass 0 0 ∧ ∃ z, hasResponse Config.highPass (1 / 2) z ∧ 2 * ‖z‖ ^ 2 = 1

/-- The integrator has unity gain at 50 Hz, a gain inversely proportional to frequency within ±0.05 % from 10 Hz to 6 kHz, a
phase of −90° within ±0.01° from 45 Hz to 66 Hz, and by its pole at 0.5 Hz at most the gain 100 below 10 Hz (R320). -/
def integratorLimits : Prop :=
  ∀ (f : ℝ) (z : ℂ), hasResponse Config.coilIntegrator f z →
    (f = 50 → ‖z‖ = 1) ∧ (10 ≤ f → f ≤ 6000 → |‖z‖ * f / 50 - 1| ≤ 0.0005) ∧
    (45 ≤ f → f ≤ 66 → |Complex.arg z + Real.pi / 2| ≤ 0.01 * Real.pi / 180) ∧ (0 ≤ f → f < 10 → ‖z‖ ≤ 100)

/-! ### The quadrature references (R326) -/

/-- The angle of a phase in 2^-32 turns, from −π to π, in units of 2^-48. -/
def phaseAngle (phase : Nat) : Int := ofField 32 (phase % 2 ^ 32) * 1768559438007110 / 2 ^ 32

/-- The terms of a sine (`n` = 1) or cosine (`n` = 0) from `t` on: each is the one before × −x² ÷ (n + 1)(n + 2). -/
def turnSeries (x : Int) : Nat → Nat → Int → Int
  | 0, _, _ => 0
  | k + 1, n, t => t + turnSeries x k (n + 2) (-(t * x / 2 ^ 48 * x / 2 ^ 48) / ((n + 1) * (n + 2)))

/-- Cosine and sine of a phase in 2^-32 turns, to within 2^-40. -/
def quadrature (phase : Nat) : ℚ × ℚ :=
  let x := phaseAngle phase
  ((turnSeries x 16 0 (2 ^ 48) : ℚ) / 2 ^ 48, (turnSeries x 16 1 x : ℚ) / 2 ^ 48)

/-! ### The channel (R319, R320, R321) -/

/-- One modulator clock through the three integrators of the sinc³ decimator; a bit is +1 or −1. -/
def sincClock (a : Int × Int × Int) (bit : Bool) : Int × Int × Int :=
  let a1 := a.1 + (if bit then 1 else -1)
  let a2 := a.2.1 + a1
  (a1, a2, a.2.2 + a2)

/-- Step 1: sinc³ decimation by 128 (R317, R319). A sample is 24-bit two's complement; the modulator's full scale is 2^23. -/
def decimate (x : ChannelChain) (bits : BitVec 128) : Int × ChannelChain :=
  let a := (List.range 128).foldl (fun a k => sincClock a (bits.getLsbD k)) x.acc
  let c1 := a.2.2 - x.comb.1
  let c2 := c1 - x.comb.2.1
  let c3 := c2 - x.comb.2.2
  (min (4 * c3) (2 ^ 23 - 1), { x with acc := a, comb := (a.2.2, c1, c2) })

/-- Step 2: the compensation FIR filter; the specification bounds its response and leaves its taps open. -/
def compensate (x : ChannelChain) (code : Int) : ℚ × ChannelChain :=
  let y := filterStep { feed := Config.compensation } x.fir code
  (y.1, { x with fir := y.2 })

/-- The stream `xs`, newest first, shifted by `delay` ÷ 1,024 samples from the sample four before the newest (R321): between two
samples by interpolation. -/
def delayed (delay : Int) (xs : List ℚ) : ℚ :=
  let p := (4096 + delay).toNat
  if p % 1024 = 0 then (match xs[p / 1024]? with | some v => v | none => 0) else Config.interpolate p xs

/-- Steps 3 to 5 of one sample: the high-pass filter, on coil channels the integrator, and the calibration delay. -/
def condition (coil : Bool) (delay : Int) (x : ChannelChain) (v : ℚ) : ℚ × ChannelChain :=
  let h := filterStep Config.highPass x.highPass v
  let i := if coil then filterStep Config.coilIntegrator x.integ h.1 else (h.1, x.integ)
  let xs := (i.1 :: x.delay).take 16
  (delayed delay xs, { x with highPass := h.2, integ := i.2, delay := xs })

/-- The full scale of a channel in V (R318). -/
def fullScale (ch sensor : Nat) : ℚ := if ch < 12 ∨ sensor = 1 then 1 / 2 else if sensor = 2 then 1 / 10 else 1 / 20

/-- Step 6: engineering units per unit of a sample: FS ÷ 2^23 × GAIN ÷ KSENS (R319). Without a KSENS other than 0 the
specification states none. -/
def unitScale (s : State) (ch : Nat) : ℚ :=
  let cfg := match tabFind ch (sheet s).meter.channels with | some c => c | none => {}
  match fpRat (f32 (tabGet (0x3F800000, 0) s.mtr.cal ch).1), fpRat (f32 cfg.ksens) with
  | some g, some k => if k = 0 then Config.openScale ch else fullScale ch cfg.sensor / 2 ^ 23 * g / k
  | _, _ => Config.openScale ch

/-- The calibration delay in effect, in 1/1,024 sample (R321). -/
def delayOf (s : State) (ch : Nat) : Int := ofField 16 (tabGet (0x3F800000, 0) s.mtr.cal ch).2

/-- A channel measures with an air-cored coil (R318). -/
def isCoil (s : State) (ch : Nat) : Bool :=
  ch ≥ 12 && (match tabFind ch (sheet s).meter.channels with | some c => c.sensor = 2 | none => false)

/-- A sample reaches 99 % of full scale (R322). -/
def overRange (code : Int) : Bool := decide (99 * 2 ^ 23 ≤ 100 * code.natAbs)

/-- A channel's samples of a window: values in engineering units in time order, over-range, and the chain after them. -/
structure ChannelRun where
  values : List ℚ
  over' : Bool
  chain : ChannelChain
deriving DecidableEq, Repr

/-- The samples of channel `ch` that the modulator's bits give (R319). -/
def channelRun (s : State) (ch : Nat) (bits : List (BitVec 128)) : ChannelRun :=
  let k := unitScale s ch
  let r := bits.foldl (fun (r : List ℚ × Bool × ChannelChain) b =>
    let d := decimate r.2.2 b
    let f := compensate d.2 d.1
    let c := condition (isCoil s ch) (delayOf s ch) f.2 f.1
    ((c.1 * k) :: r.1, r.2.1 || overRange d.1, c.2)) ([], false, tabGet {} s.mtr.chains ch)
  { values := r.1.reverse, over' := r.2.1, chain := r.2.2 }

/-! ### Elements (R326, R328) -/

/-- One sample of an element: p, the direction-filtered p̄, and P1 with Q1 while its tracker is valid. -/
structure PhaseFlow where
  p : ℚ := 0
  pbar : ℚ := 0
  fund : Option (ℚ × ℚ) := none
deriving DecidableEq, Repr

/-- The direction filter's output: the mean of the last 3,200 powers, newest first (R328). -/
def directionMean (ps : List ℚ) : ℚ := (ps.take 3200).sum / 3200

/-- What a direction filter still holds, in W times samples: of the power m samples ago 3,199 − m of 3,200 parts (R328, R342). -/
def directionRest (ps : List ℚ) : ℚ :=
  ((ps.take 3200).zipIdx.map (fun e => e.1 * (3199 - e.2 : ℚ) / 3200)).sum

/-- The quadrature references of sample `i` of a window: the tracker's phase advances at its frequency (R326). -/
def referenceAt (t : TrackerWindow) (i : Nat) : ℚ × ℚ :=
  quadrature ((t.phase + i * t.freq * 2 ^ 32 / 32000000) % 2 ^ 32)

/-- The samples of two tracked line periods (R326). -/
def twoPeriods (freq : Nat) : Nat := (64000000 + freq / 2) / max 1 freq

/-- Products of a sample pair with the references: in phase and in quadrature, of voltage and of current. -/
def productsOf (r : ℚ × ℚ) (v i : ℚ) : Quadrature := { vi := v * r.1, vq := v * r.2, ii := i * r.1, iq := i * r.2 }

/-- P1 and Q1 from the products of two line periods: V1 and I1 are √2 times their means, the RMS phasors (R326). -/
def fundamental (n : Nat) (qs : List Quadrature) : ℚ × ℚ :=
  let m := fun (f : Quadrature → ℚ) => (qs.map f).sum / n
  let vr := m (fun q => q.vi)
  let vj := -m (fun q => q.vq)
  let ir := m (fun q => q.ii)
  let ij := -m (fun q => q.iq)
  (2 * (vr * ir + vj * ij), 2 * (vj * ir - vr * ij))

/-- One sample of an element with its references, if its tracker is valid (R326, R328). Without, the products start anew. -/
def elementSample (n : Nat) (r : Option (ℚ × ℚ)) (v i : ℚ) (x : ElementChain) : PhaseFlow × ElementChain :=
  let ps := (v * i :: x.powers).take 3200
  let qs := match r with | some r => (productsOf r v i :: x.products).take n | none => []
  ({ p := v * i, pbar := directionMean ps, fund := r.map (fun _ => fundamental n qs) }, { powers := ps, products := qs })

/-- The samples of an element over a window whose first sample stands at the TAI instant `w0` µs. -/
def elementRun (s : State) (vch w0 : Nat) (t : TrackerWindow) (vs is : List ℚ) (x : ElementChain) :
    List PhaseFlow × ElementChain :=
  let n := twoPeriods t.freq
  let r := (vs.zip is).zipIdx.foldl (fun (r : List PhaseFlow × ElementChain) e =>
    let us := w0 + e.2 * 125 / 4
    let y := elementSample n (if trackedAt s vch us then some (referenceAt t e.2) else none) e.1.1 e.1.2 r.2
    (y.1 :: r.1, y.2)) ([], x)
  (r.1.reverse, r.2)

/-! ### Harmonics (R327) -/

/-- The RMS phasor magnitude of order `h` over points resampled at 128 to a cycle, in binary64. -/
def dftMagnitude (points : List ℚ) (h : Nat) : Nat :=
  let rs := points.zipIdx.map (fun e => let r := quadrature (h * e.2 % 128 * 2 ^ 25); (e.1 * r.1, e.1 * r.2))
  let re := meanOf (rs.map (fun e => e.1))
  let im := meanOf (rs.map (fun e => e.2))
  fpSqrt64 (f64 (ratF64 (2 * (re * re + im * im))))

/-- Point `k` at 128 points to a cycle of `freq` mHz: 250,000 × k ÷ `freq` samples after the first (R327). -/
def resampled (freq : Nat) (values : List ℚ) (k : Nat) : ℚ :=
  match decide (k * 250000 % freq = 0), values[k * 250000 / freq]? with
  | true, some v => v
  | _, _ => Config.resample freq values k

/-- FUND and harmonics 2 to 63 in % of it: `cycles` tracked cycles of `freq` mHz, resampled to 128 points each (R327). -/
def harmonicsOf (freq cycles : Nat) (values : List ℚ) : Nat × List Nat :=
  let points := (List.range (128 * cycles)).map (resampled freq values)
  let x1 := dftMagnitude points 1
  (x1, (List.range 62).map (fun k => quotient (f64Mul (f64OfInt 100) (dftMagnitude points (k + 2))) x1))

/-- The voltage channel whose tracker serves channel `ch`: its own, or that of its element's voltage (R326, R327). -/
def trackerOf (s : State) (ch : Nat) : Option Nat :=
  if ch < 12 then some ch
  else ((sheet s).meter.circuits.filterMap (fun e => (e.2.amps.zip e.2.volts).findSome? (fun m =>
    if 12 + m.1 = ch then some m.2 else none))).head?

end Sys2Proof.Machine
end

