-- ==== Sys2Proof/Machine/Meter.lean ====
section
/-! DEFINITION. Metering from the samples of a window on (spec/08_metering.md, R322 to R356). -/

namespace Sys2Proof.Machine

/-- The lane of a circuit (R324). -/
def circuitLane (s : State) (c : Nat) : Nat := tabGet 0 (charter s).circuitLanes c

/-- A channel at run time; 0 to 11 are V0 to V11, 12 to 47 are I0 to I35. -/
def meterChannel (s : State) (ch : Nat) : MeterChannel := tabGet {} s.mtr.channels ch

/-- A circuit at run time. -/
def meterCircuit (s : State) (c : Nat) : MeterCircuit := tabGet {} s.mtr.circuits c

/-- Stores a circuit's run-time state. -/
def setMeterCircuit (c : Nat) (x : MeterCircuit) (s : State) : State :=
  { s with mtr := { s.mtr with circuits := tabPut {} c x s.mtr.circuits } }

/-- Metering accumulates in this mode (R353). -/
def meterMode (s : State) : Bool :=
  let m := s.get Reg.MODE_STAT_MODE
  m = 2 || m = 3 || m = 4 || m = 5 || m = 6

/-- The start current in effect, in binary32: a sheet without one, 0, has 0.001 × INOM (R334). -/
def istartOf (c : CircuitCfg) : Nat := if c.istart % 2 ^ 31 = 0 then fpFraction32 (f32 c.inom) 1000 else c.istart

/-- The no-load threshold in effect, in binary32: a sheet without one, 0, has 0.5 × VNOM × ISTART (R334). -/
def noloadOf (c : CircuitCfg) : Nat :=
  if c.noload % 2 ^ 31 = 0 then fpFraction32 (fpProduct (f32 c.vnom) (f32 (istartOf c))) 2 else c.noload

/-! ### Accumulation (R329 to R333) -/

/-- What one sample of a flow adds to registers 0 to 7 (AIT, AET, AIF, AEF, RQ1 to RQ4), in W and var times samples (R329,
R330). -/
def sampleEnergy (f : PhaseFlow) : List ℚ :=
  let tot := if 0 ≤ f.pbar then [|f.pbar|, 0] else [0, |f.pbar|]
  match f.fund with
  | none => tot ++ [0, 0, 0, 0, 0, 0]
  | some (p1, q1) =>
    let a := if 0 ≤ p1 then [|p1|, 0] else [0, |p1|]
    let q := |q1|
    let quad := if 0 ≤ q1 then (if 0 ≤ p1 then [q, 0, 0, 0] else [0, q, 0, 0])
      else (if 0 ≤ p1 then [0, 0, 0, q] else [0, 0, q, 0])
    tot ++ a ++ quad

/-- Sum of two lists, place by place. -/
def addLists (a b : List Nat) : List Nat := a.zipWith (fun x y => x + y) b

/-- No energy in any register. -/
def noEnergy : List Nat := List.replicate 8 0

/-- W times samples in units of 2^-32 mWh, of which a sample lasts 31.25 µs (R329, R336). -/
def energyUnits (x : ℚ) : Nat := (x * 2 ^ 32 / 115200).floor.toNat

/-- The window accumulators of successive flows, in units. -/
def flowEnergy (fs : List PhaseFlow) : List Nat :=
  (fs.foldl (fun acc f => acc.zipWith (fun x y => x + y) (sampleEnergy f)) (List.replicate 8 (0 : ℚ))).map energyUnits

/-- The flows of phase `i` of a window's samples. -/
def phaseFlows (i : Nat) (runs : List (List PhaseFlow)) : List PhaseFlow :=
  runs.map (fun r => match r[i]? with | some f => f | none => {})

/-- The gross accumulators of a phase over samples. -/
def phaseEnergy (i : Nat) (runs : List (List PhaseFlow)) : List Nat := flowEnergy (phaseFlows i runs)

/-- The flow of element T by vector sum of the phases (R331). -/
def vectorFlow (fs : List PhaseFlow) : PhaseFlow :=
  let fund := fs.filterMap (fun f => f.fund)
  { p := (fs.map (fun f => f.p)).sum, pbar := (fs.map (fun f => f.pbar)).sum,
    fund := if fund = [] then none else some ((fund.map (fun x => x.1)).sum, (fund.map (fun x => x.2)).sum) }

/-- The accumulators of the vector total over samples. -/
def vectorEnergy (runs : List (List PhaseFlow)) : List Nat := flowEnergy (runs.map vectorFlow)

/-- The group of a register: 0 total active, 1 fundamental active, 2 reactive (R333). -/
def groupOf (k : Nat) : Nat := if k < 2 then 0 else if k < 4 then 1 else 2

/-- The gross energy of a group. -/
def grossOf (g : Nat) (es : List Nat) : Nat := ((es.zipIdx.filter (fun e => groupOf e.2 = g)).map (fun e => e.1)).sum

/-- A group passes the power test over `ms` (R333): gross ÷ time is at least NOLOAD; 1 mWh is 3.6 J. -/
def powerTest (c : CircuitCfg) (ms gross : Nat) : Bool :=
  fpLe (fpMul (f32 (noloadOf c)) (fpOfInt ms)) (.fin false (gross * 3600) (-32))

/-- The tests of R333 of an element over `ms`: per group, kept or not. -/
def groupTests (c : CircuitCfg) (ms : Nat) (irms : Nat) (es : List Nat) : List Bool :=
  let start := fpLe (f32 (istartOf c)) (f64 irms)
  (List.range 3).map (fun g => start && powerTest c ms (grossOf g es))

/-- The accumulators with discarded groups set to 0. -/
def keepGroups (kept : List Bool) (es : List Nat) : List Nat :=
  es.zipIdx.map (fun e => if kept[groupOf e.2]? = some true then e.1 else 0)

/-- What the elements A, B, C and T of a circuit keep of a window of `ms`: kept groups and energies per element (R331,
R333). -/
def windowEnergy (c : CircuitCfg) (ms : Nat) (irms : List Nat) (runs : List (List PhaseFlow)) : List (List Bool × List Nat) :=
  let n := phaseCount c
  let ph := (List.range n).map (fun i =>
    let es := phaseEnergy i runs
    let kept := groupTests c ms (match irms[i]? with | some v => v | none => 0) es
    (kept, keepGroups kept es))
  let anyKept := (List.range 3).map (fun g => ph.any (fun x => x.1[g]? = some true))
  let tot := if !c.threePhase then (match ph.head? with | some x => x.2 | none => noEnergy)
    else if c.vsum then keepGroups anyKept (vectorEnergy runs)
    else (ph.map (fun x => x.2)).foldl addLists noEnergy
  ph ++ List.replicate (3 - n) ([false, false, false], noEnergy) ++ [(anyKept, tot)]

/-- Adds energies to the registers of element `e` of circuit `c`. -/
def addRegs (c e : Nat) (es : List Nat) (regs : Table Nat) : Table Nat :=
  es.zipIdx.foldl (fun t x => tabMap 0 ((4 * c + e) * 8 + x.2) (fun v => v + x.1) t) regs

/-- A register in whole mWh or mvarh (R336). -/
def regWhole (regs : Table Nat) (c e k : Nat) : Nat := tabGet 0 regs ((4 * c + e) * 8 + k) / 2 ^ 32 % 2 ^ 64

/-! ### The test gate (R335) -/

/-- The first sample of a window that starts at `w0` µs whose instant is not before `t`. -/
def firstSample (w0 t : Nat) : Nat := if t ≤ w0 then 0 else ((t - w0) * 4 + 124) / 125

/-- The samples of a window that fall into the gate: from its start up to, but not including, its stop. -/
def gatedRuns (gate : Nat × Nat) (w0 : Nat) (runs : List (List PhaseFlow)) : List (List PhaseFlow) :=
  (runs.take (firstSample w0 gate.2)).drop (firstSample w0 gate.1)

/-- The gated energy of element T, under the window's decisions (R333, R335). -/
def gatedEnergy (c : CircuitCfg) (kept : List (List Bool)) (runs : List (List PhaseFlow)) : List Nat :=
  let k := fun i => match kept[i]? with | some x => x | none => []
  if !c.threePhase then keepGroups (k 0) (phaseEnergy 0 runs)
  else if c.vsum then keepGroups (k 3) (vectorEnergy runs)
  else (List.range 3).foldl (fun acc i => addLists acc (keepGroups (k i) (phaseEnergy i runs))) noEnergy

/-! ### Demand intervals (R337 to R339) -/

/-- The demand interval in ms. -/
def dintMs (s : State) : Nat :=
  match s.get Reg.MTR_CFG_DINT with
  | 1 => 300000 | 2 => 600000 | 3 => 900000 | 4 => 1800000 | _ => 3600000

/-- The phase of interval boundaries in TAI ms. -/
def dintPhase (s : State) : Nat := s.get Reg.TBASE_CFG_UTCOFF * 1000 % dintMs s

/-- The nominal start of the interval that contains `t` ms. -/
def intervalStart (s : State) (t : Nat) : Nat := t - (t + dintMs s - dintPhase s) % dintMs s

/-- The flags that an interval opens with: the gate, the fallback, invalid trackers. -/
def openFlags (s : State) : Nat := b2n (s.bit Reg.MTR_STAT_ACCUNSPEC) * 4 + b2n (s.bit Reg.MTR_STAT_TESTACT) * 64

/-- The circuits that use one of the channels `chs`. -/
def circuitsUsing (s : State) (chs : List Nat) : List Nat :=
  ((sheet s).meter.circuits.filter (fun e => e.2.volts.any (fun v => chs.contains v) ||
    e.2.amps.any (fun a => chs.contains (12 + a)))).map (fun e => e.1)

/-- Circuits with an invalid tracker start an interval with FREQRANGE. -/
def openCircuitFlags (s : State) : Table Nat :=
  ((sheet s).meter.circuits.filter (fun e => e.2.volts.any (fun v => !trackerValid s v))).map (fun e => (e.1, 16))

/-- The end of an open interval in TAI ms: the first boundary from now on after its start (R337, R339). -/
def intervalEndMs (o : OpenInterval) (s : State) : Nat := instantFrom (dintMs s) (dintPhase s) (max (msUp s) (o.start + 1))

/-- Opens the interval that contains `t` ms with further flags. -/
def openInterval (t flags : Nat) (base : Table Nat) (s : State) : State :=
  { s with mtr := { s.mtr with interval := some { start := intervalStart s t, flags := flags ||| openFlags s,
                                                  cflags := openCircuitFlags s, base := base } } }

/-- Flags the open interval of every circuit. -/
def flagInterval (f : Nat) (s : State) : State :=
  match s.mtr.interval with
  | none => s
  | some o => { s with mtr := { s.mtr with interval := some { o with flags := o.flags ||| f } } }

/-- Flags the open interval of some circuits. -/
def flagCircuits (f : Nat) (cs : List Nat) (s : State) : State :=
  match s.mtr.interval with
  | none => s
  | some o => { s with mtr := { s.mtr with interval := some { o with
      cflags := cs.foldl (fun t c => tabMap 0 c (fun v => v ||| f) t) o.cflags } } }

/-- Power in W of an energy in units over `ms`, in binary64. -/
def unitPower (u ms : Nat) : Nat := f64Div (f64OfInt (u * 3600)) (toF64 (.fin false ms 32))

/-- The record of circuit `c` for an interval up to the registers `regs` (R337). -/
def intervalRecord (o : OpenInterval) (regs : Table Nat) (c : Nat) (s : State) : IntervalRec :=
  let diff := fun k => regWhole regs c 3 k - regWhole o.base c 3 k
  let es := (List.range 8).map diff
  let sat := es.any (fun e => e > 0xFFFFFFFF)
  let pk := fun d => toF32 (f64 (unitPower (tabGet 0 o.peaks (2 * c + d)) 1000))
  { start := o.start, len := o.len, flags := (o.flags ||| tabGet 0 o.cflags c) ||| b2n sat * 128,
    energy := es.map (fun e => min e 0xFFFFFFFF), pkimp := pk 0, pkexp := pk 1, seq := (tabGet 0 s.mtr.seqs c) % 2 ^ 32,
    calep := s.get Reg.MTR_EPOCHS_CALEP, regep := s.get Reg.MTR_EPOCHS_REGEP }

/-- Closes the open interval at the registers `regs` with one record per circuit in its ring (R337). -/
def closeIntervalAt (regs : Table Nat) (s : State) : State :=
  match s.mtr.interval with
  | none => s
  | some o =>
    let s := (circuits s).foldl (fun s c =>
      let r := intervalRecord o regs c s
      let h := match tabFind c s.mtr.heads with | some h => (h + 1) % 128 | none => 0
      { s with mtr := { s.mtr with rings := tabInsert (128 * c + h) r s.mtr.rings, heads := tabInsert c h s.mtr.heads,
                                   seqs := tabPut 0 c ((r.seq + 1) % 2 ^ 32) s.mtr.seqs, last := tabInsert c r s.mtr.last } }) s
    { s with mtr := { s.mtr with interval := none } }

/-- Closes the open interval at the registers as they are. -/
def closeInterval (s : State) : State := closeIntervalAt s.mtr.regs s

/-- The open interval ends at `ms` and the next opens with `flags`. -/
def nextInterval (ms flags : Nat) (s : State) : State :=
  let s := closeInterval s
  openInterval ms flags s.mtr.regs { s with mtr := { s.mtr with closedMs := ms } }

/-- The open interval closes at its end, if `ms` is that instant (R337, R339). -/
def endIntervalAt (ms : Nat) (s : State) : State :=
  match s.mtr.interval with
  | none => s
  | some o => if s.bit Reg.TBASE_STAT_SET && !s.mtr.waiting && decide (intervalEndMs o s = ms) then nextInterval ms 0 s else s

/-- The window that ended now has closed its interval (R332, R337). -/
def justClosed (s : State) : Bool := s.mtr.closedMs ≠ 0 && decide (s.now = instantOfTai s (s.mtr.closedMs * msec))

/-- DEMAND_INTERVAL_END (R337, R339): at the next interval boundary. METER_WINDOW_END at that instant has closed the interval
already. -/
def demandEnd (s : State) : State :=
  match s.mtr.interval with
  | none => s
  | some o =>
    if !s.bit Reg.MTR_STAT_RUNNING || !s.bit Reg.TBASE_STAT_SET || s.mtr.waiting || justClosed s then s
    else
      let ms := intervalEndMs o s
      nextInterval ms 0 (s.reach (instantOfTai s (ms * msec)))

/-- Accumulation that began at the registers `startRegs` belongs from `ms` on to an interval (R339, R344): the open one goes on with
the flags `held`, if `ms` lies in it, and else closes with them; a new one opens with `fresh`. -/
def takeInterval (ms held fresh len : Nat) (s : State) : State :=
  let start := s.mtr.startRegs
  let put := fun (s : State) => match s.mtr.interval with
    | some o => { s with mtr := { s.mtr with interval := some { o with len := o.len + len }, waiting := false, waitLen := 0 } }
    | none => s
  match s.mtr.interval with
  | some o =>
    if o.start = intervalStart s ms then
      let cf := (openCircuitFlags s).foldl (fun t e => tabMap 0 e.1 (fun v => v ||| e.2) t) o.cflags
      put { s with mtr := { s.mtr with interval := some { o with flags := o.flags ||| held ||| openFlags s, cflags := cf } } }
    else put (openInterval ms fresh start (closeIntervalAt start (flagInterval held s)))
  | none => put (openInterval ms fresh start s)

/-- A step of TAI by `d` ns (R332, R338, R339): windows and boundaries follow the new time; the open interval is flagged TIMESTEP,
and ends if its boundary has passed. A stop whose commit instant has been read is not touched (R346). -/
def meterTimeStep (d : Int) (s : State) : State :=
  if s.mtr.stopAt.isSome then s
  else
    let w := (((s.mtr.windowMs * msec : Nat) : Int) + d).toNat / msec
    let marks := s.mtr.marks.map (fun m => (m.1, ((m.2.1 : Int) + d / 1000).toNat, m.2.2))
    let s := { s with mtr := { s.mtr with windowMs := w, closedMs := 0, marks := marks } }
    match s.mtr.interval with
    | none => s
    | some o =>
      if s.mtr.waiting then s
      else
        let s := flagInterval 2 (s.raise Reg.MTR_FAULT_TIMESTEP)
        if s.bit Reg.MTR_STAT_RUNNING && s.bit Reg.TBASE_STAT_SET && decide (o.start < intervalStart s (taiMs s)) then
          nextInterval (taiMs s) 2 s
        else s

/-! ### Saves (R340, R341) -/

/-- SEQ `a` is newer than `b`, modulo 2^32 within half the range (R343). -/
def seqNewer (a b : Nat) : Bool := a ≠ b && (a + 2 ^ 32 - b) % 2 ^ 32 < 2 ^ 31

/-- The slot with the newest valid image: its number and image. -/
def newestSlot (s : State) : Option (Nat × SaveImage) :=
  match s.mtr.slot0, s.mtr.slot1 with
  | some a, some b => if seqNewer b.seq a.seq then some (1, b) else some (0, a)
  | some a, none => some (0, a)
  | none, some b => some (1, b)
  | none, none => none

/-- The slot that the next image goes to, with its SEQ. -/
def nextSlot (s : State) : Nat × Nat :=
  match newestSlot s with
  | some (n, i) => (1 - n, (i.seq + 1) % 2 ^ 32)
  | none => (0, 0)

/-- The energy state as an image (R340). -/
def saveImage (seq instant : Nat) (pf : Bool) (s : State) : SaveImage :=
  { seq := seq, instant := instant, pf := pf, regs := s.mtr.regs, interval := s.mtr.interval, heads := s.mtr.heads,
    seqs := s.mtr.seqs, changed := s.mtr.changed }

/-- Stores an image in slot `n`. -/
def putSlot (n : Nat) (i : Option SaveImage) (s : State) : State :=
  if n = 0 then { s with mtr := { s.mtr with slot0 := i } } else { s with mtr := { s.mtr with slot1 := i } }

/-- METER_SAVE (R341): a periodic save, which `fails` its read-back check or not. -/
def meterSave (instant : Nat) (fails : Bool) (s : State) : State :=
  let t := nextSlot s
  if fails then
    logEvent 0x0400 5 [t.1, t.2] ((s.countSat Reg.MTR_SAVEFAIL_COUNT 1).raise Reg.MTR_FAULT_SAVEFAIL)
  else (putSlot t.1 (some (saveImage t.2 instant false s)) s).set Reg.MTR_SAVESEQ_SEQ t.2

/-! ### Windows (R322, R327, R332, R347, R348, R352) -/

/-- The THD of a set of harmonics (R327), in binary64. -/
def thdOf (hs : List Nat) : Nat := fpSqrt64 (hs.foldl (fun a h => fpAdd a (fpMul (f64 h) (f64 h))) (.fin false 0 0))

/-- Over-range of a channel (R322). -/
def noteOver (ch : Nat) (s : State) : State :=
  let s := s.raise Reg.MTR_FAULT_OVRANGE
  if ch < 12 then s.set Reg.MTR_OVRHI_VBITS (maskSet (s.get Reg.MTR_OVRHI_VBITS) ch)
  else if ch < 44 then s.set Reg.MTR_OVRLO_BITS (maskSet (s.get Reg.MTR_OVRLO_BITS) (ch - 12))
  else s.set Reg.MTR_OVRHI_IBITS (maskSet (s.get Reg.MTR_OVRHI_IBITS) (ch - 44))

/-- What voltage channel `v`'s tracker gives over the window. -/
def trackerWindow (w : MeterWindow) (v : Nat) : TrackerWindow := match w.trackers.find? (fun e => e.1 = v) with | some e => e.2 | none => {}

/-- The fundamental and the harmonics of channel `ch` over a window, by a valid tracker; else they read 0 (R327). -/
def windowHarmonics (w : MeterWindow) (ch : Nat) (values : List ℚ) (s : State) : Nat × List Nat :=
  match trackerOf s ch with
  | none => (0, [])
  | some v =>
    if trackerValid s v then harmonicsOf (trackerWindow w v).freq (if s.bit Reg.MTR_CFG_FNOM then 12 else 10) values else (0, [])

/-- The RMS of samples, in binary64. -/
def rmsOf (values : List ℚ) : Nat := fpSqrt64 (f64 (ratF64 (meanOf (values.map (fun v => v * v)))))

/-- The samples of a window's channels by their number. -/
def windowRuns (w : MeterWindow) (s : State) : List (Nat × ChannelRun) := w.channels.map (fun e => (e.1, channelRun s e.1 e.2))

/-- The values of channel `ch`. -/
def valuesOf (rs : List (Nat × ChannelRun)) (ch : Nat) : List ℚ :=
  match rs.find? (fun e => e.1 = ch) with | some e => e.2.values | none => []

/-- LFVALID takes a value, and a trim window from mains follows it (R348, R595). -/
def setLfValid (v : Bool) (s : State) : State :=
  trimReference 1 (s.bit Reg.MTR_STAT_LFVALID != v) (s.setBit Reg.MTR_STAT_LFVALID v)

/-- FREQ_TRACKER_CHANGE (R325): an invalid tracker of the mains reference ends its validity (R348). -/
def trackerChange (v : Nat) (valid : Bool) (s : State) : State :=
  let m := if valid then maskSet s.mtr.trackers v else maskClear s.mtr.trackers v
  let was := trackerValid s v
  let marks := if was != valid then s.mtr.marks ++ [(v, taiUs s, valid)] else s.mtr.marks
  let s := { s with mtr := { s.mtr with trackers := m, marks := marks } }
  let s := if !valid && decide (s.get Reg.MTR_CFG_LFCH = v) then
      setLfValid false { s with mtr := { s.mtr with lfRun := 0 } } else s
  if was && !valid then flagCircuits 16 (circuitsUsing s [v]) (s.raise Reg.MTR_FAULT_FREQRANGE) else s

/-- The conditions of R325 as a window measures them: the RMS is at least 20 % of the VNOM of a circuit that uses the channel, or of
230 V if none does, and the frequency lies from 45 Hz to 66 Hz. -/
def trackerHolds (s : State) (v rms freq : Nat) : Bool :=
  let noms := ((sheet s).meter.circuits.filter (fun e => e.2.volts.contains v)).map (fun e => f32 e.2.vnom)
  let noms := if noms = [] then [fpOfInt 230] else noms
  decide (45000 ≤ freq) && decide (freq ≤ 66000) && noms.any (fun n => fpLe n (fpTimes 5 (f64 rms)))

/-- The trackers at the end of a window (R325): the conditions have held for its 200 ms, or they fail; where a tracker has changed
within the window, it stays as it is. -/
def windowTrackers (w : MeterWindow) (rs : List (Nat × ChannelRun)) (s : State) : State :=
  rs.foldl (fun s e =>
    if 12 ≤ e.1 || e.2.values = [] then s
    else if !trackerHolds s e.1 (rmsOf e.2.values) (trackerWindow w e.1).freq then trackerChange e.1 false s
    else if s.mtr.marks.any (fun m => m.1 = e.1) then s
    else trackerChange e.1 true s) s

/-- The channel results of a window (R322, R327, R332, R355). -/
def windowChannels (w : MeterWindow) (rs : List (Nat × ChannelRun)) (s : State) : State :=
  rs.foldl (fun s e =>
    let x := meterChannel s e.1
    let vs := e.2.values
    let h := windowHarmonics w e.1 vs s
    let y : MeterChannel := { rms := rmsOf vs, rms1 := h.1,
                              peak := ratF64 (vs.foldl (fun m v => max m |v|) 0),
                              freq := if e.1 < 12 then (trackerWindow w e.1).freq else 0,
                              ovrw := min (x.ovrw + b2n e.2.over') (2 ^ 32 - 1), over' := e.2.over', harmonics := h.2 }
    let s := { s with mtr := { s.mtr with channels := tabPut {} e.1 y s.mtr.channels, chains := tabPut {} e.1 e.2.chain s.mtr.chains } }
    if e.2.over' then noteOver e.1 s else s) s

/-- The samples of the phases of circuit `c` over a window that begins at `w0` µs: one list of flows a phase (R326, R328). -/
def circuitFlows (c : Nat) (cfg : CircuitCfg) (w : MeterWindow) (rs : List (Nat × ChannelRun)) (w0 : Nat) (s : State) :
    List (List PhaseFlow) × State :=
  (List.range (phaseCount cfg)).foldl (fun (r : List (List PhaseFlow) × State) e =>
    let ch := elementChannels cfg e
    let y := elementRun r.2 ch.1 w0 (trackerWindow w ch.1) (valuesOf rs ch.1) (valuesOf rs ch.2) (tabGet {} r.2.mtr.elements (3 * c + e))
    (r.1 ++ [y.1], { r.2 with mtr := { r.2.mtr with elements := tabPut {} (3 * c + e) y.2 r.2.mtr.elements } })) ([], s)

/-- The flows of the phases, sample by sample. -/
def bySample (phases : List (List PhaseFlow)) : List (List PhaseFlow) :=
  let n := match phases.head? with | some l => l.length | none => 0
  phases.foldr (fun l acc => l.zipWith (fun f r => f :: r) acc) (List.replicate n [])

/-- A list of four: the phases' values and their total. -/
def withTotal (n : Nat) (xs : List Nat) : List Nat :=
  let ys := (List.range 3).map (fun i => if i < n then (match xs[i]? with | some v => v | none => 0) else 0)
  ys ++ [if n = 1 then (match ys.head? with | some v => v | none => 0) else ys.foldl f64Add 0]

/-- The quantities of a circuit over a window (R332). -/
def windowQuantities (c : Nat) (cfg : CircuitCfg) (phases : List (List PhaseFlow)) (kept : List Bool) (wend : Nat) (s : State) : State :=
  let n := phaseCount cfg
  let x := meterCircuit s c
  let sv := withTotal n ((List.range n).map (fun e =>
    let ch := elementChannels cfg e
    f64Mul (meterChannel s ch.1).rms (meterChannel s ch.2).rms))
  let mean := fun (f : PhaseFlow → Option ℚ) => withTotal n (phases.map (fun l => ratF64 (meanOf (l.filterMap f))))
  let p := mean (fun f => some f.p)
  setMeterCircuit c { x with kept := kept, p := p, p1 := mean (fun f => f.fund.map (fun x => x.1)),
                             q1 := mean (fun f => f.fund.map (fun x => x.2)), sva := sv, pf := p.zipWith quotient sv,
                             wend := wend } s

/-- The flows of a circuit enter its registers (R332, R333) and, in the gate, the test registers (R335); `last` is what the
direction filters of the phases add at a stop (R342). -/
def windowCircuit (c : Nat) (cfg : CircuitCfg) (phases : List (List PhaseFlow)) (last : List (List PhaseFlow)) (ms w0 wend : Nat)
    (s : State) : State :=
  let runs := bySample phases ++ last
  let irms := (List.range (phaseCount cfg)).map (fun e => (meterChannel s (elementChannels cfg e).2).rms)
  let es := windowEnergy cfg ms irms runs
  let regs := es.zipIdx.foldl (fun t e => addRegs c e.2 e.1.2 t) s.mtr.regs
  let s := { s with mtr := { s.mtr with regs := regs, changed := if regs = s.mtr.regs then s.mtr.changed else tabPut 0 c wend s.mtr.changed } }
  let s := match s.mtr.gate with
    | some g =>
      if s.bit Reg.MTR_STAT_TESTACT then
        let ge := gatedEnergy cfg (es.map (fun e => e.1)) (gatedRuns g w0 runs)
        { s with mtr := { s.mtr with tregs := ge.zipIdx.foldl (fun t x => tabMap 0 (8 * c + x.2) (fun v => v + x.1) t) s.mtr.tregs } }
      else s
    | none => s
  let lost := (es.take (phaseCount cfg)).any (fun e => e.1.contains false)
  let x := meterCircuit s c
  let s := if lost then setMeterCircuit c { x with nlwin := min (x.nlwin + 1) (2 ^ 32 - 1) } s else s
  windowQuantities c cfg phases (es.map (fun e => e.1.head? = some true)) wend s

/-- Peak demands of a whole second (R337). -/
def secondPeaks (s : State) : State :=
  match s.mtr.interval with
  | none => s
  | some o =>
    let peaks := (circuits s).foldl (fun t c => [0, 1].foldl (fun t d =>
      let k := (4 * c + 3) * 8 + d
      let u := tabGet 0 s.mtr.regs k - tabGet 0 s.mtr.secRegs k
      tabPut 0 (2 * c + d) (max u (tabGet 0 t (2 * c + d))) t) t) o.peaks
    { s with mtr := { s.mtr with interval := some { o with peaks := peaks } } }

/-- The mains reference (R348): LCYC counts 0.2 s of the frequency, 256 × mHz ÷ 5,000, and carries the rest. -/
def mainsReference (s : State) : State :=
  let ch := s.get Reg.MTR_CFG_LFCH
  let f := (meterChannel s ch).freq
  let nom := if s.bit Reg.MTR_CFG_FNOM then 60000 else 50000
  let good := trackerValid s ch && nom ≤ f + 500 && f ≤ nom + 500
  let run := if good then min (s.mtr.lfRun + 1) 50 else 0
  let fs := (s.mtr.lfFreqs ++ [f]).drop ((s.mtr.lfFreqs.length + 1) - 50)
  let s := { s with mtr := { s.mtr with lfRun := run, lfFreqs := fs } }
  let s := s.set Reg.MTR_LFREQ_MHZ (fs.sum / max 1 fs.length)
  let cyc := s.mtr.lcycRest + 256 * f
  setLfValid (decide (run ≥ 50)) { s.countWrap Reg.MTR_LCYC_COUNT (cyc / 5000) with mtr := { s.mtr with lcycRest := cyc % 5000 } }

/-- The window value of quantity `q` (0 to 9) of element `e` of circuit `c` (R351), in binary64. -/
def windowValue (s : State) (c e q : Nat) : Nat :=
  let x := meterCircuit s c
  let at' := fun (l : List Nat) => match l[e]? with | some v => v | none => 0
  match circuitCfg s c with
  | none => 0
  | some cfg =>
    let ch := elementChannels cfg e
    let irms := (List.range (phaseCount cfg)).foldl (fun a i => f64Add a (meterChannel s (elementChannels cfg i).2).rms) 0
    match q with
    | 0 => (meterChannel s ch.1).rms
    | 1 => if e = 3 then irms else (meterChannel s ch.2).rms
    | 2 => at' x.p
    | 3 => at' x.p1
    | 4 => at' x.q1
    | 5 => at' x.sva
    | 6 => at' x.pf
    | 7 => f64Div (f64OfInt (meterChannel s ch.1).freq) (f64OfInt 1000)
    | 8 => thdOf (meterChannel s ch.1).harmonics
    | _ => thdOf (meterChannel s ch.2).harmonics

/-- The metered points: record, circuit, element and quantity (R351). -/
def meteredPoints (s : State) : List (Nat × Nat × Nat × Nat) :=
  (s.pt.recs.filter (fun e => e.2.typ ≠ 0 && !e.2.mirror && !e.2.cmd && decide (e.2.addr / 2 ^ 45 % 8 = 3))).map (fun e =>
    (e.1, e.2.addr / 2 ^ 39 % 64, e.2.addr / 2 ^ 37 % 4, e.2.addr / 2 ^ 31 % 64))

/-- Adds a window to the period's sums of every metered point's quantity. -/
def addSums (s : State) : State :=
  let sums := (meteredPoints s).foldl (fun t e =>
    if e.2.2.2 < 10 then tabMap 0 e.1 (fun v => f64Add v (windowValue s e.2.1 e.2.2.1 e.2.2.2)) t else t) s.mtr.sums
  let ov := s.mtr.channels.foldl (fun m e => if e.2.over' then maskSet m e.1 else m) s.mtr.periodOver
  { s with mtr := { s.mtr with sums := sums, periodWindows := s.mtr.periodWindows + 1, periodOver := ov } }

/-- A binary64 value as the record's type holds it: 7 FLOAT32, 8 FLOAT64 (R89). -/
def typedFloat (typ v : Nat) : Nat := if typ = 7 then toF32 (f64 v) else v % 2 ^ 64

/-- The channels from which quantity `q` of element `e` derives (R322): the voltage channels for codes 0, 7 and 8, the current
channels for 1 and 9, both for the others. -/
def valueChannels (cfg : CircuitCfg) (e q : Nat) : List Nat :=
  let vs := if e = 3 then cfg.volts else [(elementChannels cfg e).1]
  let is := if e = 3 then cfg.amps.map (fun a => 12 + a) else [(elementChannels cfg e).2]
  if q = 0 ∨ q = 7 ∨ q = 8 then vs else if q = 1 ∨ q = 9 then is else vs ++ is

/-- The value of a metered point and its flag at the end of a period (R351, R352). Where no interval has closed yet, the
demand is a value that the specification does not state. -/
def pointValue (typ : Nat) (i c e q : Nat) (s : State) : Nat × ValueFlag :=
  match circuitCfg s c with
  | none => (0, .invalid)
  | some cfg =>
    let valid := (if e = 3 then cfg.volts else [(elementChannels cfg e).1]).all (fun v => trackerValid s v)
    let over' := (valueChannels cfg e q).any (fun ch => s.mtr.periodOver.testBit ch)
    let flag : ValueFlag := if !valid && [3, 4, 7, 8, 9].contains q then .invalid
      else if over' || s.bit Reg.MTR_STAT_ACCUNSPEC then .uncertain else .valid
    let reg := fun k => regWhole s.mtr.regs c e k
    let demand := fun k => match tabFind c s.mtr.last with
      | some r => f64Div (f64OfInt ((match r.energy[k]? with | some v => v | none => 0) * 3600)) (f64OfInt r.len)
      | none => Config.freeNat (s.freeCtr + i) % 2 ^ 64
    if q < 10 then (typedFloat typ (f64Div (tabGet 0 s.mtr.sums i) (f64OfInt s.mtr.periodWindows)), flag)
    else if q < 18 then (reg (q - 10), flag)
    else if q = 18 then (toField 64 ((reg 0 : Int) - reg 1), flag)
    else (typedFloat typ (demand (q - 19)), flag)

/-- METER_POINT_UPDATE (R352): every POINTINT windows. -/
def meterPoints (s : State) : State :=
  if s.mtr.periodWindows < max 1 (s.get Reg.MTR_CFG_POINTINT) then s
  else
    let ups : List Update := (meteredPoints s).map (fun e =>
      let v := pointValue (s.point e.1).typ e.1 e.2.1 e.2.2.1 e.2.2.2 s
      { src := mkSrc 3 e.2.1, target := .idx e.1, kind := .value v.1 v.2, path := .meter e.2.1 })
    let s := submitAll ups s
    let s := { s with freeCtr := s.freeCtr + 2 ^ 20 }
    { s with mtr := { s.mtr with sums := [], periodWindows := 0, periodOver := 0 } }

/-- The result of a metered point's write (R352). -/
def meterResult (c code : Nat) (s : State) : State :=
  if code = resWritten ∨ code = resWrittenForced then s
  else
    let x := meterCircuit s c
    (setMeterCircuit c { x with pref := min (x.pref + 1) (2 ^ 32 - 1) } s).raise Reg.MTR_FAULT_POINTREF

/-- Staged calibration takes effect at the start of a window (R347). -/
def applyCalibration (s : State) : State :=
  if !s.mtr.applying then s
  else
    let chs := s.mtr.staged.map (fun e => e.1)
    let s := { s with mtr := { s.mtr with cal := s.mtr.staged.foldl (fun t (e : Nat × (Nat × Nat)) => tabInsert e.1 e.2 t) s.mtr.cal,
                                          staged := [], applying := false } }
    let s := ((s.set Reg.MTR_STAT_CALSTAGED 0).countWrap Reg.MTR_EPOCHS_CALEP 1).raise Reg.MTR_FAULT_CALCHG
    let s := logEvent 0x0404 6 [s.get Reg.MTR_EPOCHS_CALEP, (chs.map (fun c => 2 ^ c)).sum] s
    flagCircuits 8 (circuitsUsing s chs) s

/-- The gate ends (R335, R346). -/
def endGate (s : State) : State := (s.set Reg.MTR_STAT_TESTACT 0).set Reg.MTR_STAT_TESTARMED 0

/-- The end of the current window in TAI ms (R332). -/
def meterWindowEndMs (s : State) : Nat := instantFrom 200 0 (max (msUp s) (s.mtr.windowMs + 1))

/-- What a window measures of its channels and trackers (R322, R325, R327), and the mains reference (R348). -/
def windowMeasured (w : MeterWindow) (rs : List (Nat × ChannelRun)) (s : State) : State :=
  mainsReference (windowChannels w rs (windowTrackers w rs s))

/-- A window in UNPROVISIONED and PROVISIONING: the channels are sampled, and nothing is accumulated or saved (R353). -/
def sampleOnly (w : MeterWindow) (s : State) : State :=
  let wend := meterWindowEndMs s
  let s := s.reach (instantOfTai s (wend * msec))
  let s := windowMeasured w (windowRuns w s) s
  { s with mtr := { s.mtr with windowMs := wend, marks := [] } }

/-- The time `len` ms metered since the last window belongs to the open interval, which opens with the first window after TAI is set
(R339). -/
def meteredTime (ms len : Nat) (s : State) : State :=
  if s.mtr.interval.isNone || s.mtr.waiting then
    if s.bit Reg.TBASE_STAT_SET then takeInterval (ms - 1) 3 (s.mtr.waitFlags ||| 3) (s.mtr.waitLen + len) s
    else { s with mtr := { s.mtr with waiting := true, waitLen := s.mtr.waitLen + len } }
  else match s.mtr.interval with
    | some o => { s with mtr := { s.mtr with interval := some { o with len := o.len + len } } }
    | none => s

/-- Whole seconds: peak demands (R337). -/
def wholeSecond (s : State) : State :=
  let s : State := if s.mtr.secWindows = 5 then secondPeaks s else s
  { s with mtr := { s.mtr with secWindows := 0, secRegs := s.mtr.regs } }

/-- METER_WINDOW_END (R332): the window that ends at the next multiple of 200 ms, and with it a demand interval that ends there
(R337). -/
def meterWindow (w : MeterWindow) (saveFails : Bool) (s : State) : State :=
  if s.bit Reg.MTR_STAT_HALTED ∨ s.get Reg.MODE_STAT_MODE = 7 then s
  else if !meterMode s then sampleOnly w s
  else if !s.bit Reg.MTR_STAT_RUNNING || s.mtr.stopAt.isSome then s
  else
    let wend := meterWindowEndMs s
    let s := s.reach (instantOfTai s (wend * msec))
    let rs := windowRuns w s
    let w0 := s.mtr.windowMs * 1000
    let s := windowMeasured w rs s
    let s := (sheet s).meter.circuits.foldl (fun s e =>
      let f := circuitFlows e.1 e.2 w rs w0 s
      windowCircuit e.1 e.2 f.1 [] 200 w0 wend f.2) s
    let s := meteredTime wend (wend - s.mtr.windowMs) s
    let s : State := { s with mtr := { s.mtr with windowMs := wend, marks := [], secWindows := s.mtr.secWindows + 1 } }
    let s : State := if wend % 1000 = 0 then wholeSecond s else s
    let s := match s.mtr.gate with
      | some g => if s.bit Reg.MTR_STAT_TESTACT && g.2 < wend * 1000 then endGate s else s
      | none => s
    let s := endIntervalAt wend s
    let s := if wend % 1000 = 0 then meterSave wend saveFails s else s
    applyCalibration (meterPoints (addSums s))

/-! ### Trackers, the test gate, calibration (R325, R335, R347) -/

/-- MTR_TEST_ARM (R335). -/
def testArm (s : State) : State :=
  let a := get64 s Reg.MTR_TSTARTLO_US Reg.MTR_TSTARTHI_US
  let b := get64 s Reg.MTR_TSTOPLO_US Reg.MTR_TSTOPHI_US
  if taiUs s < a ∧ a + 1000000 ≤ b ∧ b ≤ a + 86400000000 then
    ({ s with mtr := { s.mtr with tregs := [], gate := some (a, b) } }).raise Reg.MTR_STAT_TESTARMED
  else s

/-- TEST_GATE_START (R335): at TSTART. -/
def gateStart (s : State) : State :=
  match s.mtr.gate with
  | some g =>
    if s.bit Reg.MTR_STAT_TESTARMED && !s.bit Reg.MTR_STAT_TESTACT && s.bit Reg.MTR_STAT_RUNNING then
      flagInterval 64 ((s.reach (instantOfTai s (g.1 * 1000))).raise Reg.MTR_STAT_TESTACT)
    else s
  | none => s

/-- GAIN and DELAY lie in their ranges (R321, R347). -/
def calibrationOk (gain delay : Nat) : Bool :=
  let g := f32 gain
  let d := ofField 16 delay
  fpLe (.fin false 13421773 (-24)) g && fpLe g (.fin false 5 (-2)) && decide (-4096 ≤ d) && decide (d ≤ 4096)

/-- COMMIT on MTRWIN (R347, R355, R356). -/
def meterCommit (r : Nat) (s : State) : State :=
  let i := winIndex s 0x061 r
  if winBusy s 0x061 r then s
  else if i < 48 then
    if r ≠ 9 ∨ s.get Reg.MODE_STAT_MODE ≠ 5 then windowDone 0x061 r 6 s
    else
      let g := winData s 0x061 r 4
      let d := winData s 0x061 r 5 % 2 ^ 16
      if !calibrationOk g d then windowDone 0x061 r 5 s
      else windowDone 0x061 r 0
        (({ s with mtr := { s.mtr with staged := tabInsert i (g, d) s.mtr.staged } }).raise Reg.MTR_STAT_CALSTAGED)
  else if (0x100 ≤ i ∧ i < 0x124 ∧ (circuitCfg s (i - 0x100)).isSome) ∨ (0x200 ≤ i ∧ i < 0x230) then windowDone 0x061 r 6 s
  else windowDone 0x061 r 1 s

/-- An LWRITE of CALAPPLY (R347): accepted from the service port in SERVICE while values are staged. -/
def calApply (r : Nat) (s : State) : State :=
  if r = 9 ∧ s.get Reg.MODE_STAT_MODE = 5 ∧ s.mtr.staged ≠ [] then { s with mtr := { s.mtr with applying := true } } else s

/-! ### Window pages (R355, R356) -/

/-- A requester may read a channel record: lane 0, or a circuit that uses the channel (R355); without a charter, the service port
(R353). -/
def mayReadChannel (s : State) (r ch : Nat) : Bool :=
  let set := requesterLanes s r
  set.getLsbD 0 || (r = 9 && decide (s.get Reg.MODE_STAT_MODE ≤ 1)) || (circuitsUsing s [ch]).any (fun c => set.getLsbD (circuitLane s c))

/-- The binary32 of a stored binary64. -/
def asF32 (v : Nat) : Nat := toF32 (f64 v)

/-- The words of a channel record (R355). -/
def channelWords (s : State) (ch : Nat) : List Nat :=
  let x := meterChannel s ch
  let cfg := tabFind ch (sheet s).meter.channels
  let cal := tabGet (0x3F800000, 0) s.mtr.cal ch
  let stg := tabGet (0, 0) s.mtr.staged ch
  let c := match cfg with | some c => c | none => {}
  [b2n cfg.isSome * 2 ^ 31 + b2n (decide (ch ≥ 12)) * 2 ^ 30 + c.sensor * 2 ^ 28, c.ksens, cal.1, cal.2, stg.1, stg.2,
   asF32 x.rms, asF32 x.rms1, asF32 x.peak, x.freq, x.ovrw, 0, 0, 0, 0, 0]

/-- The words of a circuit record (R355). -/
def circuitWords (s : State) (c : Nat) (cfg : CircuitCfg) : List Nat :=
  let x := meterCircuit s c
  let v := fun i => match cfg.volts[i]? with | some v => v | none => 0
  let a := fun i => match cfg.amps[i]? with | some v => v | none => 0
  let bits := fun (l : List Bool) => (l.zipIdx.map (fun e => b2n e.1 * 2 ^ e.2)).sum
  let tv := (List.range (phaseCount cfg)).map (fun e => trackerValid s (v e))
  let tvT := tv.all (fun b => b)
  let tv4 := tv ++ List.replicate (3 - phaseCount cfg) false ++ [tvT]
  let ov := (valueChannels cfg 3 2).any (fun ch => (meterChannel s ch).over')
  let four := fun (l : List Nat) => (List.range 4).map (fun i => match l[i]? with | some v => asF32 v | none => 0)
  [2 ^ 31 + b2n cfg.threePhase * 2 ^ 30 + b2n cfg.vsum * 2 ^ 29 + circuitLane s c * 2 ^ 16,
   v 0 + v 1 * 16 + v 2 * 256 + a 0 * 2 ^ 12 + a 1 * 2 ^ 18 + a 2 * 2 ^ 24, cfg.vnom, cfg.inom, istartOf cfg, noloadOf cfg,
   bits x.kept + bits tv4 * 16 + b2n ov * 256, x.nlwin] ++ four x.p ++ four x.p1 ++ four x.q1 ++ four x.sva ++ four x.pf ++
  [x.pref, 0] ++ two x.wend

/-- The words of a harmonic record (R355); while the tracker is invalid it reads 0 (R327). -/
def harmonicWords (s : State) (ch : Nat) : List Nat :=
  let x : MeterChannel := match trackerOf s ch with
    | some v => if trackerValid s v then meterChannel s ch else {}
    | none => {}
  [asF32 x.rms1] ++ (List.range 62).map (fun i => match x.harmonics[i]? with | some v => asF32 v | none => 0) ++
    [asF32 (thdOf x.harmonics)]

/-- LOAD on MTRWIN (R355, R356). -/
def meterLoad (r : Nat) (s : State) : State :=
  let i := winIndex s 0x061 r
  if i < 48 then
    if mayReadChannel s r i then winLoaded 0x061 r (channelWords s i) s else winFailed 0x061 r 4 (fabricDenial r 0 i s)
  else if 0x200 ≤ i ∧ i < 0x230 then
    if mayReadChannel s r (i - 0x200) then winLoaded 0x061 r (harmonicWords s (i - 0x200)) s
    else winFailed 0x061 r 4 (fabricDenial r 0 i s)
  else if 0x100 ≤ i ∧ i < 0x124 then
    match circuitCfg s (i - 0x100) with
    | none => winFailed 0x061 r 1 s
    | some cfg =>
      let l := circuitLane s (i - 0x100)
      if (requesterLanes s r).getLsbD l then winLoaded 0x061 r (circuitWords s (i - 0x100) cfg) s
      else winFailed 0x061 r 4 (fabricDenial r l i s)
  else winFailed 0x061 r 1 s

/-- The words of an energy set (R356). -/
def energyWords (s : State) (c : Nat) : List Nat :=
  let g := match s.mtr.gate with | some g => g | none => (0, 0)
  [s.get Reg.MTR_EPOCHS_CALEP * 2 ^ 16 + s.get Reg.MTR_EPOCHS_REGEP,
   1 + b2n (s.bit Reg.MTR_STAT_ACCUNSPEC) * 2 + b2n (s.bit Reg.MTR_STAT_HALTED) * 4 + tabGet 0 s.mtr.heads c * 256] ++
  two (tabGet 0 s.mtr.changed c) ++
  (List.range 32).flatMap (fun n => two (regWhole s.mtr.regs c (n / 8) (n % 8))) ++
  (List.range 8).flatMap (fun k => two (tabGet 0 s.mtr.tregs (8 * c + k) * 1000 / 2 ^ 32)) ++ two g.1 ++ two g.2

/-- The words of an interval record (R337). -/
def intervalWords (r : IntervalRec) : List Nat :=
  two r.start ++ [r.len, r.flags] ++ r.energy ++ [r.pkimp, r.pkexp, r.seq, r.calep + 2 ^ 16 * r.regep]

/-- LOAD on ENERGY (R356). -/
def energyLoad (r : Nat) (s : State) : State :=
  let i := winIndex s 0x062 r
  let c := if i < 0x10000 then i else (i - 0x10000) / 0x100
  let l := circuitLane s c
  if (circuitCfg s c).isNone then winFailed 0x062 r 1 s
  else if !(requesterLanes s r).getLsbD l then winFailed 0x062 r 4 (fabricDenial r l i s)
  else if i < 36 then winLoaded 0x062 r (energyWords s c) s
  else if i < 0x10000 then winFailed 0x062 r 1 s
  else match tabFind (128 * c + i % 0x100) s.mtr.rings with
    | some rec' => if i % 0x100 < 128 then winLoaded 0x062 r (intervalWords rec') s else winFailed 0x062 r 1 s
    | none => winFailed 0x062 r 1 s

/-- COMMIT on ENERGY: always error 6 (R356). -/
def energyCommit (r : Nat) (s : State) : State := if winBusy s 0x062 r then s else windowDone 0x062 r 6 s

/-! ### Stop, restore and gaps (R342 to R346) -/

/-- Accumulation resumes at `ms` after a gap that began at `start` (R343, R344); while TAI is not set, no interval opens or closes
(R339). -/
def meterResume (start ms : Nat) (pf known : Bool) (s : State) : State :=
  let s := ((s.set Reg.MTR_STAT_HALTED 0).raise Reg.MTR_STAT_RUNNING).countSat Reg.MTR_GAPS_COUNT 1
  let s := (s.set Reg.MTR_LASTGAP_MS (if known then min (ms - start) 0xFFFFFFFE else 0xFFFFFFFF)).raise Reg.MTR_FAULT_GAP
  let s := logEvent 0x0402 5 [start, ms, b2n pf, b2n (!known)] s
  let gap := b2n (!known) * 256
  let extra := 1 + b2n (!pf) * 32 + gap
  let fresh := if s.mtr.interval.isSome then 1 + gap else extra
  let s := { s with mtr := { s.mtr with windowMs := ms, secWindows := 0, secRegs := s.mtr.regs, startRegs := s.mtr.regs,
                                        sums := [], periodWindows := 0, periodOver := 0, stopAt := none, closedMs := 0,
                                        waiting := true, waitLen := 0, waitFlags := fresh } }
  if s.bit Reg.TBASE_STAT_SET then takeInterval ms extra fresh 0 s else flagInterval extra s

/-- The first whole ms at or after now at which accumulation resumes. -/
def resumeMs (s : State) : Nat := msUp s

/-- The metering part of a start or of its D reset (R343, R344): restore from the newest valid slot; `bad` lists the slots
that fail their CRC. The gap's length is known once TAI is set. Fallback lasts through it (R350). -/
def meterRestore (bad : List Nat) (s : State) : State :=
  let s := if bad.contains 0 then putSlot 0 none s else s
  let s := if bad.contains 1 then putSlot 1 none s else s
  let cfg := (sheet s).meter
  let mask := (cfg.circuits.map (fun e => 2 ^ e.1)).sum
  let s := ((s.set Reg.MTR_CFG_DINT cfg.dint).set Reg.MTR_CFG_POINTINT cfg.pointint).setBit Reg.MTR_CFG_FNOM cfg.sixtyHz
  let s := ((s.set Reg.MTR_CFG_LFCH cfg.lfch).set Reg.MTR_CIRLO_MASK mask).set Reg.MTR_CIRHI_MASK (mask / 2 ^ 32)
  let s := { s with mtr := { s.mtr with channels := [], circuits := [], tregs := [], staged := [], applying := false, gate := none,
                                        trackers := 0, lfRun := 0, lfFreqs := [], closedMs := 0, chains := [], elements := [], marks := [],
                                        stopAt := none } }
  let s := s.setBit Reg.MTR_STAT_ACCUNSPEC (s.bit Reg.CLK_STAT_FALLBACK)
  if !meterMode s then s
  else
    let ms := resumeMs s
    let s := s.reach (instantOfTai s (ms * msec))
    match newestSlot s with
    | some (_, i) =>
      let s := { s with mtr := { s.mtr with regs := i.regs, interval := i.interval, heads := i.heads, seqs := i.seqs, changed := i.changed } }
      meterResume i.instant ms i.pf (s.bit Reg.TBASE_STAT_SET) (s.set Reg.MTR_SAVESEQ_SEQ i.seq)
    | none =>
      let s := { s with mtr := { s.mtr with regs := [], interval := none, heads := [], seqs := [], rings := [], last := [], changed := [] } }
      let s := (s.countWrap Reg.MTR_EPOCHS_REGEP 1).raise Reg.MTR_FAULT_RESTFAIL
      let s := logEvent 0x0401 7 [s.get Reg.MTR_EPOCHS_REGEP] s
      meterResume 0 ms true false (s.set Reg.MTR_SAVESEQ_SEQ 0)

/-- After an F restart accumulation resumes at the first whole ms (R343, R344). -/
def meterFRestart (s : State) : State :=
  if !s.bit Reg.MTR_STAT_HALTED then { s with mtr := { s.mtr with stopAt := none } }
  else
    let ms := resumeMs s
    let s := s.reach (instantOfTai s (ms * msec))
    let start := match s.mtr.pfImage with | some (_, i) => i.instant | none => ms
    meterResume start ms true (s.bit Reg.TBASE_STAT_SET) { s with mtr := { s.mtr with pfImage := none } }

/-- The direction filters of circuit `c` are emptied: one last flow of the phases' remaining content (R342). -/
def emptyFilters (c : Nat) (cfg : CircuitCfg) (s : State) : List PhaseFlow × State :=
  (List.range (phaseCount cfg)).foldl (fun (r : List PhaseFlow × State) e =>
    let x := tabGet {} r.2.mtr.elements (3 * c + e)
    (r.1 ++ [{ pbar := directionRest x.powers }],
      { r.2 with mtr := { r.2.mtr with elements := tabPut {} (3 * c + e) { x with powers := [] } r.2.mtr.elements } })) ([], s)

/-- The commit instant, the next whole ms of TAI, with its instant (R342): it is read at the warning, before a step of TAI (R346). -/
def commitInstant (s : State) : Nat × Nat :=
  match s.mtr.stopAt with
  | some x => x
  | none => (msUp s, instantOfTai s (msUp s * msec))

/-- The stop at the commit instant (R342, R346): `w` is the partial window after the last window. -/
def meterStop (w : MeterWindow) (s : State) : State :=
  if !s.bit Reg.MTR_STAT_RUNNING then s
  else
    let ms := (commitInstant s).1
    let s := s.reach (commitInstant s).2
    let len := ms - s.mtr.windowMs
    let rs := windowRuns w s
    let w0 := s.mtr.windowMs * 1000
    let s := windowChannels w rs (windowTrackers w rs s)
    let s := (sheet s).meter.circuits.foldl (fun s e =>
      let f := circuitFlows e.1 e.2 w rs w0 s
      let x := emptyFilters e.1 e.2 f.2
      windowCircuit e.1 e.2 f.1 [x.1] (max 1 len) w0 ms x.2) s
    let s := meteredTime ms len { s with mtr := { s.mtr with marks := [], windowMs := ms } }
    let s := endIntervalAt ms s
    let s := if s.mtr.closedMs = ms then flagInterval 1 s else s
    let s := if s.bit Reg.MTR_STAT_TESTACT then endGate s else s
    let t := nextSlot s
    let s := { s with mtr := { s.mtr with pfImage := some (t.1, saveImage t.2 ms true s) } }
    ((s.raise Reg.MTR_STAT_HALTED).set Reg.MTR_STAT_RUNNING 0)

/-- Metering relies on the periodic save alone (R345). -/
def periodicOnly (s : State) : State := logEvent 0x0403 4 [1000] (s.raise Reg.MTR_FAULT_LOSSBOUND)

/-- Clock fallback begins or ends (R350). -/
def meterFallback (on : Bool) (s : State) : State :=
  if on then flagInterval 4 ((s.raise Reg.MTR_STAT_ACCUNSPEC).raise Reg.MTR_FAULT_ACCUNSPEC)
  else s.set Reg.MTR_STAT_ACCUNSPEC 0

/-! ### The commands -/

/-- METER_WINDOW_END (R332). -/
def execMeterWindowEnd (window : MeterWindow) (saveFails : Bool) (s : State) : Host.Outcome State Fault Refusal :=
  done s (meterWindow window saveFails s)
/-- DEMAND_INTERVAL_END (R337). -/
def execDemandIntervalEnd (s : State) : Host.Outcome State Fault Refusal := done s (demandEnd s)
/-- FREQ_TRACKER_CHANGE (R325). -/
def execFreqTrackerChange (channel : Fin 12) (valid : Bool) (s : State) : Host.Outcome State Fault Refusal :=
  done s (trackerChange channel.val valid s)
/-- MTR_TEST_ARM (R335). -/
def execMtrTestArm (s : State) : Host.Outcome State Fault Refusal := done s (unlessBusy 0x060 (fun s => testArm s) s)
/-- TEST_GATE_START (R335). -/
def execTestGateStart (s : State) : Host.Outcome State Fault Refusal := done s (gateStart s)
/-- MTR_CALIBRATION_STAGE (R347). -/
def execMtrCalibrationStage (requester : Fin 16) (index : BitVec 20) (gain : Word) (delay : BitVec 16) (s : State) :
    Host.Outcome State Fault Refusal :=
  let r := requester.val
  done s (askPage requester 0x060 (fun s => meterCommit r (winPut 0x061 r 4 gain.toNat (winPut 0x061 r 5 delay.toNat
    (if winBusy s 0x061 r then s else s.set ((Reg.WIN_INDEX.onPage 0x061).by r) index.toNat)))) s)
/-- MTR_CALIBRATION_APPLY (R347). -/
def execMtrCalibrationApply (requester : Fin 16) (s : State) : Host.Outcome State Fault Refusal :=
  done s (askPage requester 0x060 (fun s => calApply requester.val s) s)

end Sys2Proof.Machine
end

