-- ==== Sys2Proof/Machine/ViaBase.lean ====
section
/-! DEFINITION. The viaduct below its commands (spec/10_viaduct.md, R389 to R408): peers, datagrams, subscriptions,
publications, the keystone role and the enrolment list. -/

namespace Sys2Proof.Machine

/-! ### Peers and datagrams -/

/-- The viaduct protocol runs in this mode (R424). -/
def viaRuns (s : State) : Bool :=
  let m := s.get Reg.MODE_STAT_MODE
  2 ≤ m && m ≤ 6

/-- What is known of a peer. -/
def State.peer (s : State) (k : Nat) : Peer := tabGet {} s.via.peers k

/-- Stores what is known of a peer. -/
def State.setPeer (s : State) (k : Nat) (x : Peer) : State :=
  { s with via := { s.via with peers := tabPut {} k x s.via.peers } }

/-- The key of the other member of this module's pair. -/
def partnerKey (s : State) : Nat := peerKey (s.get Reg.VIA_IDENT_SLOT) (1 - s.get Reg.PAIR_CFG_MEMB)

/-- The keys of the abutment: its slot's members, or the one outside the viaduct (R409, R426). -/
def abutKeys (s : State) : List Nat :=
  let a := s.get Reg.PAIR_CFG_ABSLOT
  if a = 0x3F then [508] else [peerKey a 0, peerKey a 1]

/-- The link of an uplink port is up. -/
def uplinkUp (s : State) (p : Nat) : Bool := s.bit (if p = 0 then Reg.UPL_STAT_LINK0 else Reg.UPL_STAT_LINK1)

/-- Some uplink is up. -/
def anyLink (s : State) : Bool := uplinkUp s 0 || uplinkUp s 1

/-- A mask of slots. -/
def slotBits (f : Nat → Bool) : Nat := (List.range 64).foldl (fun m j => if f j then m + 2 ^ j else m) 0

/-- A slot is heard: one of its members is up. -/
def slotUp (s : State) (j : Nat) : Bool := (s.peer (peerKey j 0)).up || (s.peer (peerKey j 1)).up

/-- A peer of slot `j` presents an identity that is not enrolled (R399). -/
def slotUnenrolled (s : State) (j : Nat) : Bool :=
  let bad := fun (x : Peer) => x.session && !x.enrolled
  bad (s.peer (peerKey j 0)) || bad (s.peer (peerKey j 1))

/-- The abutment is reachable: it is heard as a peer, or, outside the viaduct, it has answered within the last 400 ms. -/
def abutReachable (s : State) : Bool :=
  if s.get Reg.PAIR_CFG_ABSLOT = 0x3F then
    (s.peer 508).session && anyLink s && decide (0 < s.pair.abutAt ∧ monoNs s < s.pair.abutAt + 400 * msec)
  else slotUp s (s.get Reg.PAIR_CFG_ABSLOT)

/-- Shows whether partner and abutment are reachable, with the loss bits of R416. -/
def showPair (s : State) : State :=
  if !paired s then s
  else
    let pl := (s.peer (partnerKey s)).up
    let ab := abutReachable s
    let s := if s.bit Reg.PAIR_STAT_PLINK && !pl then s.raise Reg.PAIR_FAULT_PLINKLOST else s
    let s := if s.bit Reg.PAIR_STAT_ABUT && !ab then s.raise Reg.PAIR_FAULT_ABUTLOST else s
    (s.setBit Reg.PAIR_STAT_PLINK pl).setBit Reg.PAIR_STAT_ABUT ab

/-- Shows which slots are heard and which are unenrolled (R425). -/
def showPeers (s : State) : State :=
  showPair (set64 Reg.VIA_UNENRLO_BITS Reg.VIA_UNENRHI_BITS (slotBits (slotUnenrolled s))
    (set64 Reg.VIA_PEERUPLO_BITS Reg.VIA_PEERUPHI_BITS (slotBits (slotUp s)) s))

/-- The 16-byte header of a datagram that this module sends (R396). -/
def viaHeader (s : State) (typ len : Nat) : List Nat :=
  [1, typ] ++ leBytes 2 len ++ leBytes 2 (s.get Reg.VIA_IDENT_VIAID) ++ [s.get Reg.VIA_IDENT_SLOT, ownKey s % 2] ++
    leBytes 4 s.via.txSeq ++ leBytes 4 (if paired s then s.get Reg.PAIR_PEPOCH_EPOCH else 0)

/-- A frame with this VLAN identifier, 0 for an untagged one, is accepted: a port with an identifier takes frames of that one only
(assumption 119; DEDUCED from R390 and R427, "0 untagged"). -/
def vidOk (s : State) (p vid : Nat) : Bool := vid = s.get (Reg.UPL_PCFG_VID.ix p)

/-- A datagram whose body has `len` bytes fits the MTU of 1,500 bytes, with the headers of IPv6, of UDP and of the message (R390,
R396). -/
def fitsMtu (len : Nat) : Bool := len + 16 + 48 ≤ 1500

/-- The module supports what a DTLS or TLS handshake offers (R64, R559): version 1.3 with one of its suites and one of its groups. -/
def dtlsOk (o : DtlsOffer) : Bool := o.version = .v13 && o.suites.any (fun x => x ≠ .other) && o.groups.any (fun x => x ≠ .other)

/-- A datagram of type `typ` can go to peer `k`: nothing but heartbeats goes to an unenrolled peer (R399). -/
def canSend (s : State) (k typ : Nat) : Bool :=
  let x := s.peer k
  viaRuns s && x.session && (x.enrolled || typ = 1) && anyLink s

/-- The uplink to a peer: the one that it was last heard by, or the other while that link is down. -/
def portTo (s : State) (k : Nat) : Nat :=
  let p := (s.peer k).port % 2
  if uplinkUp s p then p else 1 - p

/-- Counts a datagram that leaves (R396, R427). -/
def viaCount (k : Nat) (s : State) : State :=
  ({ s with via := { s.via with txSeq := (s.via.txSeq + 1) % 2 ^ 32 } }).countWrap (Reg.UPL_PTXOK_COUNT.ix (portTo s k)) 1

/-- Sends a datagram to peer `k`, if it can go there. -/
def viaSend (k typ : Nat) (body : List Nat) (s : State) : State :=
  if canSend s k typ then
    viaCount k (s.emit (.viaduct (portTo s k) (s.get (Reg.UPL_PCFG_VID.ix (portTo s k))) k (viaHeader s typ body.length ++ body)))
  else s

/-- The peers with a session. -/
def peerList (s : State) : List Nat := (s.via.peers.filter (fun e => e.2.session)).map (fun e => e.1)

/-- Sends a datagram to every peer. -/
def viaSendAll (typ : Nat) (body : List Nat) (s : State) : State :=
  (peerList s).foldl (fun s k => viaSend k typ body s) s

/-- Discarded messages or items are counted (R396, R406). -/
def badMsg (n : Nat) (s : State) : State :=
  if n = 0 then s else (s.countSat Reg.VIA_BADMSG_COUNT n).raise Reg.VIA_FAULT_BADMSG

/-- A received datagram of type `typ` and body length `len`: nothing happens without link, protocol or session, nor with a frame of
another VLAN or over the MTU (R390); a message with another type, length or viaduct is discarded; otherwise `f` acts with the sender's
key (R396, R424). -/
def viaReceive (typ len : Nat) (h : ViaHeader) (f : Nat → State → State) (s : State) : State :=
  if !uplinkUp s h.port.val || !vidOk s h.port.val h.vid.toNat || !fitsMtu len then s
  else
    let s := s.countWrap (Reg.UPL_PRXOK_COUNT.ix h.port.val) 1
    let k := peerKey h.src.toNat (if h.memb then 1 else 0)
    let x := s.peer k
    if !viaRuns s || !x.session then s
    else if h.typ.toNat ≠ typ ∨ h.len.toNat ≠ len ∨ h.viaid.toNat ≠ s.get Reg.VIA_IDENT_VIAID then badMsg 1 s
    else f k (s.setPeer k { x with port := h.port.val, pepoch := h.pepoch.toNat })

/-! ### Mirrors and subscriptions (R404, R405) -/

/-- The slot that owns a GPR of this viaduct. -/
def gprSlot (g : Nat) : Nat := g / 2 ^ 26 % 64

/-- A GPR of slot `j` in this viaduct. -/
def gprOfSlot (s : State) (j g : Nat) : Bool := decide (g / 2 ^ 32 = s.get Reg.VIA_IDENT_VIAID ∧ gprSlot g = j)

/-- The mirrors of a slot. -/
def mirrorsOf (s : State) (j : Nat) : List Nat :=
  (s.pt.directory.filter (fun e => gprOfSlot s j e.1)).map (fun e => e.2)

/-- The list in pieces of at most `n`. -/
def chunks {α : Type} (n : Nat) : Nat → List α → List (List α)
  | 0, _ => []
  | _, [] => []
  | f + 1, l => l.take n :: chunks n f (l.drop n)

/-- SUBSCRIBE with an operation and point indices to both members of a slot (R396), at most 256 indices a datagram. -/
def sendSubscribe (j op : Nat) (is : List Nat) (s : State) : State :=
  (chunks 256 (is.length + 1) is).foldl (fun s c =>
    let body := [op] ++ leBytes 2 c.length ++ c.flatMap (leBytes 4)
    viaSend (peerKey j 1) 3 body (viaSend (peerKey j 0) 3 body s)) s

/-- This module is the keystone, or the standby of the paired keystone (R404). -/
def keystoneView (s : State) : Bool :=
  s.get Reg.VIA_STAT_ROLE = 2 ||
    (paired s && s.get Reg.PAIR_STAT_ROLE = 2 && s.get Reg.VIA_KVIEW_KSLOT = s.get Reg.VIA_IDENT_SLOT)

/-- The subscriptions that a join of the owner in slot `j` calls for (R404, R405). -/
def subscribeTo (j : Nat) (s : State) : State :=
  let mine := ((sheet s).via.mirrors.filter (fun m => gprOfSlot s j m.gpr)).map (fun m => m.gpr % 2 ^ 20)
  let s := sendSubscribe j 0 mine s
  if keystoneView s then viaSend (peerKey j 1) 3 [2, 0, 0] (viaSend (peerKey j 0) 3 [2, 0, 0] s) else s

/-! ### Publications (R406, R408) -/

/-- An item of a PUBLISH message (R406). -/
def pubItem (s : State) (i : Nat) : List Nat :=
  let r := s.point i
  let info := r.qual * 2 ^ 28 + b2n r.forced * 2 ^ 27 + b2n r.oos * 2 ^ 26 + r.typ * 2 ^ 20
  leBytes 6 (ownGpr s i) ++ leBytes 2 r.rseq ++ leBytes 8 r.pv ++ leBytes 8 r.ts ++ leBytes 4 info ++ [0, 0, 0, 0]

/-- Publishes records to one peer, 40 items a datagram. -/
def publishTo (k : Nat) (is : List Nat) (s : State) : State :=
  (chunks 40 (is.length + 1) is).foldl (fun s c =>
    if canSend s k 2 then
      (viaSend k 2 (leBytes 8 s.pt.lastTick ++ leBytes 2 c.length ++ [0, 0] ++ c.flatMap (pubItem s)) s).countWrap
        Reg.VIA_PUBTX_COUNT c.length
    else s) s

/-- What the engine published leaves to the subscribers; nothing leaves while PUBEN is 0 (R117, R408). -/
def publishOut (is : List Nat) (s : State) : State :=
  if !s.bit Reg.PNT_CTRL_PUBEN then s
  else (peerList s).foldl (fun s k => publishTo k (is.filter (fun i => s.via.subs.contains (i, k))) s) s

/-! ### The keystone role (R401 to R404) -/

/-- Claim `a` is of higher order than `b` (R401). -/
def claimAbove (a b : Claim) : Bool :=
  decide (b.epoch < a.epoch ∨ (a.epoch = b.epoch ∧ (a.rank < b.rank ∨ (a.rank = b.rank ∧ a.slot < b.slot))))

/-- The highest keystone epoch seen. -/
def keystoneEpoch (s : State) : Nat := get64 s Reg.VIA_KEPOCHLO_EPOCH Reg.VIA_KEPOCHHI_EPOCH

/-- Notes a keystone epoch; the highest seen is stored (R402). -/
def noteEpoch (e : Nat) (s : State) : State :=
  if keystoneEpoch s < e then set64 Reg.VIA_KEPOCHLO_EPOCH Reg.VIA_KEPOCHHI_EPOCH e s else s

/-- The keystone's subscriptions begin (R404): its mirrors are allocated (R19, R125), and every peer is asked for every published
record. -/
def keystoneSubscribe (s : State) : State :=
  let ms := (sheet s).via.keystoneMirrors
  let gs := distinct (s.via.keystoneOf ++ ms.map (fun m => m.gpr))
  let s := ms.foldl (fun s m => createMirror m s) { s with via := { s.via with keystoneOf := gs, subscribed := true } }
  (peerList s).foldl (fun s k => viaSend k 3 [2, 0, 0] s) s

/-- The keystone's subscriptions end (R404): the module unsubscribes, and the mirrors are removed, but for those that the sheet itself
subscribes (R125, R405). -/
def keystoneUnsubscribe (s : State) : State :=
  let own := (sheet s).via.mirrors.map (fun m => m.gpr)
  let gs := s.via.keystoneOf.filter (fun g => !own.contains g)
  let s := (List.range 64).foldl (fun s j => sendSubscribe j 1 ((gs.filter (gprOfSlot s j)).map (· % 2 ^ 20)) s) s
  gs.foldl (fun s g => removeMirror g s) { s with via := { s.via with keystoneOf := [], subscribed := false } }

/-- The keystone's subscriptions follow the role: the keystone and the standby of a paired keystone hold them (R404). -/
def keystoneFollow (s : State) : State :=
  if keystoneView s = s.via.subscribed then s
  else if keystoneView s then keystoneSubscribe s else keystoneUnsubscribe s

/-- Takes a view of the keystone. -/
def setView (v : Option Claim) (s : State) : State :=
  keystoneFollow (({ s with via := { s.via with view := v } }).set Reg.VIA_KVIEW_KSLOT (match v with | some c => c.slot | none => 0xFF))

/-- Shows the slots with an enrolled member; the slot of an action that still waits for answers keeps its bit (R400). -/
def showEnrolled (s : State) : State :=
  let old := get64 s Reg.VIA_ENRLO_BITS Reg.VIA_ENRHI_BITS
  let has := fun j => (tabFind (peerKey j 0) s.via.enrolled).isSome || (tabFind (peerKey j 1) s.via.enrolled).isSome
  let f := fun j => if s.via.actions.any (fun a => a.place / 2 = j) then old.testBit j else has j
  set64 Reg.VIA_ENRLO_BITS Reg.VIA_ENRHI_BITS (slotBits f) s

/-- The digest is enrolled for the place. -/
def isEnrolled (s : State) (k digest : Nat) : Bool := tabFind k s.via.enrolled = some digest

/-- The keystone finds an unenrolled identity at peer `k` (R399). -/
def noteUnenrolled (k : Nat) (s : State) : State :=
  logEvent 0x0600 6 [k / 2, k % 2, (s.peer k).digest % 2 ^ 64] (s.raise Reg.VIA_FAULT_UNENR)

/-- The session of a peer is judged by the list (R399): its owner's records are asked for once it is enrolled (R404, R405), and the
keystone reports one that no longer is. -/
def judgePeer (k : Nat) (s : State) : State :=
  let x := s.peer k
  let ok := x.session && isEnrolled s k x.digest
  let s' := s.setPeer k { x with enrolled := ok }
  if k ≥ 128 then s
  else if ok && !x.enrolled && x.up then subscribeTo (k / 2) s'
  else if !ok && x.enrolled && s.get Reg.VIA_STAT_ROLE = 2 then noteUnenrolled k s'
  else s'

/-- Sets what the enrolment list holds at a place, and judges the sessions by the new list. -/
def setEnrolment (place : Nat) (v : Option Nat) (s : State) : State :=
  let list := match v with | some d => tabInsert place d s.via.enrolled | none => tabErase place s.via.enrolled
  let s := { s with via := { s.via with enrolled := list } }
  showEnrolled (showPeers (judgePeer place s))

/-- Leaves the role of claimant or keystone, and with it the keystone's subscriptions (R403, R404). The enrolments that a peer has
answered as of lower order are lost, the last one first. -/
def stepDown (s : State) : State :=
  let was := s.get Reg.VIA_STAT_ROLE
  let s := if was = 2 ∨ was = 3 then s.set Reg.VIA_STAT_ROLE 1 else s
  let undo := s.via.overlap
  let s := { s with via := { s.via with mine := none, actions := [], overlap := [], linksUp := none } }
  let s := showEnrolled (undo.reverse.foldl (fun s a => setEnrolment a.place a.before s) s)
  keystoneFollow ((s.set Reg.VIA_STAT_OVERLAP 0).set (Reg.UPL_PCFG_RINGBLK.ix 1) 0)

/-- A claim of another module is heard, from itself (`direct`) or named by a peer (R402, R403): of higher order than this
module's own claim or view, it is adopted, unless its slot is not heard here (assumption 120; DEDUCED: piers adopt a keystone that they hear);
a keystone that does not yield shows OVERLAP. -/
def hearClaim (c : Claim) (direct : Bool) (s : State) : State :=
  let s := noteEpoch c.epoch s
  let near := direct || slotUp s c.slot
  match s.via.mine with
  | some m =>
    if claimAbove c m then
      let s := setView (if near then some c else none) (stepDown s)
      { s with via := { s.via with heardAt := s.now } }
    else if s.get Reg.VIA_STAT_ROLE = 2 ∧ c.slot ≠ s.get Reg.VIA_IDENT_SLOT then s.raise Reg.VIA_STAT_OVERLAP else s
  | none =>
    let better := match s.via.view with | some v => claimAbove c v | none => true
    let s := if near && better then setView (some c) s else s
    { s with via := { s.via with heardAt := s.now } }

/-! ### Enrolment (R398 to R400) -/

/-- Changes the enrolment list by an action code. -/
def changeEnrolment (code place digest : Nat) (s : State) : State :=
  if code = 1 then setEnrolment place (some digest) s else if code = 2 then setEnrolment place none s else s

/-! ### Loss of a peer -/

/-- The slot's points are still published when peer `k` is lost: the other member is heard and holds drive permission, which `k` did
not (assumption 121; DEDUCED: the mirrors of the lost module's points). -/
def slotServed (s : State) (k : Nat) : Bool :=
  let y := s.peer (k / 2 * 2 + (1 - k % 2))
  y.up && y.flags % 2 = 1 && (s.peer k).flags % 2 = 0

/-- A peer is lost (R397): its bit clears, PEERLOST is set, the mirrors of its points go STALE at the next commit, and the keystone is
lost with its slot. -/
def losePeer (k : Nat) (s : State) : State :=
  let j := k / 2
  let served := slotServed s k
  let s := showPeers ((s.setPeer k { s.peer k with up := false }).raise Reg.VIA_FAULT_PEERLOST)
  let s := if served then s else reportAll ((mirrorsOf s j).map PointReport.lost) s
  if !slotUp s j ∧ j < 64 ∧ s.get Reg.VIA_KVIEW_KSLOT = j ∧ s.get Reg.VIA_STAT_ROLE ≠ 2 then
    setView none (s.raise Reg.VIA_FAULT_KLOST)
  else s

/-- A peer answers the action that it has not yet answered longest; with the last answer the slot's bit shows (R400). -/
def actionAnswered (k : Nat) (s : State) : State :=
  let answer := fun (l : List ViaAction) => match l.findIdx? (fun a => a.waiting.contains k) with
    | some i => l.modify i (fun a => { a with waiting := a.waiting.filter (fun x => decide (x ≠ k)) })
    | none => l
  showEnrolled { s with via := { s.via with actions := (answer s.via.actions).filter (fun a => a.waiting ≠ []) } }

/-- A lost peer has no action to answer any more: the actions wait for the reachable modules (R400). -/
def actionsLost (k : Nat) (s : State) : State :=
  let drop := s.via.actions.map (fun a => { a with waiting := a.waiting.filter (fun x => decide (x ≠ k)) })
  showEnrolled { s with via := { s.via with actions := drop.filter (fun a => a.waiting ≠ []) } }

/-- Every DTLS session of the viaduct is dropped (R424). A peer is lost when its heartbeats stay away (R397). -/
def dropViaSessions (s : State) : State :=
  showPeers { s with via := { s.via with peers := s.via.peers.map (fun (e : Nat × Peer) =>
    (e.1, { e.2 with session := false, enrolled := false })) } }

/-- What was heard of the peers is lost with the block (R133). -/
def forgetPeers (s : State) : State :=
  showPeers { s with via := { s.via with peers := [] } }

end Sys2Proof.Machine
end

