-- ==== Sys2Proof/Machine/PairBase.lean ====
section
/-! DEFINITION. Leases below their commands (spec/09_lanes_parapet.md, R381 to R383; spec/10_viaduct.md, R410 to R416):
requests, and the withdrawal of drive permission. -/

namespace Sys2Proof.Machine

/-- The role of a pair member: 0 unpaired, 1 active, 2 standby, 3 waiting for its first grant (R426). -/
def pairRole (s : State) : Nat := s.get Reg.PAIR_STAT_ROLE

/-- Sends an LREQ to the peers named, and remembers it by its number (R411, R412). -/
def sendLreq (kind stbleft : Nat) (dests : List Nat) (s : State) : State :=
  let n := (s.pair.reqSeq + 1) % 2 ^ 32
  let recent := s.pair.reqs.filter (fun r => decide (monoNs s < r.sent + second))
  let s := { s with pair := { s.pair with reqSeq := n, reqs := recent ++ [{ seq := n, kind := kind, sent := monoNs s }] } }
  let body := leBytes 4 (s.get Reg.PAIR_PEPOCH_EPOCH) ++ leBytes 4 n ++ [kind] ++ leBytes 2 stbleft
  dests.foldl (fun s k => viaSend k 9 body s) s

/-- Shows drive permission; PAIR_ACT follows it (R410, R426). -/
def setPermission (v : Bool) (s : State) : State :=
  ({ s with prpt := { s.prpt with permission := v } }).setBit Reg.PAIR_STAT_LEASE v

/-- Withdrawal of drive permission (R383): outputs go to RELEASED, pending commands are cancelled and reported not delivered,
and every port goes to OFF once its line is free. -/
def withdraw (cause : Nat) (s : State) : State :=
  if !s.prpt.permission then s
  else
    let s := setPermission false s
    let s := if s.prpt.out = .drive then enterReleased cause s else s
    let s := (s.countSat Reg.PRPT_WDRAW_COUNT 1).raise Reg.PRPT_FAULT_WDRAW
    (List.range 32).foldl (fun s p => if pers s p = 1 then busLeave p false s else settleOff p (dropCmds p none s)) s

/-- A paired active withdraws and releases its lease: KIND 2 to abutment and partner (R415). It is then the standby. -/
def pairRelease (cause : Nat) (s : State) : State :=
  if pairRole s ≠ 1 then s
  else
    let s := withdraw cause s
    let s := sendLreq 2 0 (abutKeys s ++ [partnerKey s]) s
    let s := { s with pair := { s.pair with leaseEnd := 0, reqs := [], heardAt := monoNs s, granting := true } }
    s.set Reg.PAIR_STAT_ROLE 2

end Sys2Proof.Machine
end

