-- ==== Sys2Proof/Machine/Mode.lean ====
section
/-! DEFINITION. Modes (spec/11_modes_power.md, R429 to R435): the one operation that changes the mode, shortfalls, hold causes
and what the engines do at each change. -/

namespace Sys2Proof.Machine

/-- The mode: 0 UNPROVISIONED, 1 PROVISIONING, 2 STANDBY, 3 ACTIVE, 4 DEGRADED, 5 SERVICE, 6 SAFE-HOLD, 7 ZEROIZED. -/
def mode (s : State) : Nat := s.get Reg.MODE_STAT_MODE

/-- The mode is frozen between a power-fail warning and the end of the F restart (R433). -/
def frozen (s : State) : Bool := s.bit Reg.MODE_STAT_PFREEZE

/-- The severity of a MODE_CHANGE record by the mode entered (R429). -/
def modeSeverity (new : Nat) : Nat := if new = 4 ∨ new = 6 then 4 else if new = 7 then 7 else 6

/-- The control engine stops: every loop initialises at its next evaluation, and shows HOLD with HRSN 3 from its next sample
instant on (R262, R278). -/
def holdLoops (s : State) : State := showCle (initLoops s)

/-- PBUS ports that are OFF count frames in STANDBY (R189). -/
def showMonitors (s : State) : State :=
  (List.range 32).foldl (fun s p => showMonitor p s) s

/-- The slot fields of PAP session `k` return to what a closed slot shows (R80). SREQ and SDROP of the slot go on across sessions
(assumption 69; DESIGN CHOICE, R80 gives the resets that clear them and names no session). -/
def clearSlot (k : Nat) (s : State) : State :=
  let s := (s.set (Reg.PAP_SINFO_OPEN.ix k) 0).set (Reg.PAP_SINFO_UPLINK.ix k) 0
  let s := (List.range 8).foldl (fun s j => s.set (Reg.PAP_SLANES_BITS.ix2 k j) 0) s
  s.set Reg.PAP_SESS_OPEN (maskClear (s.get Reg.PAP_SESS_OPEN) k)

/-- Every session over the uplinks ends without an alert (R65, R424). -/
def dropSessions (s : State) : State :=
  let keep := s.sessions.filter (fun (e : Nat × Session) => decide (e.1 = 9))
  let s := dropViaSessions { s with sessions := keep }
  ((List.range 8).foldl (fun s k => clearSlot k s) s).set Reg.BSC_STAT_HUB 0

/-- The viaduct protocol starts or stops with the mode (R424): a module that runs it is at least a pier. -/
def viaFollow (s : State) : State :=
  if viaRuns s then
    if s.get Reg.VIA_STAT_ROLE = 0 then { s.set Reg.VIA_STAT_ROLE 1 with via := { s.via with heardAt := s.now, hbAt := s.now } } else s
  else if s.get Reg.VIA_STAT_ROLE = 0 then s
  else (setView none (stepDown s)).set Reg.VIA_STAT_ROLE 0

/-- What the engines do when the mode changes (R278, R312, R320, R378, R189): tasks and loops stop outside ACTIVE and
DEGRADED, tasks have no image in UNPROVISIONED, PROVISIONING and ZEROIZED, metering runs in the others. -/
def enginesFollow (from' : Nat) (s : State) : State :=
  let new := mode s
  let s := if new = 3 ∨ new = 4 then showCte (showCle s) else abandonCycles (holdLoops s)
  let out := fun m => m = 0 || m = 1 || m = 7
  let s := if out new != out from' then cteReload [] s else s
  let s := if out new then s.set Reg.MTR_STAT_RUNNING 0
    else if out from' then meterRestore [] s else s
  let s := viaFollow s
  if new = 7 then dropSessions s else if viaRuns s then s else (dropViaSessions s).set Reg.BSC_STAT_HUB 0

/-- A hold-up check begins (R448): the sink is on for 4 ms. -/
def beginCheck (s : State) : State :=
  let s := { s with pwr := { s.pwr with checkAt := s.now, checkFrom := s.get Reg.CSN_STAT_CSTATE } }
  s.set Reg.CSN_STAT_CSTATE 2

/-- Checks run in this mode (R449). -/
def checkMode (s : State) : Bool := mode s ≠ 0 && mode s ≠ 7

/-- The bank is charged and not checked: a check runs at entry to a mode in which checks run (R447, R449). -/
def checkIfNone (s : State) : State :=
  if checkMode s && s.get Reg.CSN_STAT_CSTATE = 0 && !s.pwr.booting && !frozen s then beginCheck s else s

/-- CLKO with source SEC turns off when the module leaves SERVICE (R486). -/
def clkoFollow (from' : Nat) (s : State) : State :=
  if from' = 5 ∧ s.get Reg.CLK_CLKOCFG_SRC = 11 then s.set Reg.CLK_CTRL_CLKOEN 0 else s

/-- DEGRADED for low hold-up: feeds may close after an F restart (R187). -/
def degradedFollow (s : State) : State :=
  if mode s = 4 ∧ (s.get Reg.MODE_STAT_SHORT).testBit 0 then
    { s with seg := { s.seg with awaitCheck := false } }
  else s

/-- Every mode change (R429): a paired active that leaves ACTIVE and DEGRADED, or that waits in STANDBY with its lease
and enters another mode, releases the lease first (R28, R415); LASTTR,
TRCNT and the MODE_CHANGE record; KEY closes (R48); then parapet, ports and engines follow. -/
def changeMode (new cause : Nat) (s : State) : State :=
  let from' := mode s
  if new = from' then s
  else
    let drives := fun m => m = 3 || m = 4
    let ran := portsMayRun s
    let s := if !drives new && (drives from' || new ≠ 2) && paired s then pairRelease 2 s else s
    let leave := (new = 2 || new = 7) && portsMayRun s
    let s := { s.set Reg.MODE_STAT_MODE new with keys := [] }
    let s := ((s.set Reg.MODE_LASTTR_FROM from').set Reg.MODE_LASTTR_TO new).set Reg.MODE_LASTTR_CAUSE cause
    let s := s.countWrap Reg.MODE_TRCNT_COUNT 1
    let s := logEvent 0x0002 (modeSeverity new)
      [from', new, cause, s.get Reg.MODE_STAT_SHORT, s.get Reg.MODE_STAT_HCAUSE] s
    let s := routeReleases (parapetFollow 2 (s.setBit Reg.ACC_STAT_RUNNING (drives new)))
    let s := degradedFollow (portsFollow ran leave s)
    clkoFollow from' (checkIfNone (showMonitors (enginesFollow from' s)))

/-! ### Shortfalls and hold causes (R431, R432) -/

/-- The service-port connection is open. -/
def serviceOpen (s : State) : Bool := (tabGet {} s.sessions 9 : Session).opened

/-- SERVICE ends: STANDBY, or SAFE-HOLD if a hold cause remains (R429). -/
def leaveService (s : State) : State :=
  if mode s = 5 && !frozen s then changeMode (if s.get Reg.MODE_STAT_HCAUSE ≠ 0 then 6 else 2) 8 s else s

/-- DEGRADED is entered; for low hold-up metering says that it relies on the periodic save (R345, R429). -/
def enterDegraded (cause : Nat) (s : State) : State :=
  let s := changeMode 4 cause s
  if (s.get Reg.MODE_STAT_SHORT).testBit 0 then periodicOnly s else s

/-- The transitions that follow from shortfalls, hold causes, STBY and the service connection at once (R429, R433); none while
frozen. -/
def modeFollow (s : State) : State :=
  let m := mode s
  let hold := decide (s.get Reg.MODE_STAT_HCAUSE ≠ 0)
  if frozen s then s
  else if hold && ((m = 2 && s.bit Reg.PNT_STAT_READY) || m = 3 || m = 4) then changeMode 6 9 s
  else if m = 5 && !serviceOpen s then leaveService s
  else if !hold && m = 6 then changeMode 2 6 s
  else if (m = 3 || m = 4) && s.bit Reg.MODE_CTRL_STBY then changeMode 2 6 s
  else if m = 3 && s.get Reg.MODE_STAT_SHORT ≠ 0 then enterDegraded 4 s
  else if m = 4 && s.get Reg.MODE_STAT_SHORT = 0 then changeMode 3 5 s
  else s

/-- The module is in DEGRADED for low hold-up from now on: metering relies on the periodic save alone (R345), and feeds may close
(R187). -/
def lowHoldupFollow (k : Nat) (s : State) : State := if k = 0 then degradedFollow (periodicOnly s) else s

/-- The bounds of R461 in the order of CSN_LOSS_BOUND. -/
def lossBounds : List Nat := [100, 1000, 1000, 100]

/-- A shortfall begins (R431): 0 hold-up, 1 clock fallback, 2 viaduct port lost, 3 segment port failed. The hold-up shortfall
makes persistence periodic (R460, R461). -/
def beginShort (k : Nat) (s : State) : State :=
  let m := s.get Reg.MODE_STAT_SHORT
  if m.testBit k then degradedFollow s
  else
    let s := (s.set Reg.MODE_STAT_SHORT (maskSet m k)).raise Reg.MODE_FAULT_SHORTFALL
    let s := if k = 0 then logEvent 0x0702 4 lossBounds (s.raise Reg.CSN_STAT_PERIODIC) else s
    modeFollow (if mode s = 4 then lowHoldupFollow k s else s)

/-- A shortfall ends. -/
def endShort (k : Nat) (s : State) : State :=
  let m := s.get Reg.MODE_STAT_SHORT
  if m.testBit k then
    let s := s.set Reg.MODE_STAT_SHORT (maskClear m k)
    modeFollow (if k = 0 then s.set Reg.CSN_STAT_PERIODIC 0 else s)
  else s

/-- A hold cause is set or cleared (R432): 0 host request, 1 CLKFAIL2, 2 fatal fault. A cause that begins in SERVICE ends it; one
that was there at its entry from SAFE-HOLD does not. -/
def setHold (k : Nat) (v : Bool) (s : State) : State :=
  let m := s.get Reg.MODE_STAT_HCAUSE
  let s := s.set Reg.MODE_STAT_HCAUSE (if v then maskSet m k else maskClear m k)
  if v && !m.testBit k && mode s = 5 && !frozen s then changeMode 6 9 s else modeFollow s

/-- The shortfall "segment port failed" follows the ports (R431). -/
def failedPorts (s : State) : State :=
  if (List.range 32).any (fun p => pstate s p = 6) then beginShort 3 s else endShort 3 s

/-- The shortfall "viaduct port lost" follows the uplinks: it ends when every configured port has link (R392, R431). -/
def lostUplinks (s : State) : State :=
  let cfg := [0, 1].filter (fun p => s.get (Reg.UPL_PCFG_MEDIA.ix p) ≠ 0)
  let lost := fun p => (tabGet {} s.uplinks p).lost
  let s := s.setBit Reg.VIA_STAT_ISOL (cfg ≠ [] && cfg.all lost)
  if cfg.any lost then beginShort 2 s else if cfg.all (uplinkUp s) then endShort 2 s else s

/-- A trial holds the module in STANDBY (R571). -/
def trialHold (s : State) : Bool := s.get Reg.UPD_STAT_USTATE = 5 && s.bit Reg.UPD_TRIALCFG_TRIALHOLD

/-- The start conditions for leaving STANDBY but for drive permission (R430, R571). -/
def startReady (s : State) : Bool :=
  let c := s.get Reg.CSN_STAT_CSTATE
  s.bit Reg.PNT_STAT_READY && s.bit Reg.LANE_STAT_CHVALID && !s.bit Reg.PRPT_STAT_NOSHEET && (c = 3 || c = 4) &&
    !s.bit Reg.MODE_CTRL_STBY && s.get Reg.MODE_STAT_HCAUSE = 0 && !trialHold s

/-- The start conditions for leaving STANDBY (R430, R571). -/
def startConditions (s : State) : Bool := startReady s && (!paired s || s.prpt.permission)

/-- STANDBY ends if the start conditions are met (R430). -/
def startFollow (s : State) : State :=
  if mode s = 2 && !frozen s && startConditions s then
    (if s.get Reg.MODE_STAT_SHORT = 0 then changeMode 3 3 s else enterDegraded 3 s)
  else s

/-- Firmware enters ZEROIZED from any mode (R429, R433). -/
def enterZeroized (s : State) : State := changeMode 7 10 s

/-! ### The commands -/

/-- START_CONDITIONS_MET (R430). -/
def execStartConditionsMet (s : State) : Host.Outcome State Fault Refusal :=
  done s (startFollow s)

/-- A write of `MODE.CTRL` that would have changed a field other than FATAL while PFREEZE is 1 (R433). -/
def frozenWrite (f : RegField) (v : Bool) (s : State) : State :=
  if s.bit f = v then s else s.raise Reg.MODE_FAULT_TRANSREF

/-- `MODE.CTRL.STBY` takes a value (R429, R433). -/
def writeStby (v : Bool) (s : State) : State :=
  if frozen s then frozenWrite Reg.MODE_CTRL_STBY v s else modeFollow (s.setBit Reg.MODE_CTRL_STBY v)

/-- `MODE.CTRL.HOLD` takes a value (R432, R433). -/
def writeHold (v : Bool) (s : State) : State :=
  if frozen s then frozenWrite Reg.MODE_CTRL_HOLD v s else setHold 0 v (s.setBit Reg.MODE_CTRL_HOLD v)

/-- `MODE.CTRL.FATAL` is written 1 by firmware (R432); it acts while PFREEZE is 1 too, and SAFE-HOLD follows when the mode
may change. -/
def writeFatal (s : State) : State :=
  if s.bit Reg.MODE_CTRL_FATAL then s
  else setHold 2 true ((s.raise Reg.MODE_CTRL_FATAL).raise Reg.MODE_FAULT_FATAL)

/-- MODE_STANDBY_WRITE (R429). -/
def execModeStandbyWrite (value : Bool) (s : State) : Host.Outcome State Fault Refusal := done s (writeStby value s)

/-- MODE_HOLD_WRITE (R432). -/
def execModeHoldWrite (value : Bool) (s : State) : Host.Outcome State Fault Refusal := done s (writeHold value s)

/-- MODE_FATAL_WRITE (R432). -/
def execModeFatalWrite (s : State) : Host.Outcome State Fault Refusal := done s (writeFatal s)

/-! ### Port commands on which a shortfall depends (R158, R431) -/

/-- SEG_DISABLE (R155). -/
def execSegDisable (port : Fin 32) (s : State) : Host.Outcome State Fault Refusal := done s (unlessBusy (0x100 + port.val) (fun s => failedPorts (portDisable port.val s)) s)

/-- SURVEY_REQUEST (R177). -/
def execSurveyRequest (port : Fin 32) (service : Bool) (s : State) : Host.Outcome State Fault Refusal :=
  done s (unlessBusy (0x100 + port.val) (fun s => failedPorts (surveyRequest port.val service s)) s)

/-- SURVEY_START (R177). -/
def execSurveyStart (group : Fin 4) (s : State) : Host.Outcome State Fault Refusal := done s (failedPorts (surveyStart group.val s))

/-- PORT_RESTART (R155). -/
def execPortRestart (port : Fin 32) (s : State) : Host.Outcome State Fault Refusal :=
  done s (unlessBusy (0x100 + port.val) (fun s => failedPorts (portRestart port.val s)) s)

/-- PORT_FAIL (R158): cause 0 self-test, 1 short, 2 foreign voltage, 3 thermal shutdowns. -/
def execPortFail (port : Fin 32) (cause : Fin 4) (s : State) : Host.Outcome State Fault Refusal :=
  done s (failedPorts (portFail port.val (cause.val + 1) s))

end Sys2Proof.Machine
end

