-- ==== Sys2Proof/Machine/Caisson.lean ====
section
/-! DEFINITION. Input supply, the caisson's reserve and commit, and DOZE (spec/11_modes_power.md, R435, R443 to R455). -/

namespace Sys2Proof.Machine

/-! ### DOZE (R29 to R32, R435) -/

/-- The fast domains enter DOZE; the IRC stops (R435, R467). -/
def dozeNow (s : State) : State :=
  let s := (s.raise Reg.MODE_PWRST_DOZE).countWrap Reg.MODE_DOZECNT_COUNT 1
  let s := s.set Reg.CLK_IRCSTAT_READY 0
  { s with pwr := { s.pwr with dozeAt := s.now }, clk := { s.clk with ircFrom := none } }

/-- The point engine has work due now (R84): an update, a pending or queued publication, or a unit to write. -/
def pointsBusy (s : State) : Bool :=
  s.pt.queues.any (fun q => q.2 ≠ []) || s.pt.held.any (fun q => q.2 ≠ []) || s.pt.admitted ≠ [] || s.pt.reports ≠ [] ||
    s.pt.dirty ≠ [] || s.pt.pubs.any (fun p => p.2.pending)

/-- A DMA channel is in RUN (R505). -/
def dmaRuns (s : State) : Bool :=
  (List.range 2).any (fun g => (List.range 16).any (fun c => s.get ((Reg.DMA_CSTATE_STATE.inst g).ix c) = 1))

/-- The cores wait idle: no task is in a cycle (R435). -/
def coresIdle (s : State) : Bool := !(taskSlots s).any (fun t => inCycle (taskState s t))

/-- The next instant for which the time base wakes the fast domains, in ms of TAI: a loop sample or a task release (R31), or a timer of
the point engine (R84). -/
def nextWakeMs (s : State) : Option Nat := minOpt (nextInstantMs s) (nextPointTimer s)

/-- A PAP, service-port or BACnet/SC request is in progress (R435). -/
def requestRuns (s : State) : Bool := s.sessions.any (fun x => x.2.waits ≠ [] || x.2.held ≠ [])

/-- The conditions of R435. -/
def mayDoze (s : State) : Bool :=
  let m := mode s
  let ahead := match nextWakeMs s with
    | none => true
    | some t => decide (taiNs s + 100 * usec + 60 * usec ≤ t * msec)
  !s.bit Reg.MODE_PWRST_DOZE && ((2 ≤ m && m ≤ 4) || s.get Reg.CSN_STAT_CSTATE = 6) && s.bit Reg.MODE_CTRL_DOZEEN &&
    coresIdle s && !pointsBusy s && !s.cle.loops.any (fun l => l.2.gather.isSome) && !dmaRuns s && !requestRuns s && ahead

/-- DOZE_ENTRY (R435). -/
def execDozeEntry (s : State) : Host.Outcome State Fault Refusal := done s (if mayDoze s then dozeNow s else s)

/-- DOZE_WAKE (R30). -/
def execDozeWake (s : State) : Host.Outcome State Fault Refusal :=
  done s (wakeEvent s)

/-- WAKE_TIMER (R31, R84): 60 µs before the next scheduled loop instant, task release or timer of the point engine. -/
def execWakeTimer (s : State) : Host.Outcome State Fault Refusal :=
  done s (match nextWakeMs s with
    | none => s
    | some t => if s.get Reg.CSN_STAT_CSTATE = 6 then s else wakeEvent (s.reach (instantOfTai s (t * msec - 60 * usec))))

/-! ### The reserve (R446 to R450) -/

/-- Charging times out after 5 s (R447): CSTATE LOW, and the hold-up shortfall. -/
def chargeTimeout (s : State) : State :=
  if s.get Reg.CSN_STAT_CSTATE ≠ 1 then s
  else
    let s := s.reach (s.pwr.chargeAt + 5 * second)
    let s := ((s.set Reg.CSN_STAT_CSTATE 4).raise Reg.CSN_FAULT_CHGTO).set Reg.CSN_HUE_MJ 0
    beginShort 0 { s with pwr := { s.pwr with checked := false } }

/-- HOLDUP_CHARGING_TIMEOUT (R447). -/
def execHoldupChargingTimeout (s : State) : Host.Outcome State Fault Refusal := done s (chargeTimeout s)

/-- HOLDUP reaches V_in − 1.0 V (R447, R449): charging ends, after a time-out too, and a check runs, or the state is NONE where no check
runs or the mode is not yet chosen. -/
def charged (vhu : Nat) (s : State) : State :=
  let s := s.set Reg.PWR_VHU_V10M vhu
  let c := s.get Reg.CSN_STAT_CSTATE
  if frozen s || !s.pwr.powered || (c ≠ 1 && (c ≠ 4 || s.pwr.chargeAt < s.pwr.lastCheck)) then s
  else if checkMode s && !s.pwr.booting then beginCheck s
  else if c = 1 then s.set Reg.CSN_STAT_CSTATE 0 else s

/-- HOLDUP_CHARGED (R447). -/
def execHoldupCharged (vhu : BitVec 16) (s : State) : Host.Outcome State Fault Refusal := done s (charged vhu.toNat s)

/-- A check is asked for (R449): it runs unless the mode has none, the bank charges, a check runs, or a commit is made. -/
def askCheck (s : State) : State :=
  let c := s.get Reg.CSN_STAT_CSTATE
  if checkMode s && !frozen s && (c = 0 || c = 3 || c = 4) then beginCheck s else s

/-- HOLDUP_CHECK_REQUEST (R449). -/
def execHoldupCheckRequest (s : State) : Host.Outcome State Fault Refusal := done s (askCheck s)

/-- HOLDUP_CHECK_INTERVAL (R449): CHKINT hours after the last check. -/
def execHoldupCheckInterval (s : State) : Host.Outcome State Fault Refusal :=
  let h := s.get Reg.CSN_CFG_CHKINT
  done s (if h = 0 then s else askCheck (s.reach (s.pwr.lastCheck + h * 3600 * second)))

/-- The check ends (R448), from V_a − V_b and V_c − V_d in mV: C = 350,000 ÷ mV µF, ESR = 10 × mV mΩ, E = 89,775 ÷ mV mJ. -/
def checkComplete (ab cd : Nat) (s : State) : State :=
  if s.get Reg.CSN_STAT_CSTATE ≠ 2 then s
  else
    let s := s.reach (s.pwr.checkAt + 4 * msec)
    let cap := if cd = 0 then 65535 else min 65535 (350000 / cd)
    let energy := if cd = 0 then 65535 else min 65535 (89775 / cd)
    let s := ((s.set Reg.CSN_HUCAP_UF cap).set Reg.CSN_HUESR_MOHM (min 65535 (10 * ab))).set Reg.CSN_HUE_MJ energy
    let s := (s.set Reg.CSN_CHKTIME_S (taiMs s / 1000)).countSat Reg.CSN_CHKCNT_COUNT 1
    let s := { s with pwr := { s.pwr with lastCheck := s.now } }
    let low := decide (180 * cd > 89775)
    let high := decide (10 * ab > 2000)
    if low || high then
      let s := if low then s.raise Reg.CSN_FAULT_HULOW else s
      let s := if high then s.raise Reg.CSN_FAULT_ESRHIGH else s
      beginShort 0 { s.set Reg.CSN_STAT_CSTATE 4 with pwr := { s.pwr with checked := false } }
    else
      endShort 0 { s.set Reg.CSN_STAT_CSTATE 3 with pwr := { s.pwr with checked := true },
                                                    seg := { s.seg with awaitCheck := false } }

/-- HOLDUP_CHECK_COMPLETE (R448): the four samples in mV. -/
def execHoldupCheckComplete (va vb vc vd : BitVec 17) (s : State) : Host.Outcome State Fault Refusal :=
  done s (checkComplete (va.toNat - vb.toNat) (vc.toNat - vd.toNat) s)

/-! ### Over-voltage (R443) -/

/-- V_in is within its specified range, in 10 mV (R443, R465). -/
def inputOk (vin : Nat) : Bool := 3600 ≤ vin && vin ≤ 7500

/-- OVER_VOLTAGE (R443): V_in above 78.0 V for 50 µs. -/
def overVoltage (vin : Nat) (s : State) : State :=
  let s := (s.set Reg.PWR_VIN_V10M vin).setBit Reg.PWR_STAT_INOK (inputOk vin)
  if s.bit Reg.PWR_STAT_OV || !s.pwr.powered then s
  else openClosedFeeds (((s.raise Reg.PWR_STAT_OV).raise Reg.PWR_FAULT_OV).countSat Reg.PWR_OVCNT_COUNT 1)

/-- OVER_VOLTAGE (R443). -/
def execOverVoltage (vin : BitVec 16) (s : State) : Host.Outcome State Fault Refusal := done s (overVoltage vin.toNat s)

/-- OVER_VOLTAGE_END (R443): below 76.0 V for 100 ms; the switches that wait reclose under R184. -/
def execOverVoltageEnd (vin : BitVec 16) (s : State) : Host.Outcome State Fault Refusal :=
  done s (if s.bit Reg.PWR_STAT_OV then
    ((s.set Reg.PWR_VIN_V10M vin.toNat).setBit Reg.PWR_STAT_INOK (inputOk vin.toNat)).set Reg.PWR_STAT_OV 0 else s)

/-! ### Power-fail warning and commit (R444, R450 to R455) -/

/-- The state code of a journal half in JSTAT: 0 free, 1 writing, 2 sealed, 3 applying. -/
def halfCode (s : State) (h : Nat) : Nat := s.get Reg.CSN_JSTAT_HALF / 4 ^ h % 4

/-- Shows the state of a journal half. -/
def setHalf (h v : Nat) (s : State) : State :=
  s.set Reg.CSN_JSTAT_HALF (s.get Reg.CSN_JSTAT_HALF - halfCode s h * 4 ^ h + v * 4 ^ h)

/-- A half that holds no sealed, unapplied section (R453). -/
def freeHalf (s : State) : Option Nat := [0, 1].find? (fun h => (tabFind h s.pwr.journal).isNone)

/-- A verification in progress ends without a result, and a block that is being written is abandoned (R566, R574). -/
def updStop (s : State) : State :=
  let s := if s.get Reg.UPD_STAT_USTATE = 3 then s.set Reg.UPD_STAT_USTATE 2 else s
  { s with upd := { s.upd with writing := none } }

/-- POWER_FAIL_WARNING (R444, R450, R451): what happens without firmware. The point engine halts at the end of its tick, and
metering at its commit instant. -/
def powerFail (vin : Nat) (s : State) : State :=
  if s.bit Reg.PWR_STAT_PFW || !s.pwr.powered then s
  else
    let s := (s.set Reg.PWR_VIN_V10M vin).set Reg.PWR_STAT_INOK 0
    let s := ((s.raise Reg.PWR_STAT_PFW).raise Reg.PWR_FAULT_PFW).countSat Reg.PWR_PFCNT_COUNT 1
    let s := (openAllFeeds s).raise Reg.PWR_STAT_ISOL
    let s := (List.range 32).foldl (fun s p => surveyStop p s) s
    let s := dozeWake s
    let s := if s.get Reg.CSN_STAT_CSTATE = 2 then
        (s.set Reg.CSN_STAT_CSTATE s.pwr.checkFrom).raise Reg.CSN_FAULT_CHKABORT else s
    let s := pairRelease 3 s
    let s := (s.raise Reg.CLE_STAT_HALTED).raise Reg.CTE_STAT_HALTED
    let s := updStop (dmaPowerFail (showCte (showCle (abandonCycles s))))
    let s := s.raise Reg.MODE_STAT_PFREEZE
    let m := mode s
    let plan := s.pwr.checked && m ≠ 0 && m ≠ 1 && m ≠ 7 && (freeHalf s).isSome && s.clk.cf2.isNone
    let h := match freeHalf s with | some h => h | none => 0
    let s := if s.bit Reg.MTR_STAT_RUNNING then { s with mtr := { s.mtr with stopAt := some (commitInstant s) } } else s
    { s with pwr := { s.pwr with warnAt := s.now, planned := plan, noCommit := !plan, half := h, stopped := false,
                                 restartWaits := false } }

/-- POWER_FAIL_WARNING (R444): `vin` in 10 mV. -/
def execPowerFailWarning (vin : BitVec 16) (s : State) : Host.Outcome State Fault Refusal := done s (powerFail vin.toNat s)

/-- METER_POWER_FAIL_STOP (R342, R452): metering stops at the commit instant and hands its image to the caisson, which begins
section 1 of a planned commit. -/
def meterPowerFail (w : MeterWindow) (s : State) : State :=
  if !frozen s || s.get Reg.CSN_STAT_CSTATE = 5 || s.get Reg.CSN_STAT_CSTATE = 6 then s
  else
    let instant := if s.bit Reg.MTR_STAT_RUNNING then (commitInstant s).1 else taiMs s
    let s := meterStop w s
    if s.pwr.planned && !s.pwr.stopped then
      let j : JournalHalf := { cmtseq := (s.get Reg.CSN_CMTSEQ_SEQ + 1) % 2 ^ 32, instant := instant, image := s.mtr.pfImage }
      let s := { s with pwr := { s.pwr with journal := tabInsert s.pwr.half j s.pwr.journal } }
      setHalf s.pwr.half 1 (s.set Reg.CSN_STAT_CSTATE 5)
    else s

/-- METER_POWER_FAIL_STOP (R342): `window` is the partial window. -/
def execMeterPowerFailStop (window : MeterWindow) (s : State) : Host.Outcome State Fault Refusal :=
  done s (meterPowerFail window s)

/-- Rounded up to 16. -/
def pad16 (n : Nat) : Nat := (n + 15) / 16 * 16

/-- The size of section 1 (R453). -/
def section1Size : Nat := 64 + 64 + 16400 + 64

/-- The retained areas of the committed copies (R309, R452). -/
def retainedAreas (s : State) : Table (Table Nat) :=
  (taskSlots s).filterMap (fun t =>
    let im := taskImage s t
    if im.retainBytes = 0 then none else some (t, retainedOf im (s.task t).vars))

/-- The contents of section 2 (R452). -/
def journalUnits (s : State) : JournalUnits :=
  let d := s.pt.dirty.map (fun e => e.1)
  { images := (d.filter (· < 2 ^ 20)).map (fun u => (u, imageOf (s.point u))),
    halves := (d.filter (2 ^ 20 ≤ ·)).map (fun u => (u, (List.range 8).map (fun k => tabGet 0 s.pt.arrays ((u - 2 ^ 20) * 8 + k)))),
    retained := retainedAreas s, log := s.log.buffer }

/-- The size of section 2 (R453): 80 a unit, a 16-byte entry before each retained area and the log buffer, and the seal. -/
def section2Size (s : State) : Nat :=
  let areas := ((taskSlots s).map (fun t => (taskImage s t).retainBytes)).filter (· ≠ 0)
  let log := bufBytes s
  80 * s.pt.dirty.length + (areas.map (fun n => 16 + pad16 n)).sum + (if log = 0 then 0 else 16 + pad16 log) + 64

/-- The section is sealed, `us` after the warning (R452 to R455). After the last seal the module dozes, unless the input has
returned meanwhile (R458). -/
def sectionSeal (sec us : Nat) (s : State) : State :=
  match tabFind s.pwr.half s.pwr.journal with
  | none => s
  | some j =>
    if s.get Reg.CSN_STAT_CSTATE ≠ 5 || s.pwr.stopped then s
    else if sec = 1 then
      if j.sealed1 then s
      else
        let s := (s.reach (s.pwr.warnAt + us * usec)).raise Reg.CSN_STAT_JPEND
        { s with pwr := { s.pwr with journal := tabInsert s.pwr.half { j with sealed1 := true } s.pwr.journal } }
    else if !j.sealed1 || j.sealed2 || !s.bit Reg.PNT_STAT_HALTED then s
    else
      let s := s.reach (s.pwr.warnAt + us * usec)
      let us' := (s.now - s.pwr.warnAt) / usec
      let size := section1Size + section2Size s
      let j := { j with units := journalUnits s, sealed2 := true, sealUs := us' }
      let s := { s with pwr := { s.pwr with journal := tabInsert s.pwr.half j s.pwr.journal } }
      let s := setHalf s.pwr.half 2 (s.set Reg.CSN_STAT_CSTATE 6)
      let s := ((s.set Reg.CSN_CMTUS_US us').set Reg.CSN_CMTBYTES_COUNT size).set Reg.CSN_CMTSEQ_SEQ j.cmtseq
      let s := set64 Reg.CSN_CMTINSTLO_MS Reg.CSN_CMTINSTHI_MS j.instant s
      let s := if us' > 6000 then s.raise Reg.CSN_FAULT_COMMITLATE else s
      if s.pwr.restartWaits then s else dozeNow s

/-- HOLDUP falls to 24.0 V before a seal: writing stops (R454). -/
def holdupExhausted (s : State) : State :=
  if s.get Reg.CSN_STAT_CSTATE = 5 ∧ !s.pwr.stopped then
    { s.raise Reg.CSN_FAULT_COMMITABORT with pwr := { s.pwr with stopped := true } }
  else s

end Sys2Proof.Machine
end

