-- ==== Sys2Proof/Machine/TimeBase.lean ====
section
/-! DEFINITION. The time base (spec/07_cyclic_tasks.md, R284 to R287): steps of TAI. -/

namespace Sys2Proof.Machine

/-- Steps TAI by `d` ns, counted in STEPS with its size in LASTSTEP; a forward step skips the samples and releases that it
passes (R269, R285, R286). -/
def taiStep (d : Int) (s : State) : State :=
  let t0 := taiMs s
  let s := timeRebase s
  let s := { s with time := { s.time with tai := ((s.time.tai : Int) + d).toNat, slew := 0, syncs := 0 } }
  let s := ((s.countSat Reg.TBASE_STEPS_COUNT 1).set Reg.TBASE_LASTSTEP_US (toField 32 (satSigned 32 (d / 1000)))).raise
    Reg.TBASE_FAULT_STEP
  let s := meterTimeStep d s
  let t1 := msUp s
  if d > 0 then skipReleases t0 t1 (skipSamples t0 t1 s) else if d < 0 then unpassReleases s else s

/-- Steps TAI to `t` ns since the PTP epoch. -/
def taiStepTo (t : Nat) (s : State) : State := taiStep ((t : Int) - (taiNs s : Int)) s

end Sys2Proof.Machine
end

