-- ==== Sys2Proof/Machine/Rtc.lean ====
section
/-! DEFINITION. The calendar clock and the backup domain (spec/16_rtc_log.md, R579 to R598). -/

namespace Sys2Proof.Machine

/-- Cycles of the calendar clock in a second. -/
def rtcHz : Nat := 32768

/-- The rate of the calendar clock in units of 10⁻⁸: 10⁸ plus TRIM (R594), without TRIM while the seconds come from the
time base, and a free value within ±5 % while it counts RC32 (R597). -/
def rtcRate (s : State) : Nat :=
  if s.rtc.rc32 then 95000000 + Config.rc32Rate s.rtc.cyclesAt % 10000001
  else if s.bit Reg.CLK_STAT_AOSRC && !s.bit Reg.CLK_STAT_FALLBACK then 100000000
  else (100000000 + ofField 18 (s.get Reg.RTC_TRIM_PPB10)).toNat

/-- Cycles of local time since 2000-01-01 00:00:00. -/
def rtcCycles (s : State) : Nat := s.rtc.cycles + (s.now - s.rtc.cyclesAt) * rtcHz * rtcRate s / 100000000000000000

/-- Seconds of local time since 2000-01-01 00:00:00. -/
def rtcSeconds (s : State) : Nat := rtcCycles s / rtcHz

/-- The cycle at which 2199-12-31 23:59:59 has lasted one second (R584). -/
def rtcEnd : Nat := daysOfDate 2200 1 1 * 86400 * rtcHz

/-- The instant at which the calendar clock has counted `c` cycles. -/
def instantOfCycles (s : State) (c : Nat) : Nat :=
  let d := (c - s.rtc.cycles) * 100000000000000000
  s.rtc.cyclesAt + (d + rtcHz * rtcRate s - 1) / (rtcHz * rtcRate s)

/-- Sets the calendar clock to `c` cycles now. -/
def rtcSetCycles (c : Nat) (s : State) : State := { s with rtc := { s.rtc with cycles := c, cyclesAt := s.now } }

/-- Folds the cycles counted so far into the base, before the rate changes. -/
def rtcRebase (s : State) : State := rtcSetCycles (rtcCycles s) s

/-- The fast domains run. -/
def fastRuns (s : State) : Bool := s.pwr.powered && !s.pwr.booting && s.clk.cf2.isNone

/-- The calendar clock counts RC32 from now on (R597): cause 1 on VBAT alone, 2 XT25 had failed. -/
def coarseStart (cause : Nat) (s : State) : State :=
  let s := rtcRebase s
  let s := ({ s with rtc := { s.rtc with rc32 := true } }.raise Reg.RTC_STAT_COARSE).raise Reg.RTC_FAULT_COARSE
  if fastRuns s then logEvent 0x0013 5 [cause] s else { s with rtc := { s.rtc with coarse := cause } }

/-- A record of RC32 counting that waits for the fast domains is written. -/
def coarseRecord (s : State) : State :=
  if s.rtc.coarse = 0 then s
  else logEvent 0x0013 5 [s.rtc.coarse] (({ s with rtc := { s.rtc with coarse := 0 } } : State).raise Reg.RTC_FAULT_COARSE)

/-- AO on RC32 without a good XT25 is what the calendar clock counts (R597). -/
def coarseFollow (s : State) : State :=
  let want := s.bit Reg.CLK_STAT_AOSRC && (s.bit Reg.CLK_STAT_FALLBACK || s.clk.cf2.isSome || !s.pwr.powered)
  if want == s.rtc.rc32 then s
  else if want then coarseStart (if s.pwr.powered then 2 else 1) s
  else let s := rtcRebase s; { s with rtc := { s.rtc with rc32 := false } }

/-- A change of the clocks: what the calendar clock counts follows it. -/
def withAo (f : State → State) (s : State) : State := coarseFollow (f (if s.bit Reg.CLK_STAT_AOSRC then rtcRebase s else s))

/-- The QC-20 free counter now (R593). -/
def legacyDay (s : State) : Nat :=
  (((s.rtc.legacy : Int) + (rtcSeconds s / 86400 : Nat) - (s.rtc.legacyDay : Int)) % 7).toNat

/-- WDAY in the mode that `CFG.WDMODE` selects (R593). -/
def rtcWday (s : State) : Nat :=
  if s.bit Reg.RTC_CFG_WDMODE then legacyDay s else isoWeekday (rtcSeconds s / 86400)

/-- The eight calendar fields now (R584, R586). -/
def rtcFields (s : State) : RtcSnap :=
  let t := rtcSeconds s
  let (y, m, d) := dateOfDays (t / 86400)
  { sec := toBcd (t % 60), min := toBcd (t / 60 % 60), hour := toBcd (t / 3600 % 24), day := toBcd d,
    wday := rtcWday s, mon := toBcd m, year := (if y ≥ 2100 then 256 else 0) + toBcd (y % 100),
    subsec := rtcCycles s % rtcHz }

/-- UTC of the calendar clock in ms since 1970-01-01 (R584). -/
def rtcUtcMs (s : State) : Int :=
  ((rtcSeconds s : Int) - 60 * ofField 11 (s.get Reg.RTC_ZONE_MIN) - 3600 * (s.get Reg.RTC_STAT_DSTACT : Int)
    + 946684800) * 1000 + ((rtcCycles s % rtcHz) * 1000 / rtcHz : Nat)

/-- UTC of the calendar clock in cycles since 1970-01-01. -/
def rtcUtcCycles (s : State) : Int :=
  (rtcCycles s : Int) + (946684800 - 60 * ofField 11 (s.get Reg.RTC_ZONE_MIN) - 3600 * (s.get Reg.RTC_STAT_DSTACT : Int)) * (rtcHz : Int)

/-- How far TAI − UTCOFF is ahead of the calendar clock's UTC, in ns ÷ 32,768 (R589). -/
def ptpAhead (s : State) : Int :=
  ((taiNs s : Int) - 1000000000 * (s.get Reg.TBASE_CFG_UTCOFF : Int)) * (rtcHz : Int) - rtcUtcCycles s * 1000000000

/-- UTC of the calendar clock as TAI ms (R587, R600). -/
def rtcTaiMs (s : State) : Int := rtcUtcMs s + 1000 * (s.get Reg.TBASE_CFG_UTCOFF : Int)

/-- The CRC-16 over the 64 backup bytes as they stand (R582). -/
def backupCrc (s : State) : Nat :=
  crc16 ((List.range 16).flatMap (fun k => leBytes 4 (s.get (Reg.RTC_BKUP.ix k))))

/-- The calendar items take the defined state of R581, without the backup bytes and flags. -/
def rtcTimeDefault (s : State) : State := rtcSetCycles 0 { s with rtc := { s.rtc with legacy := 0, legacyDay := 0 } }

/-- The state of the calendar items at the release of the backup domain reset (R581). -/
def backupDefaults (s : State) : State :=
  let s := rtcTimeDefault s
  let s := (((s.set Reg.RTC_STAT_DSTACT 0).set Reg.RTC_STAT_DSTPEND 0).set Reg.RTC_ZONE_MIN 0).set Reg.RTC_TRIM_PPB10 0
  let s := s.set Reg.RTC_STAT_COARSE 0
  let s := (List.range 16).foldl (fun s k => s.set (Reg.RTC_BKUP.ix k) 0) s
  ((s.set Reg.RTC_BKCRC_CRC (crc16 (List.replicate 64 0))).set Reg.RTC_STAT_VALID 0).raise Reg.RTC_FAULT_BKLOST

/-! ### Setting (R587 to R590) -/

/-- The staged time of requester `r`, in seconds of local time, where it is one that a commit applies (R587). -/
def stagedSeconds (s : State) (r : Nat) : Option Nat :=
  let g := fun f => s.get (RegField.by f r)
  let sec := g Reg.RTC_SSEC; let mi := g Reg.RTC_SMIN; let hr := g Reg.RTC_SHOUR
  let dy := g Reg.RTC_SDAY; let mo := g Reg.RTC_SMON; let yr := g Reg.RTC_SYEAR_YR
  let year := 2000 + 100 * g Reg.RTC_SYEAR_CENT + ofBcd yr
  let month := ofBcd mo
  if [sec, mi, hr, dy, mo, yr].all validBcd ∧ ofBcd sec ≤ 59 ∧ ofBcd mi ≤ 59 ∧ ofBcd hr ≤ 23 ∧ 1 ≤ month ∧ month ≤ 12 ∧
      1 ≤ ofBcd dy ∧ ofBcd dy ≤ daysInMonth year month ∧
      (s.bit Reg.RTC_CFG_WDMODE → g Reg.RTC_SWDAY ≤ 6) then
    some (daysOfDate year month (ofBcd dy) * 86400 + ofBcd hr * 3600 + ofBcd mi * 60 + ofBcd sec)
  else none

/-- A pending summer-time command is cancelled (R587). -/
def cancelDst (s : State) : State :=
  if s.bit Reg.RTC_STAT_DSTPEND then (s.set Reg.RTC_STAT_DSTPEND 0).raise Reg.RTC_FAULT_DSTREJ else s

/-- RTC_TIME_COMMIT by requester `r` (R587, R588); SWDAY sets the free counter in legacy mode and is ignored in calendar mode (R593). -/
def rtcCommit (r : Nat) (s : State) : State :=
  match stagedSeconds s r with
  | none => s.raise Reg.RTC_FAULT_SETREJ
  | some t =>
    if s.bit Reg.TBASE_STAT_LOCK && s.bit Reg.RTC_CFG_PTPSET then s.raise Reg.RTC_FAULT_SETREJ
    else
      let before := rtcTaiMs s
      let s1 := rtcSetCycles (t * rtcHz) s
      let wd := if s.bit Reg.RTC_CFG_WDMODE then s.get (Reg.RTC_SWDAY.by r) else legacyDay s
      let s1 := { s1 with rtc := { s1.rtc with legacy := wd, legacyDay := t / 86400 } }
      let s1 := cancelDst ((s1.raise Reg.RTC_STAT_VALID).set Reg.RTC_STAT_COARSE 0)
      let after := rtcTaiMs s1
      let s1 := if s.bit Reg.TBASE_STAT_LOCK then s1
        else (taiStepTo (after.toNat * msec) s1).raise Reg.TBASE_STAT_SET
      logEvent 0x0010 6 [signedItem before, signedItem after, 0] s1

/-- RTC_TIME_COMMIT: an accepted LWRITE of `RTC.CTRL.COMMIT` 1. -/
def execRtcTimeCommit (requester : Fin 16) (s : State) : Host.Outcome State Fault Refusal :=
  done s (rtcCommit requester.val s)

/-- RTC_PTP_COMPARE (R589), at the next calendar second. -/
def ptpCompare (s : State) : State :=
  let s := s.reach (instantOfCycles s ((rtcSeconds s + 1) * rtcHz))
  if s.bit Reg.RTC_CFG_PTPSET && s.bit Reg.TBASE_STAT_LOCK then
    let ahead := (ptpAhead s).natAbs
    if ahead > rtcHz * msec then
      let valid := s.bit Reg.RTC_STAT_VALID
      let s := s.reach (instantOfTai s ((taiNs s / second + 1) * second))
      let oldTai := rtcTaiMs s
      let wd := legacyDay s
      let local' : Int := (taiMs s : Int) / 1000 - (s.get Reg.TBASE_CFG_UTCOFF : Int) - 946684800
        + 60 * ofField 11 (s.get Reg.RTC_ZONE_MIN) + 3600 * (s.get Reg.RTC_STAT_DSTACT : Int)
      let s := rtcSetCycles (local'.toNat * rtcHz) s
      let s := { s with rtc := { s.rtc with legacy := wd, legacyDay := local'.toNat / 86400 } }
      let s := ((s.countSat Reg.RTC_SETCNT_COUNT 1).set Reg.RTC_STAT_COARSE 0).raise Reg.RTC_STAT_VALID
      if ahead ≥ rtcHz * second ∨ !valid then
        logEvent 0x0010 6 [signedItem oldTai, signedItem (rtcTaiMs s), 1] s
      else s
    else s
  else s

/-- RTC_PTP_COMPARE (R589). -/
def execRtcPtpCompare (s : State) : Host.Outcome State Fault Refusal := done s (ptpCompare s)

/-! ### Summer time (R591, R592) -/

/-- A summer-time command: refused while pending, while the time is not valid or where it would not change DSTACT (R592). -/
def dstCommand (forward : Bool) (s : State) : State :=
  if s.bit Reg.RTC_STAT_DSTPEND || !s.bit Reg.RTC_STAT_VALID || (s.bit Reg.RTC_STAT_DSTACT == forward) then
    s.raise Reg.RTC_FAULT_DSTREJ
  else ({ s with rtc := { s.rtc with dstForward := forward } }).raise Reg.RTC_STAT_DSTPEND

/-- RTC_DST_FORWARD (R591, R592). -/
def execRtcDstForward (s : State) : Host.Outcome State Fault Refusal := done s (dstCommand true s)
/-- RTC_DST_BACK (R591, R592). -/
def execRtcDstBack (s : State) : Host.Outcome State Fault Refusal := done s (dstCommand false s)

/-- The calendar passes 2199 (R584): the time returns to 2000-01-01 00:00:00, and the free counter counts the day. -/
def rangeExpiry (s : State) : State :=
  let wd := (legacyDay s + 1) % 7
  let s := rtcSetCycles 0 { s with rtc := { s.rtc with legacy := wd, legacyDay := 0 } }
  (s.set Reg.RTC_STAT_VALID 0).raise Reg.RTC_FAULT_RANGE

/-- DST_BOUNDARY_APPLY (R591): at the next second boundary local time moves one hour; past 2199 the time then returns to 2000
(R584). -/
def dstApply (s : State) : State :=
  if s.bit Reg.RTC_STAT_DSTPEND then
    let next := rtcSeconds s + 1
    let s := s.reach (instantOfCycles s (next * rtcHz))
    let fwd := s.rtc.dstForward
    let moved := if fwd then next + 3600 else next - 3600
    let s := rtcSetCycles (moved * rtcHz) s
    let s := (s.set Reg.RTC_STAT_DSTPEND 0).setBit Reg.RTC_STAT_DSTACT fwd
    let s := logEvent 0x0011 6 [if fwd then 1 else 0, taiMs s] s
    if moved * rtcHz ≥ rtcEnd then rangeExpiry s else s
  else s

/-- DST_BOUNDARY_APPLY (R591). -/
def execDstBoundaryApply (s : State) : Host.Outcome State Fault Refusal := done s (dstApply s)

/-- RTC_RANGE_EXPIRY (R584): one second after 2199-12-31 23:59:59. -/
def execRtcRangeExpiry (s : State) : Host.Outcome State Fault Refusal :=
  done s (rangeExpiry (s.reach (instantOfCycles s rtcEnd)))

/-! ### Trim (R594 to R597) -/

/-- `e` in units of 0.01 ppm, rounded to the nearest unit: trimmed cycles `n` over a reference time of `num` ÷ `den`
seconds (R595). -/
def trimError (n num den : Nat) : Int :=
  let a : Int := (n * den * 100000000 : Nat)
  let b : Int := (num * rtcHz : Nat)
  if b = 0 then 0 else (2 * (a - 100000000 * b) + b) / (2 * b)

/-- The mains cycles of FNOM that 86,400 s of reference time hold, in units of LCYC (R595). -/
def mainsWindow (fnom : Nat) : Nat := 86400 * 256 * fnom

/-- TRIM_WINDOW_END (R595): `n` trimmed cycles were counted in the window; the mains window is 86,400 s of reference time long. -/
def trimEnd (n : Nat) (s : State) : State :=
  match s.rtc.trimAt with
  | none => trimRestart s
  | some t0 =>
    let src := s.get Reg.RTC_CFG_TSRC
    let s := if src = 2 then s.reach (t0 + 1000 * second) else s
    let fnom := if s.bit Reg.MTR_CFG_FNOM then 60 else 50
    let lcyc := (s.get Reg.MTR_LCYC_COUNT + 2 ^ 32 - s.rtc.trimLcyc) % 2 ^ 32
    if src = 1 ∧ lcyc < mainsWindow fnom then s else
    let e := if src = 1 then trimError n lcyc (256 * fnom) else trimError n 1000 1
    let raw := ofField 18 (s.get Reg.RTC_TRIM_PPB10) - e
    let v := max (-50000) (min raw 50000)
    let s := (rtcRebase s).set Reg.RTC_TRIM_PPB10 (toField 18 v)
    let s := if v = raw then s else s.raise Reg.RTC_FAULT_TRIMCLAMP
    trimRestart ((s.set Reg.RTC_TRIMMEAS_ERR (toField 18 (satSigned 18 e))).set Reg.RTC_TRIMTIME_S (taiMs s / 1000))

/-- TRIM_WINDOW_END (R595). -/
def execTrimWindowEnd (cycles : BitVec 40) (s : State) : Host.Outcome State Fault Refusal :=
  done s (trimEnd cycles.toNat s)

/-- TRIM_RESTART (R595): an accepted LWRITE of `CTRL.TRIMRST` 1. -/
def execTrimRestart (s : State) : Host.Outcome State Fault Refusal := done s (trimRestart s)

/-! ### Backup domain -/

/-- BACKUP_DOMAIN_RESET (R581): the backup rail stayed below 1.6 V for 5 µs. The tamper items follow R554. -/
def backupReset (s : State) : State :=
  let s := backupDefaults { s with rtc := { s.rtc with lostCause := 1 } }
  s

/-- A write of one backup byte: `BKCRC` follows in the same cycle (R582). -/
def backupByte (i : Nat) (v : Nat) (s : State) : State :=
  let f := Reg.RTC_BKUP.ix (i / 4)
  let w := s.get f
  let sh := 8 * (i % 4)
  let w' := w - (w / 2 ^ sh % 256) * 2 ^ sh + v % 256 * 2 ^ sh
  let s := s.set f w'
  s.set Reg.RTC_BKCRC_CRC (backupCrc s)

/-- BACKUP_BYTE_WRITE (R582). -/
def execBackupByteWrite (index : Fin 64) (value : Byte) (s : State) : Host.Outcome State Fault Refusal :=
  done s (backupByte index.val value.toNat s)

/-- The snapshot of requester `r` (R586). -/
def rtcSnapshot (r : Nat) (s : State) : State := { s with rtc := { s.rtc with snaps := tabInsert r (rtcFields s) s.rtc.snaps } }

/-- RTC_SNAPSHOT_READ (R586): a read of `SEC` captures all fields and returns `SEC`. -/
def execRtcSnapshotRead (requester : Fin 16) (s : State) : Host.Outcome State Fault Refusal :=
  let s' := rtcSnapshot requester.val s
  done s (s'.emit (.readData (.req requester) (rtcFields s).sec))

/-- VBAT_LOW (R580): VBAT measured below 2.2 V. -/
def execVbatLow (millivolts : BitVec 12) (s : State) : Host.Outcome State Fault Refusal :=
  let s1 := s.set Reg.PWR_VBAT_MV millivolts.toNat
  done s (if millivolts.toNat < 2200 then s1.raise Reg.PWR_FAULT_VBATLOW else s1)

end Sys2Proof.Machine
end

