-- ==== Sys2Proof/Machine/Ptp.lean ====
section
/-! DEFINITION. PTP and the uplink ports' own messages (spec/07_cyclic_tasks.md R285, spec/10_viaduct.md R389 to R394). -/

namespace Sys2Proof.Machine

/-- An uplink beside its registers. -/
def State.uplink (s : State) (p : Nat) : UplinkState := tabGet {} s.uplinks p

/-- Stores an uplink. -/
def State.setUplink (s : State) (p : Nat) (x : UplinkState) : State := { s with uplinks := tabPut {} p x s.uplinks }

/-! ### The discipline of the time base (R285) -/

/-- LOCK takes a value; the control engine's ALIGN follows it (R268), and so does a trim window from PTP (R595). -/
def setLock (v : Bool) (s : State) : State :=
  let lost := s.bit Reg.TBASE_STAT_LOCK && !v
  let changed := s.bit Reg.TBASE_STAT_LOCK != v
  let s := trimReference 2 changed (s.setBit Reg.TBASE_STAT_LOCK v)
  let s := if lost then (s.countSat Reg.TBASE_LOCKLOSS_COUNT 1).raise Reg.TBASE_FAULT_LOCKLOST else s
  let s := if s.bit Reg.CLE_STAT_ALIGN && !v then s.raise Reg.CLE_FAULT_ALIGNLOST else s
  s.setBit Reg.CLE_STAT_ALIGN v

/-- Synchronisation stops: the count of intervals restarts (R285). -/
def syncStop (s : State) : State := { s with time := { s.time with syncing := false, syncs := 0 } }

/-- No synchronisation any more: LOCK 0 and HOLDOVER 1 (R285, R476). -/
def syncLost (s : State) : State :=
  let s := syncStop s
  (setLock false { s with time := { s.time with lastSync := none } }).raise Reg.TBASE_STAT_HOLDOVER

/-- The fields of STAT that show the PTP state of a port. -/
def ptpField (p : Nat) : RegField := if p = 0 then Reg.UPL_STAT_PTPST0 else Reg.UPL_STAT_PTPST1

/-- A synchronisation by the slave port: offset of TAI in ns and mean path delay (R285). -/
def ptpSync (p : Nat) (off : Int) (delay : Nat) (s : State) : State :=
  let st := s.get (ptpField p)
  if s.bit Reg.TBASE_CFG_SRC || !uplinkUp s p || (st ≠ 2 && st ≠ 3) then s
  else
    let s := s.set (ptpField p) 3
    let s := ((s.set Reg.UPL_MDELAY_NS delay).set Reg.TBASE_OFFSET_NS (toField 32 (satSigned 32 off))).set Reg.TBASE_STAT_HOLDOVER 0
    let s := (s.set Reg.TBASE_FREQ_PPB (Config.freeNat s.freeCtr)).drawn
    let n := if s.time.syncing && off.natAbs ≤ 200 then s.time.syncs + 1 else 0
    let s := { s with time := { s.time with syncing := true, syncs := n, lastSync := some s.now } }
    let s := s.raise Reg.TBASE_STAT_SET
    let s := if s.bit Reg.TBASE_STAT_LOCK && off.natAbs > 1000 then setLock false s else s
    let s := if off.natAbs > msec then taiStep off s
      else { timeRebase s with time := { (timeRebase s).time with slew := off } }
    if n ≥ 8 && !s.bit Reg.TBASE_STAT_LOCK then setLock true s else s

/-- PTP_SYNC_RECEIVE (R285). -/
def execPtpSyncReceive (port : Fin 2) (offset : Int) (delay : Word) (s : State) : Host.Outcome State Fault Refusal :=
  done s (ptpSync port.val offset delay.toNat s)

/-- PTP_SYNC_LOSS (R285): 3 s after the last synchronisation. -/
def execPtpSyncLoss (s : State) : Host.Outcome State Fault Refusal :=
  done s (match s.time.lastSync with
    | some t => syncLost (s.reach (t + 3 * second))
    | none => s)

/-! ### The best master (R394; PRESUMED: the order of IEEE 1588) -/

/-- The order of two grandmasters: priority1, class, accuracy, variance, priority2, identity, and then the steps to them. -/
def announceKey (a : PtpAnnounce) : List Nat :=
  [a.prio1.toNat, a.clockClass.toNat, a.accuracy.toNat, a.variance.toNat, a.prio2.toNat, a.gm.toNat, a.steps.toNat]

/-- Lexicographic order. -/
def listBelow : List Nat → List Nat → Bool
  | x :: xs, y :: ys => x < y || (x = y && listBelow xs ys)
  | _, _ => false

/-- The module's own announcement as a grandmaster (R394). Its clock identity and quality are not given: free values. -/
def ownAnnounce (s : State) : PtpAnnounce :=
  { domain := 0, prio1 := .ofNat 8 (s.get Reg.UPL_CFG_PRIO1), clockClass := .ofNat 8 (Config.ptpOwn 1),
    accuracy := .ofNat 8 (Config.ptpOwn 2), variance := .ofNat 16 (Config.ptpOwn 3),
    prio2 := .ofNat 8 (s.get Reg.UPL_CFG_PRIO2), gm := .ofNat 64 (Config.ptpOwn 0), steps := 0 }

/-- The module may be grandmaster (R394). -/
def mayBeMaster (s : State) : Bool := s.get Reg.UPL_CFG_ROLE = 2 && s.get Reg.UPL_CFG_PRIO1 < 255

/-- Notes the grandmaster; a change of a known one sets GMCHG. -/
def setMaster (gm : Nat) (s : State) : State :=
  let old := get64 s Reg.UPL_GMIDLO_ID Reg.UPL_GMIDHI_ID
  let s := if old ≠ gm ∧ old ≠ 0 then s.raise Reg.UPL_FAULT_GMCHG else s
  set64 Reg.UPL_GMIDLO_ID Reg.UPL_GMIDHI_ID gm s

/-- The port with the best Announce. -/
def bestPort (s : State) : Option (Nat × PtpAnnounce) :=
  match (s.uplink 0).announce, (s.uplink 1).announce with
  | some a, some b => if listBelow (announceKey b) (announceKey a) then some (1, b) else some (0, a)
  | some a, none => some (0, a)
  | none, some b => some (1, b)
  | none, none => none

/-- The state of a port: 0 without link, 1 listening, 2 uncalibrated, 3 slave, 4 master, 5 passive. -/
def ptpState (s : State) (best : Option (Nat × PtpAnnounce)) (own : Bool) (p : Nat) : Nat :=
  let old := s.get (ptpField p)
  if !uplinkUp s p then 0
  else if own then 4
  else match best with
    | none => 1
    | some (b, a) =>
      if b = p then (if (old = 2 ∨ old = 3) ∧ get64 s Reg.UPL_GMIDLO_ID Reg.UPL_GMIDHI_ID = a.gm.toNat then old else 2)
      else if s.get Reg.UPL_CFG_ROLE = 0 then 1
      else match (s.uplink p).announce with
        | some x => if x.gm = a.gm then 5 else 4
        | none => 4

/-- Chooses the best master and the port states anew (R394). -/
def ptpChoose (s : State) : State :=
  let best := bestPort s
  let own := mayBeMaster s && (match best with
    | some (_, a) => listBelow (announceKey (ownAnnounce s)) (announceKey a)
    | none => anyLink s)
  let st0 := ptpState s best own 0
  let st1 := ptpState s best own 1
  let slave := fun (s : State) => [0, 1].filter (fun p => s.get (ptpField p) = 2 || s.get (ptpField p) = 3)
  let before := slave s
  let s := (s.set (ptpField 0) st0).set (ptpField 1) st1
  let s := if slave s ≠ before then syncStop s else s
  if own then setMaster (ownAnnounce s).gm.toNat s
  else match best with
    | some (_, a) =>
      let s := setMaster a.gm.toNat s
      match a.utcOffset with
      | some u => if s.bit Reg.TBASE_CFG_SRC then s else s.set Reg.TBASE_CFG_UTCOFF u.toNat
      | none => s
    | none => s

/-- An Announce message is taken (R394). -/
def ptpAnnounce (p : Nat) (a : PtpAnnounce) (s : State) : State :=
  if !uplinkUp s p || a.domain.toNat ≠ s.get Reg.UPL_CFG_PTPDOM then s
  else ptpChoose (s.setUplink p { s.uplink p with announce := some a, announceAt := s.now })

/-- PTP_ANNOUNCE_RECEIVE (R394). -/
def execPtpAnnounceReceive (port : Fin 2) (vid : BitVec 12) (announce : PtpAnnounce) (s : State) :
    Host.Outcome State Fault Refusal :=
  done s (if vidOk s port.val vid.toNat then ptpAnnounce port.val announce s else s)

/-- The Announces of a port have been absent for three intervals (R394). -/
def announceTimeout (p : Nat) (s : State) : State :=
  match (s.uplink p).announce with
  | some _ =>
    let s := s.reach ((s.uplink p).announceAt + 3 * second)
    ptpChoose (s.setUplink p { s.uplink p with announce := none })
  | none => s

/-- PTP_ANNOUNCE_TIMEOUT (R394). -/
def execPtpAnnounceTimeout (port : Fin 2) (s : State) : Host.Outcome State Fault Refusal := done s (announceTimeout port.val s)

/-! ### Links (R389 to R391) -/

/-- The speeds, as `PSPD` numbers them, of a medium: 100 Mbit/s, 1 Gbit/s, 2.5 Gbit/s (R389, R427). -/
def mediaSpeeds (media : Nat) : List Nat :=
  match media with
  | 1 => [1, 2, 3]
  | 2 | 5 => [3]
  | 3 | 6 => [2]
  | 4 => [1]
  | _ => []

/-- The port's medium carries a link of this speed (R389). -/
def mediaCarries (s : State) (p speed : Nat) : Bool := (mediaSpeeds (s.get (Reg.UPL_PCFG_MEDIA.ix p))).contains speed

/-- The link of an uplink port goes up or down. -/
def setUplinkLink (p : Nat) (up : Bool) (speed : Nat) (s : State) : State :=
  let f := if p = 0 then Reg.UPL_STAT_LINK0 else Reg.UPL_STAT_LINK1
  let was := s.bit f
  let s := (s.setBit f up).set (Reg.UPL_PSPD_SPEED.ix p) (if up then speed else 0)
  let s := if was && !up then
      (s.countSat (Reg.UPL_PLNKDN_COUNT.ix p) 1).setUplink p { s.uplink p with downSince := some s.now, announce := none }
    else if up then s.setUplink p { s.uplink p with downSince := none, lost := false } else s
  ptpChoose s

/-- The uplinks take their media from a new sheet or at a start (R389, R392): a link that its medium does not carry goes down, and a
configured port without link is down from now on. -/
def uplinksFollow (s : State) : State :=
  [0, 1].foldl (fun s p =>
    let s := if uplinkUp s p && !mediaCarries s p (s.get (Reg.UPL_PSPD_SPEED.ix p)) then setUplinkLink p false 0 s else s
    let x := s.uplink p
    if s.get (Reg.UPL_PCFG_MEDIA.ix p) = 0 then s.setUplink p { x with downSince := none, lost := false }
    else if uplinkUp s p || x.downSince.isSome then s
    else s.setUplink p { x with downSince := some s.now }) s

/-- The configured address of a port, or its link-local address, which the specification does not give. -/
def icmpTarget (s : State) (p target : Nat) : Bool :=
  match (sheet s).uplinks[p]? with
  | some u => target = u.addr || target = Config.linkLocal p
  | none => false

/-- The message fits the MTU of 1,500 bytes: an echo request has 48 bytes of headers before its data (R390). -/
def icmpFits : IcmpMessage → Bool
  | .echoRequest _ _ _ data => data.length + 48 ≤ 1500
  | _ => true

/-- ICMPv6 echo and neighbour discovery are answered; a router advertisement is not accepted, nor a frame of another VLAN or over the
MTU (R390). -/
def icmpReceive (p vid : Nat) (m : IcmpMessage) (s : State) : State :=
  if !uplinkUp s p || !vidOk s p vid || !icmpFits m then s
  else
    let s := s.countWrap (Reg.UPL_PRXOK_COUNT.ix p) 1
    match m with
    | .echoRequest t id seq data =>
      if icmpTarget s p t then (s.emit (.echoReply p vid id seq data)).countWrap (Reg.UPL_PTXOK_COUNT.ix p) 1 else s
    | .neighbourSolicitation t =>
      if icmpTarget s p t then (s.emit (.neighbourAdvertisement p vid t)).countWrap (Reg.UPL_PTXOK_COUNT.ix p) 1 else s
    | .routerAdvertisement => s
    | .other _ => s

/-- ICMPV6_MESSAGE_RECEIVE (R390). -/
def execIcmpv6MessageReceive (port : Fin 2) (vid : BitVec 12) (message : IcmpMessage) (s : State) :
    Host.Outcome State Fault Refusal :=
  done s (icmpReceive port.val vid.toNat message s)

end Sys2Proof.Machine
end

