-- ==== Sys2Proof/Machine/Viaduct.lean ====
section
/-! DEFINITION. The commands of the viaduct (spec/10_viaduct.md, R389 to R408). -/

namespace Sys2Proof.Machine

/-! ### The pair epoch of a datagram (R396, R414) -/

/-- The pair epoch of this member. -/
def pairEpoch (s : State) : Nat := s.get Reg.PAIR_PEPOCH_EPOCH

/-- A higher pair epoch is received (R414, R419): permission is withdrawn at once, the member is a standby that needs a full
checkpoint, and it enters STANDBY. -/
def higherEpoch (e : Nat) (s : State) : State :=
  if e ≤ pairEpoch s then s
  else
    let s := withdraw 3 (s.set Reg.PAIR_PEPOCH_EPOCH e)
    let s := ((s.set Reg.PAIR_STAT_ROLE 2).set Reg.PAIR_STAT_ELIG 0).raise Reg.PAIR_STAT_RESYNC
    let s := { s with pair := { s.pair with leaseEnd := 0, reqs := [], base := none, sentCk := none } }
    let s := { s with pair := { s.pair with heardAt := monoNs s, granting := true } }
    keystoneFollow (if mode s = 3 ∨ mode s = 4 then changeMode 2 7 s else s)

/-- The header of a datagram of the other member carries its pair epoch: a higher one counts as received (R396, R414). -/
def partnerEpoch (k e : Nat) (s : State) : State :=
  if paired s && k = partnerKey s && (s.peer k).enrolled then higherEpoch e s else s

/-- A datagram is received: its pair epoch first, then its body (R396). -/
def viaTake (typ len : Nat) (h : ViaHeader) (f : Nat → State → State) (s : State) : State :=
  viaReceive typ len h (fun k s => f k (partnerEpoch k h.pepoch.toNat s)) s

/-! ### Links, heartbeats and the ring block (R391, R392, R397) -/

/-- Every module reports both links up, this one included (R391). -/
def allLinksUp (s : State) : Bool :=
  uplinkUp s 0 && uplinkUp s 1 && s.via.peers.all (fun e => !e.2.up || decide (e.2.flags / 2 % 4 = 0))

/-- The keystone's ring block follows the reports: cleared at once when a link is down; otherwise the 5 s run (R391). -/
def ringFollow (s : State) : State :=
  if s.get Reg.VIA_STAT_ROLE ≠ 2 then s
  else if allLinksUp s then
    { s with via := { s.via with linksUp := match s.via.linksUp with | some t => some t | none => some s.now } }
  else
    ({ s with via := { s.via with linksUp := none } }).set (Reg.UPL_PCFG_RINGBLK.ix 1) 0

/-- UPLINK_LINK_CHANGE (R391); a port that is unused or whose PHY is held stays down, and its medium brings up no link of another
speed (R389, R476). -/
def execUplinkLinkChange (port : Fin 2) (up : Bool) (speed : Fin 4) (s : State) : Host.Outcome State Fault Refusal :=
  let usable := mediaCarries s port.val speed.val && !s.bit Reg.CLK_STAT_FALLBACK
  done s (ringFollow (lostUplinks (showPair (setUplinkLink port.val (up && usable) speed.val s))))

/-- UPLINK_PORT_LOST (R392): 1 s after the link went down. -/
def uplinkPortLost (p : Nat) (s : State) : State :=
  let x := s.uplink p
  match x.downSince with
  | none => s
  | some t =>
    if s.get (Reg.UPL_PCFG_MEDIA.ix p) = 0 || uplinkUp s p || x.lost then s
    else
      let s := (s.reach (t + second)).setUplink p { x with lost := true }
      lostUplinks (s.raise (if p = 0 then Reg.UPL_FAULT_LINKDN0 else Reg.UPL_FAULT_LINKDN1))

/-- UPLINK_PORT_LOST (R392). -/
def execUplinkPortLost (port : Fin 2) (s : State) : Host.Outcome State Fault Refusal := done s (uplinkPortLost port.val s)

/-- The body of a heartbeat (R397). -/
def heartbeatBody (s : State) : List Nat :=
  let flags := b2n s.prpt.permission + 2 * b2n (!uplinkUp s 0) + 4 * b2n (!uplinkUp s 1) +
    8 * b2n (s.bit Reg.TBASE_STAT_LOCK) + 16 * b2n s.via.mine.isSome
  let v := match s.via.view with | some c => [c.slot, c.rank] ++ leBytes 8 c.epoch | none => [0xFF, 0] ++ leBytes 8 0
  [mode s, flags] ++ v

/-- HEARTBEAT_SEND (R397): every 50 ms to every peer of the viaduct. -/
def execHeartbeatSend (s : State) : Host.Outcome State Fault Refusal :=
  let s1 := s.reach (s.via.hbAt + 50 * msec)
  let s1 := { s1 with via := { s1.via with hbAt := s1.now } }
  done s (((peerList s1).filter (fun k => decide (k < 508))).foldl (fun s k => viaSend k 1 (heartbeatBody s) s) s1)

/-- OVERLAP is shown while a peer that is heard names another keystone (R403). -/
def showOverlap (s : State) : State :=
  let own := s.get Reg.VIA_IDENT_SLOT
  s.setBit Reg.VIA_STAT_OVERLAP (s.get Reg.VIA_STAT_ROLE = 2 &&
    s.via.peers.any (fun e => e.2.up && decide (e.2.kslot ≠ 0xFF ∧ e.2.kslot ≠ own)))

/-- A heartbeat of peer `k`: missed ones are counted, a peer that joins is subscribed to, and the keystone that it names
is heard (R397, R402, R403, R405). -/
def heartbeat (k flags kslot krank kepoch pmode : Nat) (s : State) : State :=
  let x := s.peer k
  let missed := if x.up then (s.now - x.lastHb) / (50 * msec) - 1 else 0
  let s := s.countSat Reg.VIA_HBMISS_COUNT missed
  let x' := { x with up := true, lastHb := s.now, mode := pmode, flags := flags, kslot := kslot, krank := krank }
  let s := s.setPeer k { x' with kepoch := kepoch }
  let s := showPeers s
  let s := if kslot = 0xFF then s else
    let s := if kslot = s.get Reg.VIA_IDENT_SLOT ∧ s.via.mine.isSome then { s with via := { s.via with namedAt := s.now } } else s
    hearClaim { epoch := kepoch, rank := krank, slot := kslot } (k / 2 = kslot) s
  let s := ringFollow (showOverlap s)
  if x.up then s else subscribeTo (k / 2) s

/-- HEARTBEAT_RECEIVE (R397). -/
def execHeartbeatReceive (header : ViaHeader) (pmode flags kslot krank : Byte) (kepoch : BitVec 64) (s : State) :
    Host.Outcome State Fault Refusal :=
  done s (viaTake 1 12 header (fun k s =>
    heartbeat k flags.toNat kslot.toNat krank.toNat kepoch.toNat pmode.toNat s) s)

/-- RING_BLOCK_SET (R391): 5 s after every module reports both links up, in a ring. -/
def ringBlockSet (s : State) : State :=
  match s.via.linksUp with
  | some t =>
    if s.get Reg.VIA_STAT_ROLE = 2 ∧ s.get (Reg.UPL_PCFG_FWD.ix 0) = 1 ∧ s.get (Reg.UPL_PCFG_FWD.ix 1) = 1 then
      (s.reach (t + 5 * second)).raise (Reg.UPL_PCFG_RINGBLK.ix 1)
    else s
  | none => s

/-- RING_BLOCK_SET (R391). -/
def execRingBlockSet (s : State) : Host.Outcome State Fault Refusal := done s (ringBlockSet s)

/-- PEER_LOST (R397): 150 ms after its last heartbeat. -/
def peerLost (k : Nat) (s : State) : State :=
  let x := s.peer k
  if x.up then
    let s := (s.reach (x.lastHb + 150 * msec)).countSat Reg.VIA_HBMISS_COUNT 3
    ringFollow (showOverlap (actionsLost k (losePeer k s)))
  else s

/-- PEER_LOST (R397). -/
def execPeerLost (slot : Fin 64) (member : Bool) (s : State) : Host.Outcome State Fault Refusal :=
  done s (peerLost (peerKey slot.val (if member then 1 else 0)) s)

/-! ### Sessions and enrolment (R393, R398 to R400) -/

/-- A DTLS handshake with the peer that claims source `src` (R393, R399): to the viaduct's UDP port, with an offer of R64 and a
certificate that chains to a root of the charter; of the 65 sessions of R398 one is free, or the peer has one. -/
def viaHandshake (p udp src memb digest root : Nat) (offer : DtlsOffer) (chainOk : Bool) (s : State) : State :=
  let outside := decide (src = 0xFE)
  let k := if outside then 508 else peerKey src memb
  if !viaRuns s || !uplinkUp s p || udp ≠ (sheet s).via.port || !dtlsOk offer || !chainOk || !(charter s).roots.contains root ||
      k = ownKey s || !s.bit Reg.ENC_STAT_ENTOK || (!(s.peer k).session && decide (65 ≤ (peerList s).length)) then s
  else if outside then
    if s.get Reg.PAIR_CFG_ABSLOT = 0x3F ∧ paired s then
      showPair (s.setPeer 508 { s.peer 508 with session := true, enrolled := true, digest := digest, port := p })
    else s
  else if src ≥ 64 then s
  else
    let ok := isEnrolled s k digest
    let s := if paired s && k = partnerKey s then { s with pair := { s.pair with base := none, sentCk := none } } else s
    let s := showPeers (s.setPeer k { s.peer k with session := true, enrolled := ok, digest := digest, port := p })
    if !ok && s.get Reg.VIA_STAT_ROLE = 2 then noteUnenrolled k s else s

/-- VIA_HANDSHAKE (R399): the uplink, the UDP port, what the peer offers, the place that it claims, the identity digest of its
certificate, the root to which that chains, and whether the chain is valid. -/
def execViaHandshake (port : Fin 2) (udp : BitVec 16) (offer : DtlsOffer) (source : Byte) (member : Bool) (digest : BitVec 256)
    (root : Nat) (chainOk : Bool) (s : State) : Host.Outcome State Fault Refusal :=
  done s (viaHandshake port.val udp.toNat source.toNat (if member then 1 else 0) digest.toNat root offer chainOk s)

/-- The digest staged in ENRID (R400). -/
def stagedDigest (s : State) : Nat := (List.range 8).foldr (fun i a => s.get (Reg.VIA_ENRID.ix i) + 2 ^ 32 * a) 0

/-- An enrolment action of the keystone: KACTION to all; the list changes here at once, and the slot's bit shows when every
reachable module has answered (R400). -/
def keystoneAction (code : Nat) (s : State) : State :=
  match s.via.mine with
  | some c =>
    if s.get Reg.VIA_STAT_ROLE ≠ 2 then s
    else
      let slot := s.get Reg.VIA_ENRSLOT_SLOT
      let memb := s.get Reg.VIA_ENRSLOT_MEMB
      let digest := stagedDigest s
      let waiting := (peerList s).filter (fun k => (s.peer k).up && (s.peer k).enrolled)
      let s := viaSendAll 5 (leBytes 8 c.epoch ++ [code, slot, memb] ++ leBytes 32 digest) s
      let place := peerKey slot memb
      let a : ViaAction := { code := code, place := place, digest := digest, before := tabFind place s.via.enrolled, waiting := waiting }
      changeEnrolment code place digest
        { s with via := { s.via with actions := s.via.actions ++ (if waiting = [] then [] else [a]) } }
  | none => s

/-- VIA_ENROLL (R400). -/
def execViaEnroll (s : State) : Host.Outcome State Fault Refusal := done s (unlessBusy 0x180 (fun s => keystoneAction 1 s) s)

/-- VIA_UNENROLL (R400). -/
def execViaUnenroll (s : State) : Host.Outcome State Fault Refusal := done s (unlessBusy 0x180 (fun s => keystoneAction 2 s) s)

/-- A KACTION: applied when it comes from the keystone of this module's view, otherwise answered with RESULT 1; an action or
place that is not defined is discarded (R396, R400, R403). -/
def kaction (k epoch code slot memb digest : Nat) (s : State) : State :=
  if code = 0 ∨ 3 < code ∨ 63 < slot ∨ 1 < memb then badMsg 1 s
  else if s.get Reg.VIA_KVIEW_KSLOT = k / 2 ∧ s.get Reg.VIA_STAT_ROLE ≠ 2 then
    let s := if code = 3 then s else changeEnrolment code (peerKey slot memb) digest s
    viaSend k 6 (leBytes 8 epoch ++ [0]) s
  else viaSend k 6 (leBytes 8 epoch ++ [1]) s

/-- KACTION_RECEIVE (R403). -/
def execKactionReceive (header : ViaHeader) (kepoch : BitVec 64) (action slot member : Byte) (digest : BitVec 256) (s : State) :
    Host.Outcome State Fault Refusal :=
  done s (viaTake 5 43 header (fun k s =>
    kaction k kepoch.toNat action.toNat slot.toNat member.toNat digest.toNat s) s)

/-- Two records of one action, whichever peers have still to answer it. -/
def ViaAction.same (a b : ViaAction) : Bool :=
  decide (a.code = b.code ∧ a.place = b.place ∧ a.digest = b.digest ∧ a.before = b.before)

/-- A KACK: RESULT 1 tells a keystone that one of higher order is active, to which the enrolments of the overlap will be lost (R400,
R403). -/
def kack (k epoch result : Nat) (s : State) : State :=
  match s.via.mine with
  | some c =>
    if s.get Reg.VIA_STAT_ROLE ≠ 2 ∨ epoch ≠ c.epoch then s
    else
      let refused := s.via.actions.find? (fun a => a.waiting.contains k)
      let s := actionAnswered k s
      if result = 1 then
        let s := match refused with
          | some a => if s.via.overlap.any (a.same ·) then s else { s with via := { s.via with overlap := s.via.overlap ++ [a] } }
          | none => s
        logEvent 0x0601 5 [c.epoch, (s.peer k).kslot, (s.peer k).kepoch] (s.raise Reg.VIA_FAULT_OVERLAP)
      else s
  | none => s

/-- KACK_RECEIVE (R400). -/
def execKackReceive (header : ViaHeader) (kepoch : BitVec 64) (result : Byte) (s : State) : Host.Outcome State Fault Refusal :=
  done s (viaTake 6 9 header (fun k s => kack k kepoch.toNat result.toNat s) s)

/-! ### The keystone role (R401 to R404, R425) -/

/-- A candidate claims: KEPOCH one above the highest seen (R402). -/
def kclaimSend (s : State) : State :=
  let rank := s.get Reg.VIA_IDENT_RANK
  if !viaRuns s || rank = 0 || s.via.mine.isSome || pairRole s = 2 then s
  else
    let s := s.reach (max (s.via.heardAt + 150 * msec) s.via.noClaim)
    let e := (keystoneEpoch s + 1) % 2 ^ 64
    let s := (noteEpoch e s).set Reg.VIA_STAT_ROLE 3
    let c : Claim := { epoch := e, rank := rank, slot := s.get Reg.VIA_IDENT_SLOT }
    viaSendAll 4 (leBytes 8 e ++ [rank]) { s with via := { s.via with mine := some c, claimAt := s.now } }

/-- KCLAIM_SEND (R402). -/
def execKclaimSend (s : State) : Host.Outcome State Fault Refusal := done s (kclaimSend s)

/-- A claimant takes the role 100 ms after its claim: it subscribes as keystone, and finds the peers that are unenrolled (R399, R402,
R404). -/
def takeRole (s : State) : State :=
  if s.get Reg.VIA_STAT_ROLE ≠ 3 then s
  else
    let s := s.reach (s.via.claimAt + 100 * msec)
    let s := setView s.via.mine (s.set Reg.VIA_STAT_ROLE 2)
    let s := { s with via := { s.via with namedAt := s.now } }
    let s := ((peerList s).filter (fun k => !(s.peer k).enrolled)).foldl (fun s k => noteUnenrolled k s) s
    ringFollow (showOverlap s)

/-- KEYSTONE_TAKE_ROLE (R402). -/
def execKeystoneTakeRole (s : State) : Host.Outcome State Fault Refusal := done s (takeRole s)

/-- KCLAIM_RECEIVE (R403). -/
def execKclaimReceive (header : ViaHeader) (kepoch : BitVec 64) (rank : Byte) (s : State) : Host.Outcome State Fault Refusal :=
  done s (viaTake 4 9 header (fun k s => hearClaim { epoch := kepoch.toNat, rank := rank.toNat, slot := k / 2 } true s) s)

/-- KEYSTONE_STEP_DOWN_TIMEOUT (R403): 400 ms in which no pier names the keystone. -/
def stepDownTimeout (s : State) : State :=
  if s.get Reg.VIA_STAT_ROLE ≠ 2 then s
  else
    let s := s.reach (s.via.namedAt + 400 * msec)
    let s := setView none (stepDown s)
    { s with via := { s.via with heardAt := s.now } }

/-- KEYSTONE_STEP_DOWN_TIMEOUT (R403). -/
def execKeystoneStepDownTimeout (s : State) : Host.Outcome State Fault Refusal := done s (stepDownTimeout s)

/-- `CTRL.KSTEP` is written 1 (R425). -/
def keystoneStep (s : State) : State :=
  if s.via.mine.isSome then
    let s := setView none (stepDown s)
    { s with via := { s.via with noClaim := s.now + 10 * second } }
  else s

/-- VIA_KEYSTONE_STEP (R425). -/
def execViaKeystoneStep (s : State) : Host.Outcome State Fault Refusal := done s (unlessBusy 0x180 keystoneStep s)

/-! ### Mirrors (R405 to R408) -/

/-- Publications of peer `k` are accepted (R399, R407). One whose header carries PEPOCH 0 is no member of a pair (R396; assumption 122;
DEDUCED). -/
def publisherOk (s : State) (k : Nat) : Bool :=
  let x := s.peer k
  let y := s.peer (k / 2 * 2 + (1 - k % 2))
  x.enrolled && (x.flags % 2 = 1 || x.pepoch = 0 || y.pepoch < x.pepoch)

/-- The keystone's mirror of a published record that its sheet does not list is allocated at the record's first publication (R19, R125,
R404). Its lane is the common lane, and it has no time-outs (assumption 123; DESIGN CHOICE: neither is given). -/
def mirrorPublished (k : Nat) (it : PubItem) (s : State) : State :=
  let g := it.gpr.toNat
  let typ := it.info.toNat / 2 ^ 20 % 16
  if keystoneView s && gprOfSlot s (k / 2) g && (tabFind g s.pt.directory).isNone && 1 ≤ typ && typ ≤ 9 && hasIdentity s then
    createMirror { gpr := g, typ := typ } { s with via := { s.via with keystoneOf := distinct (s.via.keystoneOf ++ [g]) } }
  else s

/-- An item of a PUBLISH message of peer `k` (R406): one whose TYPE differs from its mirror's is discarded. Every other goes to the
point engine, which refuses and counts one that resolves to no record or that the peer's slot does not own (R16, R18, R24). While
the queue of class 7 is full the port holds items; one that its receive buffer cannot hold is lost and counted (R26, R99). -/
def publishItem (k : Nat) (it : PubItem) (s : State) : State :=
  let s := mirrorPublished k it s
  let g := it.gpr.toNat
  let info := it.info.toNat
  let mismatch := match resolve s (.gpr g) with
    | some i => (s.point i).mirror && decide ((s.point i).typ ≠ info / 2 ^ 20 % 16)
    | none => false
  if mismatch then badMsg 1 s
  else if Config.viaBuffer ≤ (tabGet [] s.pt.held 7 : List Update).length && tabGet [] s.pt.held 7 ≠ [] then
    s.countSat (Reg.UPL_PDROP_COUNT.ix ((s.peer k).port % 2)) 1
  else submit { src := mkSrc 7 (k / 2), target := .gpr g,
                kind := .publication it.pv.toNat (info / 2 ^ 28) (info.testBit 27) (info.testBit 26) it.ts.toNat it.rseq.toNat
                  (s.peer k).pepoch } s

/-- PUBLISH_RECEIVE (R406). -/
def execPublishReceive (header : ViaHeader) (_tick : BitVec 64) (items : List PubItem) (s : State) :
    Host.Outcome State Fault Refusal :=
  done s (viaTake 2 (12 + 32 * items.length) header (fun k s =>
    if items.length > 40 then badMsg 1 s
    else if !publisherOk s k then s
    else items.foldl (fun s it => publishItem k it s) ((wakeEvent s).countWrap Reg.VIA_PUBRX_COUNT items.length)) s)

/-- The largest number of subscriber entries (R405). -/
def maxSubs : Nat := 262144

/-- A record that may be subscribed to: its configured `PUB` is 1. Until the store is restored the sheet says so. -/
def mayPublish (s : State) (i : Nat) : Bool :=
  if s.bit Reg.PNT_STAT_READY then (s.point i).pub && !(s.point i).mirror
  else
    let r : PointRec := tabGet {} (sheet s).points i
    r.pub && r.typ ≠ 0

/-- The records that may be subscribed to. -/
def published (s : State) : List Nat :=
  ((if s.bit Reg.PNT_STAT_READY then s.pt.recs else (sheet s).points).map (fun e => e.1)).filter (mayPublish s)

/-- Adds an entry, or refuses it (R405). -/
def addSub (k i : Nat) (s : State) : State :=
  if s.via.subs.contains (i, k) then s
  else if !mayPublish s i || s.via.subs.length ≥ maxSubs then
    (s.countSat Reg.VIA_SUBREJ_COUNT 1).raise Reg.VIA_FAULT_SUBREJ
  else { s with via := { s.via with subs := s.via.subs ++ [(i, k)] } }

/-- A SUBSCRIBE of peer `k` (R396, R405): 0 add, 1 remove, 2 every published record. -/
def subscribe (k op : Nat) (is : List Nat) (s : State) : State :=
  if op > 2 then badMsg 1 s
  else if op = 1 then
    let s := { s with via := { s.via with subs := s.via.subs.filter (fun e => !(decide (e.2 = k) && is.contains e.1)) } }
    s.set Reg.VIA_SUBCNT_COUNT s.via.subs.length
  else
    let is := if op = 2 then published s else is
    let s := is.foldl (fun s i => addSub k i s) s
    let s := s.set Reg.VIA_SUBCNT_COUNT s.via.subs.length
    if s.bit Reg.PNT_STAT_READY && s.bit Reg.PNT_CTRL_PUBEN then publishTo k (is.filter (fun i => s.via.subs.contains (i, k))) s
    else s

/-- SUBSCRIBE_RECEIVE (R405). -/
def execSubscribeReceive (header : ViaHeader) (op : Byte) (points : List Word) (s : State) : Host.Outcome State Fault Refusal :=
  done s (viaTake 3 (3 + 4 * points.length) header (fun k s =>
    if (s.peer k).enrolled then subscribe k op.toNat (points.map BitVec.toNat) (wakeEvent s) else s) s)

end Sys2Proof.Machine
end

