-- ==== Sys2Proof/Machine/Clock.lean ====
section
/-! DEFINITION. Clocks and expansion joints (spec/12_clocks.md, R467 to R488). -/

namespace Sys2Proof.Machine

/-- 33 cycles of the AO clock in ns (R480). -/
def aoRetry : Nat := 33 * second / 32768

/-- The PHYs of V0, V1, the service port and the T1L ports are held in reset: their links drop (R476). -/
def holdPhys (s : State) : State :=
  let s := setUplinkLink 1 false 0 (setUplinkLink 0 false 0 s)
  let s := (List.range 32).foldl (fun s p => linkLost p s) (s.set Reg.SVC_STAT_LINK 0)
  ringFollow (lostUplinks (showPair s))

/-- Fallback (R475, R476, R478): the references go to the IRC. `cause`: 1 detector, 2 windows, 3 restart after CLKFAIL2. -/
def startFallback (cause : Nat) (s : State) : State :=
  let recent := s.clk.fallbacks.filter (fun t => decide (s.now < t + 3600 * second)) ++ [s.now]
  let s := ((withAo (fun s => s.raise Reg.CLK_STAT_FALLBACK) s).raise Reg.CLK_FAULT_CLKFAIL).set Reg.CLK_STAT_XTGOOD 0
  let s := (s.countSat Reg.CLK_FBCNT_COUNT 1).set Reg.CLK_FBTIME_S (taiMs s / 1000)
  let s := { s with clk := { s.clk with fallbacks := recent, fbAt := s.now, xtPasses := 0, xtFails := 0, tripped := false,
                                        refAt := some s.now } }
  let s := if recent.length ≥ 3 then (s.raise Reg.CLK_STAT_FLAP).raise Reg.CLK_FAULT_FLAPPING else s
  let s := (wakeEvent s).emit (.clockEvent false)
  let s := logEvent 0x0800 5 [s.get Reg.CLK_FBCNT_COUNT, cause, s.get Reg.CLK_MONXT_COUNT] s
  beginShort 1 (meterFallback true (syncLost (holdPhys s)))

/-- Return to XT25 (R477): the shortfall and CLKFAIL2's hold cause end, and the PHYs are released. -/
def clockReturn (s : State) : State :=
  let s := ((withAo (fun s => s.set Reg.CLK_STAT_FALLBACK 0) s).set Reg.CLK_STAT_XTGOOD 0).raise Reg.CLK_FAULT_RESTORED
  let s := s.set Reg.CLK_FBDUR_MS (min (2 ^ 32 - 1) ((s.now - s.clk.fbAt) / msec))
  let s := { s.set Reg.CLK_STAT_CF2 0 with clk := { s.clk with refAt := some s.now, xtFails := 0, xtPasses := 0 } }
  setHold 1 false (endShort 1 (meterFallback false s))

/-! ### The monitor (R472 to R474, R477) -/

/-- AO runs on RC32 or on XT32 (R474); the calendar clock takes the new rate from now on, and a trim window restarts (R595). -/
def setAoSource (rc : Bool) (s : State) : State :=
  trimRestart (withAo (fun s => s.setBit Reg.CLK_STAT_AOSRC rc) (rtcRebase s))

/-- XT32 is judged failed (R474). -/
def xt32Failed (s : State) : State :=
  if s.bit Reg.CLK_STAT_AOSRC then s
  else { (setAoSource true s).raise Reg.CLK_FAULT_XT32FAIL with clk := { s.clk with m32Passes := 0 } }

/-- The IRC is judged failed: no fallback is available (R474). -/
def ircFailed (s : State) : State := { s.raise Reg.CLK_FAULT_IRCFAIL with clk := { s.clk with ircBad := true } }

/-- XT25 fails while the IRC is not ready or is judged failed: the deadline runs from the start of the IRC (R474, R479). -/
def tripWaits (s : State) : State :=
  let s := wakeEvent s
  let from' := if s.clk.ircBad then s.now else match s.clk.ircFrom with | some t => t | none => s.now
  { s.set Reg.CLK_IRCSTAT_READY 0 with clk := { s.clk with tripped := true, ircFrom := some from' } }

/-- XT25 is judged failed (R474). -/
def xt25Failed (cause : Nat) (s : State) : State :=
  if s.bit Reg.CLK_STAT_FALLBACK || s.clk.tripped || s.clk.cf2.isSome then s
  else if s.clk.ircBad || !s.bit Reg.CLK_IRCSTAT_READY then tripWaits s
  else startFallback cause s

/-- The PLLs still relock after a return to XT25 (R470, R477). -/
def returning (s : State) : Bool :=
  match s.clk.refAt with
  | some t => !s.bit Reg.CLK_STAT_FALLBACK && decide (s.now ≤ t + 30 * usec)
  | none => false

/-- An XT25 window ends with a count (R472, R474, R477): one that fails beside a failing 32-cycle window tells of the IRC; one that
fails during a return begins a new fallback. -/
def xtWindow (n : Nat) (s : State) : State :=
  let s := s.set Reg.CLK_MONXT_COUNT n
  let pass := decide (24500 ≤ n ∧ n ≤ 25500)
  if s.bit Reg.CLK_STAT_FALLBACK then
    if pass then
      let k := s.clk.xtPasses + 1
      let s := { s with clk := { s.clk with xtPasses := k, xtFails := 0 } }
      if k < 1000 then s
      else
        let s := s.raise Reg.CLK_STAT_XTGOOD
        if s.bit Reg.CLK_CTRL_AUTORET && !s.bit Reg.CLK_STAT_FLAP then clockReturn s else s
    else
      let s := { s.set Reg.CLK_STAT_XTGOOD 0 with clk := { s.clk with xtPasses := 0, xtFails := s.clk.xtFails + 1 } }
      if s.clk.m32Fails > 0 then ircFailed s else s
  else if pass then { s with clk := { s.clk with xtFails := 0 } }
  else
    let k := s.clk.xtFails + 1
    let s := { s with clk := { s.clk with xtFails := k } }
    if s.clk.m32Fails > 0 then ircFailed s
    else if k ≥ 2 ∨ returning s then xt25Failed 2 s else s

/-- A window of 32 AO cycles ends with a count (R472, R474). -/
def m32Window (n : Nat) (s : State) : State :=
  let s := s.set Reg.CLK_MON32_COUNT n
  if 61250 ≤ n ∧ n ≤ 63750 then
    let k := s.clk.m32Passes + 1
    let s := { s with clk := { s.clk with m32Fails := 0, m32Passes := k } }
    if s.bit Reg.CLK_STAT_AOSRC && k ≥ 1000 then setAoSource false s else s
  else
    let k := s.clk.m32Fails + 1
    let s := { s with clk := { s.clk with m32Fails := k, m32Passes := 0 } }
    if s.clk.xtFails > 0 then ircFailed s
    else if k ≥ 2 then xt32Failed s else s

/-- A window of 1 ms ends: PLLs that lost lock have relocked by then, and a reference change older than 1 ms is over (R470, R480). -/
def relocked (s : State) : State :=
  let done := match s.clk.refAt with | some t => decide (t + msec ≤ s.now) | none => false
  let s := s.set Reg.CLK_PLLSTAT_LOCK 0x3F
  if done then { s with clk := { s.clk with refAt := none } } else s

/-- CLOCK_MONITOR_WINDOW (R472): of XT25, or of 32 AO cycles; none ends while the IRC is stopped in DOZE (R471). -/
def execClockMonitorWindow (ao : Bool) (count : BitVec 17) (s : State) : Host.Outcome State Fault Refusal :=
  done s (if s.clk.cf2.isSome || s.bit Reg.MODE_PWRST_DOZE || !s.pwr.powered then s
    else
      let s := relocked s
      if ao then m32Window count.toNat s else xtWindow count.toNat s)

/-- XT25_DETECTOR_TRIP (R473). -/
def execXt25DetectorTrip (s : State) : Host.Outcome State Fault Refusal := done s (if s.pwr.powered then xt25Failed 1 s else s)

/-- XT32_DETECTOR_TRIP (R474). -/
def execXt32DetectorTrip (s : State) : Host.Outcome State Fault Refusal := done s (xt32Failed s)

/-- IRC_READY (R479): `us` after its start; a fallback that waits proceeds, if the deadline has not passed. -/
def execIrcReady (us : Byte) (s : State) : Host.Outcome State Fault Refusal :=
  done s (if s.clk.cf2.isSome then s
    else
      let s := match s.clk.ircFrom with | some t => s.reach (t + us.toNat * usec) | none => s
      let s := (s.raise Reg.CLK_IRCSTAT_READY).set Reg.CLK_IRCSTAT_STARTUS us.toNat
      let trip := s.clk.tripped
      let s := { s with clk := { s.clk with ircFrom := none, tripped := false } }
      if trip then startFallback 1 s else s)

/-! ### CLKFAIL2 (R479 to R481) -/

/-- The AO safety logic takes the outputs (R480); what it latches is seen after the restart. -/
def cf2Start (element : Nat) (s : State) : State :=
  let x : ClkFail2 := { element := element, wasFallback := s.bit Reg.CLK_STAT_FALLBACK, nextAt := s.now + aoRetry }
  latchSafe 5 (withAo (fun s => { s with clk := { s.clk with cf2 := some x, tripped := false, refAt := none } }) s)

/-- IRC_DEADLINE (R479, R480): 20 µs after the start of the IRC. -/
def execIrcDeadline (s : State) : Host.Outcome State Fault Refusal :=
  done s (if s.clk.tripped && s.clk.cf2.isNone then
      let t := match s.clk.ircFrom with | some t => t | none => s.now
      cf2Start 1 ((s.reach (t + 20 * usec)).set Reg.CLK_IRCSTAT_STARTUS 0xFF)
    else s)

/-- PLL_RELOCK_TIMEOUT (R480): 1 ms after a reference change. -/
def execPllRelockTimeout (s : State) : Host.Outcome State Fault Refusal :=
  done s (match s.clk.refAt with
    | some t => if s.clk.cf2.isSome then s else cf2Start 2 ((s.reach (t + msec)).set Reg.CLK_PLLSTAT_LOCK 0)
    | none => s)

/-- The fast domains restart on the IRC in fallback (R481). -/
def cf2Restart (x : ClkFail2) (s : State) : State :=
  let s := coarseRecord { s with clk := { s.clk with cf2 := none, ircFrom := none } }
  let s := (s.raise Reg.CLK_IRCSTAT_READY).set Reg.CLK_PLLSTAT_LOCK 0x3F
  let s := ((s.raise Reg.CLK_STAT_CF2).raise Reg.CLK_FAULT_CLKFAIL2).raise Reg.MODE_FAULT_CLKFAIL2
  let s := s.emit (.clockEvent true)
  let s := logEvent 0x0801 7 [x.element, x.retries, b2n x.wasFallback] s
  let s := meterRestore [] (s.set Reg.MTR_STAT_RUNNING 0)
  let s := if x.wasFallback then { s with clk := { s.clk with refAt := some s.now } } else startFallback 3 s
  setHold 1 true (coarseFollow s)

/-- CLKFAIL2_RETRY (R480): every 33 AO cycles. A start that had no clock goes on (R487). -/
def clkfail2Retry (success : Bool) (s : State) : State :=
  match s.clk.cf2 with
  | none => s
  | some x =>
    let s := s.reach x.nextAt
    if success then
      (if s.pwr.booting then { s with clk := { s.clk with cf2 := none, bootFail := some x } } else cf2Restart x s)
    else { s with clk := { s.clk with cf2 := some { x with retries := x.retries + 1, nextAt := x.nextAt + aoRetry } } }

/-- A write of `CTRL.RESTORE` 1 (R477, R478): ignored unless XTGOOD is 1. -/
def clockRestore (s : State) : State :=
  if s.bit Reg.CLK_STAT_FALLBACK && s.bit Reg.CLK_STAT_XTGOOD then clockReturn (s.set Reg.CLK_STAT_FLAP 0) else s

/-- CLOCK_RESTORE_WRITE (R477, R478). -/
def execClockRestoreWrite (s : State) : Host.Outcome State Fault Refusal := done s (clockRestore s)

/-- PLL_UNLOCK (R488): PLL-A to PLL-F lose lock with their reference good. -/
def execPllUnlock (pll : Fin 6) (s : State) : Host.Outcome State Fault Refusal :=
  done s ((s.set Reg.CLK_PLLSTAT_LOCK (maskClear (s.get Reg.CLK_PLLSTAT_LOCK) pll.val)).raise Reg.CLK_FAULT_PLLUNLOCK)

/-! ### Expansion joints (R483 to R485) -/

/-- Shows which joints are broken. -/
def showJoints (s : State) : State :=
  s.set Reg.CLK_STAT_JBROKEN (((List.range 16).filter (fun j => s.clk.broken.any (fun b => b.1 / 32 = j))).map (2 ^ ·)).sum

/-- The joints that a domain reset of page `p` breaks, with the port's channel (R483, R484). -/
def jointsOf (p : Nat) : List (Nat × Nat) :=
  if p = 0x020 then [(9, 0)]
  else if p = 0x050 then [(1, 0), (2, 0), (13, 0)]
  else if p = 0x060 then [(7, 0), (8, 0), (12, 0), (15, 0)]
  else if p = 0x180 then [(4, 0)]
  else if 0x100 ≤ p ∧ p ≤ 0x11F then [(5, p - 0x100), (6, p - 0x100), (11, p - 0x100)]
  else []

/-- A joint, or the channel of a port, breaks (R484): the words in flight are lost, a free number of them, and the updates that were
offered since an earlier break are among them (R485). -/
def breakJoint (j p : Nat) (s : State) : State :=
  let s := (s.countSat (Reg.CLK_JLOST_COUNT.ix j) (Config.freeNat s.freeCtr + (tabGet [] s.pt.offered (32 * j + p)).length)).drawn
  let s := { s with pt := { s.pt with offered := tabErase (32 * j + p) s.pt.offered } }
  showJoints ({ s with clk := { s.clk with broken := tabInsert (32 * j + p) s.now s.clk.broken } }.raise Reg.CLK_FAULT_JBROKEN)

/-- The updates that were offered to the joint while it was broken pass it (R484). -/
def jointPass (k : Nat) (s : State) : State :=
  (tabGet [] s.pt.offered k).foldl (fun s u => enqueue u s) { s with pt := { s.pt with offered := tabErase k s.pt.offered } }

/-- Both sides of a joint have armed: it opens, unless a block beside it is still in its D reset and so has not armed (R485). -/
def jointRearm (j p : Nat) (s : State) : State :=
  if [0x020, 0x050, 0x060, 0x180, 0x100 + p].any (fun q => pageBusy s q && (jointsOf q).contains (j, p)) then s
  else jointPass (32 * j + p) (showJoints { s with clk := { s.clk with broken := tabErase (32 * j + p) s.clk.broken } })

/-- JOINT_REARM (R485). -/
def execJointRearm (joint : Fin 16) (port : Fin 32) (s : State) : Host.Outcome State Fault Refusal :=
  done s (jointRearm joint.val port.val s)

/-- JOINT_STUCK (R485): 10 ms after the break. -/
def execJointStuck (joint : Fin 16) (port : Fin 32) (s : State) : Host.Outcome State Fault Refusal :=
  done s (match tabFind (32 * joint.val + port.val) s.clk.broken with
    | none => s
    | some t => (s.reach (t + 10 * msec)).raise Reg.CLK_FAULT_JSTUCK)

/-! ### CLKO (R486) -/

/-- The nominal frequency of a CLKO source in Hz; 0 for a reserved code (R469, R488). -/
def clkoHz (src : Nat) : Nat :=
  match [25000000, 32768, 64000000, 32768, 32768, 1000000000, 800000000, 600000000, 156250000, 125000000, 49152000, 200000000][src]? with
  | some f => f
  | none => 0

/-- A write of CLKOCFG by requester `r` (R486): reserved codes, more than 125 MHz, and SEC but for the service port in SERVICE
are ignored. -/
def clkoConfig (r src div : Nat) (s : State) : State :=
  if clkoHz src = 0 ∨ clkoHz src > 125000000 * (div + 1) ∨ (src = 11 ∧ !(r = 9 ∧ mode s = 5)) then s
  else (s.set Reg.CLK_CLKOCFG_SRC src).set Reg.CLK_CLKOCFG_DIV div

/-- CLKO_CONFIG_WRITE (R486). -/
def execClkoConfigWrite (requester : Fin 16) (source : BitVec 4) (div : BitVec 16) (s : State) : Host.Outcome State Fault Refusal :=
  done s (clkoConfig requester.val source.toNat div.toNat s)

end Sys2Proof.Machine
end

