-- ==== Sys2Proof/Machine/Endpoint.lean ====
section
/-! DEFINITION. Mailboxes and locks, and what a reset of one of their endpoints does (spec/13_cores_memory.md, R489, R512 to
R523). -/

namespace Sys2Proof.Machine

/-! ### Masters -/

/-- The MID of a master (R489). The firmware contexts 4 and 5 run on core 0 (DEDUCED from R492). -/
def masterMid : Master → Nat
  | .req r => if r.val ≤ 9 then 8 else if r.val ≤ 13 then r.val - 7 else 3
  | .enclave => 0
  | .controlEngine => 1
  | .pointEngine => 2
  | .dma _ => 7

/-- The requester copy of a master; 0 for the engines (R528). -/
def masterCopy : Master → Nat
  | .req r => r.val
  | _ => 0

/-- The master may reach a page that lane `l` owns: only host accesses are lane-checked (R52). -/
def reachesLane (m : Master) (l : Nat) (s : State) : Bool :=
  match m with
  | .req r => !viaBridge m || ((tabGet {} s.sessions r.val : Session).opened && (requesterLanes s r.val).getLsbD l)
  | _ => true

/-- A host access to page `p` without the page's lane is denied (R364, R366); without a session it is none. -/
def denyReach (m : Master) (p : Nat) (s : State) : State :=
  match m with
  | .req r => if (tabGet {} s.sessions r.val : Session).opened then fabricDenial r.val (pageLane s p) p s else s
  | _ => s

/-! ### Mailboxes -/

/-- The endpoint as which a master stands at a mailbox (R512): 15 is none. -/
def mailEndpoint (m : Master) (s : State) : Nat :=
  match m with
  | .req r => if r.val = 8 then 15 else if r.val ≤ 7 && !reachesLane m 0 s then 15 else masterMid m
  | .dma _ => 15
  | _ => masterMid m

/-- `MBX.STAT.HOSTRX`: a mailbox to the host is full (R519). -/
def showHostRx (s : State) : State :=
  s.setBit Reg.MBX_STAT_HOSTRX ((List.range 64).any (fun m =>
    s.bit (Reg.MBX_MST_FULL.ix m) && s.bit (Reg.MBX_MCFG_VALID.ix m) && s.get (Reg.MBX_MCFG_DST.ix m) = 8))

/-- An endpoint takes no words: its block is in reset, or its core is offline or halted (R494, R515). -/
def endpointStopped (e : Nat) (s : State) : Bool :=
  if 3 ≤ e ∧ e ≤ 6 then !s.bit (Reg.CORE_STAT_ONLINE.inst (e - 3)) || s.bit (Reg.CORE_STAT_HALTED.inst (e - 3))
  else if e = 1 then s.bit (Reg.HDR_STAT_DRBUSY.onPage 0x050)
  else if e = 0 then s.bit (Reg.HDR_STAT_DRBUSY.onPage 0x020)
  else false

/-- The master is the sender of mailbox `m` and the mailbox takes a word (R513). -/
def mailAccepts (m : Nat) (w : Master) (s : State) : Bool :=
  s.bit (Reg.MBX_MCFG_VALID.ix m) && s.get (Reg.MBX_MCFG_SRC.ix m) = mailEndpoint w s && !s.bit (Reg.MBX_MST_FULL.ix m)

/-- An accepted write of `MDATA` (R513, R515). -/
def mailPost (m : Nat) (w : Master) (v : Nat) (s : State) : State :=
  let s := ((s.set (Reg.MBX_MDATA.ix m) v).raise (Reg.MBX_MST_FULL.ix m)).set (Reg.MBX_MST_WREQ.ix m) (masterCopy w)
  let s := { s with fab := { s.fab with mailAt := tabInsert m (monoNs s) s.fab.mailAt } }
  let s := if endpointStopped (s.get (Reg.MBX_MCFG_DST.ix m)) s then
      (s.raise (Reg.MBX_MST_TIMEOUT.ix m)).raise Reg.MBX_FAULT_TIMEOUT else s
  showHostRx ((if w = .enclave || viaBridge w then wakeEvent s else s).emit (.mailEvent (s.get (Reg.MBX_MCFG_DST.ix m)) m))

/-- A refused write on the fabric (R513). -/
def mailRefuse (w : Master) (s : State) : State :=
  ((s.countSat Reg.MBX_FULLERR_COUNT 1).raise Reg.MBX_FAULT_FULLERR).emit (.busError w)

/-- A write to `MDATA` on the fabric. -/
def mailWrite (m : Nat) (w : Master) (v : Nat) (s : State) : State :=
  if mailAccepts m w s then mailPost m w v s else mailRefuse w s

/-- A read of `MDATA` (R514): what it returns and leaves. -/
def mailRead (m : Nat) (r : Master) (s : State) : Nat × State :=
  if s.bit (Reg.MBX_MCFG_VALID.ix m) && s.get (Reg.MBX_MCFG_DST.ix m) = mailEndpoint r s then
    if s.bit (Reg.MBX_MST_FULL.ix m) then
      (s.get (Reg.MBX_MDATA.ix m), showHostRx ((s.set (Reg.MBX_MST_FULL.ix m) 0).set (Reg.MBX_MST_TIMEOUT.ix m) 0))
    else (0, s.countSat Reg.MBX_EMPTYRD_COUNT 1)
  else (s.get (Reg.MBX_MDATA.ix m), s)

/-- The timeout of a mailbox passes (R515). -/
def mailTimeout (m : Nat) (s : State) : State :=
  let tmo := s.get (Reg.MBX_MCFG_TMO.ix m)
  if !s.bit (Reg.MBX_MST_FULL.ix m) || tmo = 0 || s.bit (Reg.MBX_MST_TIMEOUT.ix m) then s
  else
    let due := tabGet 0 s.fab.mailAt m + tmo * msec
    let s := s.reach (s.now + (due - monoNs s))
    (s.raise (Reg.MBX_MST_TIMEOUT.ix m)).raise Reg.MBX_FAULT_TIMEOUT

/-- MAILBOX_WRITE (R513). A host write that the mailbox does not take is READ_ONLY under PAP and changes nothing; DMA does not reach the
register window (R491). -/
def execMailboxWrite (master : Master) (mailbox : Fin 64) (value : Word) (s : State) : Host.Outcome State Fault Refusal :=
  done s (if masterMid master = 7 then s.emit (.busError master)
    else if viaBridge master && !reachesLane master (pageLane s 0x008) s then denyReach master 0x008 s
    else if viaBridge master && !mailAccepts mailbox.val master s then s else mailWrite mailbox.val master value.toNat s)

/-- MAILBOX_READ (R514). -/
def execMailboxRead (master : Master) (mailbox : Fin 64) (s : State) : Host.Outcome State Fault Refusal :=
  done s (if masterMid master = 7 then s.emit (.busError master)
    else if reachesLane master (pageLane s 0x008) s then
    let x := mailRead mailbox.val master s
    x.2.emit (.readData master x.1)
  else denyReach master 0x008 s)

/-- MAILBOX_TIMEOUT (R515). -/
def execMailboxTimeout (mailbox : Fin 64) (s : State) : Host.Outcome State Fault Refusal := done s (mailTimeout mailbox.val s)

/-! ### Locks -/

/-- What a read of lock `n` returns: 0 from a free lock, else the owner's MID plus 1 (R520). -/
def lockValue (n : Nat) (s : State) : Nat :=
  if s.bit (Reg.LOCK_LOWN_HELD.ix n) then s.get (Reg.LOCK_LOWN_MID.ix n) + 1 else 0

/-- A read of a lock acquires it if it is free (R520). -/
def lockAcquire (n : Nat) (m : Master) (s : State) : State :=
  if s.bit (Reg.LOCK_LOWN_HELD.ix n) then s
  else ((s.raise (Reg.LOCK_LOWN_HELD.ix n)).set (Reg.LOCK_LOWN_MID.ix n) (masterMid m)).set (Reg.LOCK_LOWN_REQ.ix n) (masterCopy m)

/-- The master owns lock `n`. -/
def lockOwner (n : Nat) (m : Master) (s : State) : Bool :=
  s.bit (Reg.LOCK_LOWN_HELD.ix n) && s.get (Reg.LOCK_LOWN_MID.ix n) = masterMid m && s.get (Reg.LOCK_LOWN_REQ.ix n) = masterCopy m

/-- The owner's write releases the lock; `STALE` clears (R520, R522). -/
def lockRelease (n : Nat) (s : State) : State :=
  (s.set (Reg.LOCK_LOWN_HELD.ix n) 0).set (Reg.LOCK_LOWN_STALE.ix n) 0

/-- The locks of an owner that is reset or whose session closes are released as STALE (R522). -/
def breakLocks (owned : Nat → Nat → Bool) (s : State) : State :=
  (List.range 128).foldl (fun s n =>
    if s.bit (Reg.LOCK_LOWN_HELD.ix n) && owned (s.get (Reg.LOCK_LOWN_MID.ix n)) (s.get (Reg.LOCK_LOWN_REQ.ix n)) then
      ((s.set (Reg.LOCK_LOWN_HELD.ix n) 0).raise (Reg.LOCK_LOWN_STALE.ix n)).countSat Reg.LOCK_BROKEN_COUNT 1
    else s) s

/-- LOCK_ACQUIRE (R520, R523). -/
def execLockAcquire (master : Master) (lock : Fin 128) (s : State) : Host.Outcome State Fault Refusal :=
  done s (if masterMid master = 7 then s.emit (.busError master)
    else if reachesLane master (pageLane s 0x009) s then (lockAcquire lock.val master s).emit (.readData master (lockValue lock.val s))
    else denyReach master 0x009 s)

/-- LOCK_RELEASE (R520, R523). A host write by another than the owner is READ_ONLY under PAP and changes nothing. -/
def execLockRelease (master : Master) (lock : Fin 128) (s : State) : Host.Outcome State Fault Refusal :=
  done s (if lockOwner lock.val master s then lockRelease lock.val s
    else if viaBridge master then (if reachesLane master (pageLane s 0x009) s then s else denyReach master 0x009 s)
    else s.emit (.busError master))

/-! ### Reset of an endpoint (R516 to R518, R522) -/

/-- A reset of endpoint `e`: words to it are lost, `SEPOCH` of what it sends toggles, and its locks are released. -/
def endpointReset (e : Nat) (s : State) : State :=
  let s := (List.range 64).foldl (fun s m =>
    if !s.bit (Reg.MBX_MCFG_VALID.ix m) then s
    else
      let s := if s.get (Reg.MBX_MCFG_DST.ix m) = e ∧ s.get (Reg.MBX_MST_FULL.ix m) = 1 then
          ((((s.set (Reg.MBX_MST_FULL.ix m) 0).raise (Reg.MBX_MST_LOST.ix m)).countSat Reg.MBX_LOSTCNT_COUNT 1).raise
            Reg.MBX_FAULT_LOST) else s
      if s.get (Reg.MBX_MCFG_SRC.ix m) = e then s.countWrap (Reg.MBX_MST_SEPOCH.ix m) 1 else s) s
  breakLocks (fun mid _ => mid = e) s

end Sys2Proof.Machine
end

