-- ==== Sys2Proof/Machine/Pair.lean ====
section
/-! DEFINITION. Redundant pairs (spec/10_viaduct.md, R409 to R420): leases, the abutment's grants and checkpoints. -/

namespace Sys2Proof.Machine

/-- Records a lease end in MONO ns and shows it in TAI (R381, R412). -/
def setLeaseEnd (m : Nat) (s : State) : State :=
  let s := { s with pair := { s.pair with leaseEnd := m } }
  set64 Reg.PRPT_LEASEENDLO_US Reg.PRPT_LEASEENDHI_US (((taiNs s : Int) + (m : Int) - (monoNs s : Int)).toNat / 1000) s

/-! ### The member (R411 to R416, R419) -/

/-- The member that is not granted is the standby (R413); it is eligible if its last checkpoint is of this epoch (R419). -/
def becomeStandby (s : State) : State :=
  let s := { s.set Reg.PAIR_STAT_ROLE 2 with pair := { s.pair with heardAt := monoNs s, granting := true, leaseEnd := 0 } }
  keystoneFollow (s.setBit Reg.PAIR_STAT_ELIG (s.pair.ckEpoch = some (pairEpoch s) && !s.pair.progress && !s.bit Reg.PAIR_STAT_RESYNC))

/-- Every record with PUB 1 is published once (R420), which is an event of the tasks bound to it (R290). -/
def publishAll (s : State) : State :=
  let is := (s.pt.recs.filter (fun (e : Nat × PointRec) => e.2.pub && !e.2.mirror)).map (fun e => e.1)
  is.foldl (fun s i => pointEvent i s) (publishOut is (is.foldl (fun s i => publishPoint i (taiMs s) s) s))

/-- The actions of a takeover that do not wait for a mode (R420): loops initialise, tasks start from the checkpointed retained
values, records are published; LASTTKO counts from the last renewal of the old active. -/
def takeover (s : State) : State :=
  let from' := s.now - (monoNs s - s.pair.heardAt)
  let s := (s.countSat Reg.PAIR_TAKEOVERS_COUNT 1).raise Reg.PAIR_FAULT_TAKEOVER
  let s := publishAll (cteReload [] (initLoops s))
  { s with pair := { s.pair with takeoverFrom := some from' } }

/-- Drive permission is taken (R412): the member is active, renews at once, and outputs and ports follow where the mode
drives. -/
def takePermission (s : State) : State :=
  let s := (setPermission true s).set Reg.PAIR_STAT_ROLE 1
  let s := (s.set Reg.PAIR_STAT_ELIG 0).set Reg.PAIR_STAT_RESYNC 0
  let s := { s with pair := { s.pair with renewAt := s.now, base := none, sentCk := none, capturedAt := s.now } }
  let s := sendLreq 0 0 (abutKeys s ++ [partnerKey s]) s
  keystoneFollow (portsFollow false false (routeReleases (parapetFollow 3 s)))

/-- A member may ask for a lease in ACTIVE and DEGRADED, and in STANDBY if only the lease is wanting for its start: it leaves STANDBY
at the grant (R28, R424, R430, R434). -/
def mayAsk (s : State) : Bool := mode s = 3 || mode s = 4 || (mode s = 2 && startReady s && !frozen s)

/-- A grant to request `r` (R412); in a mode in which the module holds no lease it gives none (R28). -/
def granted (r : LeaseReq) (epoch : Nat) (s : State) : State :=
  if !mayAsk s then s else
  let s := s.countWrap Reg.PAIR_RENEWS_COUNT 1
  let s := if pairEpoch s < epoch then s.set Reg.PAIR_PEPOCH_EPOCH epoch else s
  let e := r.sent + 400 * msec
  let s := if s.pair.leaseEnd < e then setLeaseEnd e s else s
  if s.prpt.permission then s
  else if e ≤ monoNs s + 50 * msec then s
  else
    let wasStandby := decide (pairRole s = 2)
    let s := startFollow (takePermission s)
    if wasStandby && r.kind = 1 then takeover s else s

/-- A denial of request `r` (R411, R413, R414): RESULT 1 to KIND 3 makes the member a standby; to KIND 1, with the active heard
again, it makes the standby grant again. -/
def denied (r : LeaseReq) (result epoch : Nat) (s : State) : State :=
  let s := s.raise Reg.PAIR_FAULT_DENIED
  let s := higherEpoch epoch s
  if result = 1 ∧ pairRole s = 3 then becomeStandby s
  else if result = 1 ∧ r.kind = 1 ∧ monoNs s < s.pair.heardAt + 200 * msec then
    { s with pair := { s.pair with granting := true } }
  else s

/-- An LGRANT from abutment or partner (R411, R412). -/
def lgrant (k seq result epoch : Nat) (s : State) : State :=
  if !paired s then s
  else
    let s := if (abutKeys s).contains k then showPair { s with pair := { s.pair with abutAt := monoNs s } } else s
    match s.pair.reqs.find? (fun r => r.seq = seq) with
    | none => higherEpoch epoch s
    | some r =>
      if result = 0 then (if r.kind = 0 ∧ pairEpoch s < epoch then higherEpoch epoch s else granted r epoch s)
      else if result ≤ 3 then denied r result epoch s
      else badMsg 1 s

/-- LGRANT_RECEIVE (R412). -/
def execLgrantReceive (header : ViaHeader) (reqseq : Word) (result : Byte) (pepoch : Word) (s : State) :
    Host.Outcome State Fault Refusal :=
  done s (viaTake 10 9 header (fun k s => lgrant (if header.src.toNat = 0xFE then 508 else k) reqseq.toNat result.toNat
    pepoch.toNat s) s)

/-- LEASE_RENEWAL_SEND (R412): every 100 ms the active renews with abutment and standby. -/
def leaseRenewal (s : State) : State :=
  if pairRole s = 1 && s.prpt.permission && mayAsk s then
    let s := s.reach (s.pair.renewAt + 100 * msec)
    sendLreq 0 0 (abutKeys s ++ [partnerKey s]) { s with pair := { s.pair with renewAt := s.now } }
  else s

/-- LEASE_RENEWAL_SEND (R412). -/
def execLeaseRenewalSend (s : State) : Host.Outcome State Fault Refusal := done s (leaseRenewal s)

/-- LEASE_WITHDRAWAL (R381, R383): 50 ms before the lease end, which no grant has extended. -/
def leaseWithdrawal (s : State) : State :=
  if s.prpt.permission && paired s then
    let s := s.reach (instantOfMono s (s.pair.leaseEnd - 50 * msec))
    withdraw 3 ((showPair s).raise Reg.PAIR_FAULT_LEASELOST)
  else s

/-- LEASE_WITHDRAWAL (R383). -/
def execLeaseWithdrawal (s : State) : Host.Outcome State Fault Refusal := done s (leaseWithdrawal s)

/-- The time left on the standby's last grant to the active, in ms, rounded up (R414). -/
def stbLeft (s : State) : Nat := (s.pair.grantEnd - monoNs s + msec - 1) / msec

/-- The standby stops granting and asks for the takeover (R414). -/
def askTakeover (s : State) : State :=
  let s := { s with pair := { s.pair with granting := false, askedAt := s.now } }
  if mayAsk s then sendLreq 1 (stbLeft s) (abutKeys s) s else s

/-- STANDBY_RENEWAL_TIMEOUT (R414): 200 ms after the last renewal. -/
def standbyTimeout (s : State) : State :=
  if pairRole s = 2 && s.pair.granting then askTakeover (s.reach (instantOfMono s (s.pair.heardAt + 200 * msec))) else s

/-- STANDBY_RENEWAL_TIMEOUT (R414). -/
def execStandbyRenewalTimeout (s : State) : Host.Outcome State Fault Refusal := done s (standbyTimeout s)

/-- LREQ_RETRY (R413, R414, R416): every 100 ms a member without its lease asks again. -/
def lreqRetry (s : State) : State :=
  let due := showPair (s.reach (s.pair.askedAt + 100 * msec))
  let s' := { due with pair := { due.pair with askedAt := due.now } }
  if !mayAsk s then (if pairRole s = 2 ∧ !s.pair.granting then s' else s)
  else if pairRole s = 3 then sendLreq 3 0 (abutKeys s') s'
  else if pairRole s = 2 ∧ !s.pair.granting then sendLreq 1 (stbLeft s') (abutKeys s') s'
  else if pairRole s = 1 ∧ !s.prpt.permission then sendLreq 0 0 (abutKeys s' ++ [partnerKey s']) s'
  else s

/-- LREQ_RETRY (R414). -/
def execLreqRetry (s : State) : Host.Outcome State Fault Refusal := done s (lreqRetry s)

/-- PAIR_RELEASE (R415, R426): `PAIR.CTRL.RELEASE`. -/
def execPairRelease (s : State) : Host.Outcome State Fault Refusal := done s (pairRelease 3 s)

/-! ### The grantors (R411 to R415) -/

/-- An LGRANT. -/
def sendGrant (k seq result epoch : Nat) (s : State) : State := viaSend k 10 (leBytes 4 seq ++ [result] ++ leBytes 4 epoch) s

/-- The standby answers the active (R412, R414, R415). -/
def partnerRequest (k epoch seq kind : Nat) (s : State) : State :=
  if epoch < pairEpoch s then sendGrant k seq 3 (pairEpoch s) s
  else
    let s := higherEpoch epoch s
    if pairRole s ≠ 2 then (if kind = 0 then sendGrant k seq 1 (pairEpoch s) s else s)
    else if kind = 0 then
      let s := { s with pair := { s.pair with heardAt := monoNs s } }
      if s.pair.granting then
        sendGrant k seq 0 (pairEpoch s) { s with pair := { s.pair with grantEnd := monoNs s + 400 * msec } }
      else sendGrant k seq 1 (pairEpoch s) s
    else if kind = 2 then askTakeover s
    else s

/-- A pair of another slot that this module serves. -/
def State.pairOf (s : State) (slot : Nat) : AbutPair := tabGet {} s.abut slot

/-- Stores a pair of another slot. -/
def State.setPairOf (s : State) (slot : Nat) (x : AbutPair) : State := { s with abut := tabInsert slot x s.abut }

/-- The abutment grants a member: the lease ends 400 ms after receipt of the request (R412). -/
def abutGrant (k seq received epoch : Nat) (s : State) : State :=
  let x := s.pairOf (k / 2)
  let x' : AbutPair := { epoch := epoch, holder := some (k % 2), grantEnd := max x.grantEnd (received + 400 * msec) }
  sendGrant k seq 0 epoch (s.setPairOf (k / 2) { x' with grantEnd := if x.holder = some (k % 2) then x'.grantEnd else received + 400 * msec })

/-- The takeover requests that wait are denied because the active renewed (R414). -/
def denyTakeover (slot : Nat) (s : State) : State :=
  let x := s.pairOf slot
  if x.waits = [] then s
  else x.waits.foldl (fun s t => sendGrant (peerKey slot t.member) t.seq 1 x.epoch s) (s.setPairOf slot { x with waits := [] })

/-- A renewal at the abutment (R412): from the holder it is granted; an abutment without a record takes the renewing member
as holder, and so it takes the other member with a higher PEPOCH, but not before the holder's recorded lease end plus 50 ms. -/
def abutRenew (k epoch seq : Nat) (s : State) : State :=
  let x := s.pairOf (k / 2)
  if epoch < x.epoch then sendGrant k seq 3 x.epoch s
  else if x.holder = some (k % 2) ∨ x.holder = none ∨ (x.epoch < epoch ∧ x.grantEnd + 50 * msec ≤ monoNs s) then
    let s := denyTakeover (k / 2) s
    abutGrant k seq (monoNs s) epoch s
  else sendGrant k seq 1 x.epoch s

/-- A takeover request at the abutment (R414): its receipt sets the instant from which it is granted; the same request seen again
stands for that instant. -/
def abutTakeover (k epoch seq stbleft : Nat) (eligible : Bool) (s : State) : State :=
  let x := s.pairOf (k / 2)
  let m := k % 2
  if epoch < x.epoch then sendGrant k seq 3 x.epoch s
  else if !eligible then sendGrant k seq 2 x.epoch s
  else
    match x.waits.find? (fun t => decide (t.member = m ∧ t.seq = seq)) with
    | some t => abutGrant k seq t.received (max epoch x.epoch + 1) (s.reach (instantOfMono s t.due))
    | none =>
      let due := max (x.grantEnd + 50 * msec) (monoNs s + (stbleft + 50) * msec)
      if x.released then abutGrant k seq (monoNs s) (max epoch x.epoch + 1) s
      else s.setPairOf (k / 2) { x with waits := x.waits ++ [{ member := m, seq := seq, received := monoNs s, due := due }] }

/-- A release at the abutment (R415): a takeover request that waits is granted without waiting for expiry. -/
def abutRelease (k : Nat) (s : State) : State :=
  let x := s.pairOf (k / 2)
  if x.holder ≠ some (k % 2) then s
  else
    match x.waits with
    | t :: _ => abutGrant (peerKey (k / 2) t.member) t.seq t.received (x.epoch + 1) s
    | [] => s.setPairOf (k / 2) { x with released := true, grantEnd := monoNs s }

/-- An initial request at the abutment (R413, R415): granted at once to the holder, denied to the other member, and otherwise
noted for the decision 2 s after the first. -/
def abutInitial (k epoch seq : Nat) (s : State) : State :=
  let x := s.pairOf (k / 2)
  match x.holder with
  | some h =>
    if h = k % 2 then abutGrant k seq (monoNs s) (max epoch x.epoch) s
    else sendGrant k seq 1 x.epoch s
  | none =>
    let first := match x.firstAsk with | some t => some t | none => some (monoNs s)
    s.setPairOf (k / 2) { x with firstAsk := first, epoch := max epoch x.epoch, asked := tabInsert (k % 2) (seq, monoNs s) x.asked }

/-- An LREQ (R411): from the partner, or from a member of a pair that this module serves as abutment. -/
def lreq (k epoch seq kind stbleft : Nat) (eligible : Bool) (s : State) : State :=
  if paired s && k = partnerKey s then partnerRequest k epoch seq kind s
  else if !(s.peer k).enrolled || (tabFind (k / 2) (sheet s).via.abutments).isNone then s
  else if kind = 0 then abutRenew k epoch seq s
  else if kind = 1 then abutTakeover k epoch seq stbleft eligible s
  else if kind = 2 then abutRelease k s
  else if kind = 3 then abutInitial k epoch seq s
  else badMsg 1 s

/-- LREQ_RECEIVE (R414); `eligible` is whether the asking standby is eligible (R419), which no field of the message carries. -/
def execLreqReceive (header : ViaHeader) (pepoch reqseq : Word) (kind : Byte) (stbleft : BitVec 16) (eligible : Bool) (s : State) :
    Host.Outcome State Fault Refusal :=
  done s (viaTake 9 11 header (fun k s => lreq k pepoch.toNat reqseq.toNat kind.toNat stbleft.toNat eligible s) s)

/-- ABUTMENT_INITIAL_GRANT (R413): 2 s after the first request, the preferred member if it has asked, and the pair epoch
increments; the other member that asked is denied. -/
def initialGrant (slot : Nat) (s : State) : State :=
  let x := s.pairOf slot
  match x.firstAsk, tabFind slot (sheet s).via.abutments with
  | some t, some pref =>
    let s := s.reach (instantOfMono s (t + 2 * second))
    let m := if (tabFind pref x.asked).isSome then pref else 1 - pref
    match tabFind m x.asked with
    | none => s
    | some (seq, received) =>
      let s := abutGrant (peerKey slot m) seq received (x.epoch + 1) s
      match tabFind (1 - m) x.asked with
      | some (seq', _) => sendGrant (peerKey slot (1 - m)) seq' 1 (x.epoch + 1) s
      | none => s
  | _, _ => s

/-- ABUTMENT_INITIAL_GRANT (R413). -/
def execAbutmentInitialGrant (slot : Fin 64) (s : State) : Host.Outcome State Fault Refusal := done s (initialGrant slot.val s)

/-! ### Checkpoints (R417, R418) -/

/-- What a checkpoint carries of the state now (R417). -/
def ckImage (s : State) : CkImage :=
  { recs := (s.pt.recs.filter (fun (e : Nat × PointRec) => !e.2.mirror && (e.2.persist || e.2.cmd))).map (fun e =>
      (e.1, { pv := e.2.pv, sv := e.2.sv, ts := e.2.ts, pamask := e.2.pamask })),
    arrays := s.pt.arrays, forces := s.pt.forces, oos := s.pt.oosMap,
    retained := (taskSlots s).map (fun t => (t, (s.task t).saved)) }

/-- The keys whose values differ between two tables. -/
def changedKeys {α : Type} [DecidableEq α] (old new : Table α) : List Nat :=
  distinct (((old ++ new).map (fun e => e.1)).filter (fun k => decide (tabFind k old ≠ tabFind k new)))

/-- The entries that take a standby from `old` to `new`. -/
def ckEntries (old new : CkImage) : List CkEntry :=
  (changedKeys old.recs new.recs).map (fun i =>
      let m := tabGet {} new.recs i
      CkEntry.record i m.pv m.sv m.ts m.pamask) ++
    (distinct ((changedKeys old.arrays new.arrays).map (fun k => k / 8))).map (fun h =>
      CkEntry.array h ((List.range 8).map (fun j => tabGet 0 new.arrays (h * 8 + j)))) ++
    (changedKeys old.forces new.forces).map (fun i =>
      CkEntry.force i ((tabFind i new.forces).map (fun f => (f.value, f.src, f.orphan)))) ++
    (changedKeys old.oos new.oos).map (fun i => CkEntry.oos i (decide (tabGet 0 new.oos i = 1))) ++
    (changedKeys old.retained new.retained).flatMap (fun t =>
      let vs := tabGet [] new.retained t
      (List.range (vs.length / 64 + 1)).map (fun n => CkEntry.retained t (64 * n) ((vs.drop (64 * n)).take 64)))

/-- The size of an entry: a 4-byte header, and 64 bytes of a unit (R127), 16 of a force, 1 of an OOS flag, 8 a retained value. -/
def ckSize : CkEntry → Nat
  | .record _ _ _ _ _ => 68
  | .array _ _ => 68
  | .force _ _ => 20
  | .oos _ _ => 5
  | .retained _ _ vs => 4 + 8 * vs.length

/-- The size of entries together. -/
def ckSizes (es : List CkEntry) : Nat := (es.map ckSize).sum

/-- The body length of a CHECKPOINT message: 20 bytes before its entries (R417). -/
def ckLen (es : List CkEntry) : Nat := 20 + ckSizes es

/-- The entries in parts that fit the MTU (R390). -/
def packParts : List CkEntry → List (List CkEntry)
  | [] => []
  | e :: es =>
    match packParts es with
    | [] => [[e]]
    | p :: ps => if fitsMtu (ckLen (e :: p)) then (e :: p) :: ps else [e] :: p :: ps

/-- Sends the parts of a checkpoint. -/
def sendParts (seq tick : Nat) (full : Bool) (es : List CkEntry) (s : State) : State :=
  let parts := match packParts es with | [] => [[]] | ps => ps
  let k := partnerKey s
  parts.zipIdx.foldl (fun s (p : List CkEntry × Nat) =>
    viaCount k (s.emit (.checkpoint (portTo s k) (s.get (Reg.UPL_PCFG_VID.ix (portTo s k))) k (viaHeader s 7 (ckLen p.1))
      (pairEpoch s) seq tick p.2 parts.length full p.1))) s

/-- CHECKPOINT_CAPTURE (R417): a capture that falls due while the previous one is unacknowledged is merged into the next. -/
def checkpointCapture (s : State) : State :=
  if pairRole s ≠ 1 || !s.prpt.permission then s
  else
    let s := s.reach (s.pair.capturedAt + s.get Reg.PAIR_CFG_CKINT * msec)
    let s := { s with pair := { s.pair with capturedAt := s.now } }
    if s.pair.sentCk.isSome || !canSend s (partnerKey s) 7 then s
    else
      let new := ckImage s
      let base : CkImage := match s.pair.base with | some b => b | none => {}
      let es := ckEntries base new
      let big := decide ((es.map ckSize).sum > 32 * 2 ^ 20)
      let full := s.pair.base.isNone || big
      let es := if big then ckEntries {} new else es
      let seq := (s.get Reg.PAIR_CKSEQ_SEQ + 1) % 2 ^ 32
      let s := ((s.set Reg.PAIR_CKSEQ_SEQ seq).set Reg.PAIR_CKTICK_TICK s.pt.lastTick).set Reg.PAIR_CKBYTES_COUNT ((es.map ckSize).sum)
      sendParts seq s.pt.lastTick full es { s with pair := { s.pair with sentCk := some (seq, new) } }

/-- CHECKPOINT_CAPTURE (R417). -/
def execCheckpointCapture (s : State) : Host.Outcome State Fault Refusal := done s (checkpointCapture s)

/-- CKACK_RECEIVE (R417): later captures count from the acknowledged one; any result but 0 asks for a full checkpoint. -/
def ckack (k seq result : Nat) (s : State) : State :=
  match s.pair.sentCk with
  | none => s
  | some (n, img) =>
    if k ≠ partnerKey s ∨ n ≠ seq then s
    else { s with pair := { s.pair with sentCk := none, base := if result = 0 then some img else none } }

/-- CKACK_RECEIVE (R417). -/
def execCkackReceive (header : ViaHeader) (ckseq : Word) (result : Byte) (s : State) : Host.Outcome State Fault Refusal :=
  done s (viaTake 8 5 header (fun k s => ckack k ckseq.toNat result.toNat s) s)

/-- Applies one unit of a checkpoint to the store (R417). -/
def applyEntry (e : CkEntry) (s : State) : State :=
  match e with
  | .record i pv sv ts pamask =>
    let r := s.point i
    if r.typ = 0 || r.mirror then s
    else
      let r := if r.cmd then { r with sv := sv, pamask := pamask } else r
      s.setPoint i (if r.persist then { r with pv := pv, sv := sv, ts := ts, qual := if r.cmd then r.qual else 2 } else r)
  | .array h vs =>
    { s with pt := { s.pt with arrays := vs.zipIdx.foldl (fun t (v : Nat × Nat) => tabPut 0 (h * 8 + v.2) v.1 t) s.pt.arrays } }
  | .force i none => dropForce i s
  | .force i (some (v, src, o)) => putForce i { value := v, src := src, orphan := o } s
  | .oos i v =>
    let x := setOos i v (s.point i) s
    x.1.setPoint i x.2
  | .retained t n vs => s.setTask t { s.task t with saved := (s.task t).saved.take n ++ vs }

/-- What a full checkpoint does not carry is not there: forces, OOS bits, levels and retained values that it does not name (R417). -/
def clearForFull (s : State) : State :=
  let s := (s.pt.forces.map (fun e => e.1)).foldl (fun s i => dropForce i s) s
  let s := (s.pt.oosMap.map (fun e => e.1)).foldl (fun s i => applyEntry (.oos i false) s) s
  let s := { s with pt := { s.pt with arrays := [] } }
  (taskSlots s).foldl (fun s t => s.setTask t { s.task t with saved := [] }) s

/-- Applies a whole checkpoint at one instant, and recomputes every record (R109, R417). -/
def applyCheckpoint (full : Bool) (es : List CkEntry) (s : State) : State :=
  let s := es.foldl (fun s e => applyEntry e s) (if full then clearForFull s else s)
  { s with pt := { s.pt with recs := s.pt.recs.map (fun (e : Nat × PointRec) =>
    (e.1, if e.2.mirror then e.2 else recompute s e.1 e.2)) } }

/-- The entries of a staged checkpoint in the order of its parts. -/
def stagedEntries (g : CkStage) : List CkEntry := g.parts.flatMap (fun p => p.2)

/-- The last part has come: the standby holds the checkpoint (R417 to R419). A small one is eligible once it is applied, since its
journal is sealed before the home writes; a full or large one only after them. One that is not full does not end RESYNC. -/
def checkpointWhole (g : CkStage) (s : State) : State :=
  let es := stagedEntries g
  let bytes := (es.map ckSize).sum
  let large := g.full || decide (bytes > 2 * 2 ^ 20)
  if s.bit Reg.PAIR_STAT_RESYNC && !g.full then
    ({ s with pair := { s.pair with stage := none } }).raise Reg.PAIR_FAULT_CKFAIL
  else
    let s := applyCheckpoint g.full es s
    let s := ((s.set Reg.PAIR_CKSEQ_SEQ g.seq).set Reg.PAIR_CKTICK_TICK g.tick).set Reg.PAIR_CKBYTES_COUNT bytes
    let s := { s with pair := { s.pair with stage := some g, home := some (g.seq, large), progress := large } }
    if large then s.set Reg.PAIR_STAT_ELIG 0
    else ({ s with pair := { s.pair with ckEpoch := some (pairEpoch s) } }).raise Reg.PAIR_STAT_ELIG

/-- A part of a checkpoint (R417): an incomplete one that another replaces is discarded. -/
def checkpointPart (k epoch seq tick part nparts : Nat) (full : Bool) (es : List CkEntry) (s : State) : State :=
  if !paired s || k ≠ partnerKey s || !(s.peer k).enrolled || pairRole s ≠ 2 then s
  else if epoch ≠ pairEpoch s || nparts ≤ part then
    higherEpoch epoch (s.raise Reg.PAIR_FAULT_CKFAIL)
  else if s.pair.home.isSome then s
  else
    let fresh : CkStage := { seq := seq, tick := tick, nparts := nparts, full := full }
    let g := match s.pair.stage with | some g => if g.seq = seq then g else fresh | none => fresh
    let s := if s.pair.stage.isSome && decide (g.parts = []) then s.raise Reg.PAIR_FAULT_CKFAIL else s
    let g := { g with parts := tabInsert part es g.parts }
    if g.parts.length = g.nparts then checkpointWhole g s else { s with pair := { s.pair with stage := some g } }

/-- CHECKPOINT_RECEIVE (R417): the entries stand for the data of the part, whose layout within the message is open; its length is that
of what they hold. -/
def execCheckpointReceive (header : ViaHeader) (pepoch ckseq : Word) (tick : BitVec 64) (part nparts : BitVec 16) (full : Bool)
    (entries : List CkEntry) (s : State) : Host.Outcome State Fault Refusal :=
  done s (viaTake 7 (ckLen entries) header (fun k s =>
    checkpointPart k pepoch.toNat ckseq.toNat tick.toNat part.toNat nparts.toNat full entries (wakeEvent s)) s)

/-- The home writes of a unit. -/
def writeHome (e : CkEntry) (s : State) : State :=
  match e with
  | .record i _ _ _ _ => writeUnit i s
  | .array h _ => writeUnit (2 ^ 20 + h) s
  | _ => s

/-- CHECKPOINT_HOME_WRITE_COMPLETE (R418): the progress record is complete, the member eligible, and CKACK leaves. -/
def homeWritten (s : State) : State :=
  match s.pair.home, s.pair.stage with
  | some (seq, large), some g =>
    let s := (stagedEntries g).foldl (fun s e => writeHome e s) s
    let s := { s with pair := { s.pair with home := none, stage := none, progress := false, ckEpoch := some (pairEpoch s) } }
    let s := if large then (if g.full then s.set Reg.PAIR_STAT_RESYNC 0 else s) else s
    let s := s.setBit Reg.PAIR_STAT_ELIG (pairRole s = 2 && !s.bit Reg.PAIR_STAT_RESYNC)
    viaSend (partnerKey s) 8 (leBytes 4 seq ++ [0]) s
  | _, _ => s

/-- CHECKPOINT_HOME_WRITE_COMPLETE (R418). -/
def execCheckpointHomeWriteComplete (s : State) : Host.Outcome State Fault Refusal := done s (homeWritten s)

end Sys2Proof.Machine
end

