-- ==== Sys2Proof/Machine/Enclave.lean ====
section
/-! DEFINITION. The security enclave: key slots, operations and attestation (spec/14_security.md, R529 to R552). -/

namespace Sys2Proof.Machine

/-! ### Slots -/

/-- The lane of a key slot (R358, R542). -/
def slotLane (s : State) (n : Nat) : Nat := tabGet 0 (charter s).keyLanes n

/-- A general slot that is not EMPTY. -/
def keySlot (s : State) (n : Nat) : Option KeySlot := tabFind n s.enc.slots

/-- Fills a slot. -/
def setSlot (n : Nat) (k : KeySlot) (s : State) : State := { s with enc := { s.enc with slots := tabInsert n k s.enc.slots } }

/-- Empties a slot. -/
def emptySlot (n : Nat) (s : State) : State := { s with enc := { s.enc with slots := tabErase n s.enc.slots } }

/-- The key of a slot: general, or reserved and derived from the root. -/
def slotKey (s : State) (n : Nat) : Nat :=
  if n < 8 then match s.enc.root with | some r => Config.reservedKey r n | none => 0
  else match keySlot s n with | some k => k.key | none => 0

/-- The type of a slot: 4 and 5 for the identity keys, 2 for the storage key. -/
def slotType (s : State) (n : Nat) : Nat :=
  if n = 0 then 4 else if n = 1 then 5 else if n = 2 then 2 else if n < 8 then Config.reservedInfo n 0 % 16
  else match keySlot s n with | some k => k.typ | none => 0

/-- A use of a slot is counted; at a nonzero limit the slot is EXHAUSTED (R542). -/
def useSlot (n : Nat) (s : State) : State :=
  match keySlot s n with
  | none => s
  | some k =>
    let k := { k with uses := min (k.uses + 1) (2 ^ 32 - 1) }
    if k.limit ≠ 0 ∧ k.uses ≥ k.limit ∧ !k.exhausted then
      (setSlot n { k with exhausted := true } s).raise Reg.ENC_FAULT_EXHAUST
    else setSlot n k s

/-- `SLINFO` to `SLOWN` of a slot as four words (R557). -/
def slotWords (s : State) (n : Nat) : List Nat :=
  let lane := slotLane s n * 2 ^ 16
  if n < 8 then
    if s.enc.root.isNone then [lane, 0, 0, 0]
    else
      let i := Config.reservedInfo n
      [2 ^ 30 + slotType s n * 2 ^ 24 + lane + i 1 % 256 * 2 ^ 8 + i 2 % 2 * 2 ^ 7 + i 3 % 64, i 4 % 2 ^ 32, 0, 0]
  else match keySlot s n with
    | none => [lane, 0, 0, 0]
    | some k =>
      [(if k.exhausted then 2 else 1) * 2 ^ 30 + k.typ * 2 ^ 24 + lane + k.measpol * 2 ^ 8 + b2n k.gen * 2 ^ 7 + k.usage,
       k.uses, k.limit, k.owner]

/-! ### Key derivation (R540) -/

/-- The salt: SHA-512 over the selected measurement registers in index order; 64 zero bytes for an empty mask. -/
def deriveSalt (s : State) (mask : Nat) : Nat :=
  if mask % 256 = 0 then 0
  else Config.sha512 (((List.range 8).filter (fun r => mask.testBit r)).flatMap (fun r => bytesOfWords (measWords s r)))

/-- The length of the keying material of a type. -/
def okmLength (typ : Nat) : Nat :=
  match typ with
  | 1 => 16 | 2 => 32 | 3 => 64 | 4 => 82 | 5 => 32 | 6 => 64 | _ => 32

/-- The info string: "NZW4800", LABEL, LANE, TYPE and G. -/
def deriveInfo (label : List Nat) (lane typ : Nat) (g : List Nat) : List Nat :=
  [0x4E, 0x5A, 0x57, 0x34, 0x38, 0x30, 0x30] ++ label ++ [lane, typ] ++ g

/-- `n` bytes from the DRBG are free values. -/
def drbg (s : State) (n : Nat) : List Nat × State :=
  ((List.range n).map (fun i => Config.freeNat (s.freeCtr + i) % 256), { s with freeCtr := s.freeCtr + n })

/-! ### Identity (R541, R548) -/

/-- The public key of a slot. -/
def publicBytes (s : State) (n : Nat) : List Nat :=
  let t := slotType s n
  let len := if t = 4 then 133 else if t = 5 then 2592 else if t = 6 then 97 else 32
  (List.range len).map (fun i => Config.publicKey t (slotKey s n) i % 256)

/-- The identity digest: the first 256 bits of SHA-512 over both identity public keys (R548). -/
def identityDigest (s : State) : Nat := Config.sha512 (publicBytes s 0 ++ publicBytes s 1) % 2 ^ 256

/-- Shows the identity digest. -/
def showIdentity (d : Nat) (s : State) : State := (List.range 8).foldl (fun s k => s.set (Reg.ENC_IDDIG.ix k) (d / 2 ^ (32 * k))) s

/-- The root is regenerated from the helper data (R531, R532). -/
def regenerated (tries : Nat) (s : State) : State :=
  let s := { s with enc := { s.enc with root := s.enc.nonce.map Config.pufRoot, regenerating := false } }
  (s.set Reg.ENC_ROOTTRY_COUNT tries).setBit Reg.ENC_STAT_ROOTOK s.enc.root.isSome

/-- ROOT_RETRY (R531, R532): the attempt before it failed, and this one is made after 5 ms; the third failure sets ROOTFAIL. -/
def rootRetry (success : Bool) (s : State) : State :=
  if !s.enc.regenerating || s.enc.nonce.isNone then s
  else
    let n := max 1 (s.get Reg.ENC_ROOTTRY_COUNT) + 1
    let s := s.reach ((if n = 2 then s.now else s.enc.rootAt) + 5 * msec)
    let s := { s with enc := { s.enc with rootAt := s.now } }
    if success then regenerated n s
    else if n < 3 then s.set Reg.ENC_ROOTTRY_COUNT n
    else { (s.set Reg.ENC_ROOTTRY_COUNT 3).raise Reg.ENC_FAULT_ROOTFAIL with
           enc := { s.enc with regenerating := false, root := none } }

/-- ROOT_RETRY (R531). -/
def execRootRetry (success : Bool) (s : State) : Host.Outcome State Fault Refusal := done s (rootRetry success s)

/-! ### Attestation (R551) -/

/-- Big-endian bytes of a number. -/
def beBytes (n v : Nat) : List Nat := (leBytes n v).reverse

/-- The head of a CBOR item in core deterministic encoding. -/
def cborHead (major n : Nat) : List Nat :=
  if n < 24 then [major * 32 + n]
  else if n < 2 ^ 8 then [major * 32 + 24, n]
  else if n < 2 ^ 16 then (major * 32 + 25) :: beBytes 2 n
  else if n < 2 ^ 32 then (major * 32 + 26) :: beBytes 4 n
  else (major * 32 + 27) :: beBytes 8 n

/-- A CBOR byte string. -/
def cborBytes (bs : List Nat) : List Nat := cborHead 2 bs.length ++ bs

/-- The statement for a nonce and a lane set: the map of R551. -/
def statement (s : State) (nonce : List Nat) (lanes : BitVec 256) : List Nat :=
  let u := cborHead 0
  let id := s.sheets.config.isSome
  let meas := (List.range 8).flatMap (fun r => cborBytes (bytesOfWords (measWords s r)))
  cborHead 5 17 ++ u 1 ++ u 1 ++ u 2 ++ u (s.get Reg.SYS_IDENT_TYPE) ++ u 3 ++ u (s.get Reg.SYS_IDENT_VARIANT) ++
  u 4 ++ u (s.get Reg.SYS_IDENT_STEP) ++ u 5 ++ u (get64 s Reg.SYS_UNITLO_SN Reg.SYS_UNITHI_SN) ++
  u 6 ++ cborBytes (leBytes 32 (identityDigest s)) ++ u 7 ++ cborBytes nonce ++ u 8 ++ u (taiMs s) ++
  u 9 ++ u s.pwr.epoch ++ u 10 ++ u (mode s) ++ u 11 ++ cborHead 4 8 ++ meas ++
  u 12 ++ cborHead 4 3 ++ u (charter s).epoch ++
  u (match s.sheets.parapet with | some p => p.epoch | none => 0) ++ u (sheet s).epoch ++
  u 13 ++ cborBytes (leBytes 32 lanes.toNat) ++ u 14 ++ u (s.get Reg.TAMP_ARM_BITS) ++
  u 15 ++ u (if id then (sheet s).viaid else 0) ++ u 16 ++ u (if id then (sheet s).slot else 0xFF) ++
  u 17 ++ u (if paired s then pairEpoch s else 0)

/-- What a signature of a COSE_Sign structure covers (RFC 9052): "Signature", empty body header, the signer's header, no
external AAD, the payload. -/
def coseSigned (header payload : List Nat) : List Nat :=
  [0x85, 0x69, 0x53, 0x69, 0x67, 0x6E, 0x61, 0x74, 0x75, 0x72, 0x65] ++ cborBytes [] ++ cborBytes header ++ cborBytes [] ++
    cborBytes payload

/-- A signature of `len` bytes with an identity slot. -/
def signBytes (s : State) (slot nonce : Nat) (message : List Nat) : List Nat :=
  let t := slotType s slot
  (List.range (if t = 4 then 132 else 4627)).map (fun i => Config.signature t (slotKey s slot) message nonce i % 256)

/-- The random input of a signature: none while the entropy source is not healthy (R537). -/
def signNonce (s : State) : Nat × State :=
  if s.bit Reg.ENC_STAT_ENTOK then (Config.freeNat s.freeCtr, s.drawn) else (0, s)

/-- One signature entry of the statement: protected header, the identity digest, and the signature. -/
def signerEntry (s : State) (slot nonce : Nat) (header payload : List Nat) : List Nat :=
  [0x83] ++ cborBytes header ++ [0xA1, 0x04] ++ cborBytes (leBytes 32 (identityDigest s)) ++
    cborBytes (signBytes s slot nonce (coseSigned header payload))

/-- ATTEST: the signed statement (R551). -/
def attest (nonce : List Nat) (lanes : BitVec 256) (s : State) : List Nat × State :=
  let payload := statement s nonce lanes
  let a := signNonce s
  let b := signNonce a.2
  ([0xD8, 0x62, 0x84, 0x40, 0xA0] ++ cborBytes payload ++ [0x82] ++ signerEntry s 0 a.1 [0xA1, 0x01, 0x38, 0x23] payload ++
    signerEntry s 1 b.1 [0xA1, 0x01, 0x38, 0x31] payload, b.2)

/-! ### Operations (R545 to R547) -/

/-- The usage bit that an operation needs: encrypt, decrypt, MAC, sign, agree, pubkey. -/
def opUsage (op : Nat) : Nat :=
  match op with
  | 3 => 0 | 4 => 1 | 5 => 2 | 6 => 3 | 8 => 4 | _ => 5

/-- The slot types that an operation works with. -/
def opTypes (op : Nat) : List Nat :=
  match op with
  | 3 => [1, 2] | 4 => [1, 2] | 5 => [3] | 6 => [4, 5] | 7 => [4, 5, 6, 7] | _ => [6, 7]

/-- No operation is available (R546, R556): RANDOM needs no root; in PROVISIONING only the service port has the enclave. -/
def encNotReady (o : EncOp) (s : State) : Bool :=
  !s.bit Reg.ENC_STAT_READY || mode s = 7 || (mode s = 1 && o.copy ≠ 9) || ((s.enc.root.isNone || mode s = 0) && o.op ≠ 9)

/-- The slots that an operation names. -/
def opSlots (o : EncOp) : List Nat :=
  if o.op = 9 ∨ o.op = 10 then [] else if o.op = 8 then [o.slot, o.dst] else [o.slot]

/-- An argument is outside its range (result 1). -/
def badArgument (o : EncOp) : Bool :=
  o.op = 0 || o.op > 10 || (o.op = 1 && (o.arg0 / 2 ^ 28 = 0 || o.arg0 / 2 ^ 28 > 7)) ||
    (o.op = 9 && (o.arg0 = 0 || o.arg0 > 4096))

/-- A reserved slot is named (result 2): only PUBKEY may name slots 0 and 1 (R541). -/
def namesReserved (o : EncOp) : Bool := (opSlots o).any (fun n => n < 8 && !(o.op = 7 && n ≤ 1))

/-- The first named slot whose lane the requester's set lacks (result 3). -/
def deniedSlot (o : EncOp) (s : State) : Option Nat := (opSlots o).find? (fun n => !o.lanes.getLsbD (slotLane s n))

/-- A length is wrong, or an output exceeds 16 KiB (result 8). -/
def badLength (o : EncOp) (s : State) : Bool :=
  let n := o.input.length
  n > 16384 || match o.op with
    | 1 => n = 0 || n > 64
    | 3 => o.arg0 > n || n - o.arg0 + 28 > 16384
    | 4 => o.arg0 + 28 > n
    | 8 => n ≠ (if slotType s o.slot = 6 then 97 else 32)
    | 10 => n < 8 || n > 64
    | _ => false

/-- AAD, IV and text of an AES operation. -/
def aesParts (o : EncOp) : List Nat × List Nat × List Nat :=
  (o.input.take o.arg0, (o.input.drop o.arg0).take 12, o.input.drop (o.arg0 + 12))

/-- The tag or the peer's key is invalid (result 9). -/
def authFails (o : EncOp) (s : State) : Bool :=
  match o.op with
  | 4 => let x := aesParts o; !Config.aesGcmValid (slotKey s o.slot) x.2.1 x.1 x.2.2
  | 8 => !Config.peerValid (slotType s o.slot) o.input
  | _ => false

/-- Operations that need the entropy source (R537): RANDOM, ENCRYPT, AGREE, and DERIVE with GEN 1. -/
def needsEntropy (o : EncOp) : Bool := o.op = 3 || o.op = 8 || o.op = 9 || (o.op = 1 && o.arg0 % 2 = 1)

/-- The result code of an operation (R546). Where several hold, NOT_READY and then the lowest code is given. -/
def encResult (o : EncOp) (s : State) : Nat :=
  let general := !(o.op = 7 && o.slot ≤ 1)
  let k := keySlot s o.slot
  if encNotReady o s then 11
  else if badArgument o then 1
  else if namesReserved o then 2
  else if (deniedSlot o s).isSome then 3
  else if 3 ≤ o.op ∧ o.op ≤ 8 ∧ general ∧ k.isNone then 4
  else if (o.op = 1 ∧ k.isSome) ∨ (o.op = 8 ∧ (keySlot s o.dst).isSome) then 5
  else if 3 ≤ o.op && o.op ≤ 8 && (general && !(opTypes o.op).contains (slotType s o.slot) ||
      (match k with | some k => !k.usage.testBit (opUsage o.op) | none => false)) then 6
  else if 3 ≤ o.op && o.op ≤ 8 && (match k with | some k => k.exhausted | none => false) then 7
  else if badLength o s then 8
  else if authFails o s then 9
  else if needsEntropy o && !s.bit Reg.ENC_STAT_ENTOK then 10
  else 0

/-- DERIVE (R540, R542). -/
def derive (o : EncOp) (s : State) : State :=
  let typ := o.arg0 / 2 ^ 28 % 16
  let g := if o.arg0 % 2 = 1 then drbg s 16 else ([], s)
  let mask := o.arg0 / 2 ^ 16 % 256
  let root := match s.enc.root with | some r => r | none => 0
  let key := Config.hkdf root (deriveSalt s mask) (deriveInfo o.input (slotLane s o.slot) typ g.1) (okmLength typ)
  setSlot o.slot { typ := typ, measpol := mask, gen := decide (o.arg0 % 2 = 1), usage := o.arg0 / 2 ^ 8 % 64, limit := o.arg1,
                   owner := mkSrc 6 o.copy, key := key } g.2

/-- AGREE: an HMAC key from the shared secret (R545). Its mask, generation and limit are open; it is good for MAC. -/
def agree (o : EncOp) (s : State) : State :=
  let secret := Config.sharedSecret (slotType s o.slot) (slotKey s o.slot) o.input
  setSlot o.dst { typ := 3, usage := 4, owner := mkSrc 6 o.copy,
                  key := Config.hkdf secret 0 (deriveInfo [] (slotLane s o.dst) 3 []) 64 } s

/-- The effect of an operation whose result is OK: its output and the state. -/
def encPerform (o : EncOp) (s : State) : List Nat × State :=
  match o.op with
  | 1 => ([], derive o s)
  | 2 => ([], emptySlot o.slot s)
  | 3 =>
    let iv := drbg s 12
    let aad := o.input.take o.arg0
    let text := o.input.drop o.arg0
    (iv.1 ++ (List.range (text.length + 16)).map (fun i => Config.aesGcm (slotKey s o.slot) iv.1 aad text i % 256), useSlot o.slot iv.2)
  | 4 =>
    let x := aesParts o
    ((List.range (x.2.2.length - 16)).map (fun i => Config.aesGcmOpen (slotKey s o.slot) x.2.1 x.1 x.2.2 i % 256), useSlot o.slot s)
  | 5 => ((List.range 64).map (fun i => Config.hmac (slotKey s o.slot) o.input i % 256), useSlot o.slot s)
  | 6 =>
    let k := signNonce s
    (signBytes s o.slot k.1 o.input, useSlot o.slot k.2)
  | 7 => (publicBytes s o.slot, useSlot o.slot s)
  | 8 => ([], useSlot o.slot (agree o s))
  | 9 => drbg s o.arg0
  | _ => attest o.input o.lanes s

/-- The enclave carries an operation out: result code, output and the state (R542, R546, R364). -/
def encServe (o : EncOp) (s : State) : Nat × List Nat × State :=
  match encResult o s with
  | 0 =>
    let x := encPerform o s
    (0, x.1, x.2)
  | 3 =>
    let n := match deniedSlot o s with | some n => n | none => 0
    (3, [], laneViolation 4 (mkSrc 6 o.copy) (slotLane s n) n (s.countSat Reg.LANE_KEYCNT_COUNT 1))
  | 9 => (9, [], (useSlot o.slot s).raise Reg.ENC_FAULT_AUTHFAIL)
  | c => (c, [], s)

/-- The next operation of the queue begins, unless the queue is held from a warning to the F restart (R547). -/
def encNext (s : State) : State :=
  let s : State := if s.enc.running.isSome || frozen s then s
    else match s.enc.queue with
      | [] => s
      | o :: t => { s with enc := { s.enc with running := some o, queue := t } }
  s.set Reg.ENC_QDEPTH_COUNT s.enc.queue.length

/-- A copy's input buffer as bytes. -/
def encInput (s : State) (r n : Nat) : List Nat :=
  ((List.range ((min n 16384 + 3) / 4)).flatMap (fun k => leBytes 4 (tabGet 0 s.enc.inputs (4096 * r + k)))).take n

/-- `EGO` (R545, R547): queued with its arguments, unless the copy is busy. -/
def encGo (r : Nat) (s : State) : State :=
  if s.bit (Reg.ENC_ERES_BUSY.by r) then s
  else
    let n := s.get (Reg.ENC_ELEN_BYTES.by r)
    let o : EncOp := { copy := r, op := s.get (Reg.ENC_EOP_OP.by r), slot := s.get (Reg.ENC_EOP_SLOT.by r),
                       dst := s.get (Reg.ENC_EOP_DST.by r), arg0 := s.get (Reg.ENC_EARG0.by r), arg1 := s.get (Reg.ENC_EARG1.by r),
                       input := encInput s r n ++ List.replicate (n - 16384) 0, lanes := requesterLanes s r }
    let s := ((s.raise (Reg.ENC_ERES_BUSY.by r)).set (Reg.ENC_ERES_DONE.by r) 0)
    encNext { s with enc := { s.enc with queue := s.enc.queue ++ [o] } }

/-- Writes words into a copy's input buffer. -/
def encWrite (r : Nat) (ws : List Nat) (s : State) : State :=
  { s with enc := { s.enc with inputs :=
      ((List.range ws.length).zip ws).foldl (fun t e => tabPut 0 (4096 * r + e.1) e.2 t) s.enc.inputs } }

/-- The requester copy belongs to a session or connection that is open, or to a core. -/
def copyLive (r : Nat) (s : State) : Bool := r > 9 || (tabGet {} s.sessions r : Session).opened

/-- A requester writes input and arguments and sets `EGO` (R545). -/
def encSubmit (r op slot dst arg0 arg1 : Nat) (input : List Byte) (s : State) : State :=
  if !copyLive r s then s
  else
    let bs := (input.take 16384).map (fun (b : Byte) => b.toNat)
    let s := encWrite r (wordsOfBytes bs) s
    let s := ((s.set (Reg.ENC_EOP_OP.by r) op).set (Reg.ENC_EOP_SLOT.by r) slot).set (Reg.ENC_EOP_DST.by r) dst
    let s := ((s.set (Reg.ENC_EARG0.by r) arg0).set (Reg.ENC_EARG1.by r) arg1).set (Reg.ENC_ELEN_BYTES.by r) (min input.length 32767)
    encGo r s

/-- ENC_DERIVE (R540). -/
def execEncDerive (requester : Fin 16) (slot : BitVec 6) (typ : BitVec 4) (measpol : BitVec 8) (usage : BitVec 6) (gen : Bool)
    (uselim : Word) (label : List Byte) (s : State) : Host.Outcome State Fault Refusal :=
  done s (askPage requester 0x020 (fun s => encSubmit requester.val 1 slot.toNat 0
    (typ.toNat * 2 ^ 28 + measpol.toNat * 2 ^ 16 + usage.toNat * 2 ^ 8 + b2n gen) uselim.toNat label s) s)

/-- ENC_DESTROY (R542). -/
def execEncDestroy (requester : Fin 16) (slot : BitVec 6) (s : State) : Host.Outcome State Fault Refusal :=
  done s (askPage requester 0x020 (fun s => encSubmit requester.val 2 slot.toNat 0 0 0 [] s) s)

/-- ENC_ENCRYPT (R544): input is AAD and plaintext. -/
def execEncEncrypt (requester : Fin 16) (slot : BitVec 6) (aad : Word) (input : List Byte) (s : State) :
    Host.Outcome State Fault Refusal := done s (askPage requester 0x020 (fun s => encSubmit requester.val 3 slot.toNat 0 aad.toNat 0 input s) s)

/-- ENC_DECRYPT (R545): input is AAD, IV, ciphertext and tag. -/
def execEncDecrypt (requester : Fin 16) (slot : BitVec 6) (aad : Word) (input : List Byte) (s : State) :
    Host.Outcome State Fault Refusal := done s (askPage requester 0x020 (fun s => encSubmit requester.val 4 slot.toNat 0 aad.toNat 0 input s) s)

/-- ENC_MAC (R545). -/
def execEncMac (requester : Fin 16) (slot : BitVec 6) (input : List Byte) (s : State) : Host.Outcome State Fault Refusal :=
  done s (askPage requester 0x020 (fun s => encSubmit requester.val 5 slot.toNat 0 0 0 input s) s)

/-- ENC_SIGN (R545). -/
def execEncSign (requester : Fin 16) (slot : BitVec 6) (input : List Byte) (s : State) : Host.Outcome State Fault Refusal :=
  done s (askPage requester 0x020 (fun s => encSubmit requester.val 6 slot.toNat 0 0 0 input s) s)

/-- ENC_PUBKEY (R545). -/
def execEncPubkey (requester : Fin 16) (slot : BitVec 6) (s : State) : Host.Outcome State Fault Refusal :=
  done s (askPage requester 0x020 (fun s => encSubmit requester.val 7 slot.toNat 0 0 0 [] s) s)

/-- ENC_AGREE (R545). -/
def execEncAgree (requester : Fin 16) (slot dst : BitVec 6) (peer : List Byte) (s : State) : Host.Outcome State Fault Refusal :=
  done s (askPage requester 0x020 (fun s => encSubmit requester.val 8 slot.toNat dst.toNat 0 0 peer s) s)

/-- ENC_RANDOM (R545). -/
def execEncRandom (requester : Fin 16) (length : Word) (s : State) : Host.Outcome State Fault Refusal :=
  done s (askPage requester 0x020 (fun s => encSubmit requester.val 9 0 0 length.toNat 0 [] s) s)

/-- ENC_ATTEST (R551). -/
def execEncAttest (requester : Fin 16) (nonce : List Byte) (s : State) : Host.Outcome State Fault Refusal :=
  done s (askPage requester 0x020 (fun s => encSubmit requester.val 10 0 0 0 0 nonce s) s)

/-- An operation completes (R547): its result and output, the post to `DONEMBX` for a core copy, and the next of the queue. -/
def encComplete (s : State) : State :=
  match s.enc.running with
  | none => s
  | some o =>
    let x := encServe o s
    let s := x.2.2.countWrap Reg.ENC_OPS_COUNT 1
    let s := { s.set (Reg.ENC_ERES_BUSY.by o.copy) 0 with enc := { s.enc with running := none } }
    let s : State := if o.dropped then s
      else
        let s := ((s.raise (Reg.ENC_ERES_DONE.by o.copy)).set (Reg.ENC_ERES_RESULT.by o.copy) x.1).set (Reg.ENC_ERES_OUTLEN.by o.copy)
          x.2.1.length
        { s with enc := { s.enc with outputs := tabInsert o.copy x.2.1 s.enc.outputs } }
    let s := if s.bit Reg.ENC_ECFG_DONEMBXEN ∧ 10 ≤ o.copy ∧ o.copy ≤ 13 then
        mailWrite (s.get Reg.ENC_ECFG_DONEMBX) .enclave o.copy s else s
    encNext s

/-- ENC_OPERATION_COMPLETE (R547). -/
def execEncOperationComplete (s : State) : Host.Outcome State Fault Refusal := done s (encComplete s)

/-- The operations of a session that closes complete without a result (R547). -/
def encDropCopy (r : Nat) (s : State) : State :=
  let f := fun (o : EncOp) => if o.copy = r then { o with dropped := true } else o
  { s with enc := { s.enc with running := s.enc.running.map f, queue := s.enc.queue.map f } }

/-- Queued and running operations are abandoned, and general slots become EMPTY (R543, R547, R556). -/
def encClear (s : State) : State :=
  { s with enc := { s.enc with slots := [], running := none, queue := [], inputs := [], outputs := [] } }

/-- At a tamper the running operation produces no output and never sets DONE (R547); its copy, and those of queued operations, are
free again (assumption 115; DESIGN CHOICE). -/
def encAbandon (s : State) : State :=
  let s := (s.enc.running.toList ++ s.enc.queue).foldl (fun s o => s.set (Reg.ENC_ERES_BUSY.by o.copy) 0) s
  { s.set Reg.ENC_QDEPTH_COUNT 0 with enc := { s.enc with running := none, queue := [] } }

/-- At an accepted charter, slots whose lane is no longer in use or changes become EMPTY (R361, R543). -/
def destroySlots (old new : Charter) (s : State) : State :=
  { s with enc := { s.enc with slots := s.enc.slots.filter (fun (e : Nat × KeySlot) =>
      let l := tabGet 0 new.keyLanes e.1
      decide (l = tabGet 0 old.keyLanes e.1) && new.inUse.getLsbD l) } }

/-! ### Entropy (R536, R537) -/

/-- A health test fails. -/
def entropyFail (s : State) : State :=
  let s := ((s.raise Reg.ENC_FAULT_ENTFAIL).set Reg.ENC_STAT_ENTOK 0).countSat Reg.ENC_ENTERR_COUNT 1
  { s with enc := { s.enc with entAt := s.now } }

/-- ENTROPY_HEALTH_FAIL (R537). -/
def execEntropyHealthFail (s : State) : Host.Outcome State Fault Refusal := done s (entropyFail s)

/-- ENTROPY_RESTART (R537): every 1 s; usable again after 1,024 passing samples. -/
def execEntropyRestart (passed : Bool) (s : State) : Host.Outcome State Fault Refusal :=
  done s (if s.bit Reg.ENC_STAT_ENTOK then s
    else
      let s := s.reach (s.enc.entAt + second)
      if passed then s.raise Reg.ENC_STAT_ENTOK else entropyFail s)

/-! ### Signed objects (R539) -/

/-- A refusal of a signed object is counted. -/
def verifyFail (s : State) : State := (s.raise Reg.ENC_FAULT_VERFAIL).countSat Reg.ENC_VERFAILS_COUNT 1

end Sys2Proof.Machine
end

