-- ==== Sys2Proof/Machine/Sessions.lean ====
section
/-! DEFINITION. PAP sessions and what the close of a session ends (spec/02_register_pages.md, R63 to R68, R80). -/

namespace Sys2Proof.Machine

/-- PAP sessions are accepted (R65). -/
def papAccepts (s : State) : Bool := 2 ≤ mode s && mode s ≤ 6

/-- The lane set of requester copy `k` is fixed for the life of its session (R67). -/
def openSession (k : Nat) (lanes : BitVec 256) (s : State) : State :=
  { s with sessions := tabInsert k { opened := true, since := s.now, lastRequest := s.now, tokens := 100000000, tokensAt := s.now,
                                     lanes := lanes } s.sessions }

/-- Session `k` is open. -/
def sessionOpen (s : State) (k : Nat) : Bool := (tabGet {} s.sessions k : Session).opened

/-- Closes session `k` (0 to 7 PAP, 8 BACnet/SC, 9 the service port): its locks are released as STALE (R522), the results of its
enclave operations are discarded (R547) and what it staged is discarded (R575). -/
def closeSession (k : Nat) (s : State) : State :=
  if !sessionOpen s k then s
  else
    let s := { s with sessions := tabErase k s.sessions, upd := { s.upd with
      staging := tabErase k s.upd.staging, delivered := if k = 9 then none else s.upd.delivered } }
    let s := encDropCopy k (breakLocks (fun mid copy => mid = 8 && copy = k) s)
    if k < 8 then clearSlot k s
    else if k = 9 then (List.range 8).foldl (fun s j => s.set (Reg.SVC_PEERDIG.ix j) 0) (s.set Reg.SVC_STAT_CONN 0)
    else s.set Reg.BSC_STAT_HUB 0

/-- The uplink sessions close: PAP and BACnet/SC. -/
def closeUplinkSessions (s : State) : State := (List.range 9).foldl (fun s k => closeSession k s) s

/-- A handshake is refused with a fatal access_denied alert (R66). -/
def papRefuse (f : RegField) (s : State) : State := ((s.raise f).countSat Reg.PAP_REFCNT_COUNT 1).emit .papRefused

/-- The certificate's lane set by the charter; a certificate that the charter does not map has no lane (R67). -/
def certLanes (s : State) (cert : Nat) : BitVec 256 := tabGet 0 (charter s).certs cert

/-- A handshake opens the lowest free slot (R66). A datagram to another port than `CFG.PORT` is no PAP, and an offer without a
supported option of R64 is not accepted and counts in no register (assumption 71); without entropy no handshake succeeds (R537). -/
def papHandshake (p udp : Nat) (offer : DtlsOffer) (root cert : Nat) (valid : Bool) (s : State) : State :=
  if !papAccepts s || udp ≠ s.get Reg.PAP_CFG_PORT || !dtlsOk offer || !s.bit Reg.ENC_STAT_ENTOK ||
      !s.bit (if p = 0 then Reg.PAP_CFG_V0EN else Reg.PAP_CFG_V1EN) || !uplinkUp s p then s
  else
    match (List.range 8).find? (fun k => !sessionOpen s k) with
    | none => papRefuse Reg.PAP_FAULT_REFUSED s
    | some k =>
      if !valid || !(charter s).roots.contains root then papRefuse Reg.PAP_FAULT_AUTHFAIL s
      else
        let lanes := certLanes s cert
        let s := openSession k lanes s
        let s := (s.raise (Reg.PAP_SINFO_OPEN.ix k)).set (Reg.PAP_SINFO_UPLINK.ix k) p
        let s := (List.range 8).foldl (fun s j => s.set (Reg.PAP_SLANES_BITS.ix2 k j) (lanes.toNat / 2 ^ (32 * j))) s
        s.set Reg.PAP_SESS_OPEN (maskSet (s.get Reg.PAP_SESS_OPEN) k)

/-- PAP_HANDSHAKE (R64 to R67): the uplink, the UDP port, what the client offers, the root to which its certificate chains, its
digest, and whether the chain is valid. -/
def execPapHandshake (port : Fin 2) (udp : BitVec 16) (offer : DtlsOffer) (root : Nat) (cert : BitVec 256) (valid : Bool) (s : State) :
    Host.Outcome State Fault Refusal := done s (papHandshake port.val udp.toNat offer root cert.toNat valid s)

/-- PAP_SESSION_IDLE_TIMEOUT (R68): 30 s after the last request. -/
def execPapSessionIdleTimeout (slot : Fin 8) (s : State) : Host.Outcome State Fault Refusal :=
  done s (if sessionOpen s slot.val then
    closeSession slot.val (s.reach ((tabGet {} s.sessions slot.val : Session).lastRequest + 30 * second)) else s)

/-- PAP_SESSION_CLOSE (R522). -/
def execPapSessionClose (slot : Fin 8) (s : State) : Host.Outcome State Fault Refusal := done s (closeSession slot.val s)

end Sys2Proof.Machine
end

