-- ==== Sys2Proof/Machine/SheetRules.lean ====
section
/-! DEFINITION. The rules under which the module refuses a signed sheet or a task image (R576 reasons 5 and 6). Each check reads a
state that already holds the sheets as they would stand. -/

namespace Sys2Proof.Machine

/-! ### Points (R86, R88, R89, R116, R362) -/

/-- A FLOAT32 or FLOAT64 type. -/
def isFloatType (t : Nat) : Bool := t = 7 || t = 8

/-- A deadband that R116 allows for the type. -/
def deadbandOk (typ db : Nat) : Bool :=
  let d := f32 db
  !fpIsNan d && !fpLt d (.fin false 0 0) && (fpEq d (.fin false 0 0) || !(typ = 1 || typ = 2 || typ = 9))

/-- A UIO, access or lift binding has a listed quantity with its record type (R610). -/
def localBindOk (r : PointRec) : Bool :=
  let inst := r.addr / 2 ^ 32 % 2 ^ 13
  let q := r.addr / 2 ^ 24 % 2 ^ 8
  let sub := r.addr / 2 ^ 16 % 2 ^ 8
  r.addr % 2 ^ 16 = 0 &&
    (if inst < 24 then sub = 0 && ((q = 0 && (isFloatType r.typ || r.typ = 1)) || (q = 1 && r.typ = 4) || (q = 2 && isFloatType r.typ))
     else if inst = 32 then sub < 32 && ((q = 0 && r.typ = 2) || (q = 1 && r.typ = 1))
     else if inst = 48 then
       (sub < 16 && ((q = 0 && r.typ = 3) || (1 ≤ q && q ≤ 3 && r.typ = 2))) || (sub = 255 && q = 4 && r.typ = 1)
     else false)

/-- A UIO value's type follows the channel's mode: BOOL for contacts and pulses (R610). -/
def uioTypeOk (c : ConfigSheet) (r : PointRec) : Bool :=
  let inst := r.addr / 2 ^ 32 % 2 ^ 13
  if r.addr / 2 ^ 45 = 2 ∧ inst < 24 ∧ r.addr / 2 ^ 24 % 2 ^ 8 = 0 then
    let m := (tabGet {} c.uio inst).mode
    (r.typ = 1) == (m = 5 || m = 6)
  else true

/-- A metered binding has a listed quantity with its record type (R351). -/
def meterBindOk (r : PointRec) : Bool :=
  let e := r.addr / 2 ^ 37 % 4
  let q := r.addr / 2 ^ 31 % 64
  r.addr % 2 ^ 31 = 0 && r.addr / 2 ^ 39 % 64 < 36 && q ≤ 20 && !(e = 3 && (q = 0 || q = 7 || q = 8)) &&
    (if q ≤ 9 || q ≥ 19 then isFloatType r.typ else if q = 18 then r.typ = 5 else r.typ = 6)

/-- The lane that a segment source carries for a record: of its node, or of its message's range (R170, R211). -/
def bindLane (s : State) (addr : Nat) : Option Nat :=
  if addr / 2 ^ 45 = 1 ∧ addr / 2 ^ 32 % 4 = 1 then
    let p := addr / 2 ^ 40 % 32
    let m := msgOf s p (addr / 2 ^ 16 % 2 ^ 16)
    match rangeOf s p m.ide m.id with
    | some r => some r.lane
    | none => none
  else none

/-- A record's binding names a source that may write its lane (R362); a command point has none (R86). -/
def bindOk (s : State) (r : PointRec) : Bool :=
  if r.cmd then r.addr = 0
  else
    let c := r.addr / 2 ^ 45
    1 ≤ c && c ≤ 7 && (writeSet s (boundSource r.addr) (bindLane s r.addr)).getLsbD r.lane &&
      (c ≠ 2 || localBindOk r) && (c ≠ 3 || meterBindOk r)

/-- A record of the sheet (R81, R89, R116, R362). -/
def recordOk (s : State) (e : Nat × PointRec) : Bool :=
  let r := e.2
  e.1 < 2 ^ 20 && 1 ≤ r.typ && r.typ ≤ 9 && !r.mirror && deadbandOk r.typ r.deadband && (charter s).inUse.getLsbD r.lane && bindOk s r

/-- The records in use of a sheet. -/
def usedRecords (c : ConfigSheet) : Table PointRec := c.points.filter (fun (e : Nat × PointRec) => decide (e.2.typ ≠ 0))

/-- The record that a sheet puts at an index. -/
def sheetRecord (c : ConfigSheet) (i : Nat) : PointRec := tabGet {} c.points i

/-- Command points share no priority array (R88). -/
def arraysOk (c : ConfigSheet) : Bool :=
  let is := ((usedRecords c).filter (fun (e : Nat × PointRec) => e.2.cmd)).map (fun e => e.2.paix)
  is.all (· < 131072) && decide is.Nodup

/-! ### Segment ports (R161 to R166, R203 to R211, R226) -/

/-- The rate names a quotient of the time-quantum clock within 0.1 % (R204); `q` counts the quanta of a bit. -/
def rateOk (rate brp q : Nat) : Bool :=
  let d := brp * q
  (250000000 - min 250000000 (rate * d)) * 1000 ≤ rate * d && (rate * d - min (rate * d) 250000000) * 1000 ≤ rate * d

/-- Bit timing (R203, R204, R206). -/
def timingOk (c : PbusCfg) : Bool :=
  let n := 1 + c.ntseg1 + c.ntseg2
  let d := 1 + c.dtseg1 + c.dtseg2
  1 ≤ c.nbrp && c.nbrp ≤ 512 && 1 ≤ c.ntseg1 && c.ntseg1 ≤ 256 && 1 ≤ c.ntseg2 && c.ntseg2 ≤ 128 && 1 ≤ c.nsjw && c.nsjw ≤ c.ntseg2 &&
    8 ≤ n && rateOk c.nrate c.nbrp n && 10000 ≤ c.nrate && c.nrate ≤ 1000000 &&
    1 ≤ c.dbrp && c.dbrp ≤ 32 && 1 ≤ c.dtseg1 && c.dtseg1 ≤ 32 && 1 ≤ c.dtseg2 && c.dtseg2 ≤ 16 && 1 ≤ c.dsjw && c.dsjw ≤ c.dtseg2 &&
    5 ≤ d && rateOk c.drate c.dbrp d && c.drate ≤ 5000000 && c.nrate ≤ c.drate && c.tdco ≤ 127 &&
    (!c.triple || (c.nrate ≤ 125000 && 3 ≤ c.ntseg1))

/-- An item's width suits the type (R209), by the width code of R208. -/
def widthOk (typ code : Nat) : Bool :=
  match typ with
  | 1 => code = 0
  | 2 => code = 1 || code = 2
  | 7 => code = 3
  | 8 => code = 4
  | _ => 1 ≤ code && code ≤ 4

/-- An item of a PBUS message (R208 to R210): width, place within the payload, not over the quality byte. -/
def busItemOk (s : State) (c : ConfigSheet) (e : MapEntry) : Bool :=
  let m := msgOf s e.port (e.place / 2 ^ 16)
  let code := e.place / 2 ^ 4 % 8
  let n := max 1 (itemWidth e)
  decide (e.place / 2 ^ 16 < (pcfg s e.port).msgs.length) && e.place % 16 = 0 && m.out == e.cmd && m.node = e.node &&
    widthOk (sheetRecord c e.index).typ code && itemByte e + n ≤ dlcLen m.fdf m.dlc &&
    (m.qoff = 0xFF || m.qoff < itemByte e || itemByte e + n ≤ m.qoff)

/-- A message's identifier lies in a range, not in a reserved block, and the range has the lane of its records (R211). One that the
port sends has a slot of the point path and, with `FDEN` 0, the classical format (R199, R217). -/
def messageOk (s : State) (c : ConfigSheet) (p mi : Nat) (m : MsgEntry) : Bool :=
  m.node < 64 && m.slot < 64 && m.dlc < 16 &&
    (!m.out || (m.slot < 63 && !tabGet false (pcfg s p).owners m.slot && (!m.fdf || (pcfg s p).fden))) &&
    match rangeOf s p m.ide m.id with
    | none => false
    | some r => ((mapsOf s p).filter (fun e => decide (e.place / 2 ^ 16 = mi))).all (fun e =>
        (sheetRecord c e.index).lane = r.lane)

/-- The longest frame that a slot may carry, in ns from SOF to the end of the frame: of its messages, of the beacon, or any that
firmware may fill (R226). -/
def slotLongest (c : PbusCfg) (j : Nat) : Nat :=
  let ns := fun f => frameNs c f - 3 * nominalBit c
  let any := max (ns (mkFrame 0 true false false 8 [])) (if c.fden then ns (mkFrame 0 true true false 15 []) else 0)
  if j = 63 then
    if c.fden then ns (mkFrame 0 false true c.bcnbrs 10 []) else ns (mkFrame 0 false false false 8 [])
  else if tabGet false c.owners j then any
  else c.msgs.foldl (fun a m => if m.out && m.slot = j then max a (ns (mkFrame m.id m.ide m.fdf m.brs m.dlc [])) else a) 0

/-- Used columns open in increasing order, do not overlap, and end within the cycle (R226). -/
def columnsOk (cyclen : Nat) : List (Nat × Nat) → Nat → Bool
  | [], _ => true
  | (start, len) :: t, from' =>
    if len = 0 then columnsOk cyclen t from' else decide (from' ≤ start ∧ start + len ≤ cyclen) && columnsOk cyclen t (start + len)

/-- The kind of a matrix cell, and for EXCL its slot (R225). -/
def cellKind (c : PbusCfg) (cyc w : Nat) : Nat := cellOf c cyc w / 64

/-- A time-triggered configuration (R226). -/
def matrixOk (c : PbusCfg) : Bool :=
  let cols := c.cols.zipIdx.filter (fun e => decide (e.1.2 ≠ 0))
  let cycles := List.range (2 ^ c.ncycexp)
  let excl := fun cyc w j => cellKind c cyc w = 1 && cellOf c cyc w % 64 = j
  c.ncycexp ≤ 6 && 1000 ≤ c.cyclen && c.cols.length ≤ 32 && columnsOk c.cyclen c.cols 0 && nominalBit c ≤ c.txen * 1000 &&
    (match c.cols.head? with
      | some (start, len) => len = 0 || 70 * nominalBit c ≤ start * 1000
      | none => true) &&
    cycles.all (fun cyc => cols.all (fun e =>
      cellKind c cyc e.2 ≠ 3 && (cellKind c cyc e.2 ≠ 1 || c.txen * 1000 + slotLongest c (cellOf c cyc e.2 % 64) ≤ e.1.2 * 1000))) &&
    cycles.all (fun cyc => cols.any (fun e => excl cyc e.2 63)) &&
    cycles.all (fun cyc => [0, 1, 2, 3].all (fun k => let j := c.shslots.getD k 0; cols.any (fun e => excl cyc e.2 j || cellKind c cyc e.2 = 2)))

/-- A port's configuration (R152, R179, R195, R196, R204 to R211, R226, R615): a value outside the range that a field states is
refused. -/
def portOk (s : State) (c : ConfigSheet) (e : Nat × PortCfg) : Bool :=
  let p := e.1
  let x := e.2
  p < 32 && x.pers ≤ 2 && 1 ≤ x.bint && x.bint ≤ 100 && 2 ≤ x.bmiss && x.bmiss ≤ 15 && 1 ≤ x.jointo && x.jointo ≤ 15 &&
    x.fmode ≤ 2 && (x.fmode ≠ 2 || x.pers = 0) && 5 ≤ x.flim && x.flim ≤ 100 && 1 ≤ x.cmdto && x.cmdto ≤ 255 && 1 ≤ x.respto &&
    x.respto ≤ 255 && x.t1llvl ≤ 2 && x.vf < 1024 && (x.pers ≠ 2 || (x.srate ≤ 9 && x.framing ≤ 1)) &&
    (x.pers ≠ 1 || (timingOk x.pbus && x.pbus.msgs.length ≤ 1024 && x.pbus.msgs.zipIdx.all (fun m => messageOk s c p m.2 m.1) &&
      (!x.pbus.tten || matrixOk x.pbus))) &&
    (x.pers ≠ 2 || x.framing ≠ 1 || x.srate ≤ 4)

/-- A command item names an entry of 64 to 65,535 that guards its point (R367). -/
def itemEntryOk (s : State) (e : MapEntry) : Bool :=
  match e.entry with
  | some n => 64 ≤ n && n < 65536 && (guarding s e.index).contains n
  | none => false

/-- A map entry (R165, R166, R362): an output item belongs to a command point and names a parapet entry of it (R367); an input item's
record repeats its place, but for an emergency item, which names level 1 or 2 of a command point in the input's write set. On T1L and
S485 the record has the lane of its node (R170). -/
def mapOk (s : State) (c : ConfigSheet) (e : MapEntry) : Bool :=
  let r := sheetRecord c e.index
  let pers' := (tabGet {} c.ports e.port).pers
  r.typ ≠ 0 && e.port < 32 && e.node < 64 && (pers' ≠ 1 || busItemOk s c e) && (pers' = 1 || r.lane = nodeLane s e.port e.node) &&
    (if e.cmd then r.cmd && itemEntryOk s e
     else match nodeEmergency s e.port e.node with
      | some n => if r.cmd then (e.level = 1 || e.level = 2) && (writeSet s (mkSrc 0 n) none).getLsbD r.lane
          else r.addr = ((2 ^ 5 + e.port) * 64 + e.node) * 2 ^ 34 + pers' * 2 ^ 32 + e.place
      | none => !r.cmd && r.addr = ((2 ^ 5 + e.port) * 64 + e.node) * 2 ^ 34 + pers' * 2 ^ 32 + e.place)

/-- PRI and TKO are given only to messages whose slot is bound to a shadow buffer (R386). -/
def priorityOk (s : State) (c : ConfigSheet) : Bool :=
  c.maps.all (fun m => !m.cmd || (tabGet {} c.ports m.port).pers ≠ 1 ||
    (match entryOf s m.index with
      | some n => !((entryCfg s n).pri || (entryCfg s n).tko) ||
          (pcfg s m.port).shslots.contains (msgOf s m.port (m.place / 2 ^ 16)).slot
      | none => true))

/-! ### Loops (R247, R255, R258, R265, R275) -/

/-- A record of lane `l` may be read from lane `lane` (R255, R293). -/
def inputLane (c : ConfigSheet) (lane : Nat) (t : PointTarget) : Bool :=
  match t with
  | .idx i => (sheetRecord c i).typ ≠ 0 && taskReads lane (sheetRecord c i).lane
  | .gpr g => gprValid g &&
    if g / 2 ^ 26 = c.viaid * 64 + c.slot then taskReads lane (sheetRecord c (g % 2 ^ 20)).lane
    else match c.via.mirrors.find? (fun m => m.gpr = g) with
      | some m => taskReads lane m.lane
      | none => true

/-- A loop's input reference (R246, R247): unused, or a record of an allowed lane. -/
def refOk (c : ConfigSheet) (lane ref : Nat) : Bool :=
  match refTarget ref with
  | some t => inputLane c lane t
  | none => ref / 2 ^ 62 = 0

/-- A loop's output record (R258). -/
def loopOutOk (c : ConfigSheet) (n lane : Nat) (x : LoopCfg) : Bool :=
  let r := sheetRecord c x.out
  isFloatType r.typ && r.lane = lane &&
    (if x.outcmd then r.cmd && 3 ≤ x.level && x.level ≤ 16
     else !r.cmd && x.level = 0 && (match x.group with
      | none => r.addr = 4 * 2 ^ 45 + n
      | some (g, _) => (match tabFind 0 (tabGet {} c.groups g).members with
        | some m => r.addr = 4 * 2 ^ 45 + m
        | none => false)))

/-- A loop slot (R245 to R247); members 1 to 7 of a group take MODEREQ AUTO, HOLD and OOS only (R266). -/
def loopOk (s : State) (c : ConfigSheet) (e : Nat × LoopCfg) : Bool :=
  let x := e.2
  let lane := loopLane s e.1
  e.1 < 8192 && x.coefs.length = 15 && coefsOk x.coefs && x.modereq ≤ 4 && x.infail ≤ 2 && x.grace ≤ 255 && 1 ≤ x.period &&
    x.period ≤ 3600000 && x.phase < x.period && x.refpv / 2 ^ 62 ≠ 0 &&
    [x.refpv, x.refsp, x.refff, x.reftrkv, x.reftrken].all (refOk c lane) && loopOutOk c e.1 lane x &&
    (match x.group with
      | some (g, m) => tabFind m (tabGet {} c.groups g).members = some e.1 && (m = 0 || (x.modereq ≠ 1 && x.modereq ≠ 2))
      | none => true)

/-- A group (R265): at most eight members that share PERIOD, PHASE, lane and OUTREF, each in this group only. A group in use has
a member 0, the source of its output (DESIGN CHOICE, log entry 84). -/
def groupOk (s : State) (c : ConfigSheet) (e : Nat × GroupCfg) : Bool :=
  let ms := e.2.members
  let loop := fun n => tabGet {} c.loops n
  e.1 < 1024 && (ms.isEmpty || (tabFind 0 ms).isSome) && ms.all (fun m => m.1 < 8 && (loop m.2).group == some (e.1, m.1)) &&
    (match ms.head? with
      | none => true
      | some h => ms.all (fun m => (loop m.2).period = (loop h.2).period && (loop m.2).phase = (loop h.2).phase &&
          loopLane s m.2 = loopLane s h.2 && (loop m.2).outcmd == (loop h.2).outcmd && (loop m.2).level = (loop h.2).level &&
          (loop m.2).out = (loop h.2).out))

/-- No two loops outside one group write the same record at the same level (R247). -/
def outputsApart (c : ConfigSheet) : Bool :=
  let outs := (c.loops.filter (fun (e : Nat × LoopCfg) => e.2.group.isNone)).map (fun e => (e.2.out, e.2.level)) ++
    c.groups.filterMap (fun e => (e.2.members.head?).map (fun m => ((tabGet {} c.loops m.2).out, (tabGet {} c.loops m.2).level)))
  decide outs.Nodup

/-- The evaluation density of a sheet (R275). -/
def loopDensity (c : ConfigSheet) : ℚ :=
  (c.loops.map (fun e => (250 : ℚ) / ((e.2.period * 1000000 : ℕ) - 50000))).sum

/-- The residue class in which both `t ≡ r (mod m)` and `t ≡ f (mod p)` hold, if it is not empty. -/
def meetClass (m r p f : Nat) : Option (Nat × Nat) :=
  let g := Nat.gcd m p
  match (List.range (p / g)).find? (fun k => decide ((r + k * m) % p = f % p)) with
  | some k => some (Nat.lcm m p, r + k * m)
  | none => none

/-- More than `limit` of the schedules (period, phase) fall due at some instant of the class `r` modulo `m`, `k` of those seen
before falling due throughout it. -/
def dueOver (limit : Nat) : List (Nat × Nat) → Nat → Nat → Nat → Bool
  | [], _, _, k => decide (limit < k)
  | (p, f) :: t, m, r, k =>
    if k + (t.length + 1) ≤ limit then false
    else (match meetClass m r p f with
      | some (m', r') => dueOver limit t m' r' (k + 1)
      | none => false) || dueOver limit t m r k

/-- The output schedules: one a loop, a group counting as one (R275). -/
def outputSchedules (c : ConfigSheet) : List (Nat × Nat) :=
  (c.loops.filter (fun (e : Nat × LoopCfg) => e.2.group.isNone)).map (fun e => (e.2.period, e.2.phase)) ++
    c.groups.filterMap (fun e => (e.2.members.head?).map (fun m => ((tabGet {} c.loops m.2).period, (tabGet {} c.loops m.2).phase)))

/-- The loops of a sheet. -/
def loopsOk (s : State) (c : ConfigSheet) : Bool :=
  c.loops.all (loopOk s c) && c.groups.all (groupOk s c) && outputsApart c && decide (loopDensity c ≤ 1) &&
    !dueOver 4000 (outputSchedules c) 1 0 0

/-! ### Tasks (R288 to R293, R296, R306) -/

/-- A task's output (R293). -/
def taskOutOk (c : ConfigSheet) (t lane : Nat) (o : OutMap) : Bool :=
  let r := sheetRecord c o.index
  r.typ ≠ 0 && r.lane = lane && (if r.cmd then 3 ≤ o.level && o.level ≤ 16 else o.level = 0 && r.addr = 5 * 2 ^ 45 + t)

/-- The maps of a task's image against a sheet and a charter (R288, R290, R293, R296, R299). -/
def imageMapsOk (s : State) (c : ConfigSheet) (t : Nat) (i : TaskImage) : Bool :=
  let lane := taskLane s t
  let lim := tabGet 0 (charter s).quotas lane
  i.inputs.all (fun p => match p with
      | .idx k => (sheetRecord c k).typ = 0 || taskReads lane (sheetRecord c k).lane
      | .gpr _ => true) &&
    i.outputs.all (taskOutOk c t lane) && (lim = 0 || i.outputs.length ≤ lim) &&
    (match tabFind t c.tasks with
      | some x => !x.event || x.evtSrc ≠ 2 || (tabFind x.evtIx i.latches).isSome
      | none => true) &&
    i.latches.all (fun e => e.1 < 128 && (match e.2 with
      | .uio n => n < 24
      | .record k => (sheetRecord c k).typ = 1 && taskReads lane (sheetRecord c k).lane))

/-- A task image (R293, R298, R299, R306, R307, R309). -/
def imageOk (s : State) (c : ConfigSheet) (t : Nat) (i : TaskImage) : Bool :=
  i.task = t && i.size ≤ 524288 && i.inputs.length ≤ 8192 && i.outputs.length ≤ 1024 && i.timers.all (fun e => e.1 < 2048 && e.2 ≤ 2) &&
    i.retainBytes ≤ 16384 && i.changes.length ≤ 65535 && i.counters.all (· < 24) && imageMapsOk s c t i &&
    (taskSlots s).all (fun u => u = t || (!i.timers.any (fun e => (tabFind e.1 (taskImage s u).timers).isSome) &&
      !i.latches.any (fun e => (tabFind e.1 (taskImage s u).latches).isSome)))

/-- A task of the sheet (R288 to R290). -/
def taskOk (s : State) (c : ConfigSheet) (e : Nat × TaskCfg) : Bool :=
  let x := e.2
  e.1 < 16 && 1 ≤ x.core && x.core ≤ 3 && x.prio ≤ 15 &&
    (x.event || (1 ≤ x.period && x.period ≤ 10000 && x.phase < x.period)) &&
    (!x.event || (1 ≤ x.budget && x.budget ≤ 10000 && x.minint ≤ 10000 &&
      (x.evtSrc = 1 || (x.evtSrc = 2 && x.evtIx < 128 && 1 ≤ x.edge && x.edge ≤ 3)))) &&
    (!x.event || x.evtSrc ≠ 1 || ((sheetRecord c x.evtIx).typ ≠ 0 && taskReads (taskLane s e.1) (sheetRecord c x.evtIx).lane) ||
      (sheetRecord c x.evtIx).typ = 0) &&
    (match (s.task e.1).active with
      | some i => imageMapsOk s c e.1 i
      | none => true)

/-- The tasks of a sheet: no two share a priority (R288). -/
def tasksOk (s : State) (c : ConfigSheet) : Bool := c.tasks.all (taskOk s c) && decide (c.tasks.map (fun e => e.2.prio)).Nodup

/-! ### Metering (R323, R334) -/

/-- A circuit (R323, R334). -/
def circuitOk (s : State) (e : Nat × CircuitCfg) : Bool :=
  let x := e.2
  let n := if x.threePhase then 3 else 1
  let v := f32 x.vnom
  let i := f32 x.inom
  let st := f32 (istartOf x)
  let nl := f32 (noloadOf x)
  let vi := fpProduct v st
  let zero : Fp := .fin false 0 0
  e.1 < 36 && (tabFind e.1 (charter s).circuitLanes).isSome && x.volts.length = n && x.amps.length = n && x.volts.all (· < 12) &&
    x.amps.all (· < 36) && fpIsFinite v && fpIsFinite i && fpLt zero v && fpLt zero i && fpLe i (fpTimes 2000 st) &&
    fpLe (fpTimes 100 st) i && fpLe vi (fpTimes 10 nl) && fpLe (fpTimes 5 nl) (fpTimes 4 vi)

/-- A channel's sensor is one that R318 lists for it. -/
def sensorOk (e : Nat × MeterChannelCfg) : Bool := e.1 < 48 && decide (e.2.sensor ≤ if e.1 < 12 then 0 else 2)

/-- The metering part of a sheet: a current channel serves one circuit (R323); interval and update period are listed codes
(R337, R352). -/
def meteringOk (s : State) (c : ConfigSheet) : Bool :=
  c.meter.circuits.all (circuitOk s) && c.meter.channels.all sensorOk && decide (c.meter.circuits.flatMap (fun e => e.2.amps)).Nodup &&
    1 ≤ c.meter.dint && c.meter.dint ≤ 5 && 1 ≤ c.meter.pointint && c.meter.pointint ≤ 50 && c.meter.lfch < 12

/-! ### Local I/O, access and lift (R611, R615, R617, R619, R623) -/

/-- A universal channel: a listed mode and period, and an emergency map entry at level 1 or 2 of a command point in the input's
write set (R362, R611, R612). -/
def uioOk (s : State) (c : ConfigSheet) (e : Nat × UioCfg) : Bool :=
  e.1 < 24 && e.2.mode ≤ 8 && e.2.deb ≤ 255 && 10 ≤ e.2.uper && e.2.uper ≤ 10000 &&
    (match e.2.emergency with
      | none => true
      | some (i, lvl) => (sheetRecord c i).cmd && (lvl = 1 || lvl = 2) &&
          (match (charter s).emergencyInputs.find? (fun (x : Nat × EmergencyInput) => decide (x.2 = .uio e.1)) with
            | some x => (writeSet s (mkSrc 0 x.1) none).getLsbD (sheetRecord c i).lane
            | none => true))

/-- A reader (R615, R617): on an OSDP port, at most eight a port, its key slot in the access block's lane. -/
def readerOk (s : State) (c : ConfigSheet) (e : Nat × ReaderCfg) : Bool :=
  let p := tabGet {} c.ports e.2.port
  e.1 < 32 && e.2.addr < 64 && p.pers = 2 && p.framing = 1 && (c.readers.countP (fun x => x.2.port = e.2.port)) ≤ 8 &&
    8 ≤ e.2.slot && e.2.slot < 64 && tabGet 0 (charter s).keyLanes e.2.slot = (charter s).accLane

/-- A door (R619). -/
def doorOk (s : State) (c : ConfigSheet) (e : Nat × DoorCfg) : Bool :=
  let x := e.2
  let r := sheetRecord c x.release
  let lane := (charter s).accLane
  e.1 < 32 && (tabFind x.reader c.readers).isSome && r.typ = 1 && r.cmd && r.lane = lane && 3 ≤ x.dlevel && x.dlevel ≤ 16 &&
    1 ≤ x.drelt && x.drelt ≤ 255 && (!x.liften || lane = (charter s).liftLane) &&
    (match x.lockdown with
      | some k => (sheetRecord c k).typ = 1 && (sheetRecord c k).lane = lane
      | none => true)

/-- The local equipment of a sheet. -/
def localOk (s : State) (c : ConfigSheet) : Bool :=
  c.uio.all (uioOk s c) && c.readers.all (readerOk s c) && c.doors.all (doorOk s c) && (usedRecords c).all (fun e => uioTypeOk c e.2) &&
    (match c.lift with
      | some l => l.port < 32 && (tabGet {} c.ports l.port).pers = 0 && 1 ≤ l.ncars && l.ncars ≤ 16
      | none => true)

/-! ### The sheets -/

/-- A mirror that the sheet subscribes: a listed type (R89) and a lane in use (R20, R360). -/
def mirrorOk (s : State) (m : MirrorCfg) : Bool := 1 ≤ m.typ && m.typ ≤ 9 && (charter s).inUse.getLsbD m.lane

/-- Uplinks, PTP and viaduct: media that the table gives (R389), domains (R394), 8 pairs for an abutment, and a pair with a checkpoint
interval of R417 and an abutment that is not its own slot (R409). -/
def viaOk (c : ConfigSheet) : Bool :=
  c.uplinks.all (fun u => u.media ≤ 6) && c.ptp.src ≤ 1 && c.ptp.dom ≤ 127 && c.via.abutments.length ≤ 8 &&
    (match c.via.pair with
      | some x => 200 ≤ x.ckint && x.ckint ≤ 10000 && x.abslot ≤ 0x3F && (x.abslot = 0x3F || x.abslot ≠ c.slot) && x.member ≤ 1
      | none => true)

/-- The least and the greatest number of a type are in order. -/
def boundsOk (typ lo hi : Nat) : Bool := if typ = 9 then lo ≤ hi else fpLe (valueFp typ lo) (valueFp typ hi)

/-- A parapet entry against the points of a configuration sheet (R370). What depends on a point's type and lane is judged where the
record is in use (assumption 118; DEDUCED): the two sheets are installed one after the other. -/
def entryOk (c : ConfigSheet) (e : Nat × EntryCfg) : Bool :=
  let x := e.2
  let r := sheetRecord c x.point
  (e.1 < 32 || 64 ≤ e.1) && e.1 < 65536 && x.kind ≤ 3 &&
    (x.kind ≠ 1 || fpLe (.fin false 0 0) (f32 x.rate)) &&
    (x.kind = 0 || r.typ = 0 ||
      (r.lane = x.lane &&
        (match x.kind with
          | 1 => isFloatType r.typ && boundsOk r.typ x.lo x.hi && !fpIsNan (valueFp r.typ x.safe)
          | 2 => r.typ = 1
          | _ => ((2 ≤ r.typ && r.typ ≤ 6) || r.typ = 9) && boundsOk r.typ x.lo x.hi)))

/-- Every rule under which the module refuses a configuration sheet; `s` holds the charter and parapet sheet beside it. -/
def configOk (s : State) (c : ConfigSheet) : Bool :=
  (usedRecords c).all (recordOk s) && arraysOk c && c.ports.all (portOk s c) && c.maps.length ≤ 262144 && c.maps.all (mapOk s c) &&
    (parapetSheet s).entries.all (entryOk c) && priorityOk s c && loopsOk s c && tasksOk s c && meteringOk s c && localOk s c && viaOk c && 1 ≤ c.chkint && c.chkint ≤ 168 &&
    (c.via.mirrors ++ c.via.keystoneMirrors).all (mirrorOk s) && c.rtc.tsrc ≤ 2 && c.bsc.objects.length ≤ 65536

/-- Every rule under which the module refuses a parapet sheet; the items of the installed configuration sheet must keep their
entries (R367, R386). -/
def parapetOk (s : State) (p : ParapetSheet) : Bool :=
  p.entries.all (entryOk (match s.sheets.config with | some c => c | none => {})) &&
    (match s.sheets.config with
      | some c => c.maps.all (fun m => !m.cmd || itemEntryOk s m) && priorityOk s c
      | none => true)

/-- Ranges of a port do not overlap (R211). -/
def rangesApart (c : Charter) : Bool :=
  c.ranges.all (fun a => decide (a.2.low ≤ a.2.high) && c.ranges.all (fun b => a.1 = b.1 || a.1 / 32 ≠ b.1 / 32 || a.2.ide != b.2.ide ||
    a.2.high < b.2.low || b.2.high < a.2.low))

/-- A page that the charter may move (R359): UIO, ACC, LIFT, and the three pages of a port together. -/
def movable (c : Charter) (e : Nat × Nat) : Bool :=
  let p := e.1
  p = 0x070 || p = 0x078 || p = 0x079 ||
    (0x100 ≤ p && p ≤ 0x15F && [0, 1, 2].all (fun k => tabGet 0 c.pageLanes (0x100 + 0x20 * k + p % 32) = e.2))

/-- Every rule under which the module refuses a charter (R211, R359, R360, R541); `s` holds it beside the installed sheets. The
installed configuration sheet meets the rules, or one that this service session has delivered. -/
def charterOk (s : State) (c : Charter) : Bool :=
  c.inUse.getLsbD 0 && c.inUse.getLsbD 255 && c.pageLanes.all (movable c) && (List.range 8).all (fun n => tabGet 0 c.keyLanes n = 0) &&
    rangesApart c &&
    (match s.sheets.config with
      | some x => configOk s x || s.upd.delivered.any (fun y => configOk { s with sheets := { s.sheets with config := some y } } y)
      | none => true)

/-! ### The program store (R306) -/

/-- Bytes of the program store in use: sheets and task images. -/
def storeUsed (s : State) : Nat :=
  (match s.sheets.charter with | some c => c.size | none => 0) + (match s.sheets.parapet with | some c => c.size | none => 0) +
    (match s.sheets.config with | some c => c.size | none => 0) +
    (s.cte.tasks.map (fun e => (match e.2.active with | some i => i.size | none => 0) +
      (match e.2.staged with | some i => i.size | none => 0))).sum

/-- The store as it would stand fits in 16 MiB. -/
def storeFits (s : State) : Bool := storeUsed s ≤ 16777216

end Sys2Proof.Machine
end

