-- ==== Sys2Proof/Machine/SheetLoad.lean ====
section
/-! DEFINITION. What the installed sheets put into the registers, at a start and at an installation: charter (R358, R361),
parapet sheet (R368) and configuration sheet (R131, R148, R159, R279, R309). -/

namespace Sys2Proof.Machine

/-! ### Register fields in bulk -/

/-- Sets several fields in order. -/
def setAll (xs : List (RegField × Nat)) (s : State) : State := xs.foldl (fun s x => s.set x.1 x.2) s

/-- The words `w0` to before `w1` of a page return to their Reset values. -/
def eraseWords (p w0 w1 : Nat) (s : State) : State :=
  { s with regs := s.regs.filter (fun (e : Nat × Nat) => !(wordKey p w0 ≤ e.1 && e.1 < wordKey p w1)) }

/-- Adds `v` to a field that holds several byte lanes. -/
def addTo (f : RegField) (v : Nat) (s : State) : State := s.set f (s.get f + v)

/-- The lane set as words of 32 bits. -/
def setLaneWords (f : Nat → RegField) (l : BitVec 256) (s : State) : State :=
  (List.range 8).foldl (fun s k => s.set (f k) (l.toNat / 2 ^ (32 * k))) s

/-! ### The charter -/

/-- Node lanes and identifier ranges of the ports, by personality (R170, R211). -/
def loadLanes (s : State) : State :=
  let s := (List.range 32).foldl (fun s p => eraseWords (0x120 + p) 0x100 0x148 (eraseWords (0x140 + p) 0x20 0x30 s)) s
  let s := (charter s).nodeLanes.foldl (fun s (e : Nat × Nat) =>
    let p := e.1 / 64
    let j := e.1 % 64
    if p < 32 ∧ pers s p ≠ 1 then addTo ((Reg.LINK_NLANE_LANES.inst p).ix (j / 4)) (e.2 * 256 ^ (j % 4)) s else s) s
  (charter s).ranges.foldl (fun s (e : Nat × IdRange) =>
    let p := e.1 / 32
    let k := e.1 % 32
    if p < 32 ∧ pers s p = 1 then
      let s := setAll [((Reg.PBUS_RNGLO_VALID.inst p).ix k, 1), ((Reg.PBUS_RNGLO_IDE.inst p).ix k, b2n e.2.ide),
        ((Reg.PBUS_RNGLO_RXQ.inst p).ix k, b2n e.2.rxq), ((Reg.PBUS_RNGLO_LOW.inst p).ix k, e.2.low),
        ((Reg.PBUS_RNGHI_HIGH.inst p).ix k, e.2.high)] s
      addTo ((Reg.PBUS_RNGLN_LANES.inst p).ix (k / 4)) (e.2.lane * 256 ^ (k % 4)) s
    else s) s

/-- The registers that the charter loads (R358, R387). -/
def loadCharter (s : State) : State :=
  let c := charter s
  let s := setAll [(Reg.LANE_STAT_CHVALID, 1), (Reg.LANE_CHEP_EPOCH, c.epoch)] s
  let s := (List.range 8).foldl (fun s k => s.set (Reg.LANE_CHHASH.ix k) (c.digest / 2 ^ (32 * k))) s
  let s := setLaneWords (fun k => Reg.LANE_LINUSE_BITS.ix k) c.inUse s
  let s := eraseWords 0x048 0x40 0xF0 s
  let s := c.emergencySets.foldl (fun s (e : Nat × BitVec 256) =>
    if 1 ≤ e.1 ∧ e.1 ≤ 15 then setLaneWords (fun k => Reg.LANE_EMGSET_BITS.ix2 (e.1 - 1) k) e.2 s else s) s
  let s := c.fwSets.foldl (fun s (e : Nat × BitVec 256) =>
    if e.1 < 6 then setLaneWords (fun k => Reg.LANE_FWSET_BITS.ix2 e.1 k) e.2 s else s) s
  let s := (List.range 256).foldl (fun s l => s.set (Reg.PNT_QUOTA_QLIM.ix l) (tabGet 0 c.quotas l)) s
  loadLanes s

/-! ### The parapet sheet -/

/-- The transmit-rate ceiling of a PBUS port (R368). -/
def loadCeil (p : Nat) (s : State) : State :=
  let l : PortLimits := if pers s p = 1 then tabGet {} (parapetSheet s).ports p else {}
  setAll [(Reg.PBUS_CEIL_TXCEIL.inst p, l.txceil), (Reg.PBUS_CEIL_TXBURST.inst p, l.txburst)] s

/-- The registers that the parapet sheet loads (R368, R379, R388). -/
def loadParapet (s : State) : State :=
  let t := parapetSheet s
  let s := setAll [(Reg.PRPT_PSEP_EPOCH, t.epoch), (Reg.PRPT_LIFTC_LCRATE, t.lcrate), (Reg.PRPT_LIFTC_LCBURST, t.lcburst),
    (Reg.PRPT_NENT_COUNT, (entriesInUse s).length), (Reg.PRPT_STAT_NOSHEET, 0)] s
  let s := (List.range 32).foldl (fun s p =>
    let l : PortLimits := tabGet {} t.ports p
    loadCeil p (setAll [(Reg.SEG_FCEIL_CEIL.inst p, l.ceil), (Reg.SEG_FCEIL_BOMAX.inst p, l.bomax),
      (Reg.SEG_FCEIL_TRIPMAX.inst p, l.tripmax)] s)) s
  latchSheet s

/-- Every port's effective feed limit follows `FLIM` and `CEIL` (R180). -/
def applyLimits (s : State) : State := (List.range 32).foldl (fun s p => applyLimit p 0 s) s

/-! ### The configuration sheet -/

/-- A port that the sheet does not define reads 0. -/
def noPort : PortCfg :=
  { bint := 0, bmiss := 0, jointo := 0, flim := 0, cmdto := 0, respto := 0, fpmport := 0 }

/-- The LINK fields that apply to the personality: 0 T1L, 2 S485 (R196). -/
def linkFields (p : Nat) (c : PortCfg) : List (RegField × Nat) :=
  let t := if c.pers = 0 then 1 else 0
  let n := if c.pers = 2 then 1 else 0
  [(Reg.LINK_LCFG_CMDTO.inst p, c.cmdto * t), (Reg.LINK_LCFG_T1LLVL.inst p, c.t1llvl * t), (Reg.LINK_FPMPORT_PORT.inst p, c.fpmport * t),
   (Reg.LINK_LCFG_RESPTO.inst p, c.respto * n), (Reg.LINK_LCFG_BIAS.inst p, b2n c.bias * n), (Reg.LINK_LCFG_TERM.inst p, b2n c.term * n),
   (Reg.LINK_LCFG_SRATE.inst p, c.srate * n), (Reg.LINK_LCFG_FRAMING.inst p, c.framing * n)]

/-- The LINK fields that a running port fills and that do not apply to personality `k` (R196, R212). -/
def foreignFields (p k : Nat) : List RegField :=
  (if k = 0 then [] else [Reg.LINK_STAT_LINKUP, Reg.LINK_STAT_ANDONE, Reg.LINK_STAT_LVL10, Reg.LINK_SQI_LEVEL, Reg.LINK_LINKDN_COUNT,
      Reg.LINK_FAULT_LINKDN].map (fun f => f.inst p)) ++
    (if k = 2 then [] else [Reg.LINK_TIMEOUT_COUNT.inst p]) ++
    (if k ≠ 1 then [] else [Reg.LINK_FAULT_UNKNOWN, Reg.LINK_FAULT_RXOVF, Reg.LINK_RXFRM_COUNT, Reg.LINK_TXFRM_COUNT, Reg.LINK_CRCERR_COUNT,
      Reg.LINK_UNKNOWN_COUNT, Reg.LINK_RETRY_COUNT].map (fun f => f.inst p))

/-- A port takes another personality: fields that do not apply to it read 0 (R196). -/
def clearLink (p : Nat) (s : State) : State :=
  let s := setAll ((foreignFields p (pers s p)).map (fun f => (f, 0))) s
  if pers s p = 0 then s else setHubAddr p 0 s

/-- The single fields of a PBUS page (R203 to R207, R242); `on` is 1 on a port with the PBUS personality. -/
def pbusFields (p on : Nat) (c : PbusCfg) : List (RegField × Nat) :=
  ([(Reg.PBUS_NBT_NBRP, c.nbrp - 1), (Reg.PBUS_NBT_NTSEG1, c.ntseg1 - 1), (Reg.PBUS_NBT_NTSEG2, c.ntseg2 - 1),
    (Reg.PBUS_NBT_NSJW, c.nsjw - 1), (Reg.PBUS_DBT_DBRP, c.dbrp - 1), (Reg.PBUS_DBT_DTSEG1, c.dtseg1 - 1),
    (Reg.PBUS_DBT_DTSEG2, c.dtseg2 - 1), (Reg.PBUS_DBT_DSJW, c.dsjw - 1), (Reg.PBUS_TDC_TDCEN, b2n c.tdcen),
    (Reg.PBUS_TDC_TDCO, c.tdco), (Reg.PBUS_PCFG_FDEN, b2n c.fden), (Reg.PBUS_PCFG_TRIPLE, b2n c.triple),
    (Reg.PBUS_PCFG_TTEN, b2n c.tten), (Reg.PBUS_PCFG_BCNBRS, b2n c.bcnbrs), (Reg.PBUS_PCFG_TERM, b2n c.term),
    (Reg.PBUS_PCFG_ECHOBASE, c.echobase), (Reg.PBUS_PCFG_BCNID, c.bcnid), (Reg.PBUS_TTCFG_CYCLEN, c.cyclen),
    (Reg.PBUS_TTCFG_NCYCEXP, c.ncycexp), (Reg.PBUS_TTCFG_REFID, c.refid), (Reg.PBUS_TTCFG2_BOWAIT, c.bowait),
    (Reg.PBUS_TTCFG2_TXEN, c.txen), (Reg.PBUS_MSGCNT_COUNT, c.msgs.length),
    (Reg.PBUS_SHCFG_SHSLOT0, c.shslots.getD 0 0), (Reg.PBUS_SHCFG_SHSLOT1, c.shslots.getD 1 0),
    (Reg.PBUS_SHCFG_SHSLOT2, c.shslots.getD 2 0), (Reg.PBUS_SHCFG_SHSLOT3, c.shslots.getD 3 0)] : List (RegField × Nat)).map
    (fun x => (x.1.inst p, x.2 * on))

/-- Slots, columns and matrix cells of a PBUS page (R217, R223 to R225). -/
def loadMatrix (p : Nat) (c : PbusCfg) (s : State) : State :=
  let s := c.owners.foldl (fun s (e : Nat × Bool) => s.set ((Reg.PBUS_SLOTCFG_OWNER.inst p).ix e.1) (b2n e.2)) s
  let s := c.arbs.foldl (fun s (e : Nat × Bool) => s.set ((Reg.PBUS_SLOTCFG_ARB.inst p).ix e.1) (b2n e.2)) s
  let s := c.cols.zipIdx.foldl (fun s (e : (Nat × Nat) × Nat) =>
    setAll [((Reg.PBUS_COL_START.inst p).ix e.2, e.1.1), ((Reg.PBUS_COL_LEN.inst p).ix e.2, e.1.2)] s) s
  c.cells.foldl (fun s (e : Nat × Nat) =>
    addTo ((Reg.PBUS_CELLW.inst p).ix2 (e.1 / 32) (e.1 % 32 / 4)) (e.2 * 256 ^ (e.1 % 4)) s) s

/-- The registers of a segment port that the sheet loads. -/
def loadPort (p : Nat) (s : State) : State :=
  let listed := (tabFind p (sheet s).ports).isSome
  let c := if listed then portCfg s p else noPort
  let s := setAll [(Reg.SEG_PCFG_JOINTO.inst p, c.jointo), (Reg.SEG_PCFG_BMISS.inst p, c.bmiss), (Reg.SEG_PCFG_BINT.inst p, c.bint),
    (Reg.SEG_PCFG_PERS.inst p, c.pers), (Reg.SEG_STAT_PERS.inst p, c.pers), (Reg.SEG_NEXPLO_BITS.inst p, c.nexp),
    (Reg.SEG_NEXPHI_BITS.inst p, c.nexp / 2 ^ 32), (Reg.SEG_CFGEP_EPOCH.inst p, c.cfgep), (Reg.SEG_FCFG_SHEDPRI.inst p, c.shedpri),
    (Reg.SEG_FCFG_FMODE.inst p, c.fmode), (Reg.SEG_FCFG_FLIM.inst p, c.flim), (Reg.SEG_SVYVF_VF.inst p, c.vf)] s
  let s := setAll (linkFields p c) s
  let bus := listed && c.pers = 1
  let s := setAll (pbusFields p (b2n bus) c.pbus) s
  let s := eraseWords (0x120 + p) 0x200 0x400 (eraseWords (0x120 + p) 0x80 0xE0 s)
  loadCeil p (if bus then loadMatrix p c.pbus s else s)

/-- Viaduct, uplinks, pair and BACnet/SC. -/
def loadNetwork (s : State) : State :=
  let c := sheet s
  let v := c.via
  let u := fun k => c.uplinks.getD k ({} : UplinkCfg)
  let s := setAll [(Reg.VIA_IDENT_VIAID, c.viaid), (Reg.VIA_IDENT_RANK, v.rank), (Reg.VIA_IDENT_SLOT, c.slot),
    (Reg.UPL_CFG_ROLE, c.ptp.role), (Reg.UPL_CFG_SCOPE, c.ptp.scope), (Reg.UPL_CFG_PRIO1, c.ptp.prio1),
    (Reg.UPL_CFG_PRIO2, c.ptp.prio2), (Reg.UPL_CFG_PTPDOM, c.ptp.dom), (Reg.TBASE_CFG_SRC, c.ptp.src),
    (Reg.TBASE_CFG_UTCOFF, c.ptp.utcoff), (Reg.PAP_CFG_PORT, c.papPort), (Reg.PAP_CFG_V0EN, b2n (u 0).pap),
    (Reg.PAP_CFG_V1EN, b2n (u 1).pap), (Reg.BSC_DEVINST_INST, c.bsc.inst), (Reg.BSC_NOBJ_COUNT, c.bsc.objects.length),
    (Reg.BSC_VMACLO_ADDR, c.bsc.vmac), (Reg.BSC_VMACHI_ADDR, c.bsc.vmac / 2 ^ 32), (Reg.CSN_CFG_CHKINT, c.chkint)] s
  let s := [0, 1].foldl (fun s k => setAll [(Reg.UPL_PCFG_MEDIA.ix k, (u k).media), (Reg.UPL_PCFG_VID.ix k, (u k).vid),
    (Reg.UPL_PCFG_FWD.ix k, b2n (u k).fwd)] s) s
  let s := uplinksFollow s
  let s := if s.bit Reg.TBASE_CFG_SRC && s.bit Reg.TBASE_STAT_LOCK then setLock false s else s
  let s := s.setBit Reg.PRPT_AO_PAIRED v.pair.isSome
  match v.pair with
  | some x =>
    let s := setAll [(Reg.PAIR_CFG_MEMB, x.member), (Reg.PAIR_CFG_PREFER, b2n x.prefer), (Reg.PAIR_CFG_ABSLOT, x.abslot),
      (Reg.PAIR_CFG_CKINT, x.ckint)] s
    if pairRole s = 0 then s.set Reg.PAIR_STAT_ROLE 3 else s
  | none => setAll [(Reg.PAIR_CFG_MEMB, 0), (Reg.PAIR_CFG_PREFER, 0), (Reg.PAIR_CFG_ABSLOT, 0), (Reg.PAIR_CFG_CKINT, 0),
      (Reg.PAIR_STAT_ROLE, 0), (Reg.PRPT_LEASEENDLO_US, 0), (Reg.PRPT_LEASEENDHI_US, 0)]
      { s with pair := { s.pair with leaseEnd := 0 } }

/-- Engines, calendar clock and local blocks: their counts and options. -/
def loadEngines (s : State) : State :=
  let c := sheet s
  let mask := (c.meter.circuits.map (fun e => 2 ^ e.1)).sum
  let tsrc := s.get Reg.RTC_CFG_TSRC
  let s := setAll [(Reg.CLE_ACTIVE_COUNT, c.loops.length), (Reg.CLE_GRPCNT_COUNT, c.groups.length),
    (Reg.CLE_LOAD_DENSITY, (loopDensity c * 65536).floor.toNat), (Reg.MTR_CFG_DINT, c.meter.dint),
    (Reg.MTR_CFG_POINTINT, c.meter.pointint), (Reg.MTR_CFG_FNOM, b2n c.meter.sixtyHz), (Reg.MTR_CFG_LFCH, c.meter.lfch),
    (Reg.MTR_CIRLO_MASK, mask), (Reg.MTR_CIRHI_MASK, mask / 2 ^ 32), (Reg.RTC_CFG_PTPSET, b2n c.rtc.ptpset),
    (Reg.RTC_CFG_WDMODE, b2n c.rtc.wdmode), (Reg.RTC_CFG_TSRC, c.rtc.tsrc), (Reg.RTC_ZONE_MIN, toField 11 c.rtc.zone)] s
  let s := if tsrc = c.rtc.tsrc then s else trimRestart s
  let s := (List.range 24).foldl (fun s k =>
    let u : UioCfg := match tabFind k c.uio with | some u => u | none => { uper := 0 }
    setAll [(Reg.UIO_UCFG_UMODE.ix k, u.mode), (Reg.UIO_UCFG_DEB.ix k, u.deb), (Reg.UIO_UCFG_UPER.ix k, u.uper)] s) s
  match c.lift with
  | some l => setAll [(Reg.LIFT_CFG_PORT, l.port), (Reg.LIFT_CFG_MINFL, l.minfl), (Reg.LIFT_CFG_MAXFL, l.maxfl),
      (Reg.LIFT_CFG_NCARS, l.ncars)] s
  | none => setAll [(Reg.LIFT_CFG_PORT, 0), (Reg.LIFT_CFG_MINFL, 0), (Reg.LIFT_CFG_MAXFL, 0), (Reg.LIFT_CFG_NCARS, 0)] s

/-- Every register that the configuration sheet loads. -/
def loadConfig (s : State) : State :=
  loadLanes (loadEngines (loadNetwork ((List.range 32).foldl (fun s p => loadPort p s) s)))

/-- Firmware sets EN for each port that the sheet enables (R159). -/
def enableSheetPorts (s : State) : State :=
  (List.range 32).foldl (fun s p => if (portCfg s p).enable then portEnable p s else s) s

/-! ### Installation in a running module -/

/-- The MRAM images that a new sheet leaves: those of its persistent records and command points of the same type, with SV of
every command point at the sheet's relinquish default (R131). -/
def imagesFor (old new : ConfigSheet) (images : Table PointRec) : Table PointRec :=
  (usedRecords new).foldl (fun t (e : Nat × PointRec) =>
    let o := sheetRecord old e.1
    let i : PointRec := if o.typ = e.2.typ && o.cmd == e.2.cmd then tabGet {} images e.1 else {}
    if e.2.cmd then tabPut {} e.1 { i with sv := e.2.sv } t
    else if e.2.persist then tabPut {} e.1 i t else t) []

/-- The store is rebuilt for the sheet in force, which replaces `old` (R131). A force whose point the new sheet no longer has, or has
with another type, is dropped (assumption 106; DESIGN CHOICE, R121 is silent). -/
def replaceStore (old : ConfigSheet) (s : State) : State :=
  let s := s.pt.dirty.foldl (fun s (e : Nat × Nat) => writeUnit e.1 s) s
  let s := refuseAll s
  let new := sheet s
  let keep := fun i => (sheetRecord new i).typ ≠ 0 && (sheetRecord new i).typ = (sheetRecord old i).typ
  let s : State := { s with pt := { s.pt with
      images := imagesFor old new s.pt.images, forces := s.pt.forces.filter (fun e => keep e.1),
      oosMap := s.pt.oosMap.filter (fun e => (sheetRecord new e.1).typ ≠ 0) } }
  (storeRebuild [] s).set Reg.PNT_DIRTY_COUNT 0

/-- A switch that a new sheet does not let stay closed opens (R179); one that is held on a port in OFF stays as its mode leaves it
(R188). -/
def feedUnderSheet (p : Nat) (s : State) : State :=
  if s.get (Reg.SEG_FCFG_FMODE.inst p) = 0 || (2 ≤ pstate s p && pstate s p ≤ 5 && !mayClose s p) then feedOpen p s else s

/-- A port under a new sheet: a change of personality takes it to OFF, opens its feed and enables it again (R148). -/
def renewPort (old : ConfigSheet) (p : Nat) (s : State) : State :=
  if (tabGet {} old.ports p).pers ≠ (portCfg s p).pers then
    let s := portOff p false s
    let s := showMonitor p (clearLink p (loadPort p (busEmpty p s)))
    if s.bit (Reg.SEG_CTRL_EN.inst p) then portEnable p s else s
  else
    let s := showMonitor p (clearLink p (loadPort p s))
    let s := feedUnderSheet p (setNup p (nup s p &&& nexp s p) s)
    if pers s p = 1 then busEmpty p s else s

/-- The configuration sheet in force takes effect in place of `old`, in STANDBY and SERVICE: ports, registers, store, loops,
tasks and subscriptions. -/
def takeConfig (old : ConfigSheet) (s : State) : State :=
  let s := (List.range 32).foldl (fun s p => renewPort old p s) s
  let s := applyLimits (loadLanes (loadEngines (loadNetwork s)))
  let s := replaceStore old s
  let s := cteReload [] (cleReload s)
  let s := (List.range 64).foldl (fun s j => if slotUp s j then subscribeTo j s else s) (keystoneFollow s)
  failedPorts (enableSheetPorts s)

end Sys2Proof.Machine
end

