-- ==== Sys2Proof/Machine/Uio.lean ====
section
/-! DEFINITION. Universal I/O (spec/17_local_io_access_lift.md, R610 to R614, R626, R627). -/

namespace Sys2Proof.Machine

/-- The mode of a universal channel. -/
def uioMode (s : State) (n : Nat) : Nat := s.get (Reg.UIO_UCFG_UMODE.ix n)

/-- Inputs are converted and submitted (R626): STANDBY to SAFE-HOLD, while the fast domains run. -/
def uioRuns (s : State) : Bool := 2 ≤ mode s && mode s ≤ 6 && s.pwr.powered && s.clk.cf2.isNone

/-- 99 % of the range of an input (R611, R612): 10.5 V, 24 mA, 120 °C from −40 °C, 200 °C from −50 °C, 10 kHz. -/
def nearFull (m : Nat) (x : Int) (hz : Nat) : Bool :=
  match m with
  | 1 => decide (10395 ≤ x)
  | 2 => decide (23760 ≤ x)
  | 3 => decide (118400 ≤ x)
  | 4 => decide (197500 ≤ x)
  | 6 => decide (9900 ≤ hz)
  | _ => false

/-- A current below 3.6 mA or above 21.0 mA, or a resistance outside the range (R612). -/
def readsBad (m : Nat) (r : UioReading) : Bool :=
  if m = 2 then r.mean < 3600 || 21000 < r.mean else (m = 3 || m = 4) && r.outside

/-- The quality of a reading as a flag (R612). -/
def readingFlag (m hz : Nat) (r : UioReading) : ValueFlag :=
  if readsBad m r then .invalid else if nearFull m r.mean hz then .uncertain else .valid

/-- `STAT.IFAULT` and `STAT.OFAULT` follow the channels and the binary outputs. -/
def showUio (s : State) : State :=
  let s := s.setBit Reg.UIO_STAT_IFAULT ((List.range 24).any (fun n => s.bit (Reg.UIO_USTAT_OPEN.ix n)))
  s.setBit Reg.UIO_STAT_OFAULT ((List.range 24).any (fun n => s.bit (Reg.UIO_USTAT_OUTFLT.ix n)) || s.get Reg.UIO_BOSTAT_SHORT ≠ 0)

/-- A binary64 value for the points bound to a quantity, each in its own type. -/
def localFloat (inst qty v : Nat) (flag : ValueFlag) (s : State) : State :=
  submitAll ((localPoints s inst qty 0).map (fun i =>
    { src := mkSrc 2 inst, target := .idx i, kind := .value (typedFloat (s.point i).typ v) flag })) s

/-- The emergency map entry of a channel that the charter names (R95, R362): a class 0 level write. -/
def uioEmergency (n : Nat) (v : Nat → Nat) (s : State) : State :=
  match (charter s).emergencyInputs.find? (fun (x : Nat × EmergencyInput) => decide (x.2 = .uio n)), (tabGet {} (sheet s).uio n).emergency with
  | some e, some (i, lvl) => submit { src := mkSrc 0 e.1, target := .idx i, kind := .level lvl (v (s.point i).typ) } s
  | _, _ => s

/-- The contact state is submitted (R610, R612). -/
def contactUpdate (n : Nat) (flag : ValueFlag) (s : State) : State :=
  let v := s.get (Reg.UIO_USTAT_LEVEL.ix n)
  uioEmergency n (fun _ => v) (localUpdate n 0 0 v flag s)

/-- UIO_INPUT_UPDATE (R612): the end of an update period. -/
def inputUpdate (n : Nat) (r : UioReading) (s : State) : State :=
  let m := uioMode s n
  if !uioRuns s || m = 0 || 7 ≤ m then s
  else
    let per := max 1 (s.get (Reg.UIO_UCFG_UPER.ix n))
    let s := s.reach (tabGet 0 s.uio.sampled n + per * msec)
    let s : State := { s with uio := { s.uio with sampled := tabInsert n s.now s.uio.sampled } }
    let hz := r.pulses * 1000 / per
    let flag := readingFlag m hz r
    let s := (s.set (Reg.UIO_URAW.ix n) r.raw.toNat).setBit (Reg.UIO_USTAT_OPEN.ix n) (decide (flag = .invalid))
    let s := s.setBit (Reg.UIO_USTAT_OVR.ix n) (decide (flag = .uncertain))
    let s := if flag = .invalid then s.raise Reg.UIO_FAULT_OPENWIRE else if flag = .uncertain then s.raise Reg.UIO_FAULT_OVRANGE else s
    let s := showUio s
    if m ≤ 4 then uioEmergency n (fun t => typedFloat t r.value.toNat) (localFloat n 0 r.value.toNat flag s)
    else if m = 5 then contactUpdate n flag s
    else
      let s := contactUpdate n flag (s.countWrap (Reg.UIO_UCNT.ix n) r.pulses)
      let s := localUpdate n 1 0 (s.get (Reg.UIO_UCNT.ix n)) flag s
      localFloat n 2 (f64Div (f64OfInt (r.pulses * 1000 : Nat)) (f64OfInt (per : Nat))) flag s

/-- UIO_INPUT_UPDATE (R612). -/
def execUioInputUpdate (channel : Fin 24) (reading : UioReading) (s : State) : Host.Outcome State Fault Refusal :=
  done s (inputUpdate channel.val reading s)

/-- UIO_CONTACT_CHANGE (R612): a new level has held for DEB ms. -/
def contactChange (n : Nat) (level : Bool) (s : State) : State :=
  let m := uioMode s n
  if !uioRuns s || (m ≠ 5 && m ≠ 6) || s.bit (Reg.UIO_USTAT_LEVEL.ix n) = level then s
  else
    let s := s.reach (s.now + s.get (Reg.UIO_UCFG_DEB.ix n) * msec)
    let s := sourceEdge (.uio n) level (s.setBit (Reg.UIO_USTAT_LEVEL.ix n) level)
    if m = 5 then contactUpdate n .valid s else s

/-- UIO_CONTACT_CHANGE (R612). -/
def execUioContactChange (channel : Fin 24) (level : Bool) (s : State) : Host.Outcome State Fault Refusal :=
  done s (contactChange channel.val level s)

/-! ### Outputs (R613, R614) -/

/-- The value that drives a local output now: the parapet's release, or the always-on latch in SAFE, through resets, in ZEROIZED and
under CLKFAIL2 (R377, R379, R480); none where the output is disconnected or off. -/
def localOutput (s : State) (e : Nat) : Option Nat :=
  if s.clk.cf2.isSome then (if s.bit Reg.PRPT_AO_PAIRED then none else tabFind e s.prpt.latches)
  else match s.prpt.out with
    | .dflt => none
    | .released => none
    | .safe => tabFind e s.prpt.latches
    | .drive => if (entryCfg s e).kind = 0 then none else some (entryState s e).rel

/-- The point that entry `e` guards. -/
def guardedPoints (s : State) (e : Nat) : List Nat := if (entryCfg s e).kind = 0 then [] else [(entryCfg s e).point]

/-- UIO_OUTPUT_FAULT (R613): an output at its current limit or compliance voltage for 100 ms. -/
def outputFault (n : Nat) (s : State) : State :=
  if (uioMode s n ≠ 7 && uioMode s n ≠ 8) || (localOutput s n).isNone || s.bit (Reg.UIO_USTAT_OUTFLT.ix n) then s
  else
    let s := s.reach (s.now + 100 * msec)
    let s := showUio ((s.raise (Reg.UIO_USTAT_OUTFLT.ix n)).raise Reg.UIO_FAULT_OUTFAULT)
    reportAll ((guardedPoints s n).map .undelivered) s

/-- UIO_OUTPUT_FAULT (R613). -/
def execUioOutputFault (channel : Fin 24) (s : State) : Host.Outcome State Fault Refusal := done s (outputFault channel.val s)

/-- UIO_OUTPUT_FAULT_CLEAR (R613): the fault has been absent for 100 ms. -/
def outputFaultClear (n : Nat) (s : State) : State :=
  if !s.bit (Reg.UIO_USTAT_OUTFLT.ix n) then s
  else
    let s := s.reach (s.now + 100 * msec)
    let s := showUio (s.set (Reg.UIO_USTAT_OUTFLT.ix n) 0)
    reportAll ((guardedPoints s n).map .delivered) s

/-- UIO_OUTPUT_FAULT_CLEAR (R613). -/
def execUioOutputFaultClear (channel : Fin 24) (s : State) : Host.Outcome State Fault Refusal :=
  done s (outputFaultClear channel.val s)

/-- The parapet releases 1 to binary output `k`. -/
def boAsked (s : State) (k : Nat) : Bool := match localOutput s (24 + k) with | some v => v ≠ 0 | none => false

/-- Binary output `k` is on (R614): a tripped switch is open. -/
def boOn (s : State) (k : Nat) : Bool := boAsked s k && !(s.get Reg.UIO_BOSTAT_SHORT).testBit k

/-- `BOLVL`: the live state of the switches. -/
def boLevels (s : State) : Nat := ((List.range 8).map (fun k => if boOn s k then 2 ^ k else 0)).sum

/-- A switch trips: it opens and is tried again after 1 s (R614). -/
def boTrip (k : Nat) (s : State) : State :=
  let s := s.set Reg.UIO_BOSTAT_SHORT (maskSet (s.get Reg.UIO_BOSTAT_SHORT) k)
  let s := showUio ((s.raise Reg.UIO_FAULT_BOSHORT).countSat Reg.UIO_BOTRIP_COUNT 1)
  { s with uio := { s.uio with boTried := tabInsert k s.now s.uio.boTried } }

/-- BINARY_OUTPUT_SHORT (R614): more than 0.8 A for 20 µs. -/
def boShort (k : Nat) (s : State) : State :=
  if boOn s k then
    let s := boTrip k (s.reach (s.now + 20 * usec))
    reportAll ((guardedPoints s (24 + k)).map .undelivered) s
  else s

/-- BINARY_OUTPUT_SHORT (R614). -/
def execBinaryOutputShort (output : Fin 8) (s : State) : Host.Outcome State Fault Refusal := done s (boShort output.val s)

/-- BINARY_OUTPUT_RECLOSE (R614): every 1 s while the parapet releases 1; the short is still there, or gone. -/
def boReclose (k : Nat) (shorted : Bool) (s : State) : State :=
  if !(s.get Reg.UIO_BOSTAT_SHORT).testBit k then s
  else
    let s := s.reach (tabGet 0 s.uio.boTried k + second)
    if !boAsked s k then s
    else if shorted then boTrip k s
    else
      let s := showUio (s.set Reg.UIO_BOSTAT_SHORT (maskClear (s.get Reg.UIO_BOSTAT_SHORT) k))
      reportAll ((guardedPoints s (24 + k)).map .delivered) s

/-- BINARY_OUTPUT_RECLOSE (R614). -/
def execBinaryOutputReclose (output : Fin 8) (shorted : Bool) (s : State) : Host.Outcome State Fault Refusal :=
  done s (boReclose output.val shorted s)

/-- BINARY_OUTPUT_OPEN_LOAD (R614): an open switch sees no load voltage; once it sees one again the bit clears (DEDUCED). -/
def boOpenLoad (k : Nat) (voltage : Bool) (s : State) : State :=
  let m := s.get Reg.UIO_BOSTAT_OPEN
  if voltage then s.set Reg.UIO_BOSTAT_OPEN (maskClear m k)
  else if boOn s k then s
  else (s.set Reg.UIO_BOSTAT_OPEN (maskSet m k)).raise Reg.UIO_FAULT_BOOPEN

/-- BINARY_OUTPUT_OPEN_LOAD (R614). -/
def execBinaryOutputOpenLoad (output : Fin 8) (voltage : Bool) (s : State) : Host.Outcome State Fault Refusal :=
  done s (boOpenLoad output.val voltage s)

end Sys2Proof.Machine
end

