-- ==== Sys2Proof/Machine/Lift.lean ====
section
/-! DEFINITION. The lift interface (spec/17_local_io_access_lift.md, R622 to R625, R629; R376, R382). -/

namespace Sys2Proof.Machine

/-- The lift interface is configured on a T1L port. -/
def liftPort (s : State) : Option Nat := (sheet s).lift.map (fun l => l.port)

/-- The port runs, so that messages leave and arrive (R189, R625). -/
def liftRuns (s : State) : Bool :=
  match liftPort s with
  | some p => pers s p = 0 && pstate s p = 4 && s.bit (Reg.LINK_STAT_LINKUP.inst p)
  | none => false

/-- A message of the module to the gateway with its header (R623). -/
def liftSend (typ : Nat) (body : List Nat) (s : State) : State :=
  match liftPort s with
  | none => s
  | some p =>
    let q := s.lift.seq
    let s : State := { s with lift := { s.lift with seq := (q + 1) % 65536 } }
    if liftRuns s then s.emit (.lift p ([1, typ] ++ leBytes 2 q ++ body)) else s

/-! ### Calls (R376, R382, R625) -/

/-- The tokens of the call-rate bucket in 60 × 10^9ths; a full bucket is not stored (R376). -/
def liftTokens (s : State) : Nat :=
  let full := s.get Reg.PRPT_LIFTC_LCBURST * (60 * second)
  match s.prpt.liftTokens with
  | none => full
  | some t => min full (t + (s.now - s.prpt.liftAt) * s.get Reg.PRPT_LIFTC_LCRATE)

/-- Takes a token, if there is one. -/
def liftToken (s : State) : Option State :=
  let t := liftTokens s
  if t < 60 * second then none
  else some { s with prpt := { s.prpt with liftTokens := some (t - 60 * second), liftAt := s.now } }

/-- The result of a host call is shown in its requester's copy. -/
def callResult (c : LiftCall) (result car eta : Nat) (s : State) : State :=
  match c.copy with
  | none => s
  | some r => setAll [(Reg.LIFT_CALLRES_BUSY.by r, 0), (Reg.LIFT_CALLRES_DONE.by r, 1), (Reg.LIFT_CALLRES_RESULT.by r, result),
      (Reg.LIFT_CALLRES_CAR.by r, car), (Reg.LIFT_CALLRES_ETA.by r, eta)] s

/-- The worst-case duration of a DCALL frame of 12 bytes (R382). -/
def callNs (s : State) : Nat := match liftPort s with | some p => fpmNs s p 12 | none => 0

/-- A DCALL is sent, if its frame fits into the lease; else it stays pending (R382). -/
def callSend (c : LiftCall) (s : State) : State :=
  let put := fun (x : LiftCall) (s : State) =>
    { s with lift := { s.lift with calls := s.lift.calls.map (fun y => if y.id = x.id then x else y) } }
  if c.sentAt.isSome then s
  else if !frameFits s (callNs s) then fitHeld s
  else
    let s := put { c with sentAt := some s.now } (s.countWrap Reg.LIFT_CALLS_COUNT 1)
    liftSend 1 (leBytes 4 c.id ++ [c.fromFl, c.toFl, b2n c.acc, 0]) s

/-- A call is placed (R625): refused outside DRIVE and without a token with RESULT 4, else sent under a new CALLID. Answers the CALLID,
0 for a refused call. -/
def placeCall (copy : Option Nat) (fromFl toFl : Nat) (acc : Bool) (s : State) : Nat × State :=
  let id := (s.lift.lastId + 1) % 2 ^ 32
  let c : LiftCall := { id := id, copy := copy, fromFl := fromFl, toFl := toFl, acc := acc, sentAt := none }
  let refuse := fun (s : State) => (0, callResult c 4 0 0 (s.raise Reg.LIFT_FAULT_REFUSED))
  if s.prpt.out ≠ .drive || (liftPort s).isNone then refuse s
  else match liftToken s with
    | none => refuse (clipEvent 7 0 0 0 0 s)
    | some s => (id, callSend c { s with lift := { s.lift with lastId := id, calls := s.lift.calls ++ [c] } })

/-- Calls that wait for the lease are tried again (R382). -/
def callsPending (s : State) : State :=
  (s.lift.calls.filter (fun c => c.sentAt.isNone)).foldl (fun s c => if frameFits s (callNs s) then callSend c s else s) s

/-- A write of `CALLGO` by requester `r` (R625, R629); ignored while BUSY is 1. -/
def callGo (r : Nat) (s : State) : State :=
  if s.bit (Reg.LIFT_CALLRES_BUSY.by r) then s
  else
    let s := setAll [(Reg.LIFT_CALLRES_BUSY.by r, 1), (Reg.LIFT_CALLRES_DONE.by r, 0)] s
    (placeCall (some r) (s.get (Reg.LIFT_CALLREQ_FROM.by r)) (s.get (Reg.LIFT_CALLREQ_TO.by r)) (s.bit (Reg.LIFT_CALLREQ_ACC.by r)) s).2

/-- LIFT_HOST_CALL (R625). -/
def execLiftHostCall (requester : Fin 16) (fromFloor toFloor : Byte) (accessible : Bool) (s : State) : Host.Outcome State Fault Refusal :=
  let r := requester.val
  done s (askHost requester 0x079 (fun s => if s.bit (Reg.LIFT_CALLRES_BUSY.by r) then s else
    callGo r (setAll [(Reg.LIFT_CALLREQ_FROM.by r, fromFloor.toNat), (Reg.LIFT_CALLREQ_TO.by r, toFloor.toNat),
      (Reg.LIFT_CALLREQ_ACC.by r, b2n accessible)] s)) s)

/-! ### Messages of the gateway (R623, R624) -/

/-- A message is discarded and counted (R624). -/
def liftBad (s : State) : State := (s.countSat Reg.LIFT_BADMSG_COUNT 1).raise Reg.LIFT_FAULT_BADMSG

/-- A valid message has arrived: the link is up (R624). -/
def liftHeard (s : State) : State :=
  let s : State := { s with lift := { s.lift with heardAt := s.now } }
  if s.bit Reg.LIFT_STAT_LINKUP then s else localUpdate 48 4 0xFF 1 .valid (s.raise Reg.LIFT_STAT_LINKUP)

/-- A floor lies within `MINFL` to `MAXFL`. -/
def floorOk (s : State) (f : Byte) : Bool :=
  ofField 8 (s.get Reg.LIFT_CFG_MINFL) ≤ f.toInt && f.toInt ≤ ofField 8 (s.get Reg.LIFT_CFG_MAXFL)

/-- DRESP_RECEIVE (R625). -/
def dresp (id : Nat) (result car : Byte) (eta : Nat) (s : State) : State :=
  if !liftRuns s then s
  else if 16 ≤ car.toNat then liftBad s
  else
    let s := liftHeard s
    match s.lift.calls.find? (fun c => c.id = id && c.sentAt.isSome) with
    | none => s
    | some c =>
      let s : State := { s with lift := { s.lift with calls := s.lift.calls.filter (fun x => x.id ≠ id) } }
      callResult c result.toNat car.toNat eta (if result = 1 then s.raise Reg.LIFT_FAULT_REFUSED else s)

/-- DRESP_RECEIVE (R625). -/
def execDrespReceive (callid : Word) (result car : Byte) (eta : BitVec 16) (s : State) : Host.Outcome State Fault Refusal :=
  done s (dresp callid.toNat result car eta.toNat s)

/-- LIFT_CALL_TIMEOUT (R625): 2 s after the call was sent. -/
def callTimeout (id : Nat) (s : State) : State :=
  match s.lift.calls.find? (fun c => c.id = id) with
  | some c =>
    (match c.sentAt with
    | some t =>
      let s := s.reach (t + 2 * second)
      let s : State := { s with lift := { s.lift with calls := s.lift.calls.filter (fun x => x.id ≠ id) } }
      callResult c 5 0 0 ((s.countSat Reg.LIFT_CALLFAIL_COUNT 1).raise Reg.LIFT_FAULT_CALLTO)
    | none => s)
  | none => s

/-- LIFT_CALL_TIMEOUT (R625). -/
def execLiftCallTimeout (callid : Word) (s : State) : Host.Outcome State Fault Refusal := done s (callTimeout callid.toNat s)

/-- One car of a CARPOS message. -/
def carUpdate (c : CarPos) (s : State) : State :=
  let n := c.car.toNat
  let s := setAll [(Reg.LIFT_CAR_FLOOR.ix n, c.floor.toNat), (Reg.LIFT_CAR_DIR.ix n, c.dir.toNat), (Reg.LIFT_CAR_DOOR.ix n, c.door.toNat),
    (Reg.LIFT_CAR_VALID.ix n, 1)] s
  let s := localUpdate 48 0 n (toField 32 c.floor.toInt) .valid s
  localUpdate 48 2 n c.door.toNat .valid (localUpdate 48 1 n c.dir.toNat .valid s)

/-- CARPOS_RECEIVE (R624). -/
def carpos (cars : List CarPos) (s : State) : State :=
  if !liftRuns s then s
  else if cars.any (fun c => 16 ≤ c.car.toNat || !floorOk s c.floor) then liftBad s
  else cars.foldl (fun s c => carUpdate c s) (liftHeard s)

/-- CARPOS_RECEIVE (R624). -/
def execCarposReceive (cars : List CarPos) (s : State) : Host.Outcome State Fault Refusal := done s (carpos cars s)

/-- LSTAT_RECEIVE (R624). -/
def lstat (modes : List Byte) (s : State) : State :=
  if !liftRuns s then s
  else if 16 < modes.length then liftBad s
  else modes.zipIdx.foldl (fun s (e : Byte × Nat) =>
    localUpdate 48 3 e.2 e.1.toNat .valid (s.set (Reg.LIFT_CAR_LMODE.ix e.2) e.1.toNat)) (liftHeard s)

/-- LSTAT_RECEIVE (R624). -/
def execLstatReceive (modes : List Byte) (s : State) : Host.Outcome State Fault Refusal := done s (lstat modes s)

/-- LSTAT_SEND (R623): every 1 s, with the modes last received. -/
def lstatSend (s : State) : State :=
  if !liftRuns s then s
  else
    let s := s.reach (s.lift.lstatAt + second)
    let n := s.get Reg.LIFT_CFG_NCARS
    liftSend 4 (n :: (List.range n).map (fun c => s.get (Reg.LIFT_CAR_LMODE.ix c))) { s with lift := { s.lift with lstatAt := s.now } }

/-- LSTAT_SEND (R623). -/
def execLstatSend (s : State) : Host.Outcome State Fault Refusal := done s (lstatSend s)

/-- LIFT_LINK_TIMEOUT (R624): no valid message for 3 s. Every car point is lost. -/
def liftTimeout (s : State) : State :=
  if !s.bit Reg.LIFT_STAT_LINKUP then s
  else
    let s := (s.reach (s.lift.heardAt + 3 * second)).set Reg.LIFT_STAT_LINKUP 0
    let s := (List.range 16).foldl (fun s c => s.set (Reg.LIFT_CAR_VALID.ix c) 0) (s.raise Reg.LIFT_FAULT_LINKLOST)
    let is := (List.range 16).flatMap (fun c => [0, 1, 2, 3].flatMap (fun q => localPoints s 48 q c))
    localUpdate 48 4 0xFF 0 .valid (reportAll (is.map .lost) s)

/-- LIFT_LINK_TIMEOUT (R624). -/
def execLiftLinkTimeout (s : State) : Host.Outcome State Fault Refusal := done s (liftTimeout s)

/-- PARAPET_EVALUATION (R371): entries are evaluated, what they release goes to the ports, and calls that wait for the lease follow. -/
def execParapetEvaluation (s : State) : Host.Outcome State Fault Refusal :=
  done s (callsPending (routeReleases (parapetEvaluate s)))

end Sys2Proof.Machine
end

