-- ==== Sys2Proof/Machine/Access.lean ====
section
/-! DEFINITION. The access block (spec/17_local_io_access_lift.md, R615 to R621, R628): polling of readers, secure channels, decisions,
credential cache and event ring. OSDP codes, colours and key codes are PRESUMED those of OSDP v2.2, which the specification names only. -/

namespace Sys2Proof.Machine

/-! ### Digests (R618) -/

/-- The first `n` bytes of SHA-256 of a byte string. -/
def shaFirst (n : Nat) (bs : List Nat) : List Nat := (List.range n).map (fun i => Config.sha256 bs / 2 ^ (8 * (31 - i)) % 256)

/-- The digest of a card: bit count in 2 bytes, then the card bytes. -/
def cardDigest (bits : Nat) (card : List Nat) : Nat := ofLeBytes (shaFirst 12 (leBytes 2 bits ++ card))

/-- PINCHK of a PIN: DIGEST followed by the digits in ASCII. -/
def pinCheck (digest : Nat) (digits : List Nat) : Nat := ofLeBytes (shaFirst 4 (leBytes 12 digest ++ digits))

/-! ### Readers (R615 to R617) -/

/-- The readers of a port, by number. -/
def readersOf (s : State) (p : Nat) : List (Nat × ReaderCfg) := (sheet s).readers.filter (fun e => decide (e.2.port = p))

/-- The OSDP port runs (R616). -/
def osdpRuns (s : State) (p : Nat) : Bool := osdpPort s p && (pstate s p = 3 || pstate s p = 4)

/-- A command to a reader leaves and awaits its reply. -/
def osdpCommand (p r addr code : Nat) (data : List Nat) (s : State) : State :=
  let s := s.emit (.osdp p addr code data)
  { s with acc := { s.acc with polls := tabInsert p { reader := r, sentAt := s.now } s.acc.polls, polled := tabInsert p r s.acc.polled } }

/-- The secure-channel record of a reader. -/
def secureOf (s : State) (r : Nat) : SecureState := tabGet {} s.acc.secure r

/-- Stores the secure-channel record of a reader. -/
def setSecure (r : Nat) (x : SecureState) (s : State) : State := { s with acc := { s.acc with secure := tabPut {} r x s.acc.secure } }

/-- The secure channel of a reader opens or closes; its online state follows (R617). -/
def setChannel (r : Nat) (on : Bool) (s : State) : State :=
  let m := s.get Reg.ACC_RSECURE_BITS
  readerFollow r (s.set Reg.ACC_RSECURE_BITS (if on then maskSet m r else maskClear m r))

/-- The reader to poll next on a port: the one after the last in turn. -/
def nextReader (s : State) (p : Nat) : Option (Nat × ReaderCfg) :=
  let rs := readersOf s p
  match tabFind p s.acc.polled with
  | some r => (match rs.find? (fun e => decide (r < e.1)) with | some e => some e | none => rs.head?)
  | none => rs.head?

/-- OSDP_POLL (R616, R617): the next reader is polled, or is asked for its secure channel while that is not open. -/
def osdpPoll (p : Nat) (s : State) : State :=
  if !osdpRuns s p || (tabFind p s.acc.polls).isSome then s
  else match nextReader s p with
    | none => s
    | some (r, c) =>
      let x := s.segPort p
      let s := s.setSegPort p { x with polled := maskSet x.polled c.addr }
      let y := secureOf s r
      if (s.get Reg.ACC_RSECURE_BITS).testBit r || 3 ≤ y.fails then osdpCommand p r c.addr 0x60 [] s
      else osdpCommand p r c.addr 0x76 [] (setSecure r { y with exchange := some ((s.get Reg.ACC_INSTALL_BITS).testBit r) } s)

/-- OSDP_POLL (R616). -/
def execOsdpPoll (port : Fin 32) (s : State) : Host.Outcome State Fault Refusal := done s (osdpPoll port.val s)

/-- A failure ends the secure channel or its exchange (R617); the third in a row begins a wait of 10 s. -/
def secureFail (r : Nat) (s : State) : State :=
  let y := secureOf s r
  let n := y.fails + 1
  let s := setChannel r false (s.raise Reg.ACC_FAULT_SCFAIL)
  setSecure r { fails := n, retryAt := if n = 3 then s.now + 10 * second else y.retryAt, exchange := none } s

/-- SECURE_CHANNEL_RETRY (R617): 10 s after the third failure. -/
def secureRetry (r : Nat) (s : State) : State :=
  let y := secureOf s r
  if y.fails < 3 then s else setSecure r { y with fails := 0 } (s.reach y.retryAt)

/-- SECURE_CHANNEL_RETRY (R617). -/
def execSecureChannelRetry (reader : Fin 32) (s : State) : Host.Outcome State Fault Refusal := done s (secureRetry reader.val s)

/-- OSDP_REPLY_TIMEOUT (R616): no reply within 200 ms, or one that fails its check; the command is sent once more, as a poll or as the
exchange stands. -/
def osdpTimeout (p : Nat) (corrupt : Bool) (s : State) : State :=
  match tabFind p s.acc.polls with
  | none => s
  | some x =>
    let s := if corrupt then s else s.reach (x.sentAt + 200 * msec)
    let drop : State := { s with acc := { s.acc with polls := tabErase p s.acc.polls } }
    match tabFind x.reader (sheet s).readers with
    | none => drop
    | some c =>
      if !osdpRuns s p || 2 ≤ x.attempts then
        (if (secureOf s x.reader).exchange.isSome && osdpRuns s p then setSecure x.reader { secureOf s x.reader with exchange := none } drop
         else drop)
      else
        let s := osdpCommand p x.reader c.addr (if (secureOf s x.reader).exchange.isSome then 0x76 else 0x60) [] s
        { s with acc := { s.acc with polls := tabInsert p { reader := x.reader, attempts := 2, sentAt := s.now } s.acc.polls } }

/-- OSDP_REPLY_TIMEOUT (R616). -/
def execOsdpReplyTimeout (port : Fin 32) (corrupt : Bool) (s : State) : Host.Outcome State Fault Refusal :=
  done s (osdpTimeout port.val corrupt s)

/-- The reply codes of R615. -/
def osdpReplies : List Nat := [0x40, 0x41, 0x45, 0x46, 0x48, 0x49, 0x4A, 0x4B, 0x50, 0x53, 0x54, 0x76, 0x78, 0x79]

/-- A valid reply ends the poll and counts as the node's echo of the current beacon (R616). -/
def replyEcho (p : Nat) (c : ReaderCfg) (s : State) : State :=
  nodeEcho p c.addr (s.get (Reg.SEG_BSEQ_LAST.inst p)) { s with acc := { s.acc with polls := tabErase p s.acc.polls } }

/-- The key slot of a reader holds its SCBK: a usable AES-128 key in the access block's lane (R617). -/
def scbkReady (s : State) (c : ReaderCfg) : Bool :=
  slotLane s c.slot = (charter s).accLane && (match keySlot s c.slot with | some k => k.typ = 1 && !k.exhausted | none => false)

/-- What a reply does to the secure channel: the cryptograms of CCRYPT and RMAC_I hold or not, KEYSET is acknowledged, or the reader
refuses the exchange; without the reader's SCBK no cryptogram holds, but in installation (R617). -/
def replySecure (p r : Nat) (c : ReaderCfg) (code : Nat) (cryptogramOk : Bool) (s : State) : State :=
  let y := secureOf s r
  match y.exchange with
  | none => s
  | some inst =>
    if (s.get Reg.ACC_RSECURE_BITS).testBit r then
      if code = 0x40 && inst then
        (setSecure r { y with exchange := none } s).set Reg.ACC_INSTALL_BITS (maskClear (s.get Reg.ACC_INSTALL_BITS) r)
      else s
    else if code = 0x76 then (if cryptogramOk && (inst || scbkReady s c) then osdpCommand p r c.addr 0x77 [] s else secureFail r s)
    else if code = 0x78 then
      if !cryptogramOk || !(inst || scbkReady s c) then secureFail r s
      else
        let s := setChannel r true (setSecure r { exchange := if inst then some true else none } s)
        if inst then osdpCommand p r c.addr 0x75 [] s else s
    else if code = 0x41 then secureFail r s
    else s

/-- A reply arrives (R615 to R617): `k` handles card or PIN data that may be used, for reader `r`. -/
def osdpReply (p code : Nat) (form : OsdpForm) (cryptogramOk : Bool) (k : Nat → State → State) (s : State) : State :=
  match tabFind p s.acc.polls with
  | none => s
  | some x =>
    match tabFind x.reader (sheet s).readers with
    | none => s
    | some c =>
      if !osdpRuns s p then s
      else if !osdpReplies.contains code then s.countSat Reg.ACC_BADREP_COUNT 1
      else if form = .secure false then secureFail x.reader { s with acc := { s.acc with polls := tabErase p s.acc.polls } }
      else
        let s := replySecure p x.reader c code cryptogramOk (replyEcho p c s)
        if code ≠ 0x50 ∧ code ≠ 0x53 then s
        else if c.screq && form = .clear then s.countSat Reg.ACC_SCERR_COUNT 1
        else k x.reader s

/-- OSDP_REPLY_RECEIVE (R616): `code` is the reply's code, `cryptogramOk` whether the cryptogram of CCRYPT or RMAC_I holds. -/
def execOsdpReplyReceive (port : Fin 32) (code : Byte) (form : OsdpForm) (cryptogramOk : Bool) (s : State) :
    Host.Outcome State Fault Refusal := done s (osdpReply port.val code.toNat form cryptogramOk (fun _ s => s) s)

/-! ### The event ring (R621) -/

/-- A record enters the ring; one that the host has not passed may be overwritten. -/
def ringPut (e : AccEvent) (s : State) : State :=
  let slot := s.acc.written % 4096
  let lost := decide (s.acc.passed + 4096 ≤ s.acc.written)
  let s := s.set Reg.ACC_EVHEAD_SLOT slot
  let s : State := { s with acc := { s.acc with ring := tabInsert slot e s.acc.ring, written := s.acc.written + 1 } }
  if lost then s.raise Reg.ACC_FAULT_EVOVF else s

/-- A write of `EVREAD` (R628): the host has passed every record of the ring before that slot. -/
def ringPass (v : Nat) (s : State) : State :=
  let s := s.set Reg.ACC_EVREAD_SLOT v
  { s with acc := { s.acc with passed := s.acc.written - (s.acc.written + 4096 - v % 4096) % 4096 } }

/-- A decision is counted, recorded and shown in the points of its door (R610, R621). -/
def recordDecision (e : AccEvent) (s : State) : State :=
  let s := s.countWrap (if e.code = 0 then Reg.ACC_GRANTS_COUNT else Reg.ACC_DENIES_COUNT) 1
  let s := s.set Reg.ACC_DECMAX_US (max (s.get Reg.ACC_DECMAX_US) e.us)
  localUpdate 32 0 e.door e.code .valid (ringPut e s)

/-! ### Decisions (R620) -/

/-- The doors of a reader. -/
def doorOf (s : State) (r : Nat) : Option (Nat × DoorCfg) := (sheet s).doors.find? (fun (e : Nat × DoorCfg) => decide (e.2.reader = r))

/-- The reader record of a door. -/
def doorReader (s : State) (d : DoorCfg) : Option ReaderCfg := tabFind d.reader (sheet s).readers

/-- A sign to the holder of a card: osdp_LED in a colour, 1 red or 2 green, and one osdp_BUZ on a grant. -/
def signal (d : DoorCfg) (colour : Nat) (s : State) : State :=
  match doorReader s d with
  | none => s
  | some c =>
    let s := s.emit (.osdp c.port c.addr 0x69 [colour])
    if colour = 2 then s.emit (.osdp c.port c.addr 0x6A [1]) else s

/-- A denial (R620): its decision time, which the specification bounds by 150 ms only, is a free value. -/
def deny (door : Nat) (d : DoorCfg) (code tag index digest : Nat) (s : State) : State :=
  let us := Config.freeNat s.freeCtr % 150001
  signal d 1 (recordDecision { time := taiMs s, door := door, code := code, tag := tag, index := index, digest := digest % 2 ^ 64,
                               call := 0, us := us } s.drawn)

/-- The lockdown point of a door is 1. -/
def lockedDown (s : State) (d : DoorCfg) : Bool := match d.lockdown with | some i => (s.point i).pv ≠ 0 | none => false

/-- The access block's write to a release point. -/
def releaseWrite (d : DoorCfg) (v : Option Nat) (s : State) : State :=
  submit { src := mkSrc 2 32, target := .idx d.release,
           kind := match v with | some v => .level d.dlevel v | none => .relinquish d.dlevel } s

/-- Step 7 of R620. The event is complete, and the grant counted, at the commit at which the release point takes 1. -/
def grant (door : Nat) (d : DoorCfg) (index readAt : Nat) (c : Credential) (s : State) : State :=
  let s := signal d 2 (releaseWrite d (some 1) s)
  let call := if d.liften && c.flags.testBit 2 then placeCall none d.floor c.home (c.flags.testBit 3) s else (0, s)
  let e : AccEvent := { time := taiMs s, door := door, code := 0, tag := c.tag, index := index, digest := c.digest % 2 ^ 64,
                        call := call.1, us := 0 }
  let s := call.2
  { s with acc := { s.acc with grants := tabInsert door (s.now + d.drelt * second) s.acc.grants,
                               waits := s.acc.waits ++ [{ door := door, event := e, readAt := readAt }] } }

/-- Steps 6 and 7. -/
def lastSteps (door : Nat) (d : DoorCfg) (index readAt : Nat) (c : Credential) (s : State) : State :=
  if lockedDown s d then deny door d 5 c.tag index c.digest s else grant door d index readAt c s

/-- UTC in s since 2000-01-01. -/
def utcSeconds (s : State) : Nat := (utcMs s - 946684800000) / 1000

/-- Step 4 of R620. -/
def timeOk (s : State) (c : Credential) : Bool :=
  if c.since = 0 && c.until' = 0 then true
  else s.bit Reg.TBASE_STAT_SET && (c.since = 0 || c.since ≤ utcSeconds s) && (c.until' = 0 || utcSeconds s ≤ c.until')

/-- A card read at a door (R620, steps 1 to 5). -/
def decide' (door : Nat) (d : DoorCfg) (digest : Nat) (s : State) : State :=
  let none' := 0xFFFFFFFF
  if mode s ≠ 3 ∧ mode s ≠ 4 then deny door d 6 0 none' digest s
  else match s.acc.cache.find? (fun (e : Nat × Credential) => decide (e.2.digest = digest)) with
    | none => deny door d 1 0 none' digest s
    | some (i, c) =>
      let index := 0x10000 + i
      if !c.doors.testBit door then deny door d 2 c.tag index digest s
      else if !timeOk s c then deny door d 3 c.tag index digest s
      else if c.flags.testBit 1 then
        { s with acc := { s.acc with pins := tabInsert door { index := index, cred := c, readAt := s.now, since := s.now } s.acc.pins } }
      else lastSteps door d index s.now c s

/-- A card read by reader `r`. -/
def cardRead (bits : Nat) (card : List Nat) (r : Nat) (s : State) : State :=
  match doorOf s r with
  | none => s
  | some (door, d) => decide' door d (cardDigest bits card) s

/-- CARD_READ (R620): an osdp_RAW reply with its bit count and card bytes. -/
def execCardRead (port : Fin 32) (form : OsdpForm) (bits : BitVec 16) (card : List Byte) (s : State) : Host.Outcome State Fault Refusal :=
  done s (osdpReply port.val 0x50 form true (cardRead bits.toNat (card.map (fun b => b.toNat))) s)

/-- Keys arrive at reader `r` (R620, step 5), as ASCII; the # key ends the PIN. -/
def keysRead (keys : List Nat) (r : Nat) (s : State) : State :=
  match doorOf s r with
  | none => s
  | some (door, d) =>
    match tabFind door s.acc.pins with
    | none => s
    | some w =>
      let digits := w.digits ++ keys.takeWhile (· ≠ 0x23)
      if keys.contains 0x23 then
        let s : State := { s with acc := { s.acc with pins := tabErase door s.acc.pins } }
        if pinCheck w.cred.digest digits ≠ w.cred.pinchk then deny door d 4 w.cred.tag w.index w.cred.digest s
        else lastSteps door d w.index (w.readAt + (s.now - w.since)) w.cred s
      else { s with acc := { s.acc with pins := tabInsert door { w with digits := digits } s.acc.pins } }

/-- OSDP_KEYPAD_RECEIVE (R620). -/
def execOsdpKeypadReceive (port : Fin 32) (form : OsdpForm) (keys : List Byte) (s : State) : Host.Outcome State Fault Refusal :=
  done s (osdpReply port.val 0x53 form true (keysRead (keys.map (fun b => b.toNat))) s)

/-- PIN_TIMEOUT (R620): 10 s after the wait began. -/
def pinTimeout (door : Nat) (s : State) : State :=
  match tabFind door s.acc.pins, tabFind door (sheet s).doors with
  | some w, some d =>
    let s := s.reach (w.since + 10 * second)
    deny door d 7 w.cred.tag w.index w.cred.digest { s with acc := { s.acc with pins := tabErase door s.acc.pins } }
  | _, _ => s

/-- PIN_TIMEOUT (R620). -/
def execPinTimeout (door : Fin 32) (s : State) : Host.Outcome State Fault Refusal := done s (pinTimeout door.val s)

/-- A grant ends: the block relinquishes its level. -/
def endGrant (door : Nat) (s : State) : State :=
  match tabFind door s.acc.grants, tabFind door (sheet s).doors with
  | some _, some d => releaseWrite d none { s with acc := { s.acc with grants := tabErase door s.acc.grants } }
  | _, _ => s

/-- DOOR_RELEASE_EXPIRY (R620): DRELT s after the last grant. -/
def releaseExpiry (door : Nat) (s : State) : State :=
  match tabFind door s.acc.grants with
  | some t => endGrant door (s.reach t)
  | none => s

/-- DOOR_RELEASE_EXPIRY (R620). -/
def execDoorReleaseExpiry (door : Fin 32) (s : State) : Host.Outcome State Fault Refusal := done s (releaseExpiry door.val s)

/-- The lockdown point became 1 while a grant stands: the block relinquishes at once (R620). -/
def lockdownFollow (s : State) : State :=
  (s.acc.grants.map (fun e => e.1)).foldl (fun s door =>
    match tabFind door (sheet s).doors with
    | some d => if lockedDown s d then endGrant door s else s
    | none => s) s

/-- The access block's write of 1 to a release point has not been applied yet. -/
def releaseWaits (s : State) (d : DoorCfg) : Bool :=
  ((s.pt.queues ++ s.pt.held ++ s.pt.offered).flatMap (fun e => e.2) ++ s.pt.admitted.map (fun a => a.upd)).any (fun u =>
    decide (u.src = mkSrc 2 32 ∧ u.target = .idx d.release) && (match u.kind with | .level _ _ => true | _ => false))

/-- Grants whose release point takes 1 at this commit are complete (R621), with the decision time in µs up to it. A grant whose write the
point engine refuses or discards is complete too: every decision is recorded. -/
def grantsDone (s : State) : State :=
  let due := s.acc.waits.filter (fun w => match tabFind w.door (sheet s).doors with
    | some d => (s.point d.release).pamask.testBit (d.dlevel - 1) || !releaseWaits s d
    | none => true)
  let rest := s.acc.waits.filter (fun w => !due.contains w)
  due.foldl (fun s w => recordDecision { w.event with us := (s.now - w.readAt) / 1000 } s) { s with acc := { s.acc with waits := rest } }

/-! ### The ACC window (R618, R628) -/

/-- The lane of the access block. -/
def accLane (s : State) : Nat := (charter s).accLane

/-- The eight words of a credential entry. -/
def credentialWords (c : Credential) : List Nat :=
  [c.digest % 2 ^ 32, c.digest / 2 ^ 32 % 2 ^ 32, c.digest / 2 ^ 64, c.doors, c.since, c.until', c.pinchk,
   c.home + c.flags * 256 + c.tag * 65536]

/-- The eight words of an event record. -/
def eventWords (e : AccEvent) : List Nat :=
  [e.time % 2 ^ 32, e.time / 2 ^ 32 % 2 ^ 32, e.door + e.code * 256 + e.tag * 65536, e.index, e.digest % 2 ^ 32, e.digest / 2 ^ 32,
   e.call, e.us % 2 ^ 32]

/-- LOAD on ACC by requester `r` (R628). The layouts of door and reader records are not given: their words are free values. -/
def accLoad (r : Nat) (s : State) : State :=
  let i := winIndex s 0x078 r
  let free := (List.range 8).map (fun k => Config.freeNat (s.freeCtr + k) % 2 ^ 32)
  let record := fun (there : Bool) => if there then winLoaded 0x078 r free { s with freeCtr := s.freeCtr + 8 } else winFailed 0x078 r 1 s
  if !mayReadLane (requesterLanes s r) (accLane s) then winFailed 0x078 r 4 (fabricDenial r (accLane s) i s)
  else if i < 0x20 then record (tabFind i (sheet s).doors).isSome
  else if 0x100 ≤ i ∧ i < 0x120 then record (tabFind (i - 0x100) (sheet s).readers).isSome
  else if 0x10000 ≤ i ∧ i < 0x40D40 then
    match tabFind (i - 0x10000) s.acc.cache with
    | some c => winLoaded 0x078 r (credentialWords c) s
    | none => winFailed 0x078 r 1 s
  else if 0x80000 ≤ i ∧ i < 0x81000 then
    match tabFind (i - 0x80000) s.acc.ring with
    | some e => winLoaded 0x078 r (eventWords e) s
    | none => winFailed 0x078 r 1 s
  else winFailed 0x078 r 1 s

/-- The entry that the DATA words of requester `r` hold, with its FLAGS byte whole. -/
def dataCredential (s : State) (r : Nat) : Credential :=
  let d := winData s 0x078 r
  { digest := d 0 + 2 ^ 32 * d 1 + 2 ^ 64 * d 2, doors := d 3, since := d 4, until' := d 5, pinchk := d 6, home := d 7 % 256,
    flags := d 7 / 256 % 256, tag := d 7 / 65536 }

/-- `CCOUNT` follows the cache. -/
def showCache (s : State) : State := s.set Reg.ACC_CCOUNT_COUNT s.acc.cache.length

/-- COMMIT on ACC by requester `r` (R618, R628). -/
def accCommit (r : Nat) (s : State) : State :=
  let i := winIndex s 0x078 r
  let c := dataCredential s r
  let k := i - 0x10000
  if winBusy s 0x078 r then s
  else if !mayWriteLane (requesterLanes s r) (accLane s) then windowDone 0x078 r 4 (fabricDenial r (accLane s) i s)
  else if i < 0x10000 || 0x40D40 ≤ i then windowDone 0x078 r 6 s
  else if 16 ≤ c.flags then windowDone 0x078 r 5 s
  else if !c.flags.testBit 0 then
    windowDone 0x078 r 0 (showCache { s with acc := { s.acc with cache := tabErase k s.acc.cache } })
  else if s.acc.cache.any (fun (e : Nat × Credential) => e.1 ≠ k && e.2.digest = c.digest) then windowDone 0x078 r 5 s
  else
    let n := s.acc.cache.length
    let s := showCache { s with acc := { s.acc with cache := tabInsert k c s.acc.cache } }
    windowDone 0x078 r 0 (if n < 200000 && s.acc.cache.length = 200000 then s.raise Reg.ACC_FAULT_CACHEFULL else s)

/-- ACC_CREDENTIAL_COMMIT (R618): `entry` holds the 32 bytes of the entry, byte 0 lowest. -/
def execAccCredentialCommit (requester : Fin 16) (index : BitVec 20) (entry : BitVec 256) (s : State) :
    Host.Outcome State Fault Refusal :=
  let r := requester.val
  done s (if winBusy s 0x078 r then s else
    accCommit r (winFill 0x078 r ((List.range 8).map (fun k => entry.toNat / 2 ^ (32 * k) % 2 ^ 32))
      (s.set ((Reg.WIN_INDEX.onPage 0x078).by r) index.toNat)))

end Sys2Proof.Machine
end

