-- ==== Sys2Proof/Machine/Bridge.lean ====
section
/-! DEFINITION. The host bridge's rate limit (spec/02_register_pages.md, R63), which PAP sessions and the BACnet/SC node share. -/

namespace Sys2Proof.Machine

/-- The tokens of a session in millionths: 1,000 per second, at most 100 (R63). -/
def tokensOf (s : State) (k : Nat) : Nat :=
  let x : Session := tabGet {} s.sessions k
  min (100 * 1000000) (x.tokens + (s.now - x.tokensAt))

/-- Takes one token of a session, if it has one (R63). -/
def takeToken (k : Nat) (s : State) : Option State :=
  let t := tokensOf s k
  if t < 1000000 then none
  else some { s with sessions := tabInsert k { tabGet {} s.sessions k with tokens := t - 1000000, tokensAt := s.now } s.sessions }

end Sys2Proof.Machine
end

