-- ==== Sys2Proof/Machine/Bacnet.lean ====
section
/-! DEFINITION. The BACnet/SC node (spec/10_viaduct.md, R421 to R423). The numbers of object types, properties, error classes
and error codes are those of ASHRAE 135 (PRESUMED). -/

namespace Sys2Proof.Machine

/-- The source of the node (R421). -/
def bscSrc : Nat := 0xC008

/-- The lane set of the node (R421). -/
def bscLanes (s : State) : BitVec 256 := requesterLanes s 8

/-- Error class object, property, device. -/
def bacUnknownObject : BacAnswer := .error 1 31
/-- The property does not exist. -/
def bacUnknownProperty : BacAnswer := .error 2 32
/-- Read access denied. -/
def bacNoRead : BacAnswer := .error 2 27
/-- Write access denied. -/
def bacNoWrite : BacAnswer := .error 2 40
/-- Invalid data type. -/
def bacBadType : BacAnswer := .error 2 9
/-- Device, other. -/
def bacOther : BacAnswer := .error 0 0
/-- The array index does not exist. -/
def bacBadIndex : BacAnswer := .error 2 42

/-- The answer that a result of R102 maps to (R423). -/
def bacResult (code : Nat) : BacAnswer :=
  if code = resWritten ∨ code = resWrittenForced then .simpleAck
  else if code = resRefError then bacUnknownObject
  else if code = resLaneDenied ∨ code = resNotWritable ∨ code = resBadLevel then bacNoWrite
  else if code = resTypeError then bacBadType
  else bacOther

/-- The mapped object. -/
def bscObject (s : State) (otype inst : Nat) : Option BscObject :=
  (sheet s).bsc.objects.find? (fun o => decide (o.otype = otype ∧ o.inst = inst))

/-- AI 0, AO 1, AV 2: analogue. BI 3, BO 4, BV 5: binary. MSV 19. -/
def bacAnalogue (t : Nat) : Bool := t ≤ 2
/-- Binary objects. -/
def bacBinary (t : Nat) : Bool := 3 ≤ t && t ≤ 5

/-- AO and BO, and AV, BV and MSV on command points, are commandable (R422). -/
def commandable (s : State) (o : BscObject) : Bool :=
  o.otype = 1 || o.otype = 4 || ((o.otype = 2 || o.otype = 5 || o.otype = 19) && (s.point o.index).cmd)

/-- A point value as a property value (R422). -/
def bacScalar (otype typ v : Nat) : BacScalar :=
  if bacAnalogue otype then .real (toF32 (valueFp typ v))
  else if bacBinary otype then .enumerated (v % 2)
  else .unsigned (v + 1)

/-- The point value that a written property value stands for, and whether it is stated: a REAL that is no whole number has no
stated value on an integer point. -/
def bacValue (otype typ free : Nat) (v : BacScalar) : Option Nat :=
  match v with
  | .real bits =>
    if !bacAnalogue otype then none
    else if typ = 7 then some bits
    else if typ = 8 then some (toF64 (f32 bits))
    else
      let x := f32 bits
      if !fpIsFinite x then none
      else if fpEq (fpOfInt (fpTrunc x)) x then some (toField 64 (fpTrunc x)) else some (free % 2 ^ 32)
  | .enumerated n => if bacBinary otype && n ≤ 1 then some n else none
  | .unsigned n => if otype = 19 && 1 ≤ n then some (n - 1) else none
  | _ => none

/-- Property values of a mapped object (R422): 85 Present_Value, 87 Priority_Array, 104 Relinquish_Default, 111 Status_Flags,
81 Out_Of_Service, 103 Reliability. -/
def bacRead (s : State) (q : BacRef) : BacAnswer :=
  match bscObject s q.otype q.inst with
  | none => if q.otype = 8 ∧ q.inst = s.get Reg.BSC_DEVINST_INST then bacUnknownProperty else bacUnknownObject
  | some o =>
    let r := s.point o.index
    if !s.bit Reg.PNT_STAT_READY then bacOther
    else if r.typ = 0 then bacUnknownObject
    else if !mayReadLane (bscLanes s) r.lane then bacNoRead
    else
      let one := fun (v : BacScalar) => if q.idx.isSome then bacBadIndex else BacAnswer.value q (.one v)
      let level := fun (n : Nat) =>
        if r.pamask.testBit (n - 1) then bacScalar o.otype r.typ (levelValue s r.paix n) else BacScalar.null
      if q.prop = 85 then one (bacScalar o.otype r.typ r.pv)
      else if q.prop = 111 then one (.statusFlags false (r.qual = 0 || r.qual = 3) r.forced r.oos)
      else if q.prop = 81 then one (.boolean r.oos)
      else if q.prop = 103 then one (.enumerated (if r.qual = 1 then 0 else if r.qual = 2 ∨ r.qual = 5 then 12 else 7))
      else if q.prop = 104 ∧ commandable s o then one (bacScalar o.otype r.typ r.sv)
      else if q.prop = 87 ∧ commandable s o then
        match q.idx with
        | none => .value q (.array ((List.range 16).map (fun k => level (k + 1))))
        | some 0 => .value q (.one (.unsigned 16))
        | some n => if n ≤ 16 then .value q (.one (level n)) else bacBadIndex
      else bacUnknownProperty

/-- A read that the lane check denies is a failure at the host bridge, which makes the reads of every response (R364, R365). -/
def bacReadCheck (q : BacRef) (s : State) : State :=
  match bscObject s q.otype q.inst with
  | some o =>
    let r := s.point o.index
    if s.bit Reg.PNT_STAT_READY && r.typ ≠ 0 && !mayReadLane (bscLanes s) r.lane then fabricDenial 8 r.lane o.index s else s
  | none => s

/-- The node takes a request, which wakes the module (R30): it must be connected, and the token bucket must have a token (R63,
R421). -/
def bscRequest (invoke : Nat) (f : State → State) (s : State) : State :=
  if s.get Reg.BSC_STAT_HUB < 2 then s
  else match takeToken 8 (wakeEvent s) with
    | none =>
      let s := (s.countSat Reg.BSC_RATEDROP_COUNT 1).raise Reg.BSC_FAULT_RATE
      (s.emit (.bacnet invoke [bacOther])).countSat Reg.BSC_ERRS_COUNT 1
    | some s => f (s.countWrap Reg.BSC_REQS_COUNT 1)

/-- Answers a request; an error is counted. -/
def bscAnswer (invoke : Nat) (a : BacAnswer) (s : State) : State :=
  let s := s.emit (.bacnet invoke [a])
  match a with
  | .error _ _ => s.countSat Reg.BSC_ERRS_COUNT 1
  | _ => s

/-- BSC_READ_PROPERTY (R422). -/
def execBscReadProperty (invoke : Byte) (ref : BacRef) (s : State) : Host.Outcome State Fault Refusal :=
  done s (bscRequest invoke.toNat (fun s => bscAnswer invoke.toNat (bacRead s ref) (bacReadCheck ref s)) s)

/-- BSC_READ_PROPERTY_MULTIPLE (R422): each property has its value or its error in the answer. -/
def execBscReadPropertyMultiple (invoke : Byte) (refs : List BacRef) (s : State) : Host.Outcome State Fault Refusal :=
  done s (bscRequest invoke.toNat (fun s =>
    (refs.foldl (fun s q => bacReadCheck q s) s).emit (.bacnet invoke.toNat (refs.map (bacRead s)))) s)

/-- WriteProperty (R422): the update goes to the point engine, whose result is answered at the commit (R423). -/
def bacWrite (invoke : Nat) (q : BacRef) (v : BacScalar) (prio : Nat) (s : State) : State :=
  match bscObject s q.otype q.inst with
  | none => bscAnswer invoke (if q.otype = 8 ∧ q.inst = s.get Reg.BSC_DEVINST_INST then bacNoWrite else bacUnknownObject) s
  | some o =>
    let r := s.point o.index
    let send := fun (k : UpdateKind) (s : State) =>
      submit { src := bscSrc, target := .idx o.index, kind := k, path := .bsc invoke } s
    let typed := fun (f : Nat → UpdateKind) (s : State) =>
      match bacValue o.otype r.typ (Config.freeNat s.freeCtr) v with
      | none =>
        -- a check that comes before the type's in R100 answers first
        match accessCheck s { src := bscSrc, target := .idx o.index, kind := f 0 } with
        | .error e => if e = resTypeError then bscAnswer invoke bacBadType s else send (f 0) s
        | .ok _ => bscAnswer invoke bacBadType s
      | some x => send (f x) s.drawn
    if q.prop = 85 ∧ commandable s o then
      if prio ≤ 2 ∨ 16 < prio then bscAnswer invoke bacNoWrite s
      else if v = .null then send (.relinquish prio) s
      else typed (fun x => .level prio x) s
    else if q.prop = 104 ∧ commandable s o then
      if (bscLanes s).getLsbD 0 then typed (fun x => .relDefault x) s else bscAnswer invoke bacNoWrite s
    else if [81, 85, 87, 103, 104, 111].contains q.prop then bscAnswer invoke bacNoWrite s
    else bscAnswer invoke bacUnknownProperty s

/-- BSC_WRITE_PROPERTY (R422); without a priority, BACnet's lowest, 16. -/
def execBscWriteProperty (invoke : Byte) (ref : BacRef) (value : BacScalar) (priority : Option (Fin 32)) (s : State) :
    Host.Outcome State Fault Refusal :=
  let prio := match priority with | some p => p.val | none => 16
  done s (bscRequest invoke.toNat (bacWrite invoke.toNat ref value prio) s)

/-! ### Hub connection (R421, R424) -/

/-- The node is connected: its lane set is fixed for the connection. -/
def hubUp (code : Nat) (s : State) : State :=
  let s := (s.set Reg.BSC_STAT_HUB code).countSat Reg.BSC_CONNS_COUNT 1
  let x : Session := { opened := true, since := s.now, lastRequest := s.now, tokens := 100 * 1000000, tokensAt := s.now,
                       lanes := (charter s).bscSet }
  { s with sessions := tabInsert 8 x s.sessions }

/-- The node connects to the primary hub and, on failure, to the failover hub. -/
def hubConnect (primary failover tlsFail : Bool) (s : State) : State :=
  let ent := s.bit Reg.ENC_STAT_ENTOK
  if !viaRuns s || !anyLink s || 2 ≤ s.get Reg.BSC_STAT_HUB then s
  else
    let s := s.emit (.hubConnect 0)
    let s := if tlsFail || !ent then s.raise Reg.BSC_FAULT_TLSFAIL else s
    if primary && ent then hubUp 2 s
    else
      let s := s.emit (.hubConnect 1)
      if failover && ent then (hubUp 3 s).raise Reg.BSC_FAULT_FAILOVER else s.set Reg.BSC_STAT_HUB 1

/-- BSC_HUB_CONNECT (R421): which of the two attempts succeeds, and whether a TLS handshake failed. -/
def execBscHubConnect (primary failover tlsFail : Bool) (s : State) : Host.Outcome State Fault Refusal :=
  done s (hubConnect primary failover tlsFail s)

/-- The connection is lost; the node connects again. -/
def hubLost (s : State) : State :=
  if s.get Reg.BSC_STAT_HUB < 2 then s
  else
    let s := (s.set Reg.BSC_STAT_HUB 1).raise Reg.BSC_FAULT_HUBLOST
    { s with sessions := tabErase 8 s.sessions }

/-- BSC_HUB_LOST (R421). -/
def execBscHubLost (s : State) : Host.Outcome State Fault Refusal := done s (hubLost s)

end Sys2Proof.Machine
end

