-- ==== Sys2Proof/Machine/Reset.lean ====
section
/-! DEFINITION. What a reset does to registers, measurement at a start, and the domain resets of the blocks that have one
(spec/02_register_pages.md, R9 to R12, R40, R78, R79; R147, R188, R279, R313, R343, R484, R493, R533, R556). -/

namespace Sys2Proof.Machine

/-! ### Registers -/

/-- The field at a key is kept through the reset kind of this bit (R9): P 1, B 2, W 4, S 8, D 16, F 32, T 64. -/
def keptAt (bit key : Nat) : Bool :=
  match fieldOfKey key with
  | some f => f.kept / bit % 2 = 1
  | none => false

/-- Registers of some pages after a reset of the kind of this bit: those not kept return to their Reset values. -/
def resetRegs (bit : Nat) (pages : Nat → Bool) (s : State) : State :=
  { s with regs := s.regs.filter (fun (e : Nat × Nat) => !pages (e.1 / 32768 % 4096) || keptAt bit e.1),
           keys := s.keys.filter (fun (e : Nat × KeyState) => !pages e.1) }

/-! ### Measurement (R534, R535, R563) -/

/-- A NOR bank: 0 A, 1 B. -/
def bankOf (s : State) (b : Nat) : BankState := if b = 0 then s.upd.bankA else s.upd.bankB

/-- The manifest of a bank; the factory's image has level 0 and no requirement in every component (DESIGN CHOICE, its manifest is
not given). -/
def bankManifest (s : State) (b : Nat) : Manifest :=
  let x := bankOf s b
  match x.manifest with
  | some m => m
  | none => if x.factory then
      { comps := (List.range 5).map (fun c => (c, ({ digest := Config.factoryDigest c } : ComponentInfo))) } else {}

/-- The bank from which component `c` is selected (R567). -/
def selectedBank (s : State) (c : Nat) : Nat := if (s.get Reg.UPD_SEL_BANK).testBit c then 1 else 0

/-- Component `c` as bank `b` holds it. -/
def component (s : State) (b c : Nat) : ComponentInfo := tabGet {} (bankManifest s b).comps c

/-- Every measurement of a start: components by R563, sheets, and active task images in task order. -/
def measureAll (s : State) : State :=
  let s := [(0, 0), (1, 1), (2, 2), (2, 3), (3, 4)].foldl (fun s (e : Nat × Nat) =>
    measExtend e.1 (component s (selectedBank s e.2) e.2).digest s) (measClear s)
  let s := match s.sheets.charter with | some c => measExtend 4 c.digest s | none => s
  let s := match s.sheets.parapet with | some c => measExtend 5 c.digest s | none => s
  let s := match s.sheets.config with | some c => measExtend 6 c.digest s | none => s
  s.cte.tasks.foldl (fun s (e : Nat × TaskRun) => match e.2.active with
    | some i => measExtend 7 i.digest s
    | none => s) s

/-! ### Domain resets -/

/-- The records bound to a source of these binding addresses are reported lost (R93, R133). -/
def loseSources (q : Nat → Bool) (s : State) : State :=
  reportAll ((s.pt.recs.filter (fun (e : Nat × PointRec) => e.2.typ ≠ 0 && !e.2.cmd && !e.2.mirror && q e.2.addr)).map
    (fun e => PointReport.lost e.1)) s

/-- A core stops for its reset (R493, R510, R516 to R522): the channels of its tasks are aborted, also those of a task in no cycle. -/
def coreReset (n : Nat) (s : State) : State :=
  endpointReset (3 + n) ((coreTasks s n).foldl (fun s t => abortTaskDma t (abandonCycle t s)) s)

/-- The enclave restarts: operations and general slots are lost, the root is regenerated (R533, R543, R547, R556). -/
def enclaveReset (s : State) : State :=
  let s := measClear (encClear (endpointReset 0 s))
  { s with enc := { s.enc with root := none, regenerating := true } }

/-- The nodes whose OOS waits for an echo wait on after a reset of the kind of this bit: for the first beacon after it, where the
beacon's number starts anew (R157, R657); P clears the flags themselves (R124). -/
def waitsKept (bit p : Nat) (s : State) : Table Nat :=
  if bit = 1 then [] else if bit = 64 then (s.segPort p).oosWait else (s.segPort p).oosWait.map (fun (e : Nat × Nat) => (e.1, 1))

/-- A port's reset (R147, R178, R188, R241): survey, line, slots and queues end; a closed switch is held if `FEED_HOLD` is 1. -/
def portReset (bit p : Nat) (s : State) : State :=
  let surveyed := decide (pstate s p = 1)
  let fst := fstate s p
  let eff := s.get (Reg.SEG_FCFG_FEFF.inst p)
  let f := feed s p
  let hold := s.bit Reg.PWR_AO_FEED_HOLD
  let s := busEmpty p (portOff p false s)
  let s := if bit = 64 then s else s.setBus p {}
  let s := resetRegs bit (fun x => x = 0x100 + p || x = 0x120 + p || x = 0x140 + p) s
  let s := s.setSegPort p { feed := if hold then f else { openedAt := s.now }, oosWait := waitsKept bit p s }
  let s := if hold then setFstate p fst (s.set (Reg.SEG_FCFG_FEFF.inst p) eff) else setFstate p 0 s
  if surveyed then s.raise (Reg.SEG_FAULT_SVYABORT.inst p) else s

/-- What the block of page `p` loses at its domain reset, beside its registers. -/
def blockReset (p : Nat) (s : State) : State :=
  if 0x011 ≤ p ∧ p ≤ 0x013 then coreReset (p - 0x010) s
  else if p = 0x020 then enclaveReset s
  else if p = 0x050 then
    loseSources (fun a => a / 2 ^ 45 = 4) (endpointReset 1 { s with cle := {} })
  else if p = 0x058 then loseSources (fun a => a / 2 ^ 45 = 5) (abandonCycles s)
  else if p = 0x060 then loseSources (fun a => a / 2 ^ 45 = 3) s
  else if p = 0x180 then
    -- the store is unchanged: mirrors stay and go STALE, and the role is taken anew (R133)
    let s := reportAll (s.pt.directory.map (fun e => PointReport.lost e.2)) (forgetPeers (setView none s))
    { s with via := { enrolled := s.via.enrolled,
                      mirrorEpoch := s.via.mirrorEpoch, keystoneOf := s.via.keystoneOf,
                      subscribed := s.via.subscribed } }
  else if p = 0x183 then (List.range 8).foldl (fun s k => closeSession k s) s
  else if p = 0x184 then closeSession 8 s
  else s

/-- DRBUSY of every page of the block (R40). -/
def setBusy (p : Nat) (v : Bool) (s : State) : State :=
  (domainPages p).foldl (fun s x => s.setBit (Reg.HDR_STAT_DRBUSY.onPage x) v) s

/-- A D reset of the block of page `p` begins (R40); page `p` is the one that carries `CTRL.DRST`. The trim window restarts at any
reset other than F (R595). -/
def domainReset (p : Nat) (s : State) : State :=
  if domainPages p = [] || s.bit (Reg.HDR_STAT_DRBUSY.onPage p) then s
  else
    let s := if 0x100 ≤ p ∧ p ≤ 0x11F then
        loseSources (fun a => decide (a / 2 ^ 45 = 1 ∧ a / 2 ^ 40 % 32 = p - 0x100)) (portReset 16 (p - 0x100) s)
      else resetRegs 16 (fun x => (domainPages p).contains x) (blockReset p s)
    let s := (jointsOf p).foldl (fun s j => breakJoint j.1 j.2 s) s
    failedPorts (setBusy p true (trimRestart s))

/-- Firmware sets RUN once the store is READY (R279, R313). -/
def runAgain (f : RegField) (s : State) : State := if s.bit Reg.PNT_STAT_READY then s.raise f else s

/-- A core comes online under its firmware (R493). -/
def coreOnline (n : Nat) (s : State) : State := (s.raise (Reg.CORE_STAT_ONLINE.inst n)).set (Reg.CORE_CSTATE_STATE.inst n) 2

/-- The measurements that can be made: without a root the encrypted regions are unreadable (R532). -/
def measureReadable (s : State) : State :=
  if s.enc.root.isSome then measureAll s
  else { measureAll { s with sheets := {}, cte := {} } with sheets := s.sheets, cte := s.cte }

/-- The enclave is up: entropy, root, measurements (R533). -/
def enclaveUp (s : State) : State :=
  let s := if s.enc.regenerating && s.enc.nonce.isSome then regenerated 1 s
    else { s with enc := { s.enc with regenerating := false } }
  (measureReadable (s.raise Reg.ENC_STAT_ENTOK)).raise Reg.ENC_STAT_READY

/-- Firmware brings a port up after its reset: limit and velocity factor from the sheet, the limit unless the switch is held, and EN
(R159, R174, R180, R188). -/
def portUp (p : Nat) (s : State) : State :=
  let s := showMonitor p s
  if (tabFind p (sheet s).ports).isNone then s
  else
    let c := portCfg s p
    let held := s.bit Reg.PWR_AO_FEED_HOLD && decide (fstate s p ≠ 0)
    let s := (s.set (Reg.SEG_FCFG_FLIM.inst p) c.flim).set (Reg.SEG_SVYVF_VF.inst p) c.vf
    let s := if held then s else applyLimit p 0 s
    if c.enable then portEnable p s else s

/-- A D reset of the block of page `p` ends (R40). -/
def domainDone (p : Nat) (s : State) : State :=
  if domainPages p = [] || !s.bit (Reg.HDR_STAT_DRBUSY.onPage p) then s
  else
    let s := setBusy p false s
    if 0x011 ≤ p ∧ p ≤ 0x013 then coreOnline (p - 0x010) s
    else if p = 0x020 then enclaveUp s
    else if p = 0x050 then showCle (runAgain Reg.CLE_CTRL_RUN (cleReload s))
    else if p = 0x058 then showCte (runAgain Reg.CTE_CTRL_RUN (cteReload [] s))
    else if p = 0x060 then meterRestore [] s
    else if p = 0x180 then showEnrolled (showPeers (viaFollow s))
    else if 0x100 ≤ p ∧ p ≤ 0x11F then failedPorts (portUp (p - 0x100) s)
    else s

/-- DOMAIN_RESET_REQUEST (R40, R45): a write of 1 to `CTRL.DRST` of a page that supports it. -/
def execDomainResetRequest (page : BitVec 12) (s : State) : Host.Outcome State Fault Refusal := done s (domainReset page.toNat s)

/-- DOMAIN_RESET_COMPLETE (R40). -/
def execDomainResetComplete (page : BitVec 12) (s : State) : Host.Outcome State Fault Refusal := done s (domainDone page.toNat s)

end Sys2Proof.Machine
end

