-- ==== Sys2Proof/Machine/Cores.lean ====
section
/-! DEFINITION. Faults of the cores, DRAM errors and invalidation (spec/13_cores_memory.md, R492 to R502). -/

namespace Sys2Proof.Machine

/-- A syndrome (R500). -/
def fsynOf (cls access level werr asid : Nat) : Nat :=
  cls * 2 ^ 28 + access * 2 ^ 26 + (if cls ≤ 2 then level * 2 ^ 24 else 0) + (if cls = 6 then werr * 2 ^ 20 else 0) + asid

/-- The FAULT bit of a class on a CORE page. -/
def coreFaultBit (cls : Nat) : RegField :=
  match cls with
  | 1 => Reg.CORE_FAULT_XLATE
  | 2 => Reg.CORE_FAULT_PERM
  | 3 => Reg.CORE_FAULT_ALIGN
  | 4 => Reg.CORE_FAULT_BUS
  | 5 => Reg.CORE_FAULT_ECCUNC
  | _ => Reg.CORE_FAULT_CTXFAIL

/-- The outcome for the owner task of a fault (R502): classes 1 to 4 stop the task, the others abandon its cycle; `committed`
says that a class 5 line lies in the task's committed variables. -/
def taskFault (t fsyn va cls : Nat) (committed : Bool) (s : State) : State :=
  if 1 ≤ cls ∧ cls ≤ 4 then watchdogStop t (logEvent 0x0901 5 [t, fsyn, va] s)
  else
    let s := abandonCycle t (logEvent 0x0901 4 [t, fsyn, va] s)
    let s := if cls = 5 && committed then freshTask t s else s
    showCte (dispatchCore (taskCore s t) false s)

/-- A core stops (R501): HALTED, and firmware on core 0 resets cores 1 to 3. -/
def coreStops (n : Nat) (s : State) : State :=
  let s := (s.raise (Reg.CORE_STAT_HALTED.inst n)).set (Reg.CORE_CSTATE_STATE.inst n) 4
  if n = 0 then s else domainReset (0x010 + n) s

/-- A precise fault of core `n` under ASID `asid` (R500 to R502); `inHandler` says that the core is in its handler. -/
def coreFault (n asid cls access level va : Nat) (committed inHandler : Bool) (s : State) : State :=
  let t := asid - 1
  if !s.bit (Reg.CORE_STAT_ONLINE.inst n) || s.bit (Reg.CORE_STAT_HALTED.inst n) ||
      (asid ≠ 0 && (inHandler || !(taskState s t = 4 && taskCore s t = n))) then s
  else
    let fsyn := fsynOf cls access level 0 asid
    let s := (s.set (Reg.CORE_FSYN.inst n) fsyn).countSat (Reg.CORE_FCNT_COUNT.inst n) 1
    let s := ((s.set (Reg.CORE_FADDRLO_VA.inst n) (va % 2 ^ 32)).set (Reg.CORE_FADDRHI_VA.inst n) (va / 2 ^ 32)).raise
      ((coreFaultBit cls).inst n)
    if inHandler then coreStops n s
    else if asid = 0 then s
    else taskFault t fsyn va cls committed s

/-- CORE_FAULT (R500 to R502): `cls` 0 to 4 stand for classes 1 to 5. -/
def execCoreFault (core : Fin 4) (asid : Fin 17) (cls : Fin 5) (access : Fin 3) (level : Fin 4) (va : BitVec 48) (committed : Bool)
    (inHandler : Bool) (s : State) : Host.Outcome State Fault Refusal :=
  done s (coreFault core.val asid.val (cls.val + 1) access.val level.val va.toNat committed inHandler s)

/-- CORE_HALT (R494): a write of `CTRL.HALT` parks a core that has no task; core 0 ignores it. -/
def coreHalt (n : Nat) (v : Bool) (s : State) : State :=
  let tasked := (taskSlots s).any (fun t => taskCore s t = n && taskState s t ≠ 0)
  if n = 0 || tasked then s
  else
    let s := s.setBit (Reg.CORE_CTRL_HALT.inst n) v
    if v then (s.raise (Reg.CORE_STAT_HALTED.inst n)).set (Reg.CORE_CSTATE_STATE.inst n) 4
    else if s.bit (Reg.CORE_STAT_ONLINE.inst n) then (s.set (Reg.CORE_STAT_HALTED.inst n) 0).set (Reg.CORE_CSTATE_STATE.inst n) 2
    else s

/-- CORE_HALT (R494). -/
def execCoreHalt (core : Fin 4) (s : State) : Host.Outcome State Fault Refusal :=
  done s (unlessBusy (0x010 + core.val) (coreHalt core.val true) s)

/-! ### DRAM (R498, R499) -/

/-- An uncorrectable error met by a master: counted, captured and reported, and the line is poisoned (R498, R499). -/
def eccRead (pa mid : Nat) (s : State) : State :=
  let s := (s.countSat Reg.MMU_ECCUNC_COUNT 1).raise Reg.MMU_FAULT_ECCUNC
  let s := ((s.set Reg.MMU_ECCADDRLO_PA (pa % 2 ^ 32)).set Reg.MMU_ECCADDRHI_PA (pa / 2 ^ 32)).set Reg.MMU_ECCSRC_MID mid
  let s := { s with fab := { s.fab with poison := distinct (s.fab.poison ++ [pa / 64]) } }
  logEvent 0x0900 6 [pa, mid] s

/-- The line is written whole again: it is poisoned no longer (R498). -/
def lineRewritten (pa : Nat) (s : State) : State :=
  { s with fab := { s.fab with poison := s.fab.poison.filter (fun l => decide (l ≠ pa / 64)) } }

/-- The record that a poisoned line held is rebuilt (R499): from the sheet, with PV and SV of a PERSIST record from MRAM and
STALE, else UNINIT; a mirror is UNINIT until its next publication. -/
def rebuildRecord (i : Nat) (s : State) : State :=
  let r := s.point i
  if r.typ = 0 then s
  else if r.mirror then s.setPoint i { r with qual := 0 }
  else
    let x := restoreRecord s [] i (freshRecord (sheetRecord (sheet s) i))
    let x := { x with qual := if x.persist then 2 else 0, oos := decide (tabGet 0 s.pt.oosMap i = 1) }
    s.setPoint i (recompute s i x)

/-- A priority array is restored from MRAM (R499). -/
def rebuildArray (paix : Nat) (s : State) : State :=
  (List.range 16).foldl (fun s n => setLevel s paix (n + 1) (tabGet 0 s.pt.arrayImages (paix * 16 + n))) s

/-- A loop record that fails twice is reloaded from the sheet: the sample is an overrun, and the loop initialises (R263, R276, R499). -/
def reloadLoop (n : Nat) (s : State) : State :=
  match loopCfg s n with
  | none => s
  | some c =>
    let s := overrun n s
    showCle (s.setLoop n { coefs := c.coefs, modereq := c.modereq, lastK := (s.loop n).lastK, held := (s.loop n).held })

/-- Firmware on core 0 handles a channel fault (R509): a record; for a task's channel R502 and ABORT. -/
def dmaHandle (c fsyn va : Nat) (s : State) : State :=
  let s := logEvent 0x0902 4 [c, s.get (dmaField Reg.DMA_CSTATE_CORE c) * 256 + dmaOwner s c,
    s.get (dmaField Reg.DMA_CELEM_INDEX c), s.get (dmaField Reg.DMA_COFFSET_DONE c), fsyn] s
  if dmaOwner s c = 0 then s
  else dmaAbort c (taskFault (dmaOwner s c - 1) fsyn va (fsyn / 2 ^ 28) false s)

/-- Channel `c` stops SUSPENDED in its element, and core 0 is notified (R508). The bursts of a copy before byte `offset` have
completed. -/
def dmaFault (c offset fsyn va : Nat) (s : State) : State :=
  let s := dmaRecord c (dmaAdvance c (offset / 64 * 64) s)
  let s := ((s.set (dmaField Reg.DMA_CFSYN c) fsyn).set (dmaField Reg.DMA_CFADDRLO_VA c) (va % 2 ^ 32)).set
    (dmaField Reg.DMA_CFADDRHI_VA c) (va / 2 ^ 32)
  dmaHandle c fsyn va ((setDma c 2 (s.raise (Reg.DMA_FAULT_CHFAULT.inst (c / 16)))).emit (.coreEvent 0 c))

/-- A double-bit error at `pa` met by a reader (R499). The access of firmware on a core is a precise fault too (R501); its virtual
address is not given. -/
def eccUncorrectable (pa : Nat) (x : EccReader) (s : State) : State :=
  match x with
  | .coreTask core va committed =>
    let n := core.val
    match (coreTasks s n).find? (fun t => taskState s t = 4) with
    | some t => coreFault n (t + 1) 5 0 0 va.toNat committed false (eccRead pa (3 + n) s)
    | none => s
  | .coreFirmware core rebuilt =>
    let n := core.val
    if !s.bit (Reg.CORE_STAT_ONLINE.inst n) || s.bit (Reg.CORE_STAT_HALTED.inst n) then s
    else
      let s := eccRead pa (3 + n) s
      let s := coreFault n 0 5 0 0 (Config.freeNat s.freeCtr % 2 ^ 48) false false s.drawn
      if rebuilt then lineRewritten pa s else writeFatal s
  | .record i => lineRewritten pa (rebuildRecord i.toNat (eccRead pa 2 s))
  | .array p => lineRewritten pa (rebuildArray p.toNat (eccRead pa 2 s))
  | .loop n again => let s := eccRead pa 1 s; if again then lineRewritten pa (reloadLoop n.toNat s) else s
  | .dma c va offset =>
    if dmaState s c.val = 1 then
      dmaFault c.val offset.toNat (fsynOf 5 0 0 0 (dmaOwner s c.val)) va.toNat (eccRead pa 7 s)
    else s

/-- ECC_UNCORRECTABLE (R499). -/
def execEccUncorrectable (pa : BitVec 36) (reader : EccReader) (s : State) : Host.Outcome State Fault Refusal :=
  done s (eccUncorrectable pa.toNat reader s)

/-- A pass of the scrubber over every line (R498, R499): the single-bit errors corrected, and an uncorrectable line that it
found; it pauses in DOZE and while a commit runs. -/
def scrubPatrol (corrected : Nat) (poisoned : Option Nat) (s : State) : State :=
  if s.bit Reg.MODE_PWRST_DOZE || s.get Reg.CSN_STAT_CSTATE = 5 then s
  else
    let s := ((s.raise Reg.MMU_STAT_SCRUBON).countSat Reg.MMU_ECCCOR_COUNT corrected).countWrap Reg.MMU_SCRUBPASS_COUNT 1
    match poisoned with
    | some pa => (eccRead pa 0xF s).raise Reg.MMU_FAULT_SCRUBUNC
    | none => s

/-- SCRUB_PATROL (R498). -/
def execScrubPatrol (corrected : Nat) (poisoned : Option (BitVec 36)) (s : State) : Host.Outcome State Fault Refusal :=
  done s (scrubPatrol corrected (poisoned.map BitVec.toNat) s)

/-! ### Invalidation (R497) -/

/-- An invalidation starts (R497). -/
def mmuInvalidate (asid : Nat) (all : Bool) (va : Nat) (s : State) : State :=
  if s.bit Reg.MMU_INVAL_BUSY then s
  else setAll [(Reg.MMU_INVAL_ASID, asid), (Reg.MMU_INVAL_ALL, b2n all), (Reg.MMU_INVADDRLO_VA, va / 4096 % 2 ^ 20),
      (Reg.MMU_INVADDRHI_VA, va / 2 ^ 32), (Reg.MMU_INVAL_BUSY, 1)] s

/-- MMU_INVALIDATE (R497). -/
def execMmuInvalidate (asid : Fin 17) (all : Bool) (va : BitVec 48) (s : State) : Host.Outcome State Fault Refusal :=
  done s (mmuInvalidate asid.val all va.toNat s)

/-- MMU_INVALIDATE_COMPLETE (R497). -/
def execMmuInvalidateComplete (s : State) : Host.Outcome State Fault Refusal :=
  done s (if s.bit Reg.MMU_INVAL_BUSY then
    { s.set Reg.MMU_INVAL_BUSY 0 with fab := { s.fab with maps := s.fab.maps + 1 } } else s)

end Sys2Proof.Machine
end

