-- ==== Sys2Proof/Machine/Dma.lean ====
section
/-! DEFINITION. DMA channels at work: chains of descriptors, window elements, faults, resume and abort (spec/13_cores_memory.md,
R505 to R511). -/

namespace Sys2Proof.Machine

/-! ### Window pages (R54 to R56) -/

/-- LOAD on a window page by requester `r`. -/
def windowLoad (p r : Nat) (s : State) : State :=
  match p with
  | 0x041 => pntLoad r s
  | 0x051 => loopLoad r s
  | 0x059 => taskLoad r s
  | 0x061 => meterLoad r s
  | 0x062 => energyLoad r s
  | 0x078 => accLoad r s
  | _ => s

/-- COMMIT on a window page by requester `r`. -/
def windowCommit (p r : Nat) (s : State) : State :=
  match p with
  | 0x041 => pntCommit r s
  | 0x051 => loopCommit r s
  | 0x059 => taskCommit r s
  | 0x061 => meterCommit r s
  | 0x062 => energyCommit r s
  | 0x078 => accCommit r s
  | _ => s

/-- The words of record `i` on a window page (R85, R245, R267, R315, R355, R356, R337, R628). -/
def recordLen (p i : Nat) : Nat :=
  match p with
  | 0x041 => 16
  | 0x051 => if i < 0x10000 then 48 else 12
  | 0x059 => 32
  | 0x061 => if i < 0x100 then 16 else if i < 0x200 then 32 else 64
  | 0x062 => if i < 0x10000 then 88 else 16
  | 0x078 => 8
  | _ => 0

/-! ### Elements (R506, R507) -/

/-- The window page that the current descriptor names. -/
def dmaPage (s : State) (c : Nat) : Nat := dmaDesc s c (if dmaKind s c = 1 then 0 else 8) 8 / 2 ^ 52
/-- The `k`-th record index of the current window element. -/
def dmaIndex (s : State) (c k : Nat) : Nat := (dmaDesc s c (if dmaKind s c = 1 then 0 else 8) 8 + k) % 2 ^ 20
/-- The memory address of record `k` of a window element: records follow one another (DEDUCED). -/
def dmaRecordAddr (s : State) (c k : Nat) : Nat :=
  dmaDesc s c (if dmaKind s c = 1 then 8 else 0) 8 % 2 ^ 48 +
    4 * ((List.range k).map (fun j => recordLen (dmaPage s c) (dmaIndex s c j))).sum

/-- The channel runs a window element. -/
def dmaWindow (s : State) (c : Nat) : Bool := dmaKind s c = 1 || dmaKind s c = 2

/-- The descriptor lies within R506; one that does not is given no effect, and its element does not complete. -/
def dmaGood (s : State) (c : Nat) : Bool :=
  let n := dmaLen s c
  if dmaKind s c = 0 then 1 ≤ n && n ≤ 16777216
  else dmaWindow s c && isWindowPage (dmaPage s c) && 1 ≤ n && n ≤ 65536

/-- A window element faults: class 6 with a code, or class 4 where the page is in its reset. No address faulted: `CFADDR` takes a
free value. -/
def dmaWindowFault (c cls code : Nat) (s : State) : State :=
  dmaFault c 0 (fsynOf cls (if dmaKind s c = 1 then 0 else 1) 0 code (dmaOwner s c)) (Config.freeNat s.freeCtr % 2 ^ 48) s.drawn

/-- A record of the element is complete. -/
def dmaRecordDone (c : Nat) (s : State) : State :=
  let k := dmaProgress s c
  dmaMoved c (k + 1) (4 * recordLen (dmaPage s c) (dmaIndex s c k)) s

/-- Channel `c` reads a poisoned line (R498, R499): its element faults with class 5 at byte or record `offset`. -/
def dmaPoisoned (c access offset va pa : Nat) (s : State) : State :=
  dmaFault c offset (fsynOf 5 access 0 0 (dmaOwner s c)) va (eccRead pa 7 s)

/-- The next record of a LOAD element, or of a COMMIT element on a page that answers at once. -/
def dmaRecordStep (c : Nat) (s : State) : State :=
  let p := dmaPage s c
  let k := dmaProgress s c
  let i := dmaIndex s c k
  let a := dmaRecordAddr s c k
  let n := recordLen p i
  match if dmaKind s c = 2 then poisonIn s 0 a (4 * n) else none with
  | some pa => dmaPoisoned c 0 0 a pa s
  | none =>
    let s := s.set ((Reg.WIN_INDEX.onPage p).by 16) i
    let s := if dmaKind s c = 1 then windowLoad p 16 s
      else windowCommit p 16 (winFill p 16 (wordsOfBytes (s.getBytes 0 a (4 * n))) s)
    let e := s.get ((Reg.WIN_ERR.onPage p).by 16)
    if e ≠ 0 then dmaWindowFault c 6 e s
    else
      let s := if dmaKind s c = 1 then
          (s.putBytes 0 a (bytesOfWords ((List.range n).map (winData s p 16)))).cleanLines 0 a (4 * n)
        else s
      dmaRecordDone c s

/-- Records of the element up to `k`, while the channel runs. -/
def dmaRecords (c : Nat) : Nat → State → State
  | 0, s => s
  | k + 1, s => dmaRecords c k (if dmaState s c = 1 then dmaRecordStep c s else s)

/-- An update of the channel waits in the point engine. -/
def dmaWaits (s : State) (c : Nat) : Bool :=
  let mine := fun (u : Update) => u.path = .dma c
  s.pt.queues.any (fun (e : Nat × List Update) => e.2.any mine) || s.pt.held.any (fun (e : Nat × List Update) => e.2.any mine) ||
    s.pt.admitted.any (fun a => mine a.upd) || s.pt.results.any (fun e => e.1 = .dma c)

/-- The element is a COMMIT on PNTWIN, whose records are answered at a commit instant (R138). -/
def dmaPoints (s : State) (c : Nat) : Bool := dmaKind s c = 2 && dmaPage s c = 0x041

/-- What the channel does when it starts, or goes on, at its element (R507): a task's window element faults, and so does one on a
page in its reset; a COMMIT on PNTWIN submits its next record, a value write. -/
def dmaBegin (c : Nat) (s : State) : State :=
  if dmaState s c ≠ 1 || !dmaWindow s c || dmaProgress s c = dmaLen s c then s
  else if dmaOwner s c ≠ 0 then dmaWindowFault c 6 6 s
  else if s.bit (Reg.HDR_STAT_DRBUSY.onPage (dmaPage s c)) then dmaWindowFault c 4 0 s
  else if !dmaGood s c || !dmaPoints s c || dmaWaits s c then s
  else if !s.bit Reg.PNT_STAT_READY then dmaWindowFault c 6 resNotReady s
  else
    let k := dmaProgress s c
    let a := dmaRecordAddr s c k
    match poisonIn s 0 a 64 with
    | some pa => dmaPoisoned c 0 0 a pa s
    | none =>
      submit { src := requesterSrc 16, target := .idx (dmaIndex s c k), path := .dma c,
               kind := .value (ofLeBytes (s.getBytes 0 a 8)) .valid } s

/-- The channel fetches its descriptor and begins its element: a descriptor in a poisoned line faults with class 5 (R499, R508). -/
def dmaStart (c : Nat) (s : State) : State :=
  let a := dmaDescAddr s c
  match poisonIn s (dmaOwner s c) a 32 with
  | some pa => dmaPoisoned c 2 0 a pa s
  | none => dmaBegin c (dmaFetch c s)

/-- The result of a record that the channel committed on PNTWIN. -/
def dmaResult (c code : Nat) (s : State) : State :=
  if !dmaPoints s c then s
  else if dmaState s c = 1 then
    (if code = resWritten then dmaBegin c (dmaRecordDone c s) else dmaWindowFault c 6 code s)
  else if dmaState s c = 2 ∧ code = resWritten then dmaRecord c (dmaRecordDone c s)
  else s

/-- Results still to come are no longer the channel's. -/
def dmaForget (c : Nat) (s : State) : State :=
  let drop := fun (u : Update) => if u.path = .dma c then { u with path := .none } else u
  { s with pt := { s.pt with
      queues := s.pt.queues.map (fun (e : Nat × List Update) => (e.1, e.2.map drop))
      held := s.pt.held.map (fun (e : Nat × List Update) => (e.1, e.2.map drop))
      admitted := s.pt.admitted.map (fun a => { a with upd := drop a.upd })
      results := s.pt.results.filter (fun e => e.1 ≠ .dma c) } }

/-- An element that is wholly moved ends the chain (LAST) or gives way to the next; WAKE raises an event on the owner's core. -/
def dmaNext (c : Nat) (s : State) : State :=
  let ctrl := dmaDesc s c 0x14 4
  let next := dmaDesc s c 0x18 8
  let s := if ctrl.testBit 9 then s.emit (.coreEvent (s.get (dmaField Reg.DMA_CSTATE_CORE c)) c) else s
  if ctrl.testBit 8 then setDma c 3 s
  else
    let s := (s.set (dmaField Reg.DMA_CDESCLO_VA c) (next / 32)).set (dmaField Reg.DMA_CDESCHI_VA c) (next / 2 ^ 32)
    dmaStart c (setElement c (dmaElement s c + 1) s)

/-- What remains of the element is moved (R505 to R507), and the element ends. A COMMIT on PNTWIN ends when its last record has
been answered. -/
def dmaElementComplete (c : Nat) (s : State) : State :=
  if dmaState s c ≠ 1 || !dmaGood s c then s
  else
    let s := dmaBegin c s
    let left := dmaLen s c - dmaProgress s c
    let s := if dmaState s c ≠ 1 then s
      else if dmaKind s c = 0 then
        match poisonedBurst s c (dmaLen s c) with
        | some (x, pa) => dmaPoisoned c 0 x (dmaSource s c + x) pa s
        | none => dmaAdvance c (dmaLen s c) s
      else if dmaPoints s c then s
      else dmaRecords c left s
    if dmaState s c = 1 ∧ dmaProgress s c = dmaLen s c then dmaNext c s else s

/-! ### The registers of a channel (R505, R509) -/

/-- GO (R505): the record of the last chain ends, the channel takes the owner and runs at `CDESC`. -/
def dmaGo (c : Nat) (s : State) : State :=
  if dmaState s c = 1 ∨ dmaState s c = 2 then s
  else
    let s := setAll [(dmaField Reg.DMA_CELEM_INDEX c, 0), (dmaField Reg.DMA_COFFSET_DONE c, 0), (dmaField Reg.DMA_CFSYN c, 0),
      (dmaField Reg.DMA_CFADDRLO_VA c, 0), (dmaField Reg.DMA_CFADDRHI_VA c, 0), (dmaField Reg.DMA_CBYTES_COUNT c, 0),
      (dmaField Reg.DMA_CSTATE_ASID c, s.get (dmaField Reg.DMA_COWN_ASID c)),
      (dmaField Reg.DMA_CSTATE_CORE c, s.get (dmaField Reg.DMA_COWN_CORE c))] (dmaForget c s)
    dmaStart c (setElement c 0 (setDma c 1 s))

/-- A suspended channel of firmware goes on in its element; a descriptor whose fetch faulted is fetched again (R509). -/
def dmaResume (c : Nat) (s : State) : State :=
  if dmaState s c = 2 ∧ dmaOwner s c = 0 then
    let s' := setDma c 1 s
    if s.get (dmaField Reg.DMA_CFSYN c) / 2 ^ 26 % 4 = 2 then dmaStart c s' else dmaBegin c s'
  else s

/-- After an F restart firmware resumes its own channels (R511). -/
def dmaRestart (s : State) : State :=
  (List.range 32).foldl (fun s c => if s.get (dmaField Reg.DMA_CFSYN c) / 2 ^ 28 = 8 then dmaResume c s else s) s

/-- A write of a channel register by requester `r`: only firmware's copies reach it; for others the register is read-only, which
a core's write answers with a bus error (R45, R505). -/
def dmaCommand (r : Fin 16) (f : State → State) (s : State) : State :=
  if 14 ≤ r.val then f s else if 10 ≤ r.val then s.emit (.busError (.req r)) else s

/-- DMA_GO (R505). -/
def execDmaGo (requester : Fin 16) (channel : Fin 32) (s : State) : Host.Outcome State Fault Refusal :=
  done s (dmaCommand requester (dmaGo channel.val) s)

/-- DMA_RESUME (R509). -/
def execDmaResume (requester : Fin 16) (channel : Fin 32) (s : State) : Host.Outcome State Fault Refusal :=
  done s (dmaCommand requester (dmaResume channel.val) s)

/-- DMA_ABORT (R509 to R511). -/
def execDmaAbort (requester : Fin 16) (channel : Fin 32) (s : State) : Host.Outcome State Fault Refusal :=
  done s (dmaCommand requester (dmaAbort channel.val) s)

/-- DMA_ELEMENT_COMPLETE (R506): the current element of a channel has been moved. -/
def execDmaElementComplete (channel : Fin 32) (s : State) : Host.Outcome State Fault Refusal :=
  done s (dmaElementComplete channel.val s)

/-- A fault of a channel at byte or record `offset` of its element (R508): `cls` 1 to 4; `fetch` says that it met the fetch of
the descriptor, whose address is recorded. -/
def dmaFaultAt (c cls access level offset va : Nat) (fetch : Bool) (s : State) : State :=
  let s := if fetch || !dmaWindow s c || dmaPoints s c || !dmaGood s c || dmaOwner s c ≠ 0 then s
    else dmaRecords c (min offset (dmaLen s c - 1) - dmaProgress s c) s
  if dmaState s c ≠ 1 then s
  else if fetch then dmaFault c 0 (fsynOf cls 2 level 0 (dmaOwner s c)) (dmaDescAddr s c) s
  else dmaFault c (min offset (dmaLen s c - 1)) (fsynOf cls access level 0 (dmaOwner s c)) va s

/-- DMA_FAULT (R508): `cls` 0 to 3 stand for classes 1 to 4. A fetch faults only before anything of the element has moved. -/
def execDmaFault (channel : Fin 32) (cls : Fin 4) (access : Fin 2) (level : Fin 4) (offset : BitVec 25) (va : BitVec 48)
    (fetch : Bool) (s : State) : Host.Outcome State Fault Refusal :=
  done s (dmaFaultAt channel.val (cls.val + 1) access.val level.val offset.toNat va.toNat
    (fetch && dmaProgress s channel.val = 0) s)

end Sys2Proof.Machine
end

