-- ==== Sys2Proof/Machine/Bank.lean ====
section
/-! DEFINITION. Which bank each component runs from, what a bank's manifest must satisfy, and trials
(spec/15_update.md, R565 to R573). -/

namespace Sys2Proof.Machine

/-- The bank other than the one that the last committed image runs from. -/
def newBank (s : State) : Nat := 1 - s.upd.home

/-- Component `c` is selected from the new bank. -/
def onNew (s : State) (c : Nat) : Bool := selectedBank s c = newBank s

/-- The fields of the UPD page that follow banks and selection (R569, R577). -/
def showUpd (s : State) : State :=
  let sel := s.get Reg.UPD_SEL_BANK
  let s := s.setBit Reg.UPD_STAT_MIXED (sel ≠ 0 && sel ≠ 31)
  let s := s.set Reg.UPD_NEWSVN_SVN (bankManifest s (newBank s)).svn
  (List.range 5).foldl (fun s c =>
    let x := component s (selectedBank s c) c
    let y := component s (1 - selectedBank s c) c
    setAll [(Reg.UPD_VERSEL_VER.ix c, x.version), (Reg.UPD_ILSEL_IL.ix c, x.level), (Reg.UPD_VERNEW_VER.ix c, y.version)] s) s

/-- The bank whose blocks may be written: the one from which no component is selected (R565). -/
def inactiveBank (s : State) : Option Nat :=
  match s.get Reg.UPD_SEL_BANK with
  | 0 => some 1
  | 31 => some 0
  | _ => none

/-- Replaces what a bank holds. -/
def setBank (b : Nat) (x : BankState) (s : State) : State :=
  { s with upd := if b = 0 then { s.upd with bankA := x } else { s.upd with bankB := x } }

/-! ### Checks (R566, R568) -/

/-- The unit's bit in the variants of a manifest. -/
def variantBit (s : State) : Nat := if s.get Reg.SYS_IDENT_VARIANT = 0x58 then 1 else 0

/-- Step 2 of R566: hardware type, variant, step "B" and serial number. -/
def manifestBinds (s : State) (m : Manifest) : Bool :=
  m.hwType = 0x4800 && m.variants.testBit (variantBit s) && m.steps.contains 0x42 &&
    (m.unit = 0 || m.unit = get64 s Reg.SYS_UNITLO_SN Reg.SYS_UNITHI_SN)

/-- Step 3 of R566. -/
def svnOk (s : State) (m : Manifest) : Bool := s.get Reg.UPD_SVNMIN_SVN ≤ m.svn

/-- A bank's manifest passes steps 1 to 3 of R566. -/
def bankPasses (s : State) (b : Nat) : Bool :=
  let x := bankOf s b
  (x.factory || x.signed) && manifestBinds s (bankManifest s b) && svnOk s (bankManifest s b)

/-- The bank of a component in a selection word. -/
def bankIn (sel c : Nat) : Nat := if sel.testBit c then 1 else 0

/-- A requirement of component `c` is not met in a selection (R568). -/
def requirementFails (s : State) (sel c : Nat) : Bool :=
  (component s (bankIn sel c) c).reqs.any (fun (r : Nat × Nat × Nat) =>
    let l := (component s (bankIn sel r.1) r.1).level
    l < r.2.1 || r.2.2 < l)

/-- A component whose requirement fails in a selection; of several, the one with the highest identifier, as in the worked
example of the chapter (DEDUCED). -/
def conflictIn (s : State) (sel : Nat) : Option Nat := [4, 3, 2, 1, 0].find? (requirementFails s sel)

/-- A selection word with component `c` taken from the other bank. -/
def flipped (sel c : Nat) : Nat := if sel.testBit c then maskClear sel c else maskSet sel c

/-! ### Switching (R569, R570) -/

/-- Every component is selected from bank `b`. -/
def allFrom (s : State) (b : Nat) : Bool := s.get Reg.UPD_SEL_BANK = (if b = 0 then 0 else 31)

/-- The selector of component `c` takes the other bank. -/
def flipBank (c : Nat) (s : State) : State := showUpd (s.set Reg.UPD_SEL_BANK (flipped (s.get Reg.UPD_SEL_BANK) c))

/-- Component `c` is switched and enters TRIAL. -/
def enterTrial (c : Nat) (s : State) : State :=
  let s := setAll [(Reg.UPD_SEL_TRIAL, 2 ^ c), (Reg.UPD_STAT_USTATE, 5), (Reg.UPD_TRIALLEFT_S, s.get Reg.UPD_TRIALCFG_TRIALTO),
    (Reg.UPD_TSTARTS_COUNT, 0)] (flipBank c s)
  { s with upd := { s.upd with trialAt := s.now, resetAt := s.now, wresets := 0 } }

/-- The component in trial. -/
def trialComp (s : State) : Option Nat :=
  if s.get Reg.UPD_STAT_USTATE = 5 then (List.range 5).find? (fun c => (s.get Reg.UPD_SEL_TRIAL).testBit c) else none

/-- The time left in the trial, in s. -/
def trialLeft (s : State) : Nat := s.get Reg.UPD_TRIALLEFT_S - (s.now - s.upd.trialAt) / second

/-- The trial bit clears, and the state follows the selection. -/
def leaveTrial (s : State) : State :=
  setAll [(Reg.UPD_SEL_TRIAL, 0), (Reg.UPD_TRIALLEFT_S, 0), (Reg.UPD_TSTARTS_COUNT, 0),
    (Reg.UPD_STAT_USTATE, if allFrom s s.upd.home then 4 else 6)] s

/-- The selector of a component in trial returns to the previous bank (R570). -/
def unselect (c : Nat) (s : State) : State := leaveTrial (flipBank c s)

/-- A revert is reported. -/
def reportRevert (c cause : Nat) (s : State) : State := logEvent 0x0B02 6 [c, cause] (s.raise Reg.UPD_FAULT_REVERT)

end Sys2Proof.Machine
end

