-- ==== Sys2Proof/Machine/Restart.lean ====
section
/-! DEFINITION. Whole-module resets, starts and restarts (spec/11_modes_power.md, R429 to R443, R455 to R462; R31, R188, R285, R378,
R487, R533, R555, R573, R601). -/

namespace Sys2Proof.Machine

/-! ### Reset (R9, R436, R437, R440, R442) -/

/-- Provisioning that has not completed leaves nothing behind (R548): its installations and the helper data are gone. -/
def provUndo (s : State) : State :=
  let parapet := s.sheets.parapet.isSome
  let s : State := { s with
    sheets := {}, cte := {},
    enc := { s.enc with nonce := none, root := none, chain := false, authorities := 0, slots := [] },
    prpt := if parapet then { s.prpt with entries := [], latches := [] } else s.prpt }
  let s := setAll [(Reg.LANE_STAT_CHVALID, 0), (Reg.PRPT_STAT_NOSHEET, 1)] (loadParapet (loadCharter s))
  let s := if parapet then s.set Reg.PRPT_AO_PACTIVE 0 else s
  showIdentity 0 ((s.set Reg.ENC_STAT_ROOTOK 0).set Reg.ENC_STAT_PROV 0)

/-- Provisioning ends incomplete (R429, R548): the mode returns to where it came from. -/
def provEnd (s : State) : State :=
  if mode s = 1 && !frozen s then
    changeMode s.enc.provFrom 2 (provUndo (if s.enc.provFrom = 7 then s.raise Reg.PNT_STAT_HALTED else s))
  else s

/-- What the tables of the point engine keep (R440): images, forces and the out-of-service bitmap; after T the bitmap alone. A P
reset (`power`) clears the bitmap (R124), and the forces where KEEP_P is 0, whose number the restore reports (R121). -/
def pointsKept (tamper power : Bool) (s : State) : PointState :=
  if tamper then { oosMap := s.pt.oosMap }
  else if power then
    let keep := s.bit Reg.FORCE_CTRL_KEEP_P
    { images := s.pt.images, arrayImages := s.pt.arrayImages, forces := if keep then s.pt.forces else [],
      forcesCleared := if keep then s.pt.forcesCleared else s.pt.forcesCleared + s.pt.forces.length }
  else { forcesCleared := s.pt.forcesCleared, images := s.pt.images, arrayImages := s.pt.arrayImages, forces := s.pt.forces, oosMap := s.pt.oosMap }

/-- What metering keeps (R440): save slots, calibration, and rings with the last record of each. -/
def meterKept (s : State) : MeterState :=
  { cal := s.mtr.cal, rings := s.mtr.rings, last := s.mtr.last, heads := s.mtr.heads, seqs := s.mtr.seqs, slot0 := s.mtr.slot0, slot1 := s.mtr.slot1 }

/-- What the task engine keeps (R306, R309, R440): images, change overlays and retained areas. -/
def tasksKept (s : State) : CteState :=
  { tasks := s.cte.tasks.map (fun (e : Nat × TaskRun) =>
      (e.1, ({ active := e.2.active, staged := e.2.staged, overlay := e.2.overlay, saved := e.2.saved } : TaskRun))) }

/-- What a pair member keeps (R418, R440): the checkpoint, its journal and its progress record. -/
def pairKept (s : State) : PairState :=
  { home := s.pair.home, stage := if s.pair.home.isSome then s.pair.stage else none, progress := s.pair.progress, ckEpoch := s.pair.ckEpoch }

/-- What the enclave keeps (R440, R543, R555, R557): the store; after T nothing but the zeroized marker and the windows of its page,
which are class V. -/
def enclaveKept (tamper : Bool) (s : State) : EnclaveState :=
  if tamper then { zeroized := true, inputs := s.enc.inputs, outputs := s.enc.outputs }
  else { nonce := s.enc.nonce, chain := s.enc.chain, authorities := s.enc.authorities, zeroized := s.enc.zeroized, tripped := s.enc.tripped }

/-- What the access block keeps (R440, R618, R626): the cache; after T the ring, which is class V. -/
def accessKept (tamper : Bool) (s : State) : AccessState :=
  if tamper then { ring := s.acc.ring, written := s.acc.written, passed := s.acc.passed } else { cache := s.acc.cache }

/-- What the parapet keeps through every reset but P (R372, R374, R380, R440): output state, latches, and of its entries the value last
released with its instant and the change tokens; the records of the last 10 s and the clipped requests already counted. -/
def parapetKept (s : State) : ParapetState :=
  { out := s.prpt.out, latches := s.prpt.latches, logged := s.prpt.logged, feedReq := s.prpt.feedReq,
    entries := s.prpt.entries.map (fun (e : Nat × EntryState) =>
      (e.1, ({ rel := e.2.rel, lchg := e.2.lchg, tokens := e.2.tokens, tokensAt := e.2.tokensAt } : EntryState))) }

/-- The tables beside the registers after a reset of kind `code`, 1 P, 2 B, 3 W, 4 S or 6 T (R440). -/
def resetTables (code : Nat) (s : State) : State :=
  let tamper := decide (code = 6)
  { s with
      keys := [], sessions := [], lane := {}, pt := pointsKept tamper (code = 1) s, seg := { ports := s.seg.ports }, pbus := if tamper then s.pbus else [], mem := [],
      prpt := if code = 1 then {} else parapetKept s,
      log := { (if tamper then s.log else { s.log with buffer := [], drops := [] }) with lastMark := none },
      sheets := if tamper then {} else s.sheets, cle := {}, cte := if tamper then {} else tasksKept s,
      time := if tamper then s.time else { since := s.now }, mtr := if tamper then {} else meterKept s,
      via := { enrolled := if tamper then [] else s.via.enrolled }, uplinks := if tamper then s.uplinks else [],
      pair := if tamper then {} else pairKept s, abut := [], fab := {}, enc := enclaveKept tamper s,
      clk := if tamper then { s.clk with cf2 := none } else { ircFrom := some s.now },
      upd := { s.upd with writing := none, staging := [], resetAt := s.now }, uio := { sampled := [] }, rtc := { s.rtc with snaps := [] }, acc := accessKept tamper s, lift := {},
      pwr := { epoch := s.pwr.epoch + 1, journal := if tamper then [] else s.pwr.journal, noCommit := s.pwr.noCommit,
               startAt := s.now, wdAt := s.now, chargeAt := s.now } }

/-- The reset kind is recorded (R437); the bank charges from now on (R447). -/
def recordReset (code : Nat) (s : State) : State :=
  let s := (s.set Reg.MODE_RCAUSE_LAST code).set Reg.MODE_RCAUSE_HIST (maskSet (s.get Reg.MODE_RCAUSE_HIST) (code - 1))
  s.set Reg.CSN_STAT_CSTATE 1

/-- A verification or a transfer in progress ends (R566, R574, R577). -/
def updReset (receiving : Bool) (s : State) : State :=
  let s := updStop s
  if receiving then s.raise Reg.UPD_FAULT_ABORTED else s

/-- A whole-module reset of kind `code` whose Kept letter has this bit (R9, R436). At T, which keeps the pages, updates that wait are
answered NOT_READY (R134). -/
def resetMachine (bit code : Nat) (s : State) : State :=
  let receiving := decide (s.get Reg.UPD_STAT_USTATE = 1)
  let s := if s.bit Reg.CLK_STAT_AOSRC then rtcRebase s else s
  let s := closeSession 9 (if mode s = 1 then provUndo s else s)
  let s := if code = 6 then refuseAll s else s
  let s := if code = 1 then s.set Reg.PWR_AO_FEED_HOLD 0 else parapetReset s
  let s := (List.range 32).foldl (fun s p => portReset bit p s) s
  let s := resetRegs bit (fun p => !(0x100 ≤ p && p ≤ 0x15F)) s
  let s := trimRestart (showUpd (updReset receiving (recordReset code (showOut (resetTables code s)))))
  if code = 1 then s else coarseFollow s

/-! ### Tamper (R553 to R555) -/

/-- Steps 1 to 4 of R555: secrets and helper data are gone, TAMPER is written, ZEROIZED is entered, and the T reset follows; a
component in trial reverts at it (R574). -/
def zeroize (s : State) : State :=
  let s := encAbandon (dozeWake s)
  let s := { s with enc := { zeroized := true, inputs := s.enc.inputs, outputs := s.enc.outputs } }
  let s := showIdentity 0 ((s.countSat Reg.TAMP_TCNT_COUNT 1).set Reg.ENC_STAT_ROOTOK 0)
  let s := logEvent 0x0A00 7 [s.get Reg.TAMP_CAUSE_BITS, s.get Reg.TAMP_TTIME_S] s
  let trial := trialComp s
  let s := match trial with | some c => unselect c s | none => s
  let s := (resetMachine 64 6 (enterZeroized s)).raise Reg.PNT_STAT_HALTED
  if trial.isSome then s.raise Reg.UPD_FAULT_REVERT else s

/-- A trip with these cause bits: the latch sets; without main power, or while no fast domain runs, the rest waits (R482, R555). -/
def tamperTrip (bits : Nat) (s : State) : State :=
  let s := s.set Reg.TAMP_CAUSE_BITS (s.get Reg.TAMP_CAUSE_BITS ||| bits)
  let s := (s.raise Reg.TAMP_STAT_LATCH).set Reg.TAMP_TTIME_S (rtcSeconds s)
  if s.pwr.powered && s.clk.cf2.isNone then zeroize s else { s with enc := { s.enc with tripped := true } }

/-- TAMPER_TRIP (R553): the sensors that trip in one AO cycle; each counts only while its ARM bit is 1. -/
def execTamperTrip (sensors : BitVec 6) (s : State) : Host.Outcome State Fault Refusal :=
  let bits := sensors.toNat &&& s.get Reg.TAMP_ARM_BITS
  done s (if bits = 0 then s else tamperTrip bits s)

/-- ZEROIZE_COMMAND (R550): from the service port, in SERVICE or in UNPROVISIONED while PROV is 1. -/
def zeroizeCommand (r : Nat) (s : State) : State :=
  if r = 9 && sessionOpen s 9 && (mode s = 5 || (mode s = 0 && s.bit Reg.ENC_STAT_PROV)) then tamperTrip 128 s else s

/-- ZEROIZE_COMMAND (R550). -/
def execZeroizeCommand (requester : Fin 16) (s : State) : Host.Outcome State Fault Refusal :=
  done s (askPage requester 0x020 (zeroizeCommand requester.val) s)

/-- CLKFAIL2_RETRY (R480 to R482): every 33 AO cycles; a tamper that waited acts at the restart. -/
def execClkfail2Retry (success : Bool) (s : State) : Host.Outcome State Fault Refusal :=
  done s (match s.clk.cf2 with
    | none => s
    | some _ =>
      let s := clkfail2Retry success s
      if success && s.enc.tripped then zeroize s else s)

/-! ### The caisson at a start (R456, R457) -/

/-- A journal half is free again. -/
def freeJournal (h : Nat) (s : State) : State := setHalf h 0 { s with pwr := { s.pwr with journal := tabErase h s.pwr.journal } }

/-- The sealed sections of a half are written to their home locations; SAVESEQ shows the energy image (R354). -/
def applyHalf (j : JournalHalf) (s : State) : State :=
  let s : State := match j.sealed1, j.image with
    | true, some (k, i) => (putSlot k (some i) s).set Reg.MTR_SAVESEQ_SEQ i.seq
    | _, _ => s
  if !j.sealed2 then s
  else
    let u := j.units
    let s := { s with pt := { s.pt with
      images := u.images.foldl (fun t (e : Nat × PointRec) => tabInsert e.1 e.2 t) s.pt.images,
      arrayImages := u.halves.foldl (fun t (e : Nat × List Nat) =>
        e.2.zipIdx.foldl (fun t (x : Nat × Nat) => tabPut 0 ((e.1 - 2 ^ 20) * 8 + x.2) x.1 t) t) s.pt.arrayImages } }
    let s := u.retained.foldl (fun s (e : Nat × Table Nat) => s.setTask e.1 { s.task e.1 with saved := e.2 }) s
    u.log.foldl (fun s r => logStore s { r with cmt := true }) s

/-- The halves in CMTSEQ order. -/
def journalOrder (s : State) : List (Nat × JournalHalf) :=
  match s.pwr.journal with
  | [a, b] => if (b.2.cmtseq + 2 ^ 32 - a.2.cmtseq) % 2 ^ 32 < 2 ^ 31 then [a, b] else [b, a]
  | t => t

/-- The journal at a start after P, B, W or S (R457): records are written once the recorder runs, so they are answered here. -/
def examineJournal (s : State) : State × List (Nat × Nat × List Nat) :=
  let js := journalOrder s
  let s := js.foldl (fun s (e : Nat × JournalHalf) => freeJournal e.1 (applyHalf e.2 s)) s
  let s := if js.any (fun e => e.2.sealed1 || e.2.sealed2) then s.raise Reg.CSN_FAULT_JREPLAY else s
  let s := if js.any (fun e => !e.2.sealed1 || !e.2.sealed2) then s.raise Reg.CSN_FAULT_JDISCARD else s
  let commits := (js.filter (fun e => e.2.sealed1 || e.2.sealed2)).map (fun e =>
    ((0x0700, 6, [e.2.cmtseq, e.2.instant, if e.2.sealed2 then e.2.sealUs else Config.freeNat s.freeCtr]) : Nat × Nat × List Nat))
  let cause := if js.any (fun e => !e.2.sealed2) then 1 else if s.get Reg.MODE_RCAUSE_LAST = 1 then 2 else 3
  let bound : List (Nat × Nat × List Nat) := if js.any (fun e => e.2.sealed2) then [] else [(0x0701, 5, cause :: lossBounds)]
  (s.drawn, commits ++ bound)

/-! ### Operating time and the recorder at a start (R601, R604) -/

/-- The newest record in the log. -/
def newestRecord (s : State) : Option LogRecord :=
  (storedRecords s).foldl (fun best r => match best with
    | none => some r
    | some b => if seqAtOrAfter r.seq b.seq then some r else best) none

/-- OPTIME resumes, and SEQ after the newest record. -/
def recorderStart (s : State) : State :=
  let last := newestRecord s
  let opt := match last with | some r => max (s.log.optSaved + 1000) (r.optime + 1) | none => s.log.optSaved + 1000
  let s := match last with | some r => s.set Reg.LOG_NEXTSEQ_SEQ (r.seq + 1) | none => s
  ({ s with log := { s.log with optBase := opt, optAt := s.now, optSaveAt := s.now } }).raise Reg.LOG_STAT_READY

/-- Several records in order. -/
def logEvents (rs : List (Nat × Nat × List Nat)) (s : State) : State :=
  rs.foldl (fun s (r : Nat × Nat × List Nat) => logEvent r.1 r.2.1 r.2.2 s) s

/-! ### Loading the components (R567, R570, R573) -/

/-- Component `c` passes its load check from bank `b`; `failed` names the components whose digest fails. -/
def loads (failed : List (Nat × Nat)) (s : State) (b c : Nat) : Bool := bankPasses s b && !failed.contains (b, c)

/-- What the loading of the components leads to: the start goes on, the reset of R563 is made again, or the start halts. -/
inductive LoadEnd where
  | go (s : State)
  | again (c cause : Nat) (s : State)
  | halt (s : State)
deriving DecidableEq, Repr

/-- The start counts toward the limit of a trial (R570). -/
def trialStart (failed : List (Nat × Nat)) (s : State) : LoadEnd :=
  match trialComp s with
  | none => .go s
  | some c =>
    let n := s.get Reg.UPD_TSTARTS_COUNT + 1
    if !loads failed s (selectedBank s c) c then .again c 1 s
    else if n ≥ 3 then .again c 4 s
    else .go (s.set Reg.UPD_TSTARTS_COUNT n)

/-- A component that is not in trial and fails its load check is taken from the other bank, or stops the start (R573). -/
def fallback (failed : List (Nat × Nat)) (c : Nat) (r : LoadEnd) : LoadEnd :=
  match r with
  | .go s =>
    let b := selectedBank s c
    if loads failed s b c then .go s
    else if bankPasses s (1 - b) && (conflictIn s (flipped (s.get Reg.UPD_SEL_BANK) c)).isNone then
      let s := (flipBank c s).raise Reg.UPD_FAULT_REVERT
      .go (if s.get Reg.UPD_STAT_USTATE = 6 ∧ allFrom s s.upd.home then s.set Reg.UPD_STAT_USTATE 4 else s)
    else if c = 0 then .halt s
    else .go ((s.raise Reg.MODE_CTRL_FATAL).raise Reg.MODE_FAULT_FATAL)
  | r => r

/-- The components are loaded in order; trials first. -/
def loadComponents (failed : List (Nat × Nat)) (s : State) : LoadEnd :=
  let t := trialComp s
  ((List.range 5).filter (fun c => t ≠ some c)).foldl (fun r c => fallback failed c r) (trialStart failed s)

/-- The reset by which a switch of component `c` takes effect (R563): S, or the domain reset of its block. -/
def componentReset (c : Nat) (s : State) : State :=
  if c = 3 then domainReset 0x050 s else if c = 4 then domainReset 0x060 s else resetMachine 8 4 s

/-- A trial fails or is rejected (R570): selector, reset, report. -/
def revertTrial (c cause : Nat) (s : State) : State := reportRevert c cause (componentReset c (unselect c s))

/-! ### Full start (R285, R429, R462, R487) -/

/-- The clocks at a start (R487): the references, and a start in fallback where XT25 fails. -/
def clockStart (xt irc : Bool) (s : State) : State :=
  let s := { s.set Reg.CLK_PLLSTAT_LOCK 0x3F with clk := { s.clk with ircFrom := none } }
  let s := if irc then s.raise Reg.CLK_IRCSTAT_READY else ircFailed s
  if xt || s.clk.bootFail.isSome then s else startFallback 2 s

/-- A start that had no clock at first goes on in fallback, with what R481 says of a restart (R487). -/
def clockRecovered (s : State) : State :=
  match s.clk.bootFail with
  | some x => cf2Restart x { s with clk := { s.clk with bootFail := none } }
  | none => s

/-- TAI is set from the calendar clock, if its time is valid (R285); at T the time base runs on. -/
def timeStart (s : State) : State :=
  if s.get Reg.MODE_RCAUSE_LAST = 6 then s
  else
    let s := timeRebase s
    if s.bit Reg.RTC_STAT_VALID then
      ({ s with time := { s.time with tai := (rtcTaiMs s).toNat * msec } }).raise Reg.TBASE_STAT_SET
    else ({ s with time := { s.time with tai := 0 } }).raise Reg.TBASE_FAULT_NOSET

/-- The mode that the start chooses (R429): ZEROIZED by latch or marker, UNPROVISIONED without an identity, else STANDBY. -/
def chosenMode (s : State) : Nat :=
  if s.bit Reg.TAMP_STAT_LATCH || s.enc.zeroized then 7 else if s.enc.root.isNone || !s.bit Reg.ENC_STAT_PROV then 0 else 2

/-- The mode is set (R429), and KEY of every page closes (R48). LASTTR.FROM has no code for a start: it is a free value. -/
def startMode (m : Nat) (s : State) : State :=
  let from' := Config.freeNat s.freeCtr % 8
  let s := { s with keys := [] }
  let s := setAll [(Reg.MODE_STAT_MODE, m), (Reg.MODE_LASTTR_FROM, from'), (Reg.MODE_LASTTR_TO, m), (Reg.MODE_LASTTR_CAUSE, 1),
    (Reg.ACC_STAT_RUNNING, 0)] s.drawn
  let s := s.countWrap Reg.MODE_TRCNT_COUNT 1
  logEvent 0x0002 (modeSeverity m) [from', m, 1, s.get Reg.MODE_STAT_SHORT, s.get Reg.MODE_STAT_HCAUSE] s

/-- The checkpoint's home writes complete from its journal, or a broken progress record asks for a full one (R418). -/
def pairStart (s : State) : State :=
  match s.pair.home, s.pair.stage with
  | some (_, false), some g =>
    let s := (stagedEntries g).foldl (fun s e => match e with
      | .record i pv sv ts m =>
        let x : PointRec := tabGet {} s.pt.images i
        { s with pt := { s.pt with images := tabInsert i { x with pv := pv, sv := sv, ts := ts, pamask := m } s.pt.images } }
      | .array h ls =>
        let a := ls.zipIdx.foldl (fun t (x : Nat × Nat) => tabPut 0 (8 * h + x.2) x.1 t) s.pt.arrayImages
        { s with pt := { s.pt with arrayImages := a } }
      | _ => s) s
    { s with pair := { s.pair with home := none, stage := none } }
  | some (_, true), _ => ({ s with pair := { s.pair with home := none, stage := none } } : State).raise Reg.PAIR_STAT_RESYNC
  | _, _ => if s.pair.progress then s.raise Reg.PAIR_STAT_RESYNC else s

/-- What the start loads in a mode in which the sheets are in force. -/
def startEngines (saveBad retainBad : List Nat) (s : State) : State :=
  let s := if (charter s).inUse ≠ 0 then loadCharter s else s
  let s := if s.sheets.parapet.isSome then loadParapet s else s
  let s := loadConfig s
  let s := cteReload retainBad (cleReload (pairStart s))
  let s := meterRestore saveBad s
  viaFollow (routeReleases (parapetFollow 1 s))

/-- The records of a start: the backup domain, the reset and what the journal told (R437, R457, R582). -/
def startRecords (rs : List (Nat × Nat × List Nat)) (s : State) : State :=
  let s := if s.rtc.lostCause ≠ 0 then logEvent 0x0012 5 [s.rtc.lostCause] s else s
  let s := logEvents rs (coarseRecord { s with rtc := { s.rtc with lostCause := 0 } })
  logEvent 0x0001 6 [s.get Reg.MODE_RCAUSE_LAST, s.get Reg.MODE_RCAUSE_HIST, mode s, s.pwr.epoch] s

/-- Arming was lost (R554): the backup domain lost its state while the unit is provisioned. -/
def armLost (s : State) : Bool := s.rtc.lostCause ≠ 0 && !s.bit Reg.RTC_STAT_VALID && s.bit Reg.ENC_STAT_PROV

/-- CSTATE is CHARGING at each start, unless charging has ended before the mode is chosen (R447). -/
def chargeStart (s : State) : State :=
  if s.get Reg.CSN_STAT_CSTATE = 0 ∧ s.get Reg.PWR_VHU_V10M = 0 then
    { s.set Reg.CSN_STAT_CSTATE 1 with pwr := { s.pwr with chargeAt := s.now } }
  else s

/-- The start once the components are loaded. -/
def startRun (xt irc : Bool) (saveBad retainBad : List Nat) (s : State) : State :=
  let last := s.get Reg.MODE_RCAUSE_LAST
  let s := chargeStart { s with pwr := { s.pwr with booting := false } }
  let j := if last = 6 then (s, []) else examineJournal s
  let s := if last = 6 then j.1.raise Reg.LOG_STAT_READY else recorderStart j.1
  let s := timeStart s
  let s := clockStart xt irc s
  let s := enclaveUp s
  let s := (List.range 4).foldl (fun s n => coreOnline n s) (s.raise Reg.MMU_STAT_SCRUBON)
  let s := s.set Reg.MODE_STAT_HCAUSE (s.get Reg.MODE_CTRL_HOLD + 4 * s.get Reg.MODE_CTRL_FATAL)
  let s := if 2 ≤ last ∧ last ≤ 4 then s.raise Reg.MODE_FAULT_RESET else s
  let s := checkIfNone (startMode (chosenMode s) s)
  let s := startRecords j.2 s
  let s := if mode s = 2 then startEngines saveBad retainBad s else cteReload [] s
  let s := (List.range 32).foldl (fun s p => portUp p s) s
  clockRecovered ((showMonitors s).raise Reg.PNT_STAT_RESTORING)

/-- FULL_START (R462, R533): `vin` in 10 mV; whether XT25 and the IRC pass their windows; the components whose digest fails, as
bank and identifier; save slots and retained areas that fail their CRC. Without a clock the AO safety logic takes over, and the start
waits for its retry (R480, R487). -/
def fullStart (vin : Nat) (xt irc : Bool) (failed : List (Nat × Nat)) (saveBad retainBad : List Nat) (s : State) : State :=
  if !s.pwr.booting || !s.pwr.powered || s.clk.cf2.isSome then s
  else if !xt && !irc then cf2Start 1 s
  else
    let s := (s.set Reg.PWR_VIN_V10M vin).setBit Reg.PWR_STAT_INOK (inputOk vin)
    let s := s.setBit Reg.TAMP_FAULT_TAMPER (s.bit Reg.TAMP_STAT_LATCH)
    if s.enc.tripped then zeroize s
    else if armLost s && !s.bit Reg.TAMP_ARM_LOSSACT then tamperTrip 64 s
    else
      let s := if armLost s then setAll [(Reg.TAMP_FAULT_ARMLOST, 1), (Reg.TAMP_ARM_BITS, 0), (Reg.TAMP_STAT_ARMED, 0)] s else s
      match loadComponents failed s with
      | .go s => startRun xt irc saveBad retainBad s
      | .again c cause s => revertTrial c cause s
      | .halt s => s

/-- FULL_START (R462). -/
def execFullStart (vin : BitVec 16) (xt25 irc : Bool) (failed : List (Nat × Nat)) (saveBad retainBad : List Nat) (s : State) :
    Host.Outcome State Fault Refusal := done s (fullStart vin.toNat xt25 irc failed saveBad retainBad s)

/-- The store is READY (R131): firmware sets RUN in both engines, and the start is over; a hold cause then acts (R429). In
ZEROIZED the engine is halted and never ready (R134). -/
def storeReady (failed : List Nat) (s : State) : State :=
  if s.pwr.booting || (s.bit Reg.PNT_STAT_READY && !s.bit Reg.PNT_STAT_RESTORING) then s
  else if mode s = 7 then ((s.raise Reg.PNT_STAT_HALTED).set Reg.PNT_STAT_RESTORING 0).set Reg.MODE_STAT_STARTING 0
  else
    let s := ((storeRestore failed s).raise Reg.CLE_CTRL_RUN).raise Reg.CTE_CTRL_RUN
    modeFollow (showCte (showCle (keystoneFollow (latchesFollow (s.set Reg.MODE_STAT_STARTING 0)))))

/-- POINT_STORE_RESTORE (R131, R132): `failed` lists the records whose MRAM image fails its ECC check. -/
def execPointStoreRestore (failed : List Nat) (s : State) : Host.Outcome State Fault Refusal := done s (storeReady failed s)

/-! ### Power (R443, R455) -/

/-- POWER_LOSS (R455): the internal bus falls below 22.0 V. What the power-on reset clears is lost; time left in a trial stands
still. -/
def powerLoss (s : State) : State :=
  if !s.pwr.powered then s
  else
    let left := trialLeft s
    let e := s.pwr.epoch
    let s := if s.bit Reg.CLK_STAT_AOSRC && !s.rtc.rc32 then coarseStart 1 { s with pwr := { s.pwr with powered := false } } else s
    let s := resetMachine 1 1 (s.set Reg.UPD_TRIALLEFT_S left)
    { s with pwr := { s.pwr with epoch := e, powered := false } }

/-- POWER_LOSS (R455). -/
def execPowerLoss (s : State) : Host.Outcome State Fault Refusal := done s (powerLoss s)

/-- POWER_ON_START (R443): V_in has stayed above 35.0 V for 10 ms after loss of power; `backupOk` is whether the backup bytes agree
with their CRC (R582). -/
def powerOn (vin : Nat) (backupOk : Bool) (s : State) : State :=
  if s.pwr.powered then s
  else
    let s := { s with pwr := { s.pwr with powered := true, booting := true, epoch := s.pwr.epoch + 1, startAt := s.now, wdAt := s.now,
                                          chargeAt := s.now },
                      upd := { s.upd with trialAt := s.now, resetAt := s.now }, time := { since := s.now }, clk := { s.clk with ircFrom := some s.now } }
    let s := (recordReset 1 (coarseFollow s)).countSat Reg.LOG_PCC_COUNT 1
    let s := (s.set Reg.PWR_VIN_V10M vin).setBit Reg.PWR_STAT_INOK (inputOk vin)
    if backupOk then s
    else
      let s := (backupDefaults s).raise Reg.RTC_FAULT_BKCRC
      { s with rtc := { s.rtc with lostCause := 2 } }

/-- POWER_ON_START (R443). -/
def execPowerOnStart (vin : BitVec 16) (backupOk : Bool) (s : State) : Host.Outcome State Fault Refusal :=
  done s (powerOn vin.toNat backupOk s)

/-- BACKUP_DOMAIN_RESET (R581): the arming of the tamper sensors is lost with it (R554). -/
def execBackupDomainReset (s : State) : Host.Outcome State Fault Refusal :=
  done s (((backupReset s).set Reg.TAMP_ARM_BITS 0).set Reg.TAMP_STAT_ARMED 0)

/-- BROWNOUT_RESET (R436, R437): the rail whose monitor tripped first, 0 core to 4 SerDes. -/
def execBrownoutReset (rail : Fin 5) (s : State) : Host.Outcome State Fault Refusal :=
  done s (if s.pwr.powered then (resetMachine 2 2 s).set Reg.MODE_RCAUSE_BRAIL (rail.val + 1) else s)

/-! ### Watchdog and software reset (R438, R439) -/

/-- A W reset; the second within a trial fails it (R570). -/
def watchdogReset (s : State) : State :=
  match trialComp s with
  | none => resetMachine 4 3 s
  | some c =>
    let n := s.upd.wresets + 1
    if n ≥ 2 then reportRevert c 3 (resetMachine 4 3 (unselect c s))
    else
      let s := resetMachine 4 3 s
      { s with upd := { s.upd with wresets := n } }

/-- The watchdog counts: not in DOZE, not from a warning to the F restart, and not while no fast domain runs. -/
def watchdogRuns (s : State) : Bool := s.pwr.powered && !s.bit Reg.MODE_PWRST_DOZE && !frozen s && s.clk.cf2.isNone

/-- WATCHDOG_EXPIRY (R438): PER ms after the last service. -/
def execWatchdogExpiry (s : State) : Host.Outcome State Fault Refusal :=
  done s (if watchdogRuns s then watchdogReset (s.reach (s.pwr.wdAt + s.get Reg.MODE_WDCFG_PER * msec)) else s)

/-- A write of `WDKICK`: the two words in alternation; any other word, or the same twice running, causes a W reset. -/
def watchdogKick (w : Nat) (s : State) : State :=
  if !s.pwr.powered || frozen s then s
  else if (w = 0x5A5A5A5A || w = 0xA5A5A5A5) && s.pwr.wdLast ≠ some w then { s with pwr := { s.pwr with wdAt := s.now, wdLast := some w } }
  else watchdogReset s

/-- WATCHDOG_KICK (R438). -/
def execWatchdogKick (word : Word) (s : State) : Host.Outcome State Fault Refusal := done s (watchdogKick word.toNat s)

/-- SOFTWARE_RESET_REQUEST (R439): refused while PFREEZE is 1. -/
def requestReset (s : State) : State :=
  if frozen s then s.raise Reg.MODE_FAULT_TRANSREF
  else if s.pwr.srstAt.isSome then s
  else { s with pwr := { s.pwr with srstAt := some s.now } }

/-- SOFTWARE_RESET_REQUEST (R439). -/
def execSoftwareResetRequest (s : State) : Host.Outcome State Fault Refusal := done s (requestReset s)

/-- SOFTWARE_RESET (R439): 2 ms after the request; a warning in between turns it away. -/
def execSoftwareReset (s : State) : Host.Outcome State Fault Refusal :=
  done s (match s.pwr.srstAt with
    | none => s
    | some t =>
      if frozen s then { s with pwr := { s.pwr with srstAt := none } }.raise Reg.MODE_FAULT_TRANSREF
      else resetMachine 8 4 (s.reach (t + 2 * msec)))

/-! ### F restart (R456, R458) -/

/-- Step 3 of R456: each sealed section is applied, and the half is free. -/
def applyCommit (s : State) : State :=
  match tabFind s.pwr.half s.pwr.journal with
  | none => s
  | some j =>
    let s := freeJournal s.pwr.half (applyHalf j s)
    let s : State := if j.sealed2 then { s with pt := { s.pt with dirty := [] }, log := { s.log with buffer := [] } } else s
    let s := if j.sealed2 then (s.set Reg.PNT_DIRTY_COUNT 0).set Reg.LOG_BUFUSE_BYTES 0 else s
    s.set Reg.CSN_STAT_JPEND 0

/-- The engines resume and the module re-enters its mode, which the parapet treats as entry to that mode (R378, R456). -/
def resumeEngines (s : State) : State :=
  let s := setAll [(Reg.PNT_STAT_HALTED, b2n (mode s = 7)), (Reg.CLE_STAT_HALTED, 0), (Reg.CTE_STAT_HALTED, 0), (Reg.MODE_STAT_PFREEZE, 0)] s
  let s := encNext (dmaRestart (meterFRestart (showCte (showCle (initLoops s)))))
  let s := routeReleases (parapetFollow 1 s)
  let s := if paired s then
      let s := { s.set Reg.PAIR_STAT_ROLE 3 with pair := { s.pair with leaseEnd := 0, reqs := [], granting := true } }
      if mayAsk s then sendLreq 3 0 (abutKeys s) s else s
    else s
  modeFollow (if sessionOpen s 9 then s else provEnd s)

/-- An F restart: reset kind F, the sealed sections, and the return to the mode. -/
def fRestartNow (s : State) : State :=
  let s := setAll [(Reg.PWR_STAT_ISOL, 0), (Reg.PWR_STAT_PFW, 0), (Reg.CSN_STAT_CSTATE, 1)] s
  let s := (s.set Reg.MODE_RCAUSE_LAST 5).set Reg.MODE_RCAUSE_HIST (maskSet (s.get Reg.MODE_RCAUSE_HIST) 4)
  let s := closeSession 9 (closeUplinkSessions (dropViaSessions (dozeWake (parapetReset s))))
  let s := { s with pwr := { s.pwr with epoch := s.pwr.epoch + 1, restartWaits := false, planned := false, checked := false,
                                        chargeAt := s.now, wdAt := s.now, srstAt := none },
                    seg := { s.seg with awaitCheck := true }, pt := { s.pt with pubs := [] }, keys := [],
                    rtc := { s.rtc with snaps := [] } }
  resumeEngines (applyCommit s)

/-- A commit is still being written. -/
def commitRuns (s : State) : Bool := s.pwr.planned && !s.pwr.stopped && s.get Reg.CSN_STAT_CSTATE ≠ 6

/-- F_RESTART (R456): V_in has stayed above 35.0 V for 10 ms while the bus was held; a commit in progress runs to its seals. -/
def fRestart (vin : Nat) (s : State) : State :=
  if !frozen s || !s.pwr.powered || s.clk.cf2.isSome then s
  else
    let s := (s.set Reg.PWR_VIN_V10M vin).setBit Reg.PWR_STAT_INOK (inputOk vin)
    if commitRuns s then { s with pwr := { s.pwr with restartWaits := true } } else fRestartNow s

/-- F_RESTART (R456): `vin` in 10 mV. -/
def execFRestart (vin : BitVec 16) (s : State) : Host.Outcome State Fault Refusal := done s (fRestart vin.toNat s)

/-- A restart that waited begins once the commit has ended. -/
def restartIfWaiting (s : State) : State := if s.pwr.restartWaits && !commitRuns s then fRestartNow s else s

/-- CAISSON_SECTION_SEAL (R452): section 1 or 2, `us` after the warning. -/
def execCaissonSectionSeal (second : Bool) (us : Word) (s : State) : Host.Outcome State Fault Refusal :=
  done s (restartIfWaiting (sectionSeal (if second then 2 else 1) us.toNat s))

/-- COMMIT_HOLDUP_EXHAUSTED (R454). -/
def execCommitHoldupExhausted (s : State) : Host.Outcome State Fault Refusal := done s (restartIfWaiting (holdupExhausted s))

end Sys2Proof.Machine
end

