-- ==== Sys2Proof/Machine/PapBase.lean ====
section
/-! DEFINITION. How a PAP or service-port request is served (spec/02_register_pages.md, R63, R69 to R78): order, kept responses,
tokens, the form of a request, and its response. -/

namespace Sys2Proof.Machine

/-- The requester copy of a connection: a PAP session slot, or copy 9 for the service port. -/
def connCopy : Option (Fin 8) → Nat
  | some k => k.val
  | none => 9

/-- The page that a request names. -/
def papPage (q : PapRequest) : Nat := q.page.toNat % 4096

/-- A data word of a request. -/
def papWord (q : PapRequest) (i : Nat) : Nat := match q.data[i]? with | some w => w.toNat | none => 0

/-- The operation works on a window: WREAD, WWRITE. -/
def opWindow (op : Nat) : Bool := op = 4 || op = 5
/-- The operation carries write data for registers: WRITE, LWRITE, WWRITE. -/
def opWrites (op : Nat) : Bool := op = 2 || op = 3 || op = 5

/-- The data bytes that a record of this operation must carry (R72). -/
def opDataBytes (op count : Nat) : Nat :=
  if opWrites op then 4 * count else if op = 0x10 then 65540 else if op = 0x11 then 1028 else 0

/-- The indivisible write that R177 settles: one WRITE over `CTRL` to `POOS` of a SEG page that sets `SVYREQ` and sets `OOS`. It
is executed although its range includes KEY and registers whose fields are all RO, which it leaves as they are (assumption 59). -/
def surveyWrite (op : Nat) (q : PapRequest) : Bool :=
  let at' := fun o => if q.offset.toNat ≤ o && o < q.offset.toNat + 4 * q.count.toNat && q.offset.toNat % 4 = 0
    then papWord q ((o - q.offset.toNat) / 4) else 0
  op = 2 && 0x100 ≤ q.page.toNat && q.page.toNat ≤ 0x11F && (at' 0x008).testBit 2 && (at' 0x054).testBit 0

/-- The range of the request is bad (R50, R72). For WREAD and WWRITE OFFSET counts from the window's DATA at 0x100 (DEDUCED). -/
def badRange (op : Nat) (q : PapRequest) : Bool :=
  let off := q.offset.toNat
  let n := q.count.toNat
  let base := if opWindow op then 0x100 else 0
  if 6 ≤ op then n ≠ 0 || off ≠ 0
  else n = 0 || 256 < n || 0x1000 < base + off + 4 * n || ((op = 2 || op = 3) && off ≤ 0x018 && 0x018 < off + 4 * n && !surveyWrite op q)

/-- A reserved field of the request is nonzero (R69): the page's upper bits, bytes 10 and 11, and ARG where it is not used. -/
def badReserved (op : Nat) (q : PapRequest) : Bool :=
  4096 ≤ q.page.toNat || q.pad ≠ 0 || (if opWindow op then 2 ^ 20 ≤ q.arg.toNat else op ≤ 6 && q.arg ≠ 0)

/-- The OP byte of a request that is presented as operation `op` of R71: another byte where the request carries one. -/
def papOp (op : Nat) (q : PapRequest) : Nat := match q.op with | some o => o.toNat | none => op

/-- The first failing condition among those of R72 that lie in the request alone; 0 where none fails. -/
def formStatus (k op : Nat) (q : PapRequest) : Nat :=
  if q.ver ≠ 1 then 1
  else if q.op.isSome || (opWindow op && !isWindowPage (papPage q)) || (op = 0x10 && k ≠ 9) then 2
  else if q.offset.toNat % 4 ≠ 0 then 3
  else if badRange op q || badReserved op q then 4
  else if q.length ≠ 16 + opDataBytes op q.count.toNat || 4 * q.data.length ≠ opDataBytes op q.count.toNat then 5
  else 0

/-- The session has executed a request with this status (R80): OK, and also WINDOW_ERR and SHEET_REFUSED, whose operation has run
to its end (assumption 66; DESIGN CHOICE, R72 calls OK alone executed). -/
def opExecuted (status : Nat) : Bool := status = 0 || status = 0x0C || status = 0x13

/-- Counts a response on the PAP page (R80). -/
def countResponse (k status : Nat) (s : State) : State :=
  if 8 ≤ k then s
  else
    let s := if opExecuted status then s.countWrap (Reg.PAP_SREQ_COUNT.ix k) 1 else s
    if status = 0 then s
    else if status = 0x0A then s.countSat (Reg.PAP_SDROP_RATE.ix k) 1
    else s.countSat (Reg.PAP_SDROP_OTHER.ix k) 1

/-- The session's record is replaced. -/
def setSession (k : Nat) (x : Session) (s : State) : State := { s with sessions := tabInsert k x s.sessions }

/-- A response leaves, is counted, and is kept by its TAG (R70, R76). ATTNSEQ is `ATTN.SEQ` after what the command has changed so
far, its own change included (R70 and step 5 of the chapter's worked example); `s0` is the machine as the command found it. -/
def papAnswer (s0 : State) (k op tag arg status : Nat) (data : List Nat) (s : State) : State :=
  let r : PapResponse := { op := op ||| 0x80, tag := tag, status := status, count := data.length,
                           attnSeq := (settle s0 s).get (Reg.HDR_SEQ.onPage 1), arg := arg, data := data }
  let s := (countResponse k status s).emit (.papResponse k r)
  if 8 ≤ k then s
  else
    let x : Session := tabGet {} s.sessions k
    setSession k { x with kept := ({ tag := tag, time := s.now, response := r } :: x.kept).take 16 } s

/-- The kept response of a TAG, for 2 s (R76). -/
def keptResponse (s : State) (k tag : Nat) : Option PapResponse :=
  match (tabGet {} s.sessions k : Session).kept.find? (fun x => x.tag = tag && s.now < x.time + 2 * second) with
  | some x => some x.response
  | none => none

/-- The connection serves requests: it is open, power is there, and a clock runs. -/
def papUp (s : State) (k : Nat) : Bool :=
  sessionOpen s k && s.pwr.powered && !s.pwr.booting && s.clk.cf2.isNone && s.get Reg.CSN_STAT_CSTATE ≠ 6

/-- The session has been heard (R68). -/
def heard (k : Nat) (s : State) : State := setSession k { (tabGet {} s.sessions k : Session) with lastRequest := s.now } s

/-- Serves a request whose turn has come: token (R63, each request takes one), kept response (R76), form (R72), then `body`, which
answers status and data, or nothing where the response follows later. A replayed response counts in no counter of the slot: it is
no new response (assumption 68). A connection that the request itself ended is not answered (R79, assumption 70). `s0` is the
machine as the command found it. -/
def papServe (s0 : State) (k op : Nat) (q : PapRequest) (body : State → Option (Nat × List Nat) × State) (s : State) : State :=
  match (if k < 8 then takeToken k s else some s) with
  | none => papAnswer s0 k (papOp op q) q.tag.toNat q.arg.toNat 0x0A [] (s.raise Reg.PAP_FAULT_RATE)
  | some s =>
    match keptResponse s k q.tag.toNat with
    | some r => s.emit (.papResponse k r)
    | none =>
      if formStatus k op q ≠ 0 then papAnswer s0 k (papOp op q) q.tag.toNat q.arg.toNat (formStatus k op q) [] s
      else
        let b := body s
        match b.1 with
        | some (st, d) => if sessionOpen b.2 k then papAnswer s0 k (papOp op q) q.tag.toNat q.arg.toNat st d b.2 else b.2
        | none => b.2

/-- A request arrives (R75, R77): it wakes the module, and waits behind a request of its session that is not yet answered. -/
def papArrive (k : Nat) (self : Instr) (serve : State → State) (s : State) : State :=
  if !papUp s k then s
  else
    let s := heard k (dozeWake s)
    let x : Session := tabGet {} s.sessions k
    if x.waits.isEmpty then serve s else setSession k { x with held := x.held ++ [self] } s

/-- The answer of a request of operation `op` is awaited (R99, R138, R564). -/
def papWait (k op : Nat) (q : PapRequest) (s : State) : State :=
  let x : Session := tabGet {} s.sessions k
  setSession k { x with waits := x.waits ++ [{ op := op, tag := q.tag.toNat, page := (papPage q), arg := q.arg.toNat }] } s


end Sys2Proof.Machine
end

