-- ==== Sys2Proof/Machine/Update.lean ====
section
/-! DEFINITION. Firmware update (spec/15_update.md, R562 to R577): transfer of blocks, verification, activation, trials. -/

namespace Sys2Proof.Machine

/-- The write comes from the service-port connection (R577). -/
def fromService (r : Nat) (s : State) : Bool := r = 9 && sessionOpen s 9

/-! ### Transfer (R564, R565) -/

/-- The bitmap says that block `n` is written. -/
def blockWritten (s : State) (n : Nat) : Bool := (s.get (Reg.UPD_BITMAP_BITS.ix (n / 32))).testBit (n % 32)

/-- `BLKRX` counts the blocks of the bitmap. -/
def showBlocks (s : State) : State :=
  s.set Reg.UPD_BLKRX_COUNT ((List.range 2048).filter (blockWritten s)).length

/-- A block's bit in the bitmap. -/
def markBlock (n : Nat) (v : Bool) (s : State) : State :=
  let f := Reg.UPD_BITMAP_BITS.ix (n / 32)
  showBlocks (s.set f (if v then maskSet (s.get f) (n % 32) else maskClear (s.get f) (n % 32)))

/-- The whole bitmap clears. -/
def clearBlocks (s : State) : State :=
  (List.range 64).foldl (fun s k => s.set (Reg.UPD_BITMAP_BITS.ix k) 0) (s.set Reg.UPD_BLKRX_COUNT 0)

/-- The write engine takes block `n` in this state (R564, R565). -/
def blockTaken (s : State) (n : Nat) : Bool :=
  s.get Reg.UPD_STAT_USTATE ≤ 1 && (inactiveBank s).isSome && s.upd.writing.isNone &&
    (n = 0 || (blockWritten s 0 && n < s.get Reg.UPD_NBLK_COUNT))

/-- The write engine starts on a block: what the sector held is gone, and with block 0 the whole earlier image. -/
def startBlock (n : Nat) (bytes : List Nat) (m : Option Manifest) (q : PapRequest) (s : State) : State :=
  let s := if n = 0 then clearBlocks s else markBlock n false s
  let s := s.set Reg.UPD_STAT_USTATE 1
  let b := newBank s
  let s := if n = 0 then showUpd (setBank b {} s)
    else setBank b { bankOf s b with factory := false, signed := false, blocks := tabErase n (bankOf s b).blocks } s
  { s with upd := { s.upd with writing := some { index := n, bytes := bytes, manifest := m, tag := q.tag.toNat, arg := q.arg.toNat,
                                                 since := s.now } } }

/-- The conditions of a BLOCK request in the order of the status codes, and its acceptance (R564). -/
def blockBody (k : Nat) (q : PapRequest) (m : Option Manifest) (s : State) : Option (Nat × List Nat) × State :=
  let n := q.arg.toNat
  let bytes := bytesOfWords ((q.data.take 16384).map (fun w => w.toNat))
  if papPage q ≠ 0x021 || 2048 ≤ n then (some (4, []), s)
  else if !mayWriteLane (requesterLanes s k) (pageLane s 0x021) then (some (6, []), fabricDenial k (pageLane s 0x021) 0x021 s)
  else if crc32c bytes ≠ papWord q 16384 then (some (0x10, []), s.raise Reg.UPD_FAULT_BLKCRC)
  else if !blockTaken s n then (some (0x11, []), s)
  else (none, papWait k 0x10 q (startBlock n bytes m q s))

/-- A BLOCK request is served. -/
def blockServe (s0 : State) (k : Nat) (q : PapRequest) (m : Option Manifest) (s : State) : State :=
  papServe s0 k 0x10 q (blockBody k q m) s

/-- The response of a BLOCK request, if its connection is still open. -/
def blockAnswer (s0 : State) (w : BlockWrite) (status : Nat) (s : State) : State :=
  let x : Session := tabGet {} s.sessions 9
  if !sessionOpen s 9 || !x.waits.any (fun t => t.tag = w.tag && t.page = 0x021) then s
  else papAnswer s0 9 0x10 w.tag w.arg status []
    (setSession 9 { x with waits := x.waits.filter (fun t => !(t.tag = w.tag && t.page = 0x021)) } s)

/-- The block's sector has been programmed and read back (R564): a good block is recorded, and with the last one the image is
RECEIVED. -/
def blockDone (s0 : State) (good : Bool) (s : State) : State :=
  match s.upd.writing with
  | none => s
  | some w =>
    let s : State := { s with upd := { s.upd with writing := none } }
    if !good then blockAnswer s0 w 0x10 (s.raise Reg.UPD_FAULT_BLKCRC)
    else
      let b := newBank s
      let x := bankOf s b
      let x := { x with blocks := tabInsert w.index w.bytes x.blocks, manifest := if w.index = 0 then w.manifest else x.manifest }
      let s := markBlock w.index true (setBank b x s)
      let s := if w.index = 0 then
          showUpd (s.set Reg.UPD_NBLK_COUNT (match w.manifest with | some m => m.nblk | none => 0))
        else s
      let n := s.get Reg.UPD_NBLK_COUNT
      let s := if n ≠ 0 ∧ (List.range n).all (blockWritten s) then s.set Reg.UPD_STAT_USTATE 2 else s
      blockAnswer s0 w 0 s

/-! ### Verification (R566) -/

/-- UPDATE_VERIFY (R566): an LWRITE of `CTRL.VERIFY` in state RECEIVED. -/
def updateVerify (r : Nat) (s : State) : State :=
  if fromService r s && s.get Reg.UPD_STAT_USTATE = 2 then
    { s.set Reg.UPD_STAT_USTATE 3 with upd := { s.upd with verifyAt := s.now } }
  else s

/-- A byte of a bank; a sector that was not written reads as erased. -/
def bankByte (x : BankState) (a : Nat) : Nat :=
  match tabFind (a / 65536) x.blocks with
  | some bs => (match bs[a % 65536]? with | some b => b | none => 0xFF)
  | none => 0xFF

/-- The digest of a component as NOR holds it equals the manifest's. -/
def digestOk (s : State) (b c : Nat) : Bool :=
  let x := bankOf s b
  let k := component s b c
  x.factory || Config.sha512 ((List.range k.length).map (fun i => bankByte x (k.offset + i))) = k.digest

/-- The image has the five components of R563, each at a block's start, and its blocks are 2 to 2,048 (R562, R563). -/
def imageForm (m : Manifest) : Bool :=
  m.comps.map (fun (e : Nat × ComponentInfo) => e.1) = [0, 1, 2, 3, 4] && m.comps.all (fun e => e.2.offset % 65536 = 0)

/-- The manifest is one of R562. -/
def manifestForm (m : Manifest) : Bool := m.version = 1 && 2 ≤ m.nblk && m.nblk ≤ 2048

/-- The step of R566 at which the image fails; none where it passes. -/
def verifyStep (signatureOk : Bool) (s : State) : Option Nat :=
  let b := newBank s
  match (bankOf s b).manifest with
  | none => some 1
  | some m =>
    if !signatureOk || !manifestForm m then some 1
    else if !manifestBinds s m then some 2
    else if !svnOk s m then some 3
    else if !imageForm m || !(List.range 5).all (digestOk s b) then some 4
    else none

/-- The FAULT bit of a failed step. -/
def verifyFault (step : Nat) : RegField :=
  if step = 2 then Reg.UPD_FAULT_BINDFAIL else if step = 3 then Reg.UPD_FAULT_ROLLBACK else Reg.UPD_FAULT_VERFAIL

/-- VERIFY_COMPLETE (R566); a missing or failing signature is counted by the enclave too (R539). -/
def verifyComplete (signatureOk : Bool) (s : State) : State :=
  if s.get Reg.UPD_STAT_USTATE ≠ 3 then s
  else
    let b := newBank s
    match verifyStep signatureOk s with
    | none => (setBank b { bankOf s b with signed := true } s).set Reg.UPD_STAT_USTATE 4
    | some n =>
      let s := if signatureOk then s else verifyFail s
      let s := if n = 1 then s else setBank b { bankOf s b with signed := true } s
      let s := (s.set Reg.UPD_STAT_USTATE 2).raise (verifyFault n)
      logEvent 0x0B00 5 [n, if n = 1 then 0 else (bankManifest s b).image] s

/-! ### Activation (R568, R569, R572) -/

/-- The result of a step is shown. -/
def showResult (result conflict : Nat) (s : State) : State :=
  let s := setAll [(Reg.UPD_ARES_BUSY, 0), (Reg.UPD_ARES_DONE, 1), (Reg.UPD_ARES_RESULT, result), (Reg.UPD_ARES_CONFLICT, conflict)] s
  if result = 3 then s.raise Reg.UPD_FAULT_COMPAT else s

/-- Activation is allowed in this mode. -/
def stepMode (s : State) : Bool := mode s = 0 || mode s = 2 || mode s = 5 || mode s = 7

/-- The check of a step that takes component `c` to bank `b`: result and conflict. -/
def stepCheck (readOk : Bool) (b c : Nat) (s : State) : Nat × Nat :=
  let u := s.get Reg.UPD_STAT_USTATE
  let sel := s.get Reg.UPD_SEL_BANK
  let sel' := if selectedBank s c = b then sel else flipped sel c
  if u ≠ 4 ∧ u ≠ 6 then (1, 0)
  else if !stepMode s then (2, 0)
  else match (if c < 5 then conflictIn s sel' else none) with
    | some x => (3, x)
    | none => if 5 ≤ c || !readOk || !digestOk s b c then (4, 0) else if selectedBank s c = b then (5, 0) else (0, 0)

/-- A step to bank `b` is checked and made. -/
def activationStep (readOk : Bool) (b : Nat) (s : State) : State :=
  let c := s.get Reg.UPD_ASEL_COMP
  let r := stepCheck readOk b c s
  let s := showResult r.1 r.2 s
  if r.1 = 0 then componentReset c (enterTrial c s) else s

/-- UPDATE_ACTIVATE (R569): `readOk` says that the component's digest read back from NOR is intact. -/
def updateActivate (r : Nat) (readOk : Bool) (s : State) : State :=
  if fromService r s && !s.bit Reg.UPD_ARES_BUSY then activationStep readOk (newBank s) s else s

/-- The image is committed (R570): every component runs from the new bank, which is home now. -/
def commitImage (s : State) : State :=
  let b := newBank s
  let m := bankManifest s b
  let s := (s.set Reg.UPD_SVNMIN_SVN m.svn).countSat Reg.UPD_UPDCNT_COUNT 1
  let s : State := { s with upd := { s.upd with home := b } }
  let s := showUpd ((clearBlocks s).set Reg.UPD_NBLK_COUNT 0)
  logEvent 0x0B01 6 [m.image, m.svn] (s.set Reg.UPD_STAT_USTATE 0)

/-- UPDATE_CONFIRM (R570). -/
def updateConfirm (r : Nat) (s : State) : State :=
  if fromService r s && s.get Reg.UPD_STAT_USTATE = 5 && !s.bit Reg.UPD_ARES_BUSY then
    let s := leaveTrial s
    if allFrom s (newBank s) then commitImage s else s
  else s

/-- UPDATE_REVERT (R570, R572): in TRIAL the trial is rejected; in PARTIAL a component is switched back. -/
def updateRevert (r : Nat) (readOk : Bool) (s : State) : State :=
  if !fromService r s || s.bit Reg.UPD_ARES_BUSY then s
  else match trialComp s with
    | some c => revertTrial c 0 s
    | none => if s.get Reg.UPD_STAT_USTATE = 6 then activationStep readOk s.upd.home s else s

/-- UPDATE_ABORT (R577): the bitmap clears, and the state is IDLE unless the selection is mixed. A trial ends only as R570 says. -/
def updateAbort (r : Nat) (s : State) : State :=
  if !fromService r s then s
  else
    let s := clearBlocks { s with upd := { s.upd with writing := none } }
    if s.bit Reg.UPD_STAT_MIXED || s.get Reg.UPD_STAT_USTATE = 5 then s else s.set Reg.UPD_STAT_USTATE 0

/-! ### The end of a trial by time (R570) -/

/-- TRIAL_TIMEOUT (R570): `TRIALLEFT` reaches 0. -/
def trialTimeout (s : State) : State :=
  match trialComp s with
  | some c =>
    if s.pwr.powered then revertTrial c 5 (s.reach (s.upd.trialAt + s.get Reg.UPD_TRIALLEFT_S * second)) else s
  | none => s

/-- A component in trial reports ready: its block is out of reset and its firmware has set it going; in ZEROIZED, where the point
engine stays halted (R134), halted is ready. -/
def trialReady (s : State) (c : Nat) : Bool :=
  match c with
  | 0 => s.bit Reg.ENC_STAT_READY
  | 1 => s.bit (Reg.CORE_STAT_ONLINE.inst 0)
  | 2 => s.bit Reg.PNT_STAT_READY || (mode s = 7 && s.bit Reg.PNT_STAT_HALTED)
  | 3 => !pageBusy s 0x050 && (s.bit Reg.CLE_CTRL_RUN || mode s = 7)
  | _ => !pageBusy s 0x060

/-- TRIAL_READY_TIMEOUT (R570): 10 s after the reset. -/
def trialReadyTimeout (s : State) : State :=
  match trialComp s with
  | some c =>
    if !s.pwr.powered then s
    else
      let s := s.reach (s.upd.resetAt + 10 * second)
      if trialReady s c then s else revertTrial c 2 s
  | none => s

/-! ### The commands -/

/-- VERIFY_COMPLETE (R566): `signatureOk` is the enclave's verdict on both signatures of the manifest. -/
def execVerifyComplete (signatureOk : Bool) (s : State) : Host.Outcome State Fault Refusal := done s (verifyComplete signatureOk s)

/-- UPDATE_VERIFY (R566). -/
def execUpdateVerify (requester : Fin 16) (s : State) : Host.Outcome State Fault Refusal := done s (updateVerify requester.val s)

/-- UPDATE_ACTIVATE (R569). -/
def execUpdateActivate (requester : Fin 16) (readOk : Bool) (s : State) : Host.Outcome State Fault Refusal :=
  done s (updateActivate requester.val readOk s)

/-- UPDATE_CONFIRM (R570). -/
def execUpdateConfirm (requester : Fin 16) (s : State) : Host.Outcome State Fault Refusal := done s (updateConfirm requester.val s)

/-- UPDATE_REVERT (R570, R572). -/
def execUpdateRevert (requester : Fin 16) (readOk : Bool) (s : State) : Host.Outcome State Fault Refusal :=
  done s (updateRevert requester.val readOk s)

/-- UPDATE_ABORT (R577). -/
def execUpdateAbort (requester : Fin 16) (s : State) : Host.Outcome State Fault Refusal := done s (updateAbort requester.val s)

/-- TRIAL_TIMEOUT (R570). -/
def execTrialTimeout (s : State) : Host.Outcome State Fault Refusal := done s (trialTimeout s)

/-- TRIAL_READY_TIMEOUT (R570). -/
def execTrialReadyTimeout (s : State) : Host.Outcome State Fault Refusal := done s (trialReadyTimeout s)

end Sys2Proof.Machine
end

