-- ==== Sys2Proof/Machine/Service.lean ====
section
/-! DEFINITION. The service port and what it installs (spec/15_update.md, R559 to R561, R575, R576; R429, R548, R554): the
connection, sheets and task images, SERVICE, provisioning, disarming. -/

namespace Sys2Proof.Machine

/-! ### The connection (R559 to R561) -/

/-- The lane set of a connection: the charter's, or lanes 0 and 255 where the Ifekar service root is presented, since no charter is in
force there (DESIGN CHOICE). -/
def serviceLanes (s : State) (cert : Nat) : BitVec 256 :=
  let m := mode s
  if m = 0 ∨ m = 1 ∨ m = 7 then laneSet1 0 ||| laneSet1 255 else certLanes s cert

/-- The client's certificate chains to the root that this mode asks for: the service root in enclave ROM, written none, or one of the
charter's. -/
def serviceRootOk (s : State) (root : Option Nat) : Bool :=
  let m := mode s
  match root with
  | none => m = 0 || m = 1 || m = 7
  | some r => !(m = 0 || m = 1 || m = 7) && (charter s).roots.contains r

/-- A connection is refused and counted. -/
def serviceRefuse (f : Option RegField) (s : State) : State :=
  let s := s.countSat Reg.SVC_REFUSED_COUNT 1
  match f with
  | some f => s.raise f
  | none => s

/-- The service port can hold a connection at all: power, a clock, link. -/
def serviceUp (s : State) : Bool := s.pwr.powered && !s.pwr.booting && s.clk.cf2.isNone && s.bit Reg.SVC_STAT_LINK

/-- SVC_CONNECT (R559, R560): TCP port, what the client offers, its root and certificate, whether its chain is valid, and SHA-512 of
its public key. Another TCP port is not the service port's, and a handshake without a supported option or without entropy (R537)
opens nothing; neither counts in a register (assumption 71). -/
def serviceConnect (tcp : Nat) (offer : DtlsOffer) (root : Option Nat) (cert : Nat) (valid : Bool) (peer : Nat) (s : State) : State :=
  let m := mode s
  if !serviceUp s || tcp ≠ s.get Reg.SVC_CFG_PORT then s
  else if m ≠ 0 && m ≠ 1 && !s.bit Reg.SVC_STAT_SVCEN then serviceRefuse (some Reg.SVC_FAULT_ENREFUSED) s
  else if sessionOpen s 9 then (serviceRefuse none s).emit .svcRefused
  else if !dtlsOk offer || !s.bit Reg.ENC_STAT_ENTOK then s
  else if !valid || !serviceRootOk s root then serviceRefuse (some Reg.SVC_FAULT_AUTHFAIL) s
  else
    let s := openSession 9 (serviceLanes s cert) s
    let s := (s.raise Reg.SVC_STAT_CONN).countSat Reg.SVC_CONNS_COUNT 1
    (List.range 8).foldl (fun s k => s.set (Reg.SVC_PEERDIG.ix k) (peer / 2 ^ (32 * k))) s

/-- SVC_CONNECT (R560). -/
def execSvcConnect (tcp : BitVec 16) (offer : DtlsOffer) (root : Option Nat) (cert : BitVec 256) (valid : Bool) (peer : BitVec 512)
    (s : State) : Host.Outcome State Fault Refusal := done s (serviceConnect tcp.toNat offer root cert.toNat valid peer.toNat s)

/-- The connection closes: provisioning ends incomplete, and SERVICE ends (R429). -/
def serviceClose (s : State) : State := if sessionOpen s 9 then leaveService (provEnd (closeSession 9 s)) else s

/-- SVC_DISCONNECT (R429). -/
def execSvcDisconnect (s : State) : Host.Outcome State Fault Refusal := done s (serviceClose s)

/-- SVC_EN_ASSERT (R560): after 20 ms of debounce. -/
def execSvcEnAssert (s : State) : Host.Outcome State Fault Refusal :=
  done s ((s.reach (s.now + 20 * msec)).raise Reg.SVC_STAT_SVCEN)

/-- SVC_EN is released (R561): an open connection closes, a transfer stops after the block being written. -/
def serviceRelease (s : State) : State :=
  let s := s.set Reg.SVC_STAT_SVCEN 0
  if !sessionOpen s 9 then s
  else
    let s := if s.get Reg.UPD_STAT_USTATE = 1 then s.raise Reg.UPD_FAULT_ABORTED else s
    serviceClose (s.raise Reg.SVC_FAULT_DROPPED)

/-- SVC_EN_RELEASE (R561). -/
def execSvcEnRelease (s : State) : Host.Outcome State Fault Refusal := done s (serviceRelease s)

/-- SVC_LINK_CHANGE (R578); in clock fallback the PHY is held in reset, and its link stays down (R476). -/
def execSvcLinkChange (up : Bool) (s : State) : Host.Outcome State Fault Refusal :=
  done s (if up && (s.bit Reg.CLK_STAT_FALLBACK || !s.pwr.powered || s.clk.cf2.isSome) then s else s.setBit Reg.SVC_STAT_LINK up)

/-! ### SERVICE (R429) -/

/-- SERVICE_REQUEST (R429): by the service connection while SVC_EN is asserted. -/
def serviceRequest (s : State) : State :=
  let m := mode s
  if sessionOpen s 9 && s.bit Reg.SVC_STAT_SVCEN && (m = 2 || m = 3 || m = 4 || m = 6) && !frozen s then changeMode 5 8 s else s

/-- SERVICE_REQUEST (R429). -/
def execServiceRequest (s : State) : Host.Outcome State Fault Refusal := done s (serviceRequest s)

/-- SERVICE_EXIT (R429). -/
def execServiceExit (s : State) : Host.Outcome State Fault Refusal := done s (if sessionOpen s 9 then leaveService s else s)

/-! ### Disarming (R554) -/

/-- An LWRITE of `TAMP.ARM` by requester `r`: from the service port in SERVICE a 0 clears a bit; a 1 sets none. -/
def armWrite (r bits : Nat) (lossact : Bool) (s : State) : State :=
  if !fromService r s || mode s ≠ 5 then s
  else
    let before := s.get Reg.TAMP_ARM_BITS
    let after := before &&& bits
    let s := if lossact then s else s.set Reg.TAMP_ARM_LOSSACT 0
    if after = before then s
    else
      let s := ((s.set Reg.TAMP_ARM_BITS after).setBit Reg.TAMP_STAT_ARMED (after ≠ 0)).raise Reg.TAMP_FAULT_DISARMED
      logEvent 0x0A01 6 [before, after] s

/-- TAMPER_ARM_WRITE (R554). -/
def execTamperArmWrite (requester : Fin 16) (bits : BitVec 6) (lossact : Bool) (s : State) : Host.Outcome State Fault Refusal :=
  done s (armWrite requester.val bits.toNat lossact s)

/-! ### Provisioning (R429, R548, R549) -/

/-- The point engine leaves ZEROIZED with every record unused: it admits again, and is READY where no restore is to come (R134). -/
def leaveZeroized (s : State) : State :=
  let s := s.set Reg.PNT_STAT_HALTED 0
  if s.bit Reg.PNT_STAT_RESTORING then s else s.raise Reg.PNT_STAT_READY

/-- PROVISIONING_OPEN (R429, R548): a new nonce, new helper data and a new root. It takes the enclave and its entropy source. -/
def provOpen (s : State) : State :=
  let m := mode s
  if !sessionOpen s 9 || !((m = 0 && !s.bit Reg.ENC_STAT_PROV) || m = 7) || frozen s || !s.bit Reg.ENC_STAT_READY ||
      !s.bit Reg.ENC_STAT_ENTOK then s
  else
    let n := Config.freeNat s.freeCtr % 2 ^ 256
    let s := s.drawn
    let s : State := { s with enc := { s.enc with nonce := some n, root := some (Config.pufRoot n), regenerating := false, provFrom := m,
                                                  chain := false, authorities := 0 } }
    let s := if m = 7 then leaveZeroized s else s
    changeMode 1 2 (showIdentity (identityDigest s) (s.raise Reg.ENC_STAT_ROOTOK))

/-- PROVISIONING_OPEN (R548). -/
def execProvisioningOpen (s : State) : Host.Outcome State Fault Refusal := done s (provOpen s)

/-- Everything that provisioning installs is there (R429). -/
def provisioned (s : State) : Bool :=
  s.enc.root.isSome && s.enc.chain && s.enc.authorities = 7 && s.sheets.charter.isSome && s.sheets.parapet.isSome && s.sheets.config.isSome

/-- The sheets set the sensors' arming (R554). -/
def armFromSheet (s : State) : State :=
  match s.sheets.config with
  | some c => (setAll [(Reg.TAMP_ARM_BITS, c.arm)] (s.setBit Reg.TAMP_ARM_LOSSACT c.lossact)).setBit Reg.TAMP_STAT_ARMED (c.arm % 64 ≠ 0)
  | none => s

/-- PROVISIONING_COMPLETE (R548): the module enters STANDBY with what has been installed. -/
def provComplete (s : State) : State :=
  if mode s ≠ 1 || !sessionOpen s 9 || frozen s || !provisioned s then s
  else
    let s := (s.countSat Reg.ENC_PROVEP_COUNT 1).raise Reg.ENC_STAT_PROV
    let s := setAll [(Reg.TAMP_STAT_LATCH, 0), (Reg.TAMP_CAUSE_BITS, 0)] s
    let s := armFromSheet { s with enc := { s.enc with zeroized := false } }
    let s := changeMode 2 2 s
    let s := takeConfig {} s
    let s := viaFollow (routeReleases (parapetFollow 1 s))
    modeFollow (showCte (showCle ((s.raise Reg.CLE_CTRL_RUN).raise Reg.CTE_CTRL_RUN)))

/-- PROVISIONING_COMPLETE (R548). -/
def execProvisioningComplete (s : State) : Host.Outcome State Fault Refusal := done s (provComplete s)

/-- PROVISIONING_END_INCOMPLETE (R429, R548). -/
def execProvisioningEndIncomplete (s : State) : Host.Outcome State Fault Refusal :=
  done s (if sessionOpen s 9 then provEnd s else s)

/-! ### Staging (R575) -/

/-- Kind and task in the ARG of SHEET and INSTALL. -/
def argKind (a : Nat) : Nat := a / 2 ^ 28
/-- The task field. -/
def argTask (a : Nat) : Nat := a / 2 ^ 24 % 16

/-- The fields of ARG that must be 0 are 0: [23:20], and the task of every kind but 4. -/
def argOk (a : Nat) : Bool := a / 2 ^ 20 % 16 = 0 && (argKind a = 4 || argTask a = 0)

/-- The kind is accepted over this transport and in this mode (R575). -/
def kindAccepted (s : State) (k kind : Nat) : Bool :=
  let m := mode s
  if 1 ≤ kind ∧ kind ≤ 3 then k = 9 && (m = 1 || m = 2 || m = 5)
  else if kind = 4 then 1 ≤ m && m ≤ 6
  else kind = 5 && k = 9 && m = 1

/-- The lane condition of the kind fails (R575). -/
def kindDenied (s : State) (k kind t : Nat) : Bool :=
  if mode s = 1 then false
  else if 1 ≤ kind ∧ kind ≤ 3 then !(requesterLanes s k).getLsbD 0
  else kind = 4 && !(requesterLanes s k).getLsbD (taskLane s t)

/-- The staging buffer of a connection. -/
def stagingSize (k : Nat) : Nat := if k = 9 then 16777212 else 524288

/-- The parts of an object of `l` bytes. -/
def partsOf (l : Nat) : Nat := (l + 4 + 1023) / 1024

/-- A part is stored; none where SHEET_STATE is answered. Part 0 discards what the requester has staged. -/
def stagePart (k kind t p : Nat) (part : List Nat) (s : State) : Option State :=
  let put := fun (x : Staging) => some ({ s with upd := { s.upd with staging := tabInsert k x s.upd.staging } } : State)
  if p = 0 then
    let l := ofLeBytes (part.take 4)
    if l = 0 ∨ stagingSize k < l then none else put { kind := kind, task := t, length := l, parts := [part] }
  else match tabFind k s.upd.staging with
    | none => none
    | some x =>
      let n := x.parts.length
      if x.kind ≠ kind ∨ x.task ≠ t then none
      else if p = n ∧ p < partsOf x.length then put { x with parts := x.parts ++ [part] }
      else if p + 1 = n then put { x with parts := x.parts.take p ++ [part] }
      else none

/-- The conditions of a SHEET request in the order of the status codes (R575). -/
def sheetBody (k : Nat) (q : PapRequest) (s : State) : Option (Nat × List Nat) × State :=
  let a := q.arg.toNat
  let kind := argKind a
  let part := bytesOfWords ((q.data.take 256).map (fun w => w.toNat))
  let ok := kindAccepted s k kind
  if papPage q ≠ 0 || !argOk a then (some (4, []), s)
  else if ok && kindDenied s k kind (argTask a) then (some (6, []), s)
  else if crc32c part ≠ papWord q 256 then (some (0x10, []), s)
  else if !ok then (some (0x12, []), s)
  else match stagePart k kind (argTask a) (a % 2 ^ 20) part s with
    | none => (some (0x12, []), s)
    | some s => (some (0, []), s)

/-- A SHEET request is served. -/
def sheetServe (s0 : State) (k : Nat) (q : PapRequest) (s : State) : State := papServe s0 k 0x11 q (sheetBody k q) s

/-! ### Installation (R360, R361, R368, R576) -/

/-- The object is one of this kind. -/
def kindOf : SignedObject → Nat
  | .charter _ => 1
  | .parapet _ => 2
  | .config _ => 3
  | .task _ => 4
  | .chain _ => 5
  | .authorities _ => 5

/-- The authority whose keys verify the kind is installed (R539, R548): charter, parapet, configuration; task images fall under the
configuration authority (DEDUCED). Provisioning objects bring the keys. -/
def authorityThere (s : State) (kind : Nat) : Bool :=
  kind = 5 || s.enc.authorities.testBit (if kind = 1 then 0 else if kind = 2 then 1 else 2)

/-- The serial number of the unit. -/
def serial (s : State) : Nat := get64 s Reg.SYS_UNITLO_SN Reg.SYS_UNITHI_SN

/-- Hardware type and serial number bind the object to the unit: a charter or parapet sheet names the unit, the others may (R360, R368,
R576). -/
def objectBinds (s : State) : SignedObject → Bool
  | .charter c => c.hwType = 0x4800 && c.unit = serial s
  | .parapet p => p.hwType = 0x4800 && p.unit = serial s
  | .config c => c.hwType = 0x4800 && (c.unit = 0 || c.unit = serial s)
  | .task i => i.hwType = 0x4800 && (i.unit = 0 || i.unit = serial s)
  | .chain _ => true
  | .authorities _ => true

/-- The object's epoch is above the installed one. -/
def epochNewer (s : State) : SignedObject → Bool
  | .charter c => (match s.sheets.charter with | some o => decide (o.epoch < c.epoch) | none => true)
  | .parapet p => (match s.sheets.parapet with | some o => decide (o.epoch < p.epoch) | none => true)
  | .config c => (match s.sheets.config with | some o => decide (o.epoch < c.epoch) | none => true)
  | _ => true

/-- The state in which the object's rules are judged: with the object in place, and every sheet in force. -/
def withObject (t : Nat) (o : SignedObject) (s : State) : State :=
  let s := s.set Reg.MODE_STAT_MODE 2
  match o with
  | .charter c => { s with sheets := { s.sheets with charter := some c } }
  | .parapet p => { s with sheets := { s.sheets with parapet := some p } }
  | .config c => { s with sheets := { s.sheets with config := some c } }
  | .task i => s.setTask t { s.task t with staged := some i }
  | _ => s

/-- The rules under which the module refuses an object of its kind. -/
def objectOk (t : Nat) (o : SignedObject) (s : State) : Bool :=
  match o with
  | .charter c => charterOk s c
  | .parapet p => parapetOk s p
  | .config c => configOk s c
  | .task i => imageOk s (match s.sheets.config with | some c => c | none => {}) t i
  | _ => true

/-- The reason code of an installation (R576). -/
def installReason (k kind t : Nat) (o : SignedObject) (signatureOk : Bool) (s : State) : Nat :=
  let whole := match tabFind k s.upd.staging with
    | some x => decide (x.kind = kind ∧ x.task = t ∧ x.parts.length = partsOf x.length)
    | none => false
  let certified := match o with | .chain c => c | _ => true
  let after := withObject t o s
  if !whole then 1
  else if !kindAccepted s k kind then 7
  else if !signatureOk || kindOf o ≠ kind || !authorityThere s kind || !certified then 2
  else if !objectBinds s o then 3
  else if !epochNewer s o then 4
  else if !objectOk t o after then 5
  else if !storeFits after then 6
  else 0

/-- The charter takes effect in one step (R361); the service connection closes after its acknowledgement. -/
def installCharter (c : Charter) (s : State) : State :=
  let old := charter s
  let s := { s with sheets := { s.sheets with charter := some c } }
  let s := measExtend 4 c.digest (loadCharter s)
  let s := if mode s = 1 then s else closeUplinkSessions (destroySlots old c s)
  logEvent 0x0501 6 [old.epoch, c.epoch] s

/-- The parapet sheet takes effect in one step (R368): limits, entries and latches are the new sheet's. -/
def installParapet (p : ParapetSheet) (s : State) : State :=
  let old := parapetSheet s
  let s : State := { s with sheets := { s.sheets with parapet := some p }, prpt := { s.prpt with liftTokens := none } }
  let s := measExtend 5 p.digest (applyLimits (loadParapet (renewEntries old s)))
  routeReleases (parapetFollow 1 s)

/-- In PROVISIONING a survey takes the velocity factor of the sheet (R174, R189). -/
def surveyFactors (s : State) : State :=
  (sheet s).ports.foldl (fun s (e : Nat × PortCfg) => if e.1 < 32 then s.set (Reg.SEG_SVYVF_VF.inst e.1) e.2.vf else s) s

/-- The configuration sheet takes effect: in PROVISIONING when the module enters STANDBY, else at once. -/
def installConfig (c : ConfigSheet) (s : State) : State :=
  let old := sheet s
  let s := measExtend 6 c.digest { s with sheets := { s.sheets with config := some c } }
  if mode s = 1 then surveyFactors s else viaFollow (routeReleases (parapetFollow 1 (takeConfig old s)))

/-- The object is installed. -/
def installObject (t : Nat) (o : SignedObject) (s : State) : State :=
  match o with
  | .charter c => installCharter c s
  | .parapet p => installParapet p s
  | .config c => installConfig c s
  | .task i => s.setTask t { s.task t with staged := some i, swap := false }
  | .chain _ => { s with enc := { s.enc with chain := true } }
  | .authorities n => { s with enc := { s.enc with authorities := s.enc.authorities ||| (n % 8) } }

/-- A refusal is recorded for its kind (R360, R368, R539). An object that is not whole shows no epoch: a free value. -/
def refuseObject (kind reason : Nat) (o : SignedObject) (s : State) : State :=
  let s := if reason = 2 then verifyFail s else s
  if kind = 1 then
    let epoch := match reason, o with | 1, _ => Config.freeNat s.freeCtr | _, .charter c => c.epoch | _, _ => Config.freeNat s.freeCtr
    let s := (s.raise Reg.LANE_FAULT_CHREJ).countSat Reg.LANE_CHREJ_COUNT 1
    logEvent 0x0500 5 [reason, epoch] s.drawn
  else if kind = 2 then s.raise Reg.PRPT_FAULT_SHREJ
  else s

/-- The conditions of an INSTALL request and the installation (R576). A configuration sheet that fails its rules has been delivered: the
charter may be judged by it (R360). -/
def installBody (k : Nat) (q : PapRequest) (o : SignedObject) (signatureOk : Bool) (s : State) : Option (Nat × List Nat) × State :=
  let a := q.arg.toNat
  let kind := argKind a
  let t := argTask a
  if papPage q ≠ 0 || !argOk a || a % 2 ^ 20 ≠ 0 then (some (4, []), s)
  else if kindAccepted s k kind && kindDenied s k kind t then (some (6, []), s)
  else
    let n := installReason k kind t o signatureOk s
    let s := if n = 0 then installObject t o s else refuseObject kind n o s
    let kept := match o with | .config c => if n = 5 then some c else s.upd.delivered | _ => s.upd.delivered
    let s : State := { s with upd := { s.upd with staging := tabErase k s.upd.staging, delivered := kept } }
    (some (if n = 0 then 0 else 0x13, [n]), s)

/-- An INSTALL request is served; after the acknowledgement of an accepted charter the service connection closes, but for
PROVISIONING, which that would end (DEDUCED). -/
def installServe (s0 : State) (k : Nat) (q : PapRequest) (o : SignedObject) (signatureOk : Bool) (s : State) : State :=
  let e := (charter s).epoch
  let had := s.sheets.charter.isSome
  let s' := papServe s0 k 0x12 q (installBody k q o signatureOk) s
  if mode s ≠ 1 && s'.sheets.charter.isSome && ((charter s').epoch ≠ e || !had) then serviceClose s' else s'

end Sys2Proof.Machine
end

