-- ==== Sys2Proof/Machine/Commit.lean ====
section
/-! DEFINITION. Admission, the commit of a deck tick and what follows it in the other engines (R82, R100, R108, R251, R260,
R290, R297, R300, R301, R408, R423). -/

namespace Sys2Proof.Machine

/-! ### Results (R102, R260, R297, R423) -/

/-- The result of a loop's output (R260): the code stays in ORES; a refusal sets OREF and is counted. -/
def loopResult (n code : Nat) (s : State) : State :=
  let ok := code = resWritten ∨ code = resWrittenForced
  let s := s.setLoop n { s.loop n with ores := code, oref := decide ¬ok }
  if ok then s else (s.countSat Reg.CLE_OREFCNT_COUNT 1).raise Reg.CLE_FAULT_OUTREF

/-- One result goes to the block of its update. -/
def deliverResult (p : ResultPath) (code : Nat) (s : State) : State :=
  match p with
  | .bsc invoke => bscAnswer invoke (bacResult code) s
  | .task t => taskResult t code s
  | .loop n _ => loopResult n code s
  | .meter c => meterResult c code s
  | .dma c => dmaResult c code s
  | _ => s

/-- The results of loops, tasks, circuits and BACnet/SC requests that wait are delivered. -/
def deliverResults (s : State) : State :=
  s.pt.results.foldl (fun s e => deliverResult e.1 e.2 s) { s with pt := { s.pt with results := [] } }

/-! ### Admission (R100, R251, R296) -/

/-- A loop's output admitted after the tick that ends at its apply instant is late (R251). -/
def lateRule (u : Update) (s : State) : State :=
  match u.path with
  | .loop n applyMs =>
    let late := decide (applyMs < tickNow s + 1)
    let s := s.setLoop n { s.loop n with late := late }
    if late then (s.countSat Reg.CLE_LATECNT_COUNT 1).raise Reg.CLE_FAULT_LATEAPP else s
  | _ => s

/-- An admission with what it brings about: late outputs, results, and receive queues that drain (R99). -/
def admitUpdate (s : State) : State :=
  let before := s.pt.admitted.length
  let s := admission s
  let s := (s.pt.admitted.drop before).foldl (fun s a => lateRule a.upd s) s
  drainPorts (deliverResults s)

/-- The batch of task `t` is the next that the engine serves. -/
def batchNext (s : State) (t : Nat) : Bool :=
  match nextServed s, (queueOf s 5).head? with
  | some 5, some u => u.src = taskSrc t && u.batch ≠ 0
  | _, _ => false

/-! ### Commands after a commit (R122, R300, R301) -/

/-- A command point's output is handed on as a new command: its entry releases anew, or it goes to its port. -/
def freshCommand (i : Nat) (s : State) : State :=
  match guarding s i with
  | e :: es => (e :: es).foldl (fun s e => setEntry e { entryState s e with fresh := true } s) s
  | [] => routeCommand i (outputValue s i) false false s

/-- The node of a mapped command point takes no command now. -/
def nodeAway (s : State) (i : Nat) : Bool :=
  match mapOut s i with
  | none => false
  | some m =>
    let st := pstate s m.port
    !(st = 2 || st = 3 || (st = 4 && (nup s m.port).testBit m.node))

/-- The command points that a task's admitted writes reach in this tick, with their tasks. -/
def taskCommands (s : State) (all : List Admitted) : List (Nat × Nat) :=
  all.filterMap (fun a =>
    match a.upd.path with
    | .task t => if (s.point a.index).cmd && (winnerOf a all).upd.src = a.upd.src then some (a.index, t) else none
    | _ => none)

/-- A task's commit to a command point whose node is lost is counted (R300). -/
def countUndelivered (t : Nat) (s : State) : State :=
  (s.countSat (Reg.CTE_TUND_COUNT.ix t) 1).raise Reg.CTE_FAULT_UNDELIV

/-- The records of the nodes that returned since the last commit, with the instant of the return in µs (R301). -/
def returnedPoints (s : State) : List (Nat × Nat) :=
  s.seg.returned.flatMap (fun e => (pointsOf s e.1 (some e.2.1)).map (fun i => (i, e.2.2)))

/-- The instant (µs) from which the output age of a command point counts: TS, or the later commit that returned it to service
(R122, R301). -/
def ageFrom (s : State) (i : Nat) : Nat := max (s.point i).ts (tabGet 0 s.pt.freshAt i)

/-- A command point of a returned node is resent where it reads UNDELIVERED, is in service and its age allows it (R301). -/
def resendPoint (i at' : Nat) (s : State) : State :=
  let r := s.point i
  if r.cmd && r.qual = 5 && !r.oos && (r.maxage = 0 || decide (at' - ageFrom s i < r.maxage * 100000)) then
    routeCommand i (outputValue s i) false true s
  else s

/-! ### Publication (R115, R290, R408) -/

/-- What was published goes to its subscribers, and is the event of the tasks bound to it. -/
def flushPublished (mirrors : List Nat) (s : State) : State :=
  let is := s.pt.published
  let s := publishOut is { s with pt := { s.pt with published := [] } }
  (distinct (is ++ mirrors)).foldl (fun s i => pointEvent i s) s

/-- PUBLICATION_TIMER (R115): the timer of a record falls due. -/
def execPublicationTimer (record : BitVec 20) (s : State) : Host.Outcome State Fault Refusal :=
  done s (flushPublished [] (publicationTimer record.toNat { s with pt := { s.pt with published := [] } }))

/-- STALE_TIMEOUT (R93): the staleness time of a record passes. -/
def execStaleTimeout (record : BitVec 20) (s : State) : Host.Outcome State Fault Refusal :=
  done s (flushPublished [] (staleTimeout record.toNat { s with pt := { s.pt with published := [] } }))

/-! ### The commit (R82, R108) -/

/-- A tick can be committed: the engine has power and its clock, and has not halted (R130, R475). -/
def commits (s : State) : Bool := s.pwr.powered && !s.bit Reg.PNT_STAT_HALTED && s.clk.cf2.isNone

/-- Edges of the latches that a record's commit is the source of (R299). -/
def commitEdges (before : State) (i : Nat) (s : State) : State :=
  let r := s.point i
  if r.typ = 1 && decide (r.pv ≠ (before.point i).pv) then sourceEdge (.record i) (decide (r.pv ≠ 0)) s else s

/-- Outputs that leave anew after the commit (R122, R300, R301): points back in service, tasks' writes to points that read
UNDELIVERED or STALE, and the resends of returned nodes. -/
def commitCommands (before : State) (tasks : List (Nat × Nat)) (s : State) : State :=
  let back := s.pt.changed.filter (fun i => (s.point i).cmd && (before.point i).oos && !(s.point i).oos)
  let again := tasks.filterMap (fun e =>
    let q := (before.point e.1).qual
    if (q = 5 || q = 2) && !nodeAway s e.1 then some e.1 else none)
  let us := taiUs s
  let s : State := { s with pt := { s.pt with freshAt := back.foldl (fun t i => tabPut 0 i us t) s.pt.freshAt } }
  let s := (distinct (back ++ again)).foldl (fun s i => freshCommand i s) s
  let s := (returnedPoints s).foldl (fun s e => if tasks.any (fun t => t.1 = e.1) then s else resendPoint e.1 e.2 s) s
  { s with seg := { s.seg with returned := [] } }

/-- Batches of tasks that have left the queue as a whole are committed, and a task whose own has leaves COMMIT (R297, R314). -/
def commitTasks (tick : Nat) (s : State) : State :=
  (taskSlots s).foldl (fun s t =>
    let x := s.task t
    let waiting := (queueOf s 5 ++ tabGet [] s.pt.held 5).filter (fun u => u.src = taskSrc t)
    let rest := x.open'.filter (fun b => waiting.any (fun u => u.batch = b))
    if rest ≠ x.open' then batchCommitted t tick rest s else s) s

/-- DECK_TICK_COMMIT (R108). A power-fail warning lets the current tick complete and then halts the engine (R130). -/
def deckCommit (s : State) : State :=
  if !commits s then s
  else
    let tick := tickNow s
    let all := s.pt.admitted
    let tasks := taskCommands s all
    let away := tasks.filter (fun e => nodeAway s e.1)
    let s := away.foldl (fun s e => countUndelivered e.2 s) s
    let s := reportAll (away.map (fun e => PointReport.unreached e.1)) s
    let before := s
    let s := pointCommit { s with pt := { s.pt with changed := [], published := [] } }
    let mirrors := (all.filter (fun a => match a.upd.kind with | .publication _ _ _ _ _ _ _ => true | _ => false)).map
      (fun a => a.index)
    let s := s.pt.changed.foldl (fun s i => commitEdges before i s) s
    let s := commitCommands before tasks s
    let s := commitTasks tick (flushPublished mirrors s)
    let s := deliverResults (grantsDone (lockdownFollow s))
    if frozen s then s.raise Reg.PNT_STAT_HALTED else s

/-- DECK_TICK_COMMIT (R82, R108): the commit instant at the end of the current tick. -/
def execDeckTickCommit (s : State) : Host.Outcome State Fault Refusal := done s (deckCommit s)

end Sys2Proof.Machine
end

