-- ==== Sys2Proof/Machine/Fabric.lean ====
section
/-! DEFINITION. The register fabric: which accesses a master has to a word, KEY, what a read returns and what a write does
(spec/02_register_pages.md, R38 to R59, and the register tables of every chapter). -/

namespace Sys2Proof.Machine

/-! ### Words and access types (R39, R44, R51, R52, R55) -/

/-- The requester copy of a master; engines have none. -/
def copyOf : Master → Option Nat
  | .req r => some r.val
  | _ => none

/-- The master is a firmware context (R55, R103). -/
def isFirmware (m : Master) : Bool := match copyOf m with | some r => 14 ≤ r | none => false

/-- The master runs firmware on a core: copies 10 to 15. -/
def isCore (m : Master) : Bool := match copyOf m with | some r => 10 ≤ r | none => false

/-- The master is a requester copy: what is done with its copy. -/
def withCopy (m : Master) (f : Nat → State → State) (s : State) : State :=
  match copyOf m with
  | some r => f r s
  | none => s

/-- Words of a record image on a window page; DATA is no longer (R54). -/
def dataLen (p : Nat) : Nat :=
  match p with
  | 0x041 => 16
  | 0x051 => 48
  | 0x059 => 32
  | 0x061 => 64
  | 0x062 => 88
  | 0x078 => 8
  | _ => 0

/-- A word that exists for firmware's copies only: the PBUS receive queue and transmit set (R243), log submission (R609). -/
def hiddenWord (p w : Nat) : Bool :=
  if 0x120 ≤ p ∧ p ≤ 0x13F then w = 0x02C || w = 0x02D || w = 0x02F || (0x180 ≤ w && w ≤ 0x197)
  else p = 0x007 && 0x100 ≤ w && w < 0x180

/-- A word that only firmware's copies may write: MCFG, INVAL, TTBR, the DMA channels and ECFG (R505, R525 to R527, R557). -/
def firmwareWord (p w : Nat) : Bool :=
  if p = 0x008 then 0x0C0 ≤ w && w ≤ 0x0FF
  else if p = 0x014 then w = 0x010 || (0x040 ≤ w && w ≤ 0x061)
  else if p = 0x015 ∨ p = 0x016 then 0x040 ≤ w && w < 0x140 && (w % 16 = 0 || w % 16 = 2 || w % 16 = 3 || w % 16 = 4)
  else p = 0x020 && w = 0x01E

/-- The stored fields that a master finds at word `w` of page `p`. -/
def wordFields (m : Master) (p w : Nat) : List RegField :=
  if (hiddenWord p w && !isFirmware m) || (isWindowPage p && 0x040 + dataLen p ≤ w && w < 0x240) then []
  else
    let fs := fieldsAt p w (masterCopy m)
    if (copyOf m).isNone then fs.filter (fun f => !f.copies) else fs

/-- A field's part of a word. -/
def fieldBits (f : RegField) (v : Nat) : Nat := v / 2 ^ f.lo % 2 ^ f.width

/-- The access that a master has to a field now (R44, R433, R513, R520, R594). -/
def accessOf (m : Master) (s : State) (p w : Nat) (f : RegField) : Access :=
  if f.acc = .ro || (firmwareWord p w && !isFirmware m) then .ro
  else if p = 0x002 && w = 0x002 then
    (if f.lo = 1 then (if isCore m then .w1s else .ro) else if frozen s then .ro else f.acc)
  else if p = 0x006 && w = 0x021 then (if s.get Reg.RTC_CFG_TSRC = 0 then f.acc else .ro)
  else if p = 0x008 && 0x040 ≤ w && w ≤ 0x07F then (if mailAccepts (w - 0x040) m s then .rw else .ro)
  else if p = 0x008 && 0x080 ≤ w && w ≤ 0x0BF then
    (if s.get (Reg.MBX_MCFG_SRC.ix (w - 0x080)) = mailEndpoint m s then f.acc else .ro)
  else if p = 0x009 && 0x040 ≤ w && w ≤ 0x0BF then (if lockOwner (w - 0x040) m s then .rw else .ro)
  else f.acc

/-- A write of `v` would change the field. -/
def wouldChange (s : State) (v : Nat) (f : RegField) : Bool := fieldBits f v ≠ s.get f

/-- Registers of the attention page beside the header are read-only (R57). -/
def attnWordAt (w : Nat) : Bool := w = 0x010 || w = 0x011 || (0x020 ≤ w && w ≤ 0x02F) || (0x100 ≤ w && w ≤ 0x1FF)

/-- The status of a write of `v` to a word (R45, R50): 0 where it is applied or ignored, 7 READ_ONLY, 8 LOCKED; `keyed` says that
KEY is open for the writer. KEY itself is not judged here. -/
def wordStatus (m : Master) (keyed : Bool) (p w v : Nat) (s : State) : Nat :=
  let fs := wordFields m p w
  if !pageMapped p then 0
  else if w ≤ 1 || w = 3 || w = 7 || (p = 0x001 && attnWordAt w) then 7
  else if w = 4 || w = 5 || w = 6 || fs.isEmpty then 0
  else if fs.all (fun f => accessOf m s p w f = .ro) then 7
  else if !keyed && fs.any (fun f => accessOf m s p w f = .rwl && wouldChange s v f) then 8
  else 0

/-! ### Lanes at the host bridge (R52, R359) -/

/-- The requester copy that a host access must present. -/
def hostCopy (m : Master) : Option Nat := if viaBridge m then copyOf m else none

/-- The master may read the page. -/
def mayReadPage (m : Master) (p : Nat) (s : State) : Bool :=
  match hostCopy m with
  | none => true
  | some r => !pageMapped p || isFilteredPage p || isPerRecordPage p || mayReadLane (requesterLanes s r) (pageLane s p)

/-- The master may write the word: on a filtered page that asks for lane 0, but for the requester's own copies on ENC. -/
def mayWritePage (m : Master) (p w : Nat) (s : State) : Bool :=
  match hostCopy m with
  | none => true
  | some r =>
    let set := requesterLanes s r
    if !pageMapped p || isPerRecordPage p then true
    else if isFilteredPage p then
      set.getLsbD 0 || (p = 0x020 && (fieldsAt p w r).any (fun f => f.copies))
    else mayWriteLane set (pageLane s p)

/-- The host access is counted as denied (R364). -/
def denyPage (m : Master) (p : Nat) (s : State) : State := withCopy m (fun r s => fabricDenial r (pageLane s p) p s) s

/-! ### KEY (R47 to R50) -/

/-- The word that arms KEY of a page (R47). -/
def keyWord (p : Nat) : Nat := 0x5AFE0000 + p

/-- A KEY sequence stands for 10 µs (R48). -/
def keyWindow : Nat := 10 * usec

/-- KEY of a page closes through timeout or mismatch (R48). -/
def keyFail (p : Nat) (s : State) : State :=
  { s with keys := tabErase p s.keys }.countSat Reg.SYS_KEYERR_COUNT 1

/-- A sequence whose 10 µs are over has closed. -/
def keyLapse (p : Nat) (s : State) : State :=
  match tabFind p s.keys with
  | some k => if k.since + keyWindow < s.now then keyFail p s else s
  | none => s

/-- KEY of a page is open for a master. -/
def keyOpen (p : Nat) (m : Master) (s : State) : Bool :=
  match tabFind p s.keys with
  | some k => k.opened && k.owner = m
  | none => false

/-- KEY of a page is armed or open for another master. -/
def keyHeld (p : Nat) (m : Master) (s : State) : Bool :=
  match tabFind p s.keys with
  | some k => k.owner ≠ m
  | none => false

/-- A write to KEY of a mapped page on the fabric. -/
def keyWrite (m : Master) (p v : Nat) (s : State) : State :=
  match tabFind p s.keys with
  | none => if v = keyWord p then { s with keys := tabInsert p { owner := m, since := s.now } s.keys } else s
  | some k =>
    if k.owner ≠ m then s.emit (.busError m)
    else if !k.opened && v = 2 ^ 32 - 1 - keyWord p then
      { s with keys := tabInsert p { owner := m, opened := true, since := s.now } s.keys }
    else keyFail p s

/-- A successful write of an RWL register closes KEY (R48). -/
def keyClose (p : Nat) (s : State) : State := { s with keys := tabErase p s.keys }

/-! ### What a write does -/

/-- A word is written by the access types of its fields (R44). The W1S fields are commands, which the pages give their effect;
`CTRL.DRST` is a request and reads 0 (R40). -/
def plainWrite (m : Master) (p w v : Nat) (s0 : State) : State :=
  (wordFields m p w).foldl (fun s f =>
    match accessOf m s0 p w f with
    | .rw => s.set f (fieldBits f v)
    | .rwl => if f.lo = 31 && w = 0x002 then s else s.set f (fieldBits f v)
    | .w1c => s.set f (s.get f - (s.get f &&& fieldBits f v))
    | _ => s) s0

/-- A value for a field with a stated range: outside it the field takes a free value of the range, since the specification does not
say what it takes. -/
def rangeField (f : RegField) (lo hi v : Nat) (s : State) : State :=
  if lo ≤ v ∧ v ≤ hi then s.set f v else (s.set f (lo + Config.freeNat s.freeCtr % (hi + 1 - lo))).drawn

/-- MODE (R432, R433, R438, R439). -/
def writeMode (m : Master) (w v : Nat) (s : State) : State :=
  if w = 0x002 then
    let fz := frozen s
    let s := if fz then s else
      (writeStby (v.testBit 3) (writeHold (v.testBit 2) s)).setBit Reg.MODE_CTRL_DOZEEN (v.testBit 4)
    let s := if isCore m && v.testBit 1 then writeFatal s else s
    if !fz && v.testBit 5 then requestReset s else s
  else if w = 0x012 then rangeField Reg.MODE_WDCFG_PER 100 10000 (v % 2 ^ 14) s
  else if w = 0x013 then watchdogKick v s
  else plainWrite m 0x002 w v s

/-- RTC (R582 to R595). -/
def writeRtc (m : Master) (w v : Nat) (s : State) : State :=
  if w = 0x002 then
    let s := if v.testBit 2 then dstCommand true s else s
    let s := if v.testBit 3 then dstCommand false s else s
    let s := if v.testBit 1 then withCopy m rtcCommit s else s
    if v.testBit 4 then trimRestart s else s
  else if w = 0x020 then
    let z := ofField 11 v
    if -720 ≤ z ∧ z ≤ 840 then s.set Reg.RTC_ZONE_MIN (toField 11 z)
    else (s.set Reg.RTC_ZONE_MIN (toField 11 ((Config.freeNat s.freeCtr % 1561 : Nat) - 720))).drawn
  else if w = 0x021 then
    let t := ofField 18 v
    if -50000 ≤ t ∧ t ≤ 50000 then (rtcRebase s).set Reg.RTC_TRIM_PPB10 (toField 18 t) else s
  else if 0x030 ≤ w ∧ w ≤ 0x03F then
    (List.range 4).foldl (fun s k => backupByte (4 * (w - 0x030) + k) (v / 2 ^ (8 * k)) s) s
  else plainWrite m 0x006 w v s

/-- DMA channels (R505, R509): the owner is taken when it is written, and again at GO. -/
def writeDma (m : Master) (p w v : Nat) (s : State) : State :=
  let c := 16 * (p - 0x015) + (w - 0x040) / 16
  if !(0x040 ≤ w && w < 0x140) then plainWrite m p w v s
  else if w % 16 = 0 then
    let s := if v.testBit 2 then dmaAbort c s else s
    let s := if v.testBit 1 then dmaResume c s else s
    if v.testBit 0 then dmaGo c s else s
  else if w % 16 = 4 then
    let s := plainWrite m p w v s
    if dmaState s c = 1 ∨ dmaState s c = 2 then s
    else (s.set (dmaField Reg.DMA_CSTATE_ASID c) (v % 32)).set (dmaField Reg.DMA_CSTATE_CORE c) (v / 2 ^ 16 % 8)
  else plainWrite m p w v s

/-- A place of the input window of a requester's copy (R545). -/
def inputPlace (s : State) (r w : Nat) : Nat := 4096 * r + s.get (Reg.ENC_EIOFF_KIB.by r) * 256 + (w - 0x200)

/-- ENC (R545, R550). -/
def writeEnc (m : Master) (w v : Nat) (s : State) : State :=
  if w = 0x002 then (if v.testBit 1 then withCopy m zeroizeCommand s else s)
  else if w = 0x034 then (if v.testBit 0 then withCopy m encGo s else s)
  else if 0x200 ≤ w ∧ w ≤ 0x2FF then
    withCopy m (fun r s => { s with enc := { s.enc with inputs := tabPut 0 (inputPlace s r w) v s.enc.inputs } }) s
  else plainWrite m 0x020 w v s

/-- What a component read back from NOR shows (R569): whether it is intact is a free value. -/
def withReadBack (f : Bool → State → State) (s : State) : State := f (Config.freeNat s.freeCtr % 2 = 1) s.drawn

/-- UPD (R566 to R577). -/
def writeUpd (m : Master) (w v : Nat) (s : State) : State :=
  if w = 0x002 then
    withCopy m (fun r s =>
      let s := if v.testBit 0 then withReadBack (updateActivate r) s else s
      let s := if v.testBit 1 then updateConfirm r s else s
      let s := if v.testBit 2 then withReadBack (updateRevert r) s else s
      let s := if v.testBit 3 then updateAbort r s else s
      if v.testBit 4 then updateVerify r s else s) s
  else if w = 0x016 then
    rangeField Reg.UPD_TRIALCFG_TRIALTO 60 3600 (v % 2 ^ 12) (s.setBit Reg.UPD_TRIALCFG_TRIALHOLD (v.testBit 16))
  else plainWrite m 0x021 w v s

/-- A SEG page (R155, R157, R177, R180, R181, R657). -/
def writeSeg (m : Master) (p w v : Nat) (s : State) : State :=
  let n := p - 0x100
  if w = 0x002 then
    let s := s.setBit (Reg.SEG_CTRL_FOFF.inst n) (v.testBit 5)
    let s := if v.testBit 5 then feedOpen n s else s
    let s := if v.testBit 0 then portEnable n s
      else if s.bit (Reg.SEG_CTRL_EN.inst n) ∨ pstate s n ≠ 0 ∨ (fstate s n ≠ 0 ∧ fstate s n ≠ 6) then portDisable n s else s
    let s := if v.testBit 4 then feedClear n s else s
    let s := if v.testBit 3 then portRestart n s else s
    failedPorts (if v.testBit 2 then surveyRequest n (copyOf m = some 9) s else s)
  else if w = 0x015 then
    (if v.testBit 0 then portOosSet n s else portOosClear n s)
  else if w = 0x016 ∨ w = 0x017 then
    (List.range 32).foldl (fun s k =>
      let j := k + 32 * (w - 0x016)
      if (noos s n).testBit j == v.testBit k then s
      else if v.testBit k then nodeOosSet n j s else nodeOosClear n j s) s
  else if w = 0x020 then limitWrite n (v % 128) s
  else plainWrite m p w v s

/-- The bits of a mask that act, in rising order. -/
def eachBit (n v : Nat) (f : Nat → State → State) (s : State) : State :=
  (List.range n).foldl (fun s k => if v.testBit k then f k s else s) s

/-- A PBUS page (R221, R231, R237, R243). -/
def writePbus (m : Master) (p w v : Nat) (s : State) : State :=
  let n := p - 0x120
  if w = 0x002 then (if v.testBit 0 then recoveryStart n (viaBridge m) s else s)
  else if w = 0x02F then rxqGet n (v % 512) s
  else if w = 0x030 ∨ w = 0x031 then eachBit 32 v (fun k s => slotCancel n (k + 32 * (w - 0x030)) s) s
  else if w = 0x034 then eachBit 4 v (fun k s => shadowCancel n k s) s
  else if w = 0x183 then (if v.testBit 0 then withCopy m (ftxGo n) s else s)
  else plainWrite m p w v s

/-- A window page (R54, R56): while BUSY is 1, writes of WINDEX, WCTRL and DATA are ignored; LOAD and COMMIT together do nothing. -/
def writeWindow (m : Master) (p w v : Nat) (s : State) : State :=
  withCopy m (fun r s =>
    if winBusy s p r && (w = 0x010 || w = 0x011 || (0x040 ≤ w && w < 0x240)) then s
    else if w = 0x011 then
      let s := s.setBit ((Reg.WIN_AUTOINC.onPage p).by r) (v.testBit 2)
      match v.testBit 0, v.testBit 1 with
      | true, false => windowLoad p r s
      | false, true => windowCommit p r s
      | _, _ => s
    else plainWrite m p w v s) s

/-- A word that takes `f` where bit 0 is written 1. -/
def goWord (m : Master) (v : Nat) (f : Nat → State → State) (s : State) : State := if v.testBit 0 then withCopy m f s else s

/-- What a write of a block's own word does. -/
def blockWrite (m : Master) (p w v : Nat) (s : State) : State :=
  let plain := plainWrite m p w v s
  if w = 4 || w = 5 then plain
  else if p = 0x002 then writeMode m w v s
  else if p = 0x004 && w = 0x002 then (if v.testBit 0 then askCheck s else s)
  else if p = 0x005 && w = 0x002 then (if v.testBit 2 then clockRestore plain else plain)
  else if p = 0x005 && w = 0x018 then withCopy m (fun r s => clkoConfig r (v / 2 ^ 16 % 16) (v % 2 ^ 16) s) s
  else if p = 0x006 then writeRtc m w v s
  else if p = 0x007 && w = 0x061 then goWord m v readerLoad s
  else if p = 0x007 && w = 0x101 then goWord m v firmwareSubmit s
  else if p = 0x008 && 0x040 ≤ w && w ≤ 0x07F then mailPost (w - 0x040) m v s
  else if p = 0x008 then showHostRx plain
  else if p = 0x009 && 0x040 ≤ w && w ≤ 0x0BF then lockRelease (w - 0x040) s
  else if 0x010 ≤ p && p ≤ 0x013 && w = 0x002 then coreHalt (p - 0x010) (v.testBit 0) s
  else if p = 0x014 && w = 0x010 && v.testBit 30 then
    mmuInvalidate (v / 2 ^ 16 % 32) (v.testBit 0) (s.get Reg.MMU_INVADDRLO_VA * 4096 + 2 ^ 32 * s.get Reg.MMU_INVADDRHI_VA) s
  else if p = 0x015 || p = 0x016 then writeDma m p w v s
  else if p = 0x020 then writeEnc m w v s
  else if p = 0x021 then writeUpd m w v s
  else if p = 0x022 && w = 0x010 then withCopy m (fun r s => armWrite r (v % 64) (v.testBit 8) s) s
  else if p = 0x042 && w = 0x014 then goWord m v cmdGo s
  else if p = 0x043 && w = 0x014 then goWord m v forceGo s
  else if p = 0x049 && w = 0x021 then goWord m v entryLoad s
  else if p = 0x050 && w = 0x002 then cleStarted (s.bit Reg.CLE_CTRL_RUN) plain
  else if p = 0x058 && w = 0x002 then showCte plain
  else if p = 0x060 && w = 0x002 then
    let s := if v.testBit 1 then withCopy m calApply s else s
    if v.testBit 0 then testArm s else s
  else if p = 0x079 && w = 0x015 then goWord m v callGo s
  else if p = 0x180 && w = 0x002 then
    let s := if v.testBit 1 then keystoneAction 1 s else s
    let s := if v.testBit 2 then keystoneAction 2 s else s
    if v.testBit 0 then keystoneStep s else s
  else if p = 0x181 && w = 0x002 then (if v.testBit 0 then pairRelease 3 s else s)
  else if 0x100 ≤ p && p ≤ 0x11F then writeSeg m p w v s
  else if 0x120 ≤ p && p ≤ 0x13F then writePbus m p w v s
  else if p = 0x078 && w = 0x245 then ringPass v s
  else if isWindowPage p then writeWindow m p w v s
  else plain

/-- A write of MODE.CTRL that would have changed a field other than FATAL while PFREEZE is 1 sets TRANSREF, also where it is
rejected (R433). -/
def frozenRule (m : Master) (p w v : Nat) (s : State) : State :=
  if p = 0x002 && w = 0x002 && frozen s && (wordFields m p w).any (fun f => f.lo ≠ 1 && wouldChange s v f) then
    s.raise Reg.MODE_FAULT_TRANSREF
  else s

/-- An accepted write of one word: nothing on a word that the page does not define, else what the block does, and a requested
domain reset last (R39, R40). -/
def applyWord (m : Master) (p w v : Nat) (s : State) : State :=
  if !pageMapped p || (p = 0x001 && (w = 4 || w = 5)) || (w ≠ 4 && w ≠ 5 && (wordFields m p w).isEmpty) then s
  else
    let reset := w = 0x002 && v.testBit 31 && !(p = 0x002 && frozen s)
    let s := blockWrite m p w v (frozenRule m p w v s)
    if reset then domainReset p s else s

/-! ### What a read returns -/

/-- The master may see what a page announces (R59). -/
def seesPage (m : Master) (s : State) (p : Nat) : Bool := pageMapped p && mayReadPage m p s

/-- The attention page (R57 to R59). -/
def attnWord (m : Master) (w : Nat) (s : State) : Nat :=
  let pend := fun p => seesPage m s p && anyFault s.regs p
  let seq := fun p => if p ≤ 1 || !seesPage m s p then 0 else s.get (Reg.HDR_SEQ.onPage p) % 2 ^ 16
  if w = 0x010 then s.pwr.epoch % 2 ^ 32
  else if w = 0x011 then mode s + (if (List.range 512).any pend then 256 else 0)
  else if 0x020 ≤ w ∧ w ≤ 0x02F then
    ((List.range 32).map (fun n => if pend (32 * (w - 0x020) + n) then 2 ^ n else 0)).sum
  else if 0x100 ≤ w ∧ w ≤ 0x1FF then seq (2 * (w - 0x100)) + 2 ^ 16 * seq (2 * (w - 0x100) + 1)
  else 0

/-- Time in DOZE over the last second, in 1/1,024 s (R464). -/
def dozeFrac (s : State) : Nat :=
  let past := if s.now < second then 0 else s.now - second
  let spans := s.pwr.dozes ++ (if s.bit Reg.MODE_PWRST_DOZE then [(s.pwr.dozeAt, s.now)] else [])
  min 1023 ((spans.map (fun (d : Nat × Nat) => d.2 - max d.1 past)).sum * 1024 / second)

/-- A calendar field of a snapshot (R586), in the order of the registers. -/
def snapField (x : RtcSnap) (k : Nat) : Nat :=
  match k with
  | 0 => x.sec
  | 1 => x.min
  | 2 => x.hour
  | 3 => x.day
  | 4 => x.wday
  | 5 => x.mon
  | 6 => x.year
  | _ => x.subsec

/-- Calendar fields: SEC captures the reader's snapshot, and the others are read from it (R586). -/
def readRtc (m : Master) (k : Nat) (s : State) : Nat × State :=
  match copyOf m with
  | none => (0, s)
  | some r =>
    let s := if k = 0 then rtcSnapshot r s else s
    (snapField (tabGet {} s.rtc.snaps r) k, s)

/-- The time base's counters: a low word latches its high word for the requester (R287). -/
def readTime (m : Master) (w : Nat) (s : State) : Nat × State :=
  let r := match copyOf m with | some r => r | none => 16
  if w = 0x010 then
    (taiUs s % 2 ^ 32, { s with time := { s.time with taiHi := tabPut 0 r (taiUs s / 2 ^ 32 % 2 ^ 32) s.time.taiHi } })
  else if w = 0x011 then (tabGet 0 s.time.taiHi r, s)
  else if w = 0x012 then
    (monoUs s % 2 ^ 32, { s with time := { s.time with monoHi := tabPut 0 r (monoUs s / 2 ^ 32 % 2 ^ 32) s.time.monoHi } })
  else if w = 0x013 then (tabGet 0 s.time.monoHi r, s)
  else (match nextInstantMs s with | some t => t % 2 ^ 32 | none => 0, s)

/-- The words of a message table entry (R208, R243). -/
def messageWord (s : State) (n i k : Nat) : Nat :=
  match (pcfg s n).msgs[i]? with
  | none => 0
  | some e =>
    match k with
    | 0 => b2n e.brs * 2 ^ 31 + b2n e.fdf * 2 ^ 30 + b2n e.ide * 2 ^ 29 + e.id
    | 1 => 2 ^ 31 + b2n e.out * 2 ^ 30 + b2n e.copy * 2 ^ 29 + b2n e.ackmode * 2 ^ 28 + e.node * 2 ^ 16 + e.slot * 2 ^ 8 + e.dlc
    | 2 => e.confid
    | _ => e.qoff

/-- A measurement that the model does not compute: a free value in the field, beside the word's stored fields. -/
def freeField (f : RegField) (base : Nat) (s : State) : Nat × State :=
  (base - s.get f * 2 ^ f.lo + Config.freeNat s.freeCtr % 2 ^ f.width * 2 ^ f.lo, s.drawn)

/-- A counter of events outside the model: at a read it has counted a free number of further ones, and saturates (R427). -/
def freeCount (f : RegField) (s : State) : Nat × State :=
  let s := (s.countSat f (Config.freeNat s.freeCtr)).drawn
  (s.get f, s)

/-- Lag of the last applied checkpoint (R426): a standby's own; an active that has applied none shows a free value. -/
def readLag (s : State) : Nat × State :=
  if s.get Reg.PAIR_STAT_ROLE = 0 then (0, s)
  else if s.get Reg.PAIR_STAT_ROLE = 2 && s.pair.ckEpoch.isSome then
    ((tickNow s + 2 ^ 32 - s.get Reg.PAIR_CKTICK_TICK) % 2 ^ 32, s)
  else (Config.freeNat s.freeCtr % 2 ^ 32, s.drawn)

/-- The words of a session's slot (R80): its age beside the stored bits. -/
def sessionWord (s : State) (k base : Nat) : Nat :=
  let x : Session := tabGet {} s.sessions k
  if x.opened then base + 2 ^ 16 * min 0xFFFF ((s.now - x.since) / second) else base

/-- A PBUS page's computed words (R223, R242, R243). -/
def readPbus (m : Master) (p w base : Nat) (s : State) : Nat × State :=
  let n := p - 0x120
  if w = 0x018 then
    let t := cycleNow s n
    (t.1 / 1000 % 2 ^ 16 * 2 ^ 16 + t.2, s)
  else if 0x01B ≤ w ∧ w ≤ 0x01E then
    (match copyOf m with
    | some r => messageWord s n (s.get ((Reg.PBUS_MSGIDX_INDEX.inst n).by r)) (w - 0x01B)
    | none => 0, s)
  else (base, s)

/-- ENC's computed words (R545, R557). -/
def readEnc (m : Master) (w base : Nat) (s : State) : Nat × State :=
  match copyOf m with
  | none => (base, s)
  | some r =>
    if 0x021 ≤ w ∧ w ≤ 0x024 then
      let n := s.get (Reg.ENC_SLSEL_SLOT.by r)
      let ws := if mayReadLane (requesterLanes s r) (slotLane s n) then slotWords s n else []
      (match ws[w - 0x021]? with | some v => v | none => 0, s)
    else if 0x200 ≤ w ∧ w ≤ 0x2FF then (tabGet 0 s.enc.inputs (inputPlace s r w), s)
    else if 0x300 ≤ w ∧ w ≤ 0x3FF then
      let out := tabGet [] s.enc.outputs r
      (ofLeBytes ((out.drop (s.get (Reg.ENC_EOOFF_KIB.by r) * 1024 + 4 * (w - 0x300))).take 4), s)
    else (base, s)

/-- The stored fields of a word together. -/
def storedWord (m : Master) (p w : Nat) (s : State) : Nat := ((wordFields m p w).map (fun f => s.get f * 2 ^ f.lo)).sum

/-- The word holds a field of another lane's, task's or quota's that the session does not see (R52, R135, R314). -/
def filteredWord (m : Master) (p w : Nat) (s : State) : Bool :=
  match hostCopy m with
  | none => false
  | some r =>
    let set := requesterLanes s r
    if p = 0x040 && 0x100 ≤ w && w ≤ 0x1FF then !mayReadLane set (w - 0x100)
    else if p = 0x058 && 0x040 ≤ w && w < 0x140 then !mayReadLane set (taskLane s ((w - 0x040) / 16))
    else false

/-- A read of a block's own word: what it returns and leaves. -/
def blockRead (m : Master) (p w : Nat) (s : State) : Nat × State :=
  let base := storedWord m p w s
  if p = 0x001 then (attnWord m w s, s)
  else if p = 0x002 && w = 0x017 then (dozeFrac s, s)
  else if p = 0x002 && w = 0x018 then (monoNs s / second % 2 ^ 32, s)
  else if p = 0x003 && w = 0x012 then freeField Reg.PWR_IIN_MA base s
  else if p = 0x003 && w = 0x013 then freeField Reg.PWR_PMOD_MW100 base s
  else if p = 0x006 && 0x010 ≤ w && w ≤ 0x017 then readRtc m (w - 0x010) s
  else if p = 0x007 && w = 0x011 then (optimeMs s % 2 ^ 32, s)
  else if p = 0x007 && w = 0x012 then (optimeMs s / 2 ^ 32 % 2 ^ 16, s)
  else if p = 0x008 && 0x040 ≤ w && w ≤ 0x07F then mailRead (w - 0x040) m s
  else if p = 0x009 && 0x040 ≤ w && w ≤ 0x0BF then (lockValue (w - 0x040) s, lockAcquire (w - 0x040) m s)
  else if p = 0x00A && ((0x010 ≤ w && w ≤ 0x013) || w = 0x01A) then readTime m w s
  else if 0x010 ≤ p && p ≤ 0x013 && w = 0x017 then freeField (Reg.CORE_BUSY_FRAC.inst (p - 0x010)) base s
  else if p = 0x020 then readEnc m w base s
  else if p = 0x021 && w = 0x017 then (trialLeft s, s)
  else if p = 0x022 && w = 0x014 then freeField Reg.TAMP_SENSE_BITS base s
  else if p = 0x022 && w = 0x015 then freeField Reg.TAMP_DIETEMP_C10 base s
  else if p = 0x040 && w = 0x013 then (tickNow s % 2 ^ 32, s)
  else if p = 0x070 && w = 0x081 then (boLevels s, s)
  else if p = 0x181 && w = 0x012 then (min (2 ^ 32 - 1) ((s.pair.leaseEnd - monoNs s) / 1000), s)
  else if p = 0x181 && w = 0x016 then readLag s
  else if p = 0x182 && (w = 0x024 || w = 0x034) then freeCount (Reg.UPL_PRXERR_COUNT.ix ((w - 0x024) / 16)) s
  else if p = 0x182 && (w = 0x025 || w = 0x035) then freeCount (Reg.UPL_PDROP_COUNT.ix ((w - 0x025) / 16)) s
  else if p = 0x183 && 0x040 ≤ w && w < 0x0C0 && w % 16 = 0 then (sessionWord s ((w - 0x040) / 16) base, s)
  else if 0x100 ≤ p && p ≤ 0x11F && w = 0x023 then
    let n := p - 0x100
    (base + (if fstate s n = 5 then ((feed s n).backoffEnd - s.now) / (10 * msec) % 2 ^ 16 else 0) * 2 ^ 16, s)
  else if 0x120 ≤ p && p ≤ 0x13F then readPbus m p w base s
  else (base, s)

/-- RC fields that a read returns are cleared (R46); the least slack of the control engine is sought anew (R281). -/
def clearRead (m : Master) (p w : Nat) (s : State) : State :=
  let s := if p = 0x050 ∧ w = 0x01B then { s with cle := { s.cle with slack := none } } else s
  (wordFields m p w).foldl (fun s f => if f.acc = .rc then s.set f 0 else s) s

/-- A read of one word: what it returns and leaves (R39, R40, R46, R655). Page 0x181 shows the reachability of partner and abutment as it
is now (R416). -/
def readWord (m : Master) (p w : Nat) (s : State) : Nat × State :=
  let base := storedWord m p w s
  if !pageMapped p || filteredWord m p w s then (0, s)
  else if w = 0 then (pidWord p, s)
  else if w = 1 then (base % 2 ^ 31 + (if domainPages p = [] then 0 else 2 ^ 31), s)
  else if p = 0x181 && (w = 3 || w = 4) then
    let s := showPair s
    (storedWord m p w s + (if w = 3 && anyFault s.regs p then 2 ^ 31 else 0), s)
  else if w = 3 then (base + (if anyFault s.regs p then 2 ^ 31 else 0), s)
  else if p = 0x001 && (w = 4 || w = 5) then (0, s)
  else if w < 0x010 then (base, s)
  else
    let x := blockRead m p w s
    (x.1, clearRead m p w x.2)

/-! ### Accesses on the fabric (R38, R45, R49, R52, R78) -/

/-- A host access from a connection that is not open has no effect. -/
def hostClosed (m : Master) (s : State) : Bool :=
  match hostCopy m with
  | some r => !sessionOpen s r
  | none => false

/-- A rejected access: a bus error to a fabric master; under PAP the status says it. -/
def rejected (m : Master) (s : State) : State := if viaBridge m then s else s.emit (.busError m)

/-- A rejected write of a word: a mailbox counts it (R513), MODE notes it (R433). -/
def rejectWrite (m : Master) (p w v : Nat) (s : State) : State :=
  if p = 0x008 && 0x040 ≤ w && w ≤ 0x07F && !viaBridge m then mailRefuse m s
  else rejected m (frozenRule m p w v s)

/-- A write of one word by a master. DMA does not reach the register window but through window elements (R491). -/
def fabricWrite (m : Master) (p off v : Nat) (s : State) : State :=
  let w := off / 4
  let s := keyLapse p s
  if hostClosed m s then s
  else if off % 4 ≠ 0 || masterMid m = 7 then rejected m s
  else if !mayWritePage m p w s then denyPage m p s
  else if pageBusy s p then rejected m s
  else if w = 6 then (if viaBridge m || !pageMapped p then s else keyWrite m p v s)
  else if wordStatus m (keyOpen p m s) p w v s ≠ 0 then rejectWrite m p w v s
  else
    let closes := keyOpen p m s && (wordFields m p w).any (fun f => accessOf m s p w f = .rwl)
    let s := if closes then keyClose p s else s
    applyWord m p w v s

/-- The FAULT word of a page. -/
def faultWord (p : Nat) (s : State) : Nat := ((fieldsAt p 4 0).map (fun f => s.get f * 2 ^ f.lo)).sum

/-- Hardware sets FAULT bits of a page: those of `events` that the page defines. -/
def faultEvents (p events : Nat) (s : State) : State :=
  (fieldsAt p 4 0).foldl (fun s f => s.set f (s.get f ||| fieldBits f events)) s

/-- A W1C write of FAULT in the SYS cycle in which hardware sets `events` (R43): a bit of both stays set, and the page's SEQ counts
once for the cycle although the word may read as before. -/
def faultClear (m : Master) (p v events : Nat) (s : State) : State :=
  let a := fabricWrite m p 0x010 v s
  let b := faultEvents p events a
  let both := faultWord p s &&& faultWord p b &&& (faultWord p s - (faultWord p s &&& faultWord p a))
  if both ≠ 0 && !pageChanged s.regs b.regs p then bumpSeq b p else b

/-- A read of one word by a master; the data leaves as the read's response. -/
def fabricRead (m : Master) (p off : Nat) (s : State) : State :=
  let w := off / 4
  if hostClosed m s then s
  else if off % 4 ≠ 0 || masterMid m = 7 then rejected m s
  else if !mayReadPage m p s then denyPage m p s
  else if pageBusy s p then rejected m s
  else
    let x := readWord m p w s
    x.2.emit (.readData m x.1)

/-! ### The commands -/

/-- REGISTER_WRITE (R38, R44, R45): `narrow` says that the access is narrower than a word. -/
def execRegisterWrite (master : Master) (page offset : BitVec 12) (narrow : Bool) (value : Word) (s : State) :
    Host.Outcome State Fault Refusal :=
  done s (if narrow then rejected master s else fabricWrite master page.toNat offset.toNat value.toNat s)

/-- RC_FIELD_READ (R38, R46): a read of any word of the register map; `narrow` says that the access is narrower than a word. -/
def execRcFieldRead (master : Master) (page offset : BitVec 12) (narrow : Bool) (s : State) : Host.Outcome State Fault Refusal :=
  done s (if narrow then rejected master s else fabricRead master page.toNat offset.toNat s)

/-- FAULT_CLEAR (R41, R43): a write of 1 to FAULT bits of a page; `events` are the bits that hardware sets in the same SYS cycle. -/
def execFaultClear (master : Master) (page : BitVec 12) (value events : Word) (s : State) : Host.Outcome State Fault Refusal :=
  done s (faultClear master page.toNat value.toNat events.toNat s)

/-- KEY_ARM (R47): step 1. -/
def execKeyArm (master : Master) (page : BitVec 12) (s : State) : Host.Outcome State Fault Refusal :=
  done s (fabricWrite master page.toNat 0x018 (keyWord page.toNat) s)

/-- KEY_OPEN (R47): step 2. -/
def execKeyOpen (master : Master) (page : BitVec 12) (s : State) : Host.Outcome State Fault Refusal :=
  done s (fabricWrite master page.toNat 0x018 (2 ^ 32 - 1 - keyWord page.toNat) s)

/-- A KEY sequence stands for 10 µs, and then closes (R48). -/
def keyTimeout (p : Nat) (s : State) : State :=
  match tabFind p s.keys with
  | some k => keyFail p (s.reach (k.since + keyWindow))
  | none => s

/-- KEY_TIMEOUT (R48). -/
def execKeyTimeout (page : BitVec 12) (s : State) : Host.Outcome State Fault Refusal := done s (keyTimeout page.toNat s)

/-- A write of `WCTRL` of a window page by a requester; other pages have no windows. -/
def windowControl (r : Fin 16) (p : Nat) (load commit autoinc : Bool) (s : State) : State :=
  if isWindowPage p then fabricWrite (.req r) p 0x044 (b2n load + 2 * b2n commit + 4 * b2n autoinc) s else s

/-- WINDOW_LOAD (R55, R56). -/
def execWindowLoad (requester : Fin 16) (page : BitVec 12) (autoinc : Bool) (s : State) : Host.Outcome State Fault Refusal :=
  done s (windowControl requester page.toNat true false autoinc s)

/-- WINDOW_COMMIT (R55, R56). -/
def execWindowCommit (requester : Fin 16) (page : BitVec 12) (autoinc : Bool) (s : State) : Host.Outcome State Fault Refusal :=
  done s (windowControl requester page.toNat false true autoinc s)

/-- WINDOW_LOAD_COMMIT_CONFLICT (R56): both bits in one write. -/
def execWindowLoadCommitConflict (requester : Fin 16) (page : BitVec 12) (autoinc : Bool) (s : State) :
    Host.Outcome State Fault Refusal :=
  done s (windowControl requester page.toNat true true autoinc s)

end Sys2Proof.Machine
end

