-- ==== Sys2Proof/Machine/Pap.lean ====
section
/-! DEFINITION. The requests of PAP sessions and of the service port (spec/02_register_pages.md, R70 to R78, R138, R177, R564,
R575, R576). -/

namespace Sys2Proof.Machine

/-- A connection as a master on the fabric: requester copy `k`. -/
def connMaster (k : Nat) : Master := .req (Fin.ofNat 16 k)

/-- The words of a request's range. -/
def rangeWords (q : PapRequest) : List Nat := (List.range q.count.toNat).map (fun i => q.offset.toNat / 4 + i)

/-- The words of a range with their data. -/
def rangeData (q : PapRequest) : List (Nat × Nat) := (List.range q.count.toNat).map (fun i => (q.offset.toNat / 4 + i, papWord q i))

/-- A page on which the read of one word changes what another shows: mailboxes and locks. -/
def readsCross (p : Nat) : Bool := p = 0x008 || p = 0x009

/-- The words `ws` of a page are read in one fabric cycle, in which the page was `s0` (R73): what a read of one word does (R46, R513,
R520) does not show in the others. -/
def readWordsOf (m : Master) (p : Nat) (s0 : State) : List Nat → State → List Nat × State
  | [], s => ([], s)
  | w :: ws, s =>
    let x := readWord m p w s
    let v := if readsCross p then (readWord m p w s0).1 else x.1
    let y := readWordsOf m p s0 ws x.2
    (v :: y.1, y.2)

/-- The words `ws` of a page are read in one fabric cycle (R73). -/
def readWords (m : Master) (p : Nat) (ws : List Nat) (s : State) : List Nat × State := readWordsOf m p s ws s

/-- READ (R71, R73). -/
def readBody (k : Nat) (q : PapRequest) (s : State) : Option (Nat × List Nat) × State :=
  let m := connMaster k
  let p := papPage q
  if !mayReadPage m p s then (some (6, []), denyPage m p s)
  else if pageBusy s p then (some (0x0B, []), s)
  else
    let x := readWords m p (rangeWords q) s
    (some (0, x.1), x.2)

/-- The lowest of the nonzero codes; 0 where there is none. -/
def firstStatus (l : List Nat) : Nat :=
  match (l.filter (fun x => x ≠ 0)).min? with
  | some x => x
  | none => 0

/-- The status of one word of a WRITE or LWRITE; the write that R177 settles passes over registers whose fields are all RO. -/
def writeWordStatus (m : Master) (keyed : Bool) (q : PapRequest) (w v : Nat) (s : State) : Nat :=
  let st := wordStatus m keyed (papPage q) w v s
  if st = 7 && !keyed && surveyWrite 2 q then 0 else st

/-- The status of a WRITE or LWRITE beside its form: the first failing condition over its words in the order of R72 (R74). -/
def writeStatus (k : Nat) (keyed : Bool) (q : PapRequest) (s : State) : Nat :=
  let m := connMaster k
  let p := papPage q
  firstStatus ([if (rangeWords q).all (fun w => mayWritePage m p w s) then 0 else 6,
      if keyed && keyHeld p m s then 9 else 0, if pageBusy s p then 0x0B else 0] ++
    (rangeData q).map (fun e => writeWordStatus m keyed q e.1 e.2 s))

/-- The order in which a write applies its words: rising, but POOS before CTRL on a SEG page (R177); KEY is not written (R50). -/
def writeOrder (p : Nat) (l : List (Nat × Nat)) : List (Nat × Nat) :=
  let l := l.filter (fun e => e.1 ≠ 0x006)
  if 0x100 ≤ p ∧ p ≤ 0x11F then l.filter (fun e => e.1 = 0x015) ++ l.filter (fun e => e.1 ≠ 0x015) else l

/-- An update that requester `k` submitted is held because the queue of the host class is full (R99). -/
def queueHolds (s : State) (k : Nat) : Bool :=
  (tabGet [] s.pt.held 6 : List Update).any (fun u => u.path = .cmd k || u.path = .force k || u.path = .window k)

/-- WRITE, and LWRITE with KEY open within it (R71, R74). While the queue of the point engine is full the response to a write that
submits an update is delayed (R99). -/
def writeBody (k : Nat) (keyed : Bool) (q : PapRequest) (s : State) : Option (Nat × List Nat) × State :=
  let m := connMaster k
  let p := papPage q
  let s := keyLapse p s
  match writeStatus k keyed q s with
  | 0 =>
    let s' := (writeOrder p (rangeData q)).foldl (fun s e => applyWord m p e.1 e.2 s) s
    if queueHolds s' k && !queueHolds s k then (none, papWait k (if keyed then 3 else 2) q s') else (some (0, []), s')
  | 6 => (some (6, []), denyPage m p s)
  | st => (some (st, []), (rangeData q).foldl (fun s e => frozenRule m p e.1 e.2 s) s)

/-- The words of DATA that a WREAD or WWRITE names (R71). -/
def dataWords (q : PapRequest) : List Nat := (List.range q.count.toNat).map (fun i => 0x040 + q.offset.toNat / 4 + i)

/-- Sets WINDEX of a window copy; ignored while BUSY is 1 (R56). -/
def setWindex (p k i : Nat) (s : State) : State := if winBusy s p k then s else s.set ((Reg.WIN_INDEX.onPage p).by k) i

/-- WREAD (R71). -/
def wreadBody (k : Nat) (q : PapRequest) (s : State) : Option (Nat × List Nat) × State :=
  let m := connMaster k
  let p := papPage q
  if !mayReadPage m p s then (some (6, []), denyPage m p s)
  else if pageBusy s p then (some (0x0B, []), s)
  else
    let s := setWindex p k q.arg.toNat s
    let s := if winBusy s p k then s else windowLoad p k s
    let x := readWords m p (dataWords q) s
    (some (0, x.1), x.2)

/-- The response of a WWRITE whose window is no longer busy: `WSTAT`, with WINDOW_ERR where ERR is not 0 (R72, R138). -/
def windowStatus (p k : Nat) (s : State) : Nat × List Nat :=
  let err := s.get ((Reg.WIN_ERR.onPage p).by k)
  (if err = 0 then 0 else 0x0C, [err * 16 + s.get ((Reg.WIN_VALID.onPage p).by k) * 2])

/-- WWRITE (R71, R74): answered at once where COMMIT ends at once, else when it ends. On a copy that is still BUSY with an earlier
COMMIT its WINDEX, DATA and COMMIT are ignored (R56), and it is answered when that COMMIT ends, with its WSTAT (assumption 67;
DESIGN CHOICE, the specification does not say when or with what). -/
def wwriteBody (k : Nat) (q : PapRequest) (s : State) : Option (Nat × List Nat) × State :=
  let m := connMaster k
  let p := papPage q
  if !mayWritePage m p 0x011 s then (some (6, []), denyPage m p s)
  else if pageBusy s p then (some (0x0B, []), s)
  else if winBusy s p k then (none, papWait k 5 q s)
  else
    let s := setWindex p k q.arg.toNat s
    let s := ((dataWords q).zip (q.data.map (fun d => d.toNat))).foldl
      (fun s e => if e.1 < 0x040 + dataLen p then plainWrite m p e.1 e.2 s else s) s
    let s := windowCommit p k s
    if winBusy s p k then (none, papWait k 5 q s) else (some (windowStatus p k s), s)

/-- NOP (R71). -/
def nopBody (s : State) : Option (Nat × List Nat) × State := (some (0, []), s)

/-! ### Order within a session (R75) -/

/-- Serves a request of connection `k` whose turn has come. -/
def papRun (s0 : State) (k : Nat) : Instr → State → State
  | .papRead _ q, s => papServe s0 k 1 q (readBody k q) s
  | .papWrite _ q, s => papServe s0 k 2 q (writeBody k false q) s
  | .papLwrite _ q, s => papServe s0 k 3 q (writeBody k true q) s
  | .papWread _ q, s => papServe s0 k 4 q (wreadBody k q) s
  | .papWwrite _ q, s => papServe s0 k 5 q (wwriteBody k q) s
  | .papNop _ q, s => papServe s0 k 6 q nopBody s
  | .block _ q m, s => blockServe s0 k q m s
  | .sheet _ q, s => sheetServe s0 k q s
  | .install _ q o ok, s => installServe s0 k q o ok s
  | _, s => s

/-- Held requests of a connection are served in order until one waits for its answer. -/
def papDrain (s0 : State) (k : Nat) : Nat → State → State
  | 0, s => s
  | n + 1, s =>
    let x : Session := tabGet {} s.sessions k
    match x.held with
    | [] => s
    | i :: rest => if x.waits.isEmpty then papDrain s0 k n (papRun s0 k i (setSession k { x with held := rest } s)) else s

/-- The held requests of a connection, as far as they can be served. -/
def papNext (s0 : State) (k : Nat) (s : State) : State := papDrain s0 k (tabGet {} s.sessions k : Session).held.length s

/-- A request of a connection arrives. -/
def papRequest (k : Nat) (i : Instr) (s : State) : State := papArrive k i (papRun s k i) s

/-- The first WWRITE of a connection that waits is answered once its window is no longer busy (R138). -/
def wwriteResponse (k : Nat) (s : State) : State :=
  let x : Session := tabGet {} s.sessions k
  match x.waits.find? (fun t => t.op = 5 && isWindowPage t.page && !winBusy s t.page k) with
  | none => s
  | some t =>
    let a := windowStatus t.page k s
    papNext s k (papAnswer s k 5 t.tag t.arg a.1 a.2 (setSession k { x with waits := x.waits.erase t } s))

/-- A write whose response was delayed is answered once its update has a place in the queue (R99). -/
def writeResponse (s0 : State) (k : Nat) (s : State) : State :=
  let x : Session := tabGet {} s.sessions k
  match x.waits.find? (fun t => t.op = 2 || t.op = 3) with
  | none => s
  | some t =>
    if queueHolds s k then s
    else papNext s0 k (papAnswer s0 k t.op t.tag t.arg 0 [] (setSession k { x with waits := x.waits.erase t } s))

/-- The delayed responses of every connection whose update has a place in the queue now. -/
def writeResponses (s0 s : State) : State := [0, 1, 2, 3, 4, 5, 6, 7, 9].foldl (fun s k => writeResponse s0 k s) s

/-! ### The commands -/

/-- PAP_READ (R73). `conn` is a session slot, or none for the service port. -/
def execPapRead (conn : Option (Fin 8)) (request : PapRequest) (s : State) : Host.Outcome State Fault Refusal :=
  done s (papRequest (connCopy conn) (.papRead conn request) s)

/-- PAP_WRITE (R74). -/
def execPapWrite (conn : Option (Fin 8)) (request : PapRequest) (s : State) : Host.Outcome State Fault Refusal :=
  done s (papRequest (connCopy conn) (.papWrite conn request) s)

/-- PAP_LWRITE (R71, R74). -/
def execPapLwrite (conn : Option (Fin 8)) (request : PapRequest) (s : State) : Host.Outcome State Fault Refusal :=
  done s (papRequest (connCopy conn) (.papLwrite conn request) s)

/-- PAP_WREAD (R71). -/
def execPapWread (conn : Option (Fin 8)) (request : PapRequest) (s : State) : Host.Outcome State Fault Refusal :=
  done s (papRequest (connCopy conn) (.papWread conn request) s)

/-- PAP_WWRITE (R71, R74). -/
def execPapWwrite (conn : Option (Fin 8)) (request : PapRequest) (s : State) : Host.Outcome State Fault Refusal :=
  done s (papRequest (connCopy conn) (.papWwrite conn request) s)

/-- PAP_WWRITE_RESPONSE (R138). -/
def execPapWwriteResponse (conn : Option (Fin 8)) (s : State) : Host.Outcome State Fault Refusal :=
  done s (wwriteResponse (connCopy conn) s)

/-- PAP_NOP (R71). -/
def execPapNop (conn : Option (Fin 8)) (request : PapRequest) (s : State) : Host.Outcome State Fault Refusal :=
  done s (papRequest (connCopy conn) (.papNop conn request) s)

/-- BLOCK (R564): `manifest` is what the block spells if it is block 0. -/
def execBlock (conn : Option (Fin 8)) (request : PapRequest) (manifest : Option Manifest) (s : State) :
    Host.Outcome State Fault Refusal :=
  done s (papRequest (connCopy conn) (.block conn request manifest) s)

/-- UPDATE_BLOCK_WRITTEN (R564): whether the block read back good. -/
def execUpdateBlockWritten (good : Bool) (s : State) : Host.Outcome State Fault Refusal := done s (papNext s 9 (blockDone s good s))

/-- SHEET (R575). -/
def execSheet (conn : Option (Fin 8)) (request : PapRequest) (s : State) : Host.Outcome State Fault Refusal :=
  done s (papRequest (connCopy conn) (.sheet conn request) s)

/-- INSTALL (R576): `object` is what the staging buffer spells, `signatureOk` whether its signatures verify. -/
def execInstall (conn : Option (Fin 8)) (request : PapRequest) (object : SignedObject) (signatureOk : Bool) (s : State) :
    Host.Outcome State Fault Refusal :=
  done s (writeResponses s (papRequest (connCopy conn) (.install conn request object signatureOk) s))

/-- UPDATE_ADMISSION (R100): the engine takes one update from the queue that it serves now. -/
def execUpdateAdmission (s : State) : Host.Outcome State Fault Refusal := done s (writeResponses s (admitUpdate s))

/-- TASK_BATCH_ADMISSION (R296): the batch of a task at the head of queue 5, when the engine serves it. -/
def execTaskBatchAdmission (task : Fin 16) (s : State) : Host.Outcome State Fault Refusal :=
  done s (if batchNext s task.val then writeResponses s (admitUpdate s) else s)

end Sys2Proof.Machine
end

