-- ==== Sys2Proof/Machine/Dispatch.lean ====
section
/-! DEFINITION. The dispatch of every command to its meaning. -/

namespace Sys2Proof.Machine

/-- The effect of a command on everything but the queue. -/
def exec (i : Instr) (s : State) : Host.Outcome State Fault Refusal :=
  match i with
  | .registerWrite master page offset narrow value => Sys2Proof.Machine.execRegisterWrite master page offset narrow value s
  | .rcFieldRead master page offset narrow => Sys2Proof.Machine.execRcFieldRead master page offset narrow s
  | .faultClear master page value events => Sys2Proof.Machine.execFaultClear master page value events s
  | .keyArm master page => Sys2Proof.Machine.execKeyArm master page s
  | .keyOpen master page => Sys2Proof.Machine.execKeyOpen master page s
  | .keyTimeout page => Sys2Proof.Machine.execKeyTimeout page s
  | .domainResetRequest page => Sys2Proof.Machine.execDomainResetRequest page s
  | .domainResetComplete page => Sys2Proof.Machine.execDomainResetComplete page s
  | .windowLoad requester page autoinc => Sys2Proof.Machine.execWindowLoad requester page autoinc s
  | .windowCommit requester page autoinc => Sys2Proof.Machine.execWindowCommit requester page autoinc s
  | .windowLoadCommitConflict requester page autoinc => Sys2Proof.Machine.execWindowLoadCommitConflict requester page autoinc s
  | .papHandshake port udp offer root cert valid => Sys2Proof.Machine.execPapHandshake port udp offer root cert valid s
  | .papSessionIdleTimeout slot => Sys2Proof.Machine.execPapSessionIdleTimeout slot s
  | .papRead conn request => Sys2Proof.Machine.execPapRead conn request s
  | .papWrite conn request => Sys2Proof.Machine.execPapWrite conn request s
  | .papLwrite conn request => Sys2Proof.Machine.execPapLwrite conn request s
  | .papWread conn request => Sys2Proof.Machine.execPapWread conn request s
  | .papWwrite conn request => Sys2Proof.Machine.execPapWwrite conn request s
  | .papWwriteResponse conn => Sys2Proof.Machine.execPapWwriteResponse conn s
  | .papNop conn request => Sys2Proof.Machine.execPapNop conn request s
  | .block conn request manifest => Sys2Proof.Machine.execBlock conn request manifest s
  | .updateBlockWritten good => Sys2Proof.Machine.execUpdateBlockWritten good s
  | .sheet conn request => Sys2Proof.Machine.execSheet conn request s
  | .install conn request object signatureOk => Sys2Proof.Machine.execInstall conn request object signatureOk s
  | .pointUpdateSubmit update => Sys2Proof.Machine.execPointUpdateSubmit update s
  | .updateAdmission => Sys2Proof.Machine.execUpdateAdmission s
  | .deckTickCommit => Sys2Proof.Machine.execDeckTickCommit s
  | .publicationTimer record => Sys2Proof.Machine.execPublicationTimer record s
  | .staleTimeout record => Sys2Proof.Machine.execStaleTimeout record s
  | .persistenceWrite unit => Sys2Proof.Machine.execPersistenceWrite unit s
  | .pointStoreRestore failed => Sys2Proof.Machine.execPointStoreRestore failed s
  | .cmdWriteLevel requester index level value => Sys2Proof.Machine.execCmdWriteLevel requester index level value s
  | .cmdRelinquishLevel requester index level => Sys2Proof.Machine.execCmdRelinquishLevel requester index level s
  | .cmdReadArray requester index => Sys2Proof.Machine.execCmdReadArray requester index s
  | .cmdWriteRelinquishDefault requester index value => Sys2Proof.Machine.execCmdWriteRelinquishDefault requester index value s
  | .forceApply requester index value => Sys2Proof.Machine.execForceApply requester index value s
  | .forceRelease requester index => Sys2Proof.Machine.execForceRelease requester index s
  | .forceRead requester index => Sys2Proof.Machine.execForceRead requester index s
  | .forceReservedOp requester index => Sys2Proof.Machine.execForceReservedOp requester index s
  | .pntwinValueWrite requester index value => Sys2Proof.Machine.execPntwinValueWrite requester index value s
  | .pntwinTuningWrite requester index deadband minpub maxpub staleto maxage => Sys2Proof.Machine.execPntwinTuningWrite requester index deadband minpub maxpub staleto maxage s
  | .pntwinServiceWrite requester index oos => Sys2Proof.Machine.execPntwinServiceWrite requester index oos s
  | .pntwinReservedSelect requester index => Sys2Proof.Machine.execPntwinReservedSelect requester index s
  | .oosServiceRequest port node oos => Sys2Proof.Machine.execOosServiceRequest port node oos s
  | .segEnable port => Sys2Proof.Machine.execSegEnable port s
  | .segDisable port => Sys2Proof.Machine.execSegDisable port s
  | .surveyRequest port service => Sys2Proof.Machine.execSurveyRequest port service s
  | .surveyStart group => Sys2Proof.Machine.execSurveyStart group s
  | .surveyComplete port measured => Sys2Proof.Machine.execSurveyComplete port measured s
  | .portRestart port => Sys2Proof.Machine.execPortRestart port s
  | .portOosSet port => Sys2Proof.Machine.execPortOosSet port s
  | .portOosClear port => Sys2Proof.Machine.execPortOosClear port s
  | .nodeOosSet port node => Sys2Proof.Machine.execNodeOosSet port node s
  | .nodeOosClear port node => Sys2Proof.Machine.execNodeOosClear port node s
  | .t1lLinkUp port lvl10 sqi => Sys2Proof.Machine.execT1lLinkUp port lvl10 sqi s
  | .t1lLinkLost port => Sys2Proof.Machine.execT1lLinkLost port s
  | .beaconSend port => Sys2Proof.Machine.execBeaconSend port s
  | .nojoinTimeout port => Sys2Proof.Machine.execNojoinTimeout port s
  | .portFail port cause => Sys2Proof.Machine.execPortFail port cause s
  | .fpmEchoReceive port crcOk source udp node bseq => Sys2Proof.Machine.execFpmEchoReceive port crcOk source udp node bseq s
  | .fpmDataReceive port crcOk source udp node bseq items => Sys2Proof.Machine.execFpmDataReceive port crcOk source udp node bseq items s
  | .fpmAckReceive port crcOk source udp node bseq seq items => Sys2Proof.Machine.execFpmAckReceive port crcOk source udp node bseq seq items s
  | .commandSend port node => Sys2Proof.Machine.execCommandSend port node s
  | .commandAckTimeout port seq => Sys2Proof.Machine.execCommandAckTimeout port seq s
  | .s485Poll port => Sys2Proof.Machine.execS485Poll port s
  | .s485ResponseTimeout port corrupt => Sys2Proof.Machine.execS485ResponseTimeout port corrupt s
  | .feedClose port => Sys2Proof.Machine.execFeedClose port s
  | .feedLimitTrip port => Sys2Proof.Machine.execFeedLimitTrip port s
  | .feedFastTrip port current => Sys2Proof.Machine.execFeedFastTrip port current s
  | .feedOvertempTrip port => Sys2Proof.Machine.execFeedOvertempTrip port s
  | .feedBackoffExpiry port => Sys2Proof.Machine.execFeedBackoffExpiry port s
  | .feedConsecReset port => Sys2Proof.Machine.execFeedConsecReset port s
  | .feedClear port => Sys2Proof.Machine.execFeedClear port s
  | .feedLimitWrite port value => Sys2Proof.Machine.execFeedLimitWrite port value s
  | .feedShed currents => Sys2Proof.Machine.execFeedShed currents s
  | .feedShedReclose currents => Sys2Proof.Machine.execFeedShedReclose currents s
  | .podlDetection port signature railInRange => Sys2Proof.Machine.execPodlDetection port signature railInRange s
  | .podlRailOutOfRange port => Sys2Proof.Machine.execPodlRailOutOfRange port s
  | .pbusFrameReceive port frame sof mmuFault => Sys2Proof.Machine.execPbusFrameReceive port frame sof mmuFault s
  | .pbusProtocolException port => Sys2Proof.Machine.execPbusProtocolException port s
  | .pbusTxStart port => Sys2Proof.Machine.execPbusTxStart port s
  | .pbusTxComplete port => Sys2Proof.Machine.execPbusTxComplete port s
  | .pbusArbitrationLost port => Sys2Proof.Machine.execPbusArbitrationLost port s
  | .pbusTxError port dataPhase kind exception => Sys2Proof.Machine.execPbusTxError port dataPhase kind exception s
  | .pbusSlotCancel port mask => Sys2Proof.Machine.execPbusSlotCancel port mask s
  | .pbusShadowCancel port mask => Sys2Proof.Machine.execPbusShadowCancel port mask s
  | .pbusShadowArm port buffer source frame => Sys2Proof.Machine.execPbusShadowArm port buffer source frame s
  | .pbusFirmwareSubmit port context => Sys2Proof.Machine.execPbusFirmwareSubmit port context s
  | .rxqGetWrite port context get => Sys2Proof.Machine.execRxqGetWrite port context get s
  | .pbusBusOff port => Sys2Proof.Machine.execPbusBusOff port s
  | .pbusBusoffRecoveryStart port requester => Sys2Proof.Machine.execPbusBusoffRecoveryStart port requester s
  | .pbusBusoffRecoveryComplete port => Sys2Proof.Machine.execPbusBusoffRecoveryComplete port s
  | .pbusIntegrationComplete port => Sys2Proof.Machine.execPbusIntegrationComplete port s
  | .ttBasicCycleStart port => Sys2Proof.Machine.execTtBasicCycleStart port s
  | .ttVoidCycle port => Sys2Proof.Machine.execTtVoidCycle port s
  | .ttWindowMissed port column => Sys2Proof.Machine.execTtWindowMissed port column s
  | .ttForeignHoldEnd port => Sys2Proof.Machine.execTtForeignHoldEnd port s
  | .pbusConfirmTimeout port message => Sys2Proof.Machine.execPbusConfirmTimeout port message s
  | .loopSample => Sys2Proof.Machine.execLoopSample s
  | .loopEvaluationComplete slot => Sys2Proof.Machine.execLoopEvaluationComplete slot s
  | .loopOutputPresent slot => Sys2Proof.Machine.execLoopOutputPresent slot s
  | .loopOverrun slot => Sys2Proof.Machine.execLoopOverrun slot s
  | .loopCoefficientWrite requester index field value => Sys2Proof.Machine.execLoopCoefficientWrite requester index field value s
  | .loopModeWrite requester index mode => Sys2Proof.Machine.execLoopModeWrite requester index mode s
  | .loopClearOvrcnt requester index => Sys2Proof.Machine.execLoopClearOvrcnt requester index s
  | .loopReservedSelect requester index => Sys2Proof.Machine.execLoopReservedSelect requester index s
  | .ptpSyncReceive port offset delay => Sys2Proof.Machine.execPtpSyncReceive port offset delay s
  | .ptpSyncLoss => Sys2Proof.Machine.execPtpSyncLoss s
  | .wakeTimer => Sys2Proof.Machine.execWakeTimer s
  | .taskRelease task => Sys2Proof.Machine.execTaskRelease task s
  | .taskEventRelease task => Sys2Proof.Machine.execTaskEventRelease task s
  | .taskGatherComplete task => Sys2Proof.Machine.execTaskGatherComplete task s
  | .taskCycleComplete task outputs vars timers contextBad => Sys2Proof.Machine.execTaskCycleComplete task outputs vars timers contextBad s
  | .taskBatchAdmission task => Sys2Proof.Machine.execTaskBatchAdmission task s
  | .taskBudgetOverrun task => Sys2Proof.Machine.execTaskBudgetOverrun task s
  | .taskWatchdogExpiry task => Sys2Proof.Machine.execTaskWatchdogExpiry task s
  | .retainSave task => Sys2Proof.Machine.execRetainSave task s
  | .edgeLatchEdge latch rising => Sys2Proof.Machine.execEdgeLatchEdge latch rising s
  | .taskValueChange requester index item value => Sys2Proof.Machine.execTaskValueChange requester index item value s
  | .taskStart requester index => Sys2Proof.Machine.execTaskStart requester index s
  | .taskStop requester index => Sys2Proof.Machine.execTaskStop requester index s
  | .taskRestart requester index => Sys2Proof.Machine.execTaskRestart requester index s
  | .taskSwap requester index => Sys2Proof.Machine.execTaskSwap requester index s
  | .taskSwapApply task => Sys2Proof.Machine.execTaskSwapApply task s
  | .taskClearCounters requester index => Sys2Proof.Machine.execTaskClearCounters requester index s
  | .taskReservedSelect requester index command => Sys2Proof.Machine.execTaskReservedSelect requester index command s
  | .meterWindowEnd window saveFails => Sys2Proof.Machine.execMeterWindowEnd window saveFails s
  | .demandIntervalEnd => Sys2Proof.Machine.execDemandIntervalEnd s
  | .freqTrackerChange channel valid => Sys2Proof.Machine.execFreqTrackerChange channel valid s
  | .mtrTestArm => Sys2Proof.Machine.execMtrTestArm s
  | .testGateStart => Sys2Proof.Machine.execTestGateStart s
  | .mtrCalibrationStage requester index gain delay => Sys2Proof.Machine.execMtrCalibrationStage requester index gain delay s
  | .mtrCalibrationApply requester => Sys2Proof.Machine.execMtrCalibrationApply requester s
  | .meterPowerFailStop window => Sys2Proof.Machine.execMeterPowerFailStop window s
  | .parapetEvaluation => Sys2Proof.Machine.execParapetEvaluation s
  | .leaseWithdrawal => Sys2Proof.Machine.execLeaseWithdrawal s
  | .prptEntryLoad requester entry => Sys2Proof.Machine.execPrptEntryLoad requester entry s
  | .uplinkLinkChange port up speed => Sys2Proof.Machine.execUplinkLinkChange port up speed s
  | .uplinkPortLost port => Sys2Proof.Machine.execUplinkPortLost port s
  | .heartbeatSend => Sys2Proof.Machine.execHeartbeatSend s
  | .heartbeatReceive header pmode flags kslot krank kepoch => Sys2Proof.Machine.execHeartbeatReceive header pmode flags kslot krank kepoch s
  | .ringBlockSet => Sys2Proof.Machine.execRingBlockSet s
  | .peerLost slot member => Sys2Proof.Machine.execPeerLost slot member s
  | .viaHandshake port udp offer source member digest root chainOk => Sys2Proof.Machine.execViaHandshake port udp offer source member digest root chainOk s
  | .publishReceive header tick items => Sys2Proof.Machine.execPublishReceive header tick items s
  | .subscribeReceive header op points => Sys2Proof.Machine.execSubscribeReceive header op points s
  | .kclaimSend => Sys2Proof.Machine.execKclaimSend s
  | .keystoneTakeRole => Sys2Proof.Machine.execKeystoneTakeRole s
  | .kclaimReceive header kepoch rank => Sys2Proof.Machine.execKclaimReceive header kepoch rank s
  | .keystoneStepDownTimeout => Sys2Proof.Machine.execKeystoneStepDownTimeout s
  | .kactionReceive header kepoch action slot member digest => Sys2Proof.Machine.execKactionReceive header kepoch action slot member digest s
  | .kackReceive header kepoch result => Sys2Proof.Machine.execKackReceive header kepoch result s
  | .viaEnroll => Sys2Proof.Machine.execViaEnroll s
  | .viaUnenroll => Sys2Proof.Machine.execViaUnenroll s
  | .viaKeystoneStep => Sys2Proof.Machine.execViaKeystoneStep s
  | .leaseRenewalSend => Sys2Proof.Machine.execLeaseRenewalSend s
  | .lreqReceive header pepoch reqseq kind stbleft eligible => Sys2Proof.Machine.execLreqReceive header pepoch reqseq kind stbleft eligible s
  | .lgrantReceive header reqseq result pepoch => Sys2Proof.Machine.execLgrantReceive header reqseq result pepoch s
  | .abutmentInitialGrant slot => Sys2Proof.Machine.execAbutmentInitialGrant slot s
  | .standbyRenewalTimeout => Sys2Proof.Machine.execStandbyRenewalTimeout s
  | .lreqRetry => Sys2Proof.Machine.execLreqRetry s
  | .pairRelease => Sys2Proof.Machine.execPairRelease s
  | .checkpointCapture => Sys2Proof.Machine.execCheckpointCapture s
  | .checkpointReceive header pepoch ckseq tick part nparts full entries => Sys2Proof.Machine.execCheckpointReceive header pepoch ckseq tick part nparts full entries s
  | .checkpointHomeWriteComplete => Sys2Proof.Machine.execCheckpointHomeWriteComplete s
  | .ckackReceive header ckseq result => Sys2Proof.Machine.execCkackReceive header ckseq result s
  | .bscReadProperty invoke ref => Sys2Proof.Machine.execBscReadProperty invoke ref s
  | .bscReadPropertyMultiple invoke refs => Sys2Proof.Machine.execBscReadPropertyMultiple invoke refs s
  | .bscWriteProperty invoke ref value priority => Sys2Proof.Machine.execBscWriteProperty invoke ref value priority s
  | .bscHubConnect primary failover tlsFail => Sys2Proof.Machine.execBscHubConnect primary failover tlsFail s
  | .bscHubLost => Sys2Proof.Machine.execBscHubLost s
  | .powerOnStart vin backupOk => Sys2Proof.Machine.execPowerOnStart vin backupOk s
  | .fullStart vin xt25 irc failed saveBad retainBad => Sys2Proof.Machine.execFullStart vin xt25 irc failed saveBad retainBad s
  | .brownoutReset rail => Sys2Proof.Machine.execBrownoutReset rail s
  | .watchdogExpiry => Sys2Proof.Machine.execWatchdogExpiry s
  | .watchdogKick word => Sys2Proof.Machine.execWatchdogKick word s
  | .softwareResetRequest => Sys2Proof.Machine.execSoftwareResetRequest s
  | .softwareReset => Sys2Proof.Machine.execSoftwareReset s
  | .powerFailWarning vin => Sys2Proof.Machine.execPowerFailWarning vin s
  | .caissonSectionSeal second us => Sys2Proof.Machine.execCaissonSectionSeal second us s
  | .commitHoldupExhausted => Sys2Proof.Machine.execCommitHoldupExhausted s
  | .fRestart vin => Sys2Proof.Machine.execFRestart vin s
  | .powerLoss => Sys2Proof.Machine.execPowerLoss s
  | .overVoltage vin => Sys2Proof.Machine.execOverVoltage vin s
  | .overVoltageEnd vin => Sys2Proof.Machine.execOverVoltageEnd vin s
  | .holdupCharged vhu => Sys2Proof.Machine.execHoldupCharged vhu s
  | .holdupChargingTimeout => Sys2Proof.Machine.execHoldupChargingTimeout s
  | .holdupCheckRequest => Sys2Proof.Machine.execHoldupCheckRequest s
  | .holdupCheckInterval => Sys2Proof.Machine.execHoldupCheckInterval s
  | .holdupCheckComplete va vb vc vd => Sys2Proof.Machine.execHoldupCheckComplete va vb vc vd s
  | .startConditionsMet => Sys2Proof.Machine.execStartConditionsMet s
  | .modeStandbyWrite value => Sys2Proof.Machine.execModeStandbyWrite value s
  | .modeHoldWrite value => Sys2Proof.Machine.execModeHoldWrite value s
  | .modeFatalWrite => Sys2Proof.Machine.execModeFatalWrite s
  | .serviceRequest => Sys2Proof.Machine.execServiceRequest s
  | .serviceExit => Sys2Proof.Machine.execServiceExit s
  | .svcEnRelease => Sys2Proof.Machine.execSvcEnRelease s
  | .svcConnect tcp offer root cert valid peer => Sys2Proof.Machine.execSvcConnect tcp offer root cert valid peer s
  | .provisioningOpen => Sys2Proof.Machine.execProvisioningOpen s
  | .provisioningComplete => Sys2Proof.Machine.execProvisioningComplete s
  | .provisioningEndIncomplete => Sys2Proof.Machine.execProvisioningEndIncomplete s
  | .dozeEntry => Sys2Proof.Machine.execDozeEntry s
  | .dozeWake => Sys2Proof.Machine.execDozeWake s
  | .clockMonitorWindow ao count => Sys2Proof.Machine.execClockMonitorWindow ao count s
  | .xt25DetectorTrip => Sys2Proof.Machine.execXt25DetectorTrip s
  | .xt32DetectorTrip => Sys2Proof.Machine.execXt32DetectorTrip s
  | .ircReady us => Sys2Proof.Machine.execIrcReady us s
  | .ircDeadline => Sys2Proof.Machine.execIrcDeadline s
  | .pllRelockTimeout => Sys2Proof.Machine.execPllRelockTimeout s
  | .clkfail2Retry success => Sys2Proof.Machine.execClkfail2Retry success s
  | .clockRestoreWrite => Sys2Proof.Machine.execClockRestoreWrite s
  | .jointRearm joint port => Sys2Proof.Machine.execJointRearm joint port s
  | .jointStuck joint port => Sys2Proof.Machine.execJointStuck joint port s
  | .clkoConfigWrite requester source div => Sys2Proof.Machine.execClkoConfigWrite requester source div s
  | .coreFault core asid cls access level va committed inHandler => Sys2Proof.Machine.execCoreFault core asid cls access level va committed inHandler s
  | .coreHalt core => Sys2Proof.Machine.execCoreHalt core s
  | .eccUncorrectable pa reader => Sys2Proof.Machine.execEccUncorrectable pa reader s
  | .scrubPatrol corrected poisoned => Sys2Proof.Machine.execScrubPatrol corrected poisoned s
  | .mmuInvalidate asid all va => Sys2Proof.Machine.execMmuInvalidate asid all va s
  | .mmuInvalidateComplete => Sys2Proof.Machine.execMmuInvalidateComplete s
  | .dmaGo requester channel => Sys2Proof.Machine.execDmaGo requester channel s
  | .dmaElementComplete channel => Sys2Proof.Machine.execDmaElementComplete channel s
  | .dmaFault channel cls access level offset va fetch => Sys2Proof.Machine.execDmaFault channel cls access level offset va fetch s
  | .dmaResume requester channel => Sys2Proof.Machine.execDmaResume requester channel s
  | .dmaAbort requester channel => Sys2Proof.Machine.execDmaAbort requester channel s
  | .mailboxWrite master mailbox value => Sys2Proof.Machine.execMailboxWrite master mailbox value s
  | .mailboxRead master mailbox => Sys2Proof.Machine.execMailboxRead master mailbox s
  | .mailboxTimeout mailbox => Sys2Proof.Machine.execMailboxTimeout mailbox s
  | .lockAcquire master lock => Sys2Proof.Machine.execLockAcquire master lock s
  | .lockRelease master lock => Sys2Proof.Machine.execLockRelease master lock s
  | .rootRetry success => Sys2Proof.Machine.execRootRetry success s
  | .encDerive requester slot typ measpol usage gen uselim label => Sys2Proof.Machine.execEncDerive requester slot typ measpol usage gen uselim label s
  | .encDestroy requester slot => Sys2Proof.Machine.execEncDestroy requester slot s
  | .encEncrypt requester slot aad input => Sys2Proof.Machine.execEncEncrypt requester slot aad input s
  | .encDecrypt requester slot aad input => Sys2Proof.Machine.execEncDecrypt requester slot aad input s
  | .encMac requester slot input => Sys2Proof.Machine.execEncMac requester slot input s
  | .encSign requester slot input => Sys2Proof.Machine.execEncSign requester slot input s
  | .encPubkey requester slot => Sys2Proof.Machine.execEncPubkey requester slot s
  | .encAgree requester slot dst peer => Sys2Proof.Machine.execEncAgree requester slot dst peer s
  | .encRandom requester length => Sys2Proof.Machine.execEncRandom requester length s
  | .encAttest requester nonce => Sys2Proof.Machine.execEncAttest requester nonce s
  | .encOperationComplete => Sys2Proof.Machine.execEncOperationComplete s
  | .entropyHealthFail => Sys2Proof.Machine.execEntropyHealthFail s
  | .entropyRestart passed => Sys2Proof.Machine.execEntropyRestart passed s
  | .tamperTrip sensors => Sys2Proof.Machine.execTamperTrip sensors s
  | .zeroizeCommand requester => Sys2Proof.Machine.execZeroizeCommand requester s
  | .tamperArmWrite requester bits lossact => Sys2Proof.Machine.execTamperArmWrite requester bits lossact s
  | .updateVerify requester => Sys2Proof.Machine.execUpdateVerify requester s
  | .verifyComplete signatureOk => Sys2Proof.Machine.execVerifyComplete signatureOk s
  | .updateActivate requester readOk => Sys2Proof.Machine.execUpdateActivate requester readOk s
  | .updateConfirm requester => Sys2Proof.Machine.execUpdateConfirm requester s
  | .updateRevert requester readOk => Sys2Proof.Machine.execUpdateRevert requester readOk s
  | .updateAbort requester => Sys2Proof.Machine.execUpdateAbort requester s
  | .trialTimeout => Sys2Proof.Machine.execTrialTimeout s
  | .trialReadyTimeout => Sys2Proof.Machine.execTrialReadyTimeout s
  | .rtcTimeCommit requester => Sys2Proof.Machine.execRtcTimeCommit requester s
  | .rtcDstForward => Sys2Proof.Machine.execRtcDstForward s
  | .rtcDstBack => Sys2Proof.Machine.execRtcDstBack s
  | .dstBoundaryApply => Sys2Proof.Machine.execDstBoundaryApply s
  | .rtcPtpCompare => Sys2Proof.Machine.execRtcPtpCompare s
  | .rtcRangeExpiry => Sys2Proof.Machine.execRtcRangeExpiry s
  | .trimWindowEnd cycles => Sys2Proof.Machine.execTrimWindowEnd cycles s
  | .trimRestart => Sys2Proof.Machine.execTrimRestart s
  | .backupDomainReset => Sys2Proof.Machine.execBackupDomainReset s
  | .backupByteWrite index value => Sys2Proof.Machine.execBackupByteWrite index value s
  | .rtcSnapshotRead requester => Sys2Proof.Machine.execRtcSnapshotRead requester s
  | .logRecordSubmit typ sev items => Sys2Proof.Machine.execLogRecordSubmit typ sev items s
  | .logFirmwareSubmit context => Sys2Proof.Machine.execLogFirmwareSubmit context s
  | .logFlush => Sys2Proof.Machine.execLogFlush s
  | .logReaderLoad requester => Sys2Proof.Machine.execLogReaderLoad requester s
  | .logTimemark => Sys2Proof.Machine.execLogTimemark s
  | .optimeSave => Sys2Proof.Machine.execOptimeSave s
  | .uioInputUpdate channel reading => Sys2Proof.Machine.execUioInputUpdate channel reading s
  | .uioContactChange channel level => Sys2Proof.Machine.execUioContactChange channel level s
  | .uioOutputFault channel => Sys2Proof.Machine.execUioOutputFault channel s
  | .uioOutputFaultClear channel => Sys2Proof.Machine.execUioOutputFaultClear channel s
  | .binaryOutputShort output => Sys2Proof.Machine.execBinaryOutputShort output s
  | .binaryOutputReclose output shorted => Sys2Proof.Machine.execBinaryOutputReclose output shorted s
  | .binaryOutputOpenLoad output voltage => Sys2Proof.Machine.execBinaryOutputOpenLoad output voltage s
  | .osdpPoll port => Sys2Proof.Machine.execOsdpPoll port s
  | .osdpReplyReceive port code form cryptogramOk => Sys2Proof.Machine.execOsdpReplyReceive port code form cryptogramOk s
  | .secureChannelRetry reader => Sys2Proof.Machine.execSecureChannelRetry reader s
  | .osdpReplyTimeout port corrupt => Sys2Proof.Machine.execOsdpReplyTimeout port corrupt s
  | .cardRead port form bits card => Sys2Proof.Machine.execCardRead port form bits card s
  | .osdpKeypadReceive port form keys => Sys2Proof.Machine.execOsdpKeypadReceive port form keys s
  | .pinTimeout door => Sys2Proof.Machine.execPinTimeout door s
  | .doorReleaseExpiry door => Sys2Proof.Machine.execDoorReleaseExpiry door s
  | .accCredentialCommit requester index entry => Sys2Proof.Machine.execAccCredentialCommit requester index entry s
  | .liftHostCall requester fromFloor toFloor accessible => Sys2Proof.Machine.execLiftHostCall requester fromFloor toFloor accessible s
  | .drespReceive callid result car eta => Sys2Proof.Machine.execDrespReceive callid result car eta s
  | .liftCallTimeout callid => Sys2Proof.Machine.execLiftCallTimeout callid s
  | .carposReceive cars => Sys2Proof.Machine.execCarposReceive cars s
  | .lstatReceive modes => Sys2Proof.Machine.execLstatReceive modes s
  | .lstatSend => Sys2Proof.Machine.execLstatSend s
  | .liftLinkTimeout => Sys2Proof.Machine.execLiftLinkTimeout s
  | .pbusReceiveError port dataPhase kind by8 => Sys2Proof.Machine.execPbusReceiveError port dataPhase kind by8 s
  | .feedCurrentLimit port current => Sys2Proof.Machine.execFeedCurrentLimit port current s
  | .feedStartWindowEnd port => Sys2Proof.Machine.execFeedStartWindowEnd port s
  | .vbatLow millivolts => Sys2Proof.Machine.execVbatLow millivolts s
  | .pllUnlock pll => Sys2Proof.Machine.execPllUnlock pll s
  | .svcDisconnect => Sys2Proof.Machine.execSvcDisconnect s
  | .papSessionClose slot => Sys2Proof.Machine.execPapSessionClose slot s
  | .svcEnAssert => Sys2Proof.Machine.execSvcEnAssert s
  | .svcLinkChange up => Sys2Proof.Machine.execSvcLinkChange up s
  | .ptpAnnounceReceive port vid announce => Sys2Proof.Machine.execPtpAnnounceReceive port vid announce s
  | .ptpAnnounceTimeout port => Sys2Proof.Machine.execPtpAnnounceTimeout port s
  | .icmpv6MessageReceive port vid message => Sys2Proof.Machine.execIcmpv6MessageReceive port vid message s

end Sys2Proof.Machine
end

