-- ==== Sys2Proof/Safety.lean ====
section
/-! DEFINITION. What a safe state and a safe run are, and the conditions on a state in whose terms the claims are stated. -/

namespace Sys2Proof.Machine

/-- No takeover is left open that R420 calls complete: the new active in DRIVE and every sound port ACTIVE. -/
def takeoverClosed (s : State) : Bool :=
  s.pair.takeoverFrom.isNone || !(decide (s.prpt.out = .drive) && !(List.range 32).any (portPending s))

/-- A safe state: DRAM in canonical form, and no complete takeover left open. -/
def safe (s : State) : Bool := Memory.wf s.mem && takeoverClosed s

/-- A step is safe if it ends in a next state, and from a safe state in a safe one. -/
def safeStep (s : State) : Prop := ∃ t, step s = .next t ∧ (safe s = true → safe t = true)

/-- The page's block is in no domain reset (R40). -/
def undisturbed (s : State) (p : Nat) : Prop := s.get (Reg.HDR_STAT_DRBUSY.onPage p) = 0

/-- A requester copy of the host has the lane of page `p` (R52, R364). -/
def hostReaches (s : State) (r : Fin 16) (p : Nat) : Prop :=
  viaBridge (.req r) = true → mayWriteLane (requesterLanes s r.val) (pageLane s p) = true

/-- A request of a connection is served at once: the connection is up and its module awake, nothing waits before it, its TAG is
new, its session has a token, and its form is right (R63, R70, R72, R75, R76). -/
def papReady (s : State) (conn : Option (Fin 8)) (op : Nat) (q : PapRequest) : Prop :=
  papUp s (connCopy conn) = true ∧ s.bit Reg.MODE_PWRST_DOZE = false ∧
    (tabGet {} s.sessions (connCopy conn) : Session).waits = [] ∧ keptResponse s (connCopy conn) q.tag.toNat = none ∧
    (conn.isSome = true → 1000000 ≤ tokensOf s (connCopy conn)) ∧ formStatus (connCopy conn) op q = 0

/-- The response that follows what had left the module before: to connection `conn`, with this status and this data. -/
def papResponded (s t : State) (conn : Option (Fin 8)) (op : Nat) (q : PapRequest) (status : Nat) (data : List Nat) : Prop :=
  ∃ r : PapResponse, t.out = s.out ++ [.papResponse (connCopy conn) r] ∧ r.op = op ||| 0x80 ∧ r.tag = q.tag.toNat ∧
    r.arg = q.arg.toNat ∧ r.status = status ∧ r.data = data

/-- The BLOCK being written is still awaited by the service connection (R564). -/
def blockAwaited (s : State) (w : BlockWrite) : Bool :=
  sessionOpen s 9 && (tabGet {} s.sessions 9 : Session).waits.any (fun x => x.tag = w.tag && x.page = 0x021)

/-- The response to the BLOCK being written, with this status. -/
def blockResponded (s t : State) (w : BlockWrite) (status : Nat) : Prop :=
  ∃ r : PapResponse, t.out = s.out ++ [.papResponse 9 r] ∧ r.op = 0x90 ∧ r.tag = w.tag ∧ r.arg = w.arg ∧ r.status = status ∧ r.data = []

/-- The ingress queue of a class takes an update (R97, R99). -/
def queueOpen (s : State) (c : Nat) : Prop := (queueOf s c).length < 4096 ∧ tabGet [] s.pt.held c = []

/-- The peer that a datagram comes from: its slot and its place in the pair (R396). -/
def viaKey (h : ViaHeader) : Nat := peerKey h.src.toNat (if h.memb then 1 else 0)

/-- A datagram of this type and length is taken: it comes by an uplink that is up, in its VLAN and within the MTU, the viaduct runs, the
peer has a session, and its header is right (R390, R396, R397). -/
def viaArrives (s : State) (h : ViaHeader) (typ len : Nat) : Prop :=
  uplinkUp s h.port.val = true ∧ vidOk s h.port.val h.vid.toNat = true ∧ fitsMtu len = true ∧ viaRuns s = true ∧
    (s.peer (viaKey h)).session = true ∧ h.typ.toNat = typ ∧ h.len.toNat = len ∧ h.viaid.toNat = s.get Reg.VIA_IDENT_VIAID

/-! ### What a command leaves as it is -/

/-- The parts of State beside the register fields, the queue, the time that has passed and the counter of free values. -/
inductive Part where
  | out | keys | sessions | log | rtc | time | sheets | lane | pt | prpt | seg | pbus | mem | cle | cte | mtr | via | uplinks
  | pair | abut | pwr | clk | fab | enc | upd | uio | acc | lift
deriving DecidableEq, Repr

/-- The part is the same in both states. Of the pair, an open takeover may have been completed (R420). -/
def Part.same (s t : State) : Part → Prop
  | .out => t.out = s.out
  | .keys => t.keys = s.keys
  | .sessions => t.sessions = s.sessions
  | .log => t.log = s.log
  | .rtc => t.rtc = s.rtc
  | .time => t.time = s.time
  | .sheets => t.sheets = s.sheets
  | .lane => t.lane = s.lane
  | .pt => t.pt = s.pt
  | .prpt => t.prpt = s.prpt
  | .seg => t.seg = s.seg
  | .pbus => t.pbus = s.pbus
  | .mem => t.mem = s.mem
  | .cle => t.cle = s.cle
  | .cte => t.cte = s.cte
  | .mtr => t.mtr = s.mtr
  | .via => t.via = s.via
  | .uplinks => t.uplinks = s.uplinks
  | .pair => { t.pair with takeoverFrom := none } = { s.pair with takeoverFrom := none }
  | .abut => t.abut = s.abut
  | .pwr => t.pwr = s.pwr
  | .clk => t.clk = s.clk
  | .fab => t.fab = s.fab
  | .enc => t.enc = s.enc
  | .upd => t.upd = s.upd
  | .uio => t.uio = s.uio
  | .acc => t.acc = s.acc
  | .lift => t.lift = s.lift

/-- What a command may change: parts of State, the register fields of whole pages (first, last), and single register fields. -/
structure Frame where
  parts : List Part
  pages : List (Nat × Nat)
  fields : List RegField
deriving DecidableEq, Repr

/-- A register field that the frame leaves as it is: on none of its pages, none of its fields, not in the word of `SEQ` (R41), and
not `LASTTKO`, which the completion of a takeover sets (R420). -/
def Frame.leaves (fr : Frame) (f : RegField) : Prop :=
  f.wordOf ≠ 7 ∧ f.key ≠ Reg.PAIR_LASTTKO_MS.key ∧ (∀ g ∈ fr.pages, f.pageOf < g.1 ∨ g.2 < f.pageOf) ∧
    ∀ g ∈ fr.fields, f.key ≠ g.key

/-- From `s` to `t` nothing changed but what the frame names. -/
def Frame.holds (fr : Frame) (s t : State) : Prop :=
  (∀ q : Part, q ∉ fr.parts → q.same s t) ∧ ∀ f : RegField, fr.leaves f → t.get f = s.get f

/-- R442: a register field that its page keeps through a reset of the kind of this bit (P 1, B 2, W 4, S 8) is as before, unless it
stands in one of these words (page, word) or on the page UPD. -/
def keptFields (bit : Nat) (words : List (Nat × Nat)) (s t : State) : Prop :=
  ∀ f : RegField, keptAt bit f.key = true → f.wordOf ≠ 7 → f.pageOf ≠ 0x021 → (f.pageOf, f.wordOf) ∉ words → t.get f = s.get f

/-- The frame of a command that may also end DOZE (R30). -/
def Frame.wakes (fr : Frame) : Frame :=
  { fr with parts := .pwr :: .clk :: fr.parts, fields := Reg.MODE_PWRST_DOZE :: fr.fields }

/-- The sums of the feed currents that every SEG page shows (R182). -/
def sumFields : List RegField :=
  (List.range 32).map Reg.SEG_GCUR_MA.inst ++ (List.range 32).map Reg.SEG_MCUR_MA.inst

/-- The SEG, PBUS and LINK pages of a port (R51). -/
def portPages (p : Fin 32) : List (Nat × Nat) :=
  [(0x100 + p.val, 0x100 + p.val), (0x120 + p.val, 0x120 + p.val), (0x140 + p.val, 0x140 + p.val)]

/-- What a command of the enclave changes on its page when it is submitted (R545). -/
def encFields (r : Fin 16) : List RegField :=
  [Reg.ENC_EARG0.by r.val, Reg.ENC_EARG1.by r.val, Reg.ENC_ELEN_BYTES.by r.val, Reg.ENC_EOP_DST.by r.val, Reg.ENC_EOP_OP.by r.val,
   Reg.ENC_EOP_SLOT.by r.val, Reg.ENC_ERES_BUSY.by r.val, Reg.ENC_ERES_DONE.by r.val, Reg.ENC_QDEPTH_COUNT]

/-- What the commands of the segment ports, feed switches, PBUS ports, local channels, readers, doors and lift may change. -/
def fieldFrame : Instr → Option Frame
  | .segEnable port | .surveyComplete port _ | .portOosClear port | .t1lLinkUp port _ _ | .beaconSend port
  | .fpmEchoReceive port _ _ _ _ _ | .fpmAckReceive port _ _ _ _ _ _ _ | .pbusTxComplete port | .pbusArbitrationLost port
  | .pbusTxError port _ _ _ | .pbusBusoffRecoveryComplete port | .pbusIntegrationComplete port
  | .osdpReplyReceive port _ _ _ =>
    some (Frame.wakes
      { parts := [.out, .pt, .seg, .pbus, .acc],
        pages := [(0x040, 0x040), (0x078, 0x078)] ++ portPages port,
        fields := [] })
  | .segDisable _ | .surveyRequest _ _ | .surveyStart _ | .portRestart _ | .portFail _ _ | .feedClear _ =>
    some { parts := [.out, .keys, .sessions, .log, .lane, .pt, .prpt, .seg, .pbus, .mem, .cle, .cte, .mtr, .via, .pair, .pwr,
             .clk, .fab, .acc], pages := [(0x000, 0xFFF)], fields := [] }
  | .portOosSet port =>
    some (Frame.wakes
      { parts := [.out, .pt, .seg, .pbus],
        pages := portPages port,
        fields := [] })
  | .nodeOosSet port _ =>
    some (Frame.wakes
      { parts := [.pt, .seg, .pbus],
        pages := portPages port,
        fields := [] })
  | .nodeOosClear port _ =>
    some { parts := [.seg], pages := [], fields := [Reg.SEG_NOOSLO_BITS.inst port.val, Reg.SEG_NOOSHI_BITS.inst port.val] }
  | .t1lLinkLost port | .ttWindowMissed port _ =>
    some { parts := [], pages := portPages port, fields := [] }
  | .nojoinTimeout port =>
    some { parts := [], pages := [], fields := [Reg.SEG_FAULT_NOJOIN.inst port.val] }
  | .fpmDataReceive port _ _ _ _ _ _ =>
    some (Frame.wakes
      { parts := [.out, .log, .lane, .pt, .seg, .pbus, .acc],
        pages := [(0x007, 0x007), (0x040, 0x040), (0x048, 0x048), (0x078, 0x078)] ++ portPages port,
        fields := [] })
  | .commandSend port _ | .s485Poll port =>
    some (Frame.wakes
      { parts := [.out, .log, .lane, .pt, .seg],
        pages := [(0x007, 0x007), (0x048, 0x048), (0x049, 0x049)] ++ portPages port,
        fields := [] })
  | .commandAckTimeout port _ =>
    some (Frame.wakes
      { parts := [.out, .pt, .seg],
        pages := [],
        fields := [Reg.LINK_FAULT_UNDELIV.inst port.val, Reg.LINK_RETRY_COUNT.inst port.val, Reg.LINK_TXFRM_COUNT.inst
          port.val, Reg.LINK_UNDELIV_COUNT.inst port.val, Reg.PRPT_FAULT_FITHOLD, Reg.PRPT_FITHELD_COUNT] })
  | .s485ResponseTimeout port _ =>
    some (Frame.wakes
      { parts := [.out, .pt, .seg],
        pages := [],
        fields := [Reg.LINK_CRCERR_COUNT.inst port.val, Reg.LINK_FAULT_UNDELIV.inst port.val, Reg.LINK_RETRY_COUNT.inst
          port.val, Reg.LINK_TIMEOUT_COUNT.inst port.val, Reg.LINK_TXFRM_COUNT.inst port.val, Reg.LINK_UNDELIV_COUNT.inst
          port.val, Reg.PRPT_FAULT_FITHOLD, Reg.PRPT_FITHELD_COUNT] })
  | .feedClose port | .feedStartWindowEnd port =>
    some { parts := [.seg], pages := [], fields := [Reg.SEG_STAT_FSTATE.inst port.val] }
  | .feedLimitTrip port | .feedFastTrip port _ =>
    some { parts := [.seg], pages := [], fields := sumFields ++ [Reg.SEG_FAULT_FLATCH.inst port.val, Reg.SEG_FAULT_FTRIP.inst port.val,
             Reg.SEG_FMEAS_FCUR.inst port.val, Reg.SEG_FTRIPST_CONSEC.inst port.val, Reg.SEG_FTRIPS_COUNT.inst port.val,
             Reg.SEG_STAT_FSTATE.inst port.val] }
  | .feedOvertempTrip port =>
    some { parts := [.seg], pages := [], fields := sumFields ++ [Reg.SEG_FAULT_FLATCH.inst port.val, Reg.SEG_FAULT_FTRIP.inst port.val,
             Reg.SEG_FMEAS_FCUR.inst port.val, Reg.SEG_FTRIPST_CONSEC.inst port.val, Reg.SEG_FTRIPS_COUNT.inst port.val,
             Reg.SEG_STAT_FSTATE.inst port.val, Reg.SEG_FAULT_FTHERM.inst port.val] }
  | .feedBackoffExpiry port =>
    some { parts := [.seg], pages := [], fields := [Reg.SEG_STAT_FSTATE.inst port.val] }
  | .feedCurrentLimit port _ =>
    some { parts := [.seg], pages := [], fields := sumFields ++ [Reg.SEG_FMEAS_FCUR.inst port.val,
             Reg.SEG_FMEAS_FVOUT.inst port.val, Reg.SEG_STAT_FSTATE.inst port.val] }
  | .feedConsecReset port =>
    some { parts := [], pages := [], fields := [Reg.SEG_FTRIPST_CONSEC.inst port.val] }
  | .feedLimitWrite port _ =>
    some { parts := [.log, .prpt], pages := [(0x007, 0x007), (0x049, 0x049)] ++ portPages port, fields := [] }
  | .feedShed _ | .feedShedReclose _ =>
    some { parts := [.seg], pages := [(0x100, 0x11F)], fields := [] }
  | .podlDetection port _ _ =>
    some { parts := [.seg], pages := [], fields := [Reg.SEG_FAULT_CLASSDENY.inst port.val, Reg.SEG_PDL_CLASS.inst port.val,
             Reg.SEG_PDL_CVALID.inst port.val, Reg.SEG_STAT_FSTATE.inst port.val] }
  | .podlRailOutOfRange port =>
    some { parts := [], pages := [], fields := [Reg.SEG_FAULT_PDLRANGE.inst port.val] }
  | .pbusFrameReceive port _ _ _ =>
    some (Frame.wakes
      { parts := [.out, .log, .lane, .pt, .seg, .pbus, .mem, .acc],
        pages := [(0x007, 0x007), (0x040, 0x040), (0x048, 0x048), (0x078, 0x078)] ++ portPages port,
        fields := [] })
  | .pbusProtocolException port =>
    some { parts := [.pbus], pages := [], fields := [Reg.PBUS_FAULT_PEX.inst port.val, Reg.PBUS_PEXCNT_COUNT.inst port.val,
             Reg.PBUS_STAT_INTEG.inst port.val, Reg.PBUS_STAT_TTSYNC.inst port.val] }
  | .pbusTxStart port =>
    some { parts := [.out, .log, .prpt, .pbus], pages := [(0x007, 0x007), (0x049, 0x049)] ++ portPages port, fields := [] }
  | .pbusSlotCancel port _ =>
    some (Frame.wakes
      { parts := [.pt, .pbus],
        pages := portPages port,
        fields := [] })
  | .pbusFirmwareSubmit port _ =>
    some { parts := [.out, .log, .lane, .pbus], pages := [(0x007, 0x007), (0x048, 0x048)] ++ portPages port, fields := [] }
  | .pbusShadowCancel port _ =>
    some (Frame.wakes
      { parts := [.pt, .pbus],
        pages := portPages port,
        fields := [] })
  | .ttVoidCycle port =>
    some { parts := [.pbus], pages := portPages port, fields := [] }
  | .pbusShadowArm port _ _ _ =>
    some { parts := [.log, .lane, .pbus], pages := [(0x007, 0x007), (0x048, 0x048)] ++ portPages port, fields := [] }
  | .rxqGetWrite port _ _ =>
    some { parts := [.out], pages := [], fields := [Reg.PBUS_RXQGET_GET.inst port.val, Reg.PBUS_STAT_RXQFULL.inst port.val] }
  | .pbusBusOff port =>
    some (Frame.wakes
      { parts := [.log, .pt, .pbus],
        pages := [(0x007, 0x007)] ++ portPages port,
        fields := [] })
  | .pbusBusoffRecoveryStart port _ =>
    some { parts := [.out], pages := [], fields := [Reg.PBUS_STAT_BOREC.inst port.val] }
  | .ttBasicCycleStart _ =>
    some { parts := [.out, .pbus], pages := [], fields := [] }
  | .ttForeignHoldEnd port =>
    some { parts := [.pbus], pages := [], fields := [Reg.PBUS_STAT_FREF.inst port.val,
             Reg.PBUS_STAT_TTSYNC.inst port.val] }
  | .pbusConfirmTimeout port _ =>
    some (Frame.wakes
      { parts := [.pt, .pbus],
        pages := [],
        fields := [Reg.LINK_FAULT_UNDELIV.inst port.val, Reg.LINK_UNDELIV_COUNT.inst port.val] })
  | .pbusReceiveError port _ _ _ =>
    some { parts := [.out], pages := [], fields := [Reg.PBUS_ERRC_REC.inst port.val, Reg.PBUS_ERRC_RP.inst port.val,
             Reg.PBUS_ERRC_TEC.inst port.val, Reg.PBUS_FAULT_EPASS.inst port.val, Reg.PBUS_FAULT_EWARN.inst port.val,
             Reg.PBUS_LEC_DLEC.inst port.val, Reg.PBUS_LEC_NLEC.inst port.val, Reg.PBUS_STAT_ECS.inst port.val,
             Reg.PBUS_STAT_EWARN.inst port.val] }
  | .osdpPoll _ =>
    some { parts := [.out, .seg, .acc], pages := [], fields := [] }
  | .secureChannelRetry _ =>
    some { parts := [.acc], pages := [], fields := [] }
  | .osdpReplyTimeout _ _ =>
    some { parts := [.out, .acc], pages := [], fields := [] }
  | .cardRead port _ _ _ | .osdpKeypadReceive port _ _ =>
    some (Frame.wakes
      { parts := [.out, .log, .time, .lane, .pt, .prpt, .seg, .pbus, .acc, .lift],
        pages := [(0x007, 0x007), (0x040, 0x040), (0x041, 0x041), (0x042, 0x042), (0x043, 0x043), (0x048, 0x048), (0x049,
          0x049), (0x051, 0x051), (0x059, 0x059), (0x061, 0x061), (0x078, 0x078), (0x079, 0x079)] ++ portPages port,
        fields := [] })
  | .pinTimeout _ =>
    some (Frame.wakes
      { parts := [.out, .time, .pt, .acc],
        pages := [(0x040, 0x040), (0x078, 0x078)],
        fields := [] })
  | .doorReleaseExpiry _ =>
    some (Frame.wakes
      { parts := [.pt, .acc],
        pages := [(0x040, 0x040)],
        fields := [] })
  | .accCredentialCommit _ _ _ =>
    some { parts := [.log, .lane, .acc], pages := [(0x007, 0x007), (0x048, 0x048), (0x078, 0x078)], fields := [] }
  | .liftHostCall _ _ _ _ =>
    some { parts := [.out, .log, .lane, .pt, .prpt, .acc, .lift], pages := [(0x007, 0x007), (0x040, 0x040), (0x041, 0x041),
             (0x042, 0x042), (0x043, 0x043), (0x048, 0x048), (0x049, 0x049), (0x051, 0x051), (0x059, 0x059), (0x061, 0x061),
             (0x078, 0x078), (0x079, 0x079)], fields := [] }
  | .drespReceive _ _ _ _ | .carposReceive _ | .lstatReceive _ =>
    some (Frame.wakes
      { parts := [.pt, .lift],
        pages := [(0x040, 0x040), (0x079, 0x079)],
        fields := [] })
  | .liftCallTimeout _ =>
    some { parts := [.lift], pages := [(0x079, 0x079)], fields := [] }
  | .lstatSend =>
    some { parts := [.out, .lift], pages := [], fields := [] }
  | .liftLinkTimeout =>
    some (Frame.wakes
      { parts := [.pt],
        pages := [(0x040, 0x040), (0x079, 0x079)],
        fields := [] })
  | .uioInputUpdate _ _ =>
    some { parts := [.pt, .uio], pages := [(0x040, 0x040), (0x070, 0x070)], fields := [] }
  | .uioContactChange _ _ =>
    some (Frame.wakes
      { parts := [.pt, .cte],
        pages := [(0x040, 0x040), (0x058, 0x058), (0x070, 0x070)],
        fields := [] })
  | .uioOutputFault channel =>
    some (Frame.wakes
      { parts := [.pt],
        pages := [],
        fields := [Reg.UIO_USTAT_OUTFLT.ix channel.val, Reg.UIO_FAULT_OUTFAULT, Reg.UIO_STAT_IFAULT, Reg.UIO_STAT_OFAULT] })
  | .uioOutputFaultClear channel =>
    some (Frame.wakes
      { parts := [.pt],
        pages := [],
        fields := [Reg.UIO_USTAT_OUTFLT.ix channel.val, Reg.UIO_STAT_IFAULT, Reg.UIO_STAT_OFAULT] })
  | .binaryOutputShort _ | .binaryOutputReclose _ _ =>
    some (Frame.wakes
      { parts := [.pt, .uio],
        pages := [],
        fields := [Reg.UIO_BOSTAT_SHORT, Reg.UIO_BOTRIP_COUNT, Reg.UIO_FAULT_BOSHORT, Reg.UIO_STAT_IFAULT,
          Reg.UIO_STAT_OFAULT] })
  | .binaryOutputOpenLoad _ _ =>
    some { parts := [], pages := [], fields := [Reg.UIO_BOSTAT_OPEN, Reg.UIO_FAULT_BOOPEN] }
  | _ => none

/-- What the commands of the point engine, the loops, the tasks, the meter and the parapet may change. -/
def engineFrame : Instr → Option Frame
  | .pointUpdateSubmit update =>
    some (Frame.wakes
      { parts := [.pt],
        pages := [],
        fields := [Reg.PNT_QIN_DEPTH.ix (srcClass update.src)] })
  | .deckTickCommit =>
    some (Frame.wakes
      { parts := [.out, .log, .lane, .pt, .prpt, .seg, .pbus, .mem, .cle, .cte, .mtr, .via, .fab, .acc],
        pages := [(0x007, 0x007), (0x010, 0x013), (0x014, 0x016), (0x040, 0x040), (0x041, 0x041), (0x042, 0x042), (0x043,
          0x043), (0x048, 0x048), (0x050, 0x050), (0x051, 0x051), (0x058, 0x058), (0x059, 0x059), (0x060, 0x060), (0x061,
          0x061), (0x078, 0x078), (0x100, 0x11F), (0x120, 0x13F), (0x140, 0x15F), (0x180, 0x180), (0x182, 0x182), (0x184,
          0x184)],
        fields := [] })
  | .publicationTimer _ =>
    some (Frame.wakes
      { parts := [.out, .pt, .cte, .via],
        pages := [(0x058, 0x058), (0x180, 0x180), (0x182, 0x182)],
        fields := [] })
  | .staleTimeout _ =>
    some (Frame.wakes
      { parts := [.out, .pt, .cte, .via],
        pages := [(0x040, 0x040), (0x058, 0x058), (0x180, 0x180), (0x182, 0x182)],
        fields := [] })
  | .persistenceWrite _ =>
    some { parts := [.pt], pages := [], fields := [Reg.PNT_DIRTY_COUNT, Reg.PNT_PERSW_COUNT] }
  | .pointStoreRestore _ =>
    some { parts := [.out, .keys, .sessions, .log, .rtc, .time, .lane, .pt, .prpt, .seg, .pbus, .mem, .cle, .cte, .mtr, .via,
             .pair, .pwr, .clk, .fab, .upd, .acc], pages := [(0x000, 0xFFF)], fields := [] }
  | .cmdWriteLevel _ _ _ _ | .cmdRelinquishLevel _ _ _ | .cmdReadArray _ _ | .cmdWriteRelinquishDefault _ _ _ =>
    some { parts := [.log, .lane, .pt], pages := [(0x007, 0x007), (0x040, 0x040), (0x042, 0x042), (0x048, 0x048)], fields := []
             }
  | .forceApply _ _ _ | .forceRelease _ _ | .forceRead _ _ | .forceReservedOp _ _ =>
    some { parts := [.log, .lane, .pt], pages := [(0x007, 0x007), (0x040, 0x040), (0x043, 0x043), (0x048, 0x048)], fields := []
             }
  | .pntwinValueWrite _ _ _ | .pntwinTuningWrite _ _ _ _ _ _ _ | .pntwinServiceWrite _ _ _ | .pntwinReservedSelect _ _ =>
    some { parts := [.pt], pages := [(0x040, 0x040), (0x041, 0x041)], fields := [] }
  | .oosServiceRequest _ _ _ =>
    some (Frame.wakes
      { parts := [.pt],
        pages := [],
        fields := [] })
  | .loopSample =>
    some { parts := [.log, .lane, .pt, .cle], pages := [(0x007, 0x007), (0x040, 0x040), (0x048, 0x048), (0x050, 0x050)], fields
             := [] }
  | .loopEvaluationComplete _ =>
    some { parts := [.cle], pages := [], fields := [Reg.CLE_EVALS_COUNT, Reg.CLE_MINSLACK_US] }
  | .loopOutputPresent _ =>
    some { parts := [.pt, .cle], pages := [(0x040, 0x040)], fields := [] }
  | .loopOverrun _ =>
    some { parts := [.log, .cle], pages := [(0x007, 0x007), (0x050, 0x050)], fields := [] }
  | .loopCoefficientWrite _ _ _ _ | .loopModeWrite _ _ _ | .loopClearOvrcnt _ _ | .loopReservedSelect _ _ =>
    some { parts := [.out, .log, .lane, .cle], pages := [(0x007, 0x007), (0x048, 0x048), (0x051, 0x051)], fields := [] }
  | .taskRelease _ | .taskEventRelease _ =>
    some (Frame.wakes
      { parts := [.log, .lane, .pt, .cte],
        pages := [(0x007, 0x007), (0x010, 0x013), (0x020, 0x020), (0x040, 0x040), (0x048, 0x048), (0x058, 0x058)],
        fields := [] })
  | .taskGatherComplete _ =>
    some { parts := [.log, .mem, .cte, .fab], pages := [(0x007, 0x007), (0x010, 0x013), (0x015, 0x016), (0x058, 0x058)], fields
             := [] }
  | .taskCycleComplete _ _ _ _ _ | .taskWatchdogExpiry _ =>
    some (Frame.wakes
      { parts := [.log, .pt, .mem, .cte, .fab],
        pages := [(0x007, 0x007), (0x010, 0x013), (0x014, 0x016), (0x040, 0x040), (0x058, 0x058)],
        fields := [] })
  | .taskBudgetOverrun task =>
    some { parts := [.cte], pages := [], fields := [Reg.CTE_TOVR_COUNT.ix task.val, Reg.CTE_TSTAT_OVR.ix task.val,
             Reg.CTE_FAULT_OVERRUN] }
  | .retainSave _ =>
    some { parts := [.cte], pages := [], fields := [] }
  | .edgeLatchEdge _ _ =>
    some (Frame.wakes
      { parts := [.cte],
        pages := [(0x058, 0x058)],
        fields := [] })
  | .taskValueChange _ _ _ _ | .taskStart _ _ | .taskStop _ _ | .taskRestart _ _ | .taskSwap _ _
  | .taskClearCounters _ _ | .taskReservedSelect _ _ _ =>
    some { parts := [.out, .log, .lane, .cte], pages := [(0x007, 0x007), (0x048, 0x048), (0x058, 0x058), (0x059, 0x059)], fields :=
             [] }
  | .taskSwapApply _ =>
    some (Frame.wakes
      { parts := [.log, .pt, .cte],
        pages := [(0x007, 0x007), (0x020, 0x020), (0x040, 0x040), (0x058, 0x058)],
        fields := [] })
  | .meterWindowEnd _ _ =>
    some (Frame.wakes
      { parts := [.log, .rtc, .pt, .mtr],
        pages := [(0x006, 0x006), (0x007, 0x007), (0x040, 0x040), (0x060, 0x060)],
        fields := [] })
  | .demandIntervalEnd =>
    some { parts := [.mtr], pages := [], fields := [] }
  | .mtrCalibrationApply _ =>
    some { parts := [.out, .mtr], pages := [], fields := [] }
  | .freqTrackerChange _ _ =>
    some { parts := [.rtc, .mtr], pages := [(0x006, 0x006), (0x060, 0x060)], fields := [] }
  | .mtrTestArm =>
    some { parts := [.mtr], pages := [], fields := [Reg.MTR_STAT_TESTARMED] }
  | .testGateStart =>
    some { parts := [.mtr], pages := [], fields := [Reg.MTR_STAT_TESTACT] }
  | .mtrCalibrationStage _ _ _ _ =>
    some { parts := [.out, .mtr], pages := [(0x060, 0x060), (0x061, 0x061)], fields := [] }
  | .meterPowerFailStop _ =>
    some { parts := [.rtc, .mtr, .pwr], pages := [(0x004, 0x004), (0x006, 0x006), (0x060, 0x060)], fields := [] }
  | .prptEntryLoad _ _ =>
    some { parts := [.log, .lane], pages := [(0x007, 0x007), (0x048, 0x048), (0x049, 0x049)], fields := [] }
  | .leaseWithdrawal =>
    some (Frame.wakes
      { parts := [.out, .pt, .prpt, .seg, .pbus, .acc],
        pages := [(0x040, 0x040), (0x049, 0x049), (0x078, 0x078), (0x100, 0x11F), (0x120, 0x13F), (0x140, 0x15F), (0x181,
          0x181)],
        fields := [] })
  | _ => none

/-- What the admission of an update, or of a batch, may change, apart from the delayed responses that follow it (R99, R100, R296). -/
def admissionFrame : Frame :=
  Frame.wakes
    { parts := [.out, .log, .lane, .pt, .seg, .mem, .cle, .cte, .mtr, .fab, .upd],
      pages := [(0x007, 0x007), (0x010, 0x016), (0x040, 0x043), (0x048, 0x048), (0x050, 0x051), (0x058, 0x061), (0x078, 0x078),
        (0x140, 0x15F), (0x180, 0x180), (0x184, 0x184)],
      fields := [] }

/-- No write of a connection waits for a place of its update in the queue (R99). -/
def noWriteWaits (s : State) : Prop := ∀ e ∈ s.sessions, ∀ w ∈ e.2.waits, w.op ≠ 2 ∧ w.op ≠ 3

/-- What the commands of the sessions, the uplinks, the viaduct, the pair and BACnet may change. -/
def messageFrame : Instr → Option Frame
  | .papHandshake _ _ _ _ _ _ =>
    some { parts := [.out, .sessions], pages := [(0x182, 0x182), (0x183, 0x183)], fields := [] }
  | .papSessionIdleTimeout _ | .papSessionClose _ =>
    some { parts := [.sessions, .enc, .upd], pages := [(0x009, 0x009), (0x183, 0x183), (0x184, 0x184), (0x190, 0x190)], fields
             := [] }
  | .svcConnect _ _ _ _ _ _ =>
    some { parts := [.out, .sessions], pages := [(0x190, 0x190)], fields := [] }
  | .svcDisconnect | .svcEnRelease =>
    some { parts := [.out, .keys, .sessions, .log, .sheets, .lane, .pt, .prpt, .seg, .pbus, .mem, .cle, .cte, .mtr, .via,
             .pair, .pwr, .clk, .fab, .enc, .upd, .acc], pages := [(0x000, 0xFFF)], fields := [] }
  | .svcEnAssert =>
    some { parts := [], pages := [], fields := [Reg.SVC_STAT_SVCEN] }
  | .svcLinkChange _ =>
    some { parts := [], pages := [], fields := [Reg.SVC_STAT_LINK] }
  | .uplinkLinkChange _ _ _ =>
    some { parts := [.out, .keys, .sessions, .log, .time, .lane, .pt, .prpt, .seg, .pbus, .mem, .cle, .cte, .mtr, .via,
             .uplinks, .pair, .pwr, .clk, .fab, .acc], pages := [(0x000, 0xFFF)], fields := [] }
  | .uplinkPortLost _ =>
    some { parts := [.out, .keys, .sessions, .log, .lane, .pt, .prpt, .seg, .pbus, .mem, .cle, .cte, .mtr, .via, .uplinks,
             .pair, .pwr, .clk, .fab, .acc], pages := [(0x000, 0xFFF)], fields := [] }
  | .ringBlockSet =>
    some { parts := [], pages := [], fields := [Reg.UPL_PCFG_RINGBLK.ix 1] }
  | .icmpv6MessageReceive port _ _ =>
    some { parts := [.out], pages := [], fields := [Reg.UPL_PRXOK_COUNT.ix port.val, Reg.UPL_PTXOK_COUNT.ix port.val] }
  | .ptpSyncReceive _ _ _ =>
    some { parts := [.rtc, .time, .cle, .cte, .mtr], pages := [(0x006, 0x006), (0x00A, 0x00A), (0x050, 0x050), (0x058, 0x058), (0x060, 0x060), (0x182, 0x182)],
             fields := [] }
  | .ptpSyncLoss =>
    some { parts := [.rtc, .time], pages := [], fields := [Reg.CLE_FAULT_ALIGNLOST, Reg.CLE_STAT_ALIGN, Reg.RTC_STAT_TRIMRUN,
             Reg.TBASE_FAULT_LOCKLOST, Reg.TBASE_LOCKLOSS_COUNT, Reg.TBASE_STAT_HOLDOVER, Reg.TBASE_STAT_LOCK] }
  | .ptpAnnounceReceive _ _ _ | .ptpAnnounceTimeout _ =>
    some { parts := [.time, .uplinks], pages := [(0x00A, 0x00A), (0x182, 0x182)], fields := [] }
  | .heartbeatSend =>
    some { parts := [.out, .via], pages := [], fields := [Reg.UPL_PTXOK_COUNT.ix 0, Reg.UPL_PTXOK_COUNT.ix 1] }
  | .peerLost _ _ =>
    some (Frame.wakes
      { parts := [.out, .pt, .via],
        pages := [(0x040, 0x040), (0x180, 0x180), (0x181, 0x181), (0x182, 0x182)],
        fields := [] })
  | .viaHandshake _ _ _ _ _ _ _ _ =>
    some { parts := [.log, .via, .pair], pages := [(0x007, 0x007), (0x180, 0x180), (0x181, 0x181), (0x182, 0x182)], fields :=
             [] }
  | .keystoneTakeRole =>
    some { parts := [.out, .log, .lane, .pt, .via], pages := [(0x007, 0x007), (0x040, 0x040), (0x048, 0x048), (0x180, 0x180), (0x182, 0x182)], fields := [] }
  | .kclaimSend =>
    some { parts := [.out, .via], pages := [(0x180, 0x180), (0x182, 0x182)], fields := [] }
  | .keystoneStepDownTimeout | .viaKeystoneStep =>
    some { parts := [.out, .pt, .via], pages := [(0x040, 0x040), (0x180, 0x180), (0x181, 0x181), (0x182, 0x182)], fields := [] }
  | .viaEnroll | .viaUnenroll =>
    some { parts := [.out, .log, .via], pages := [(0x007, 0x007), (0x180, 0x180), (0x181, 0x181), (0x182, 0x182)], fields := [] }
  | .leaseRenewalSend | .standbyRenewalTimeout =>
    some { parts := [.out, .via, .pair], pages := [], fields := [Reg.UPL_PTXOK_COUNT.ix 0, Reg.UPL_PTXOK_COUNT.ix 1] }
  | .lreqRetry =>
    some { parts := [.out, .via, .pair], pages := [], fields := [Reg.UPL_PTXOK_COUNT.ix 0, Reg.UPL_PTXOK_COUNT.ix 1,
             Reg.PAIR_FAULT_ABUTLOST, Reg.PAIR_FAULT_PLINKLOST, Reg.PAIR_STAT_ABUT, Reg.PAIR_STAT_PLINK] }
  | .lreqReceive _ _ _ _ _ _ =>
    some { parts := [.out, .keys, .sessions, .log, .lane, .pt, .prpt, .seg, .pbus, .mem, .cle, .cte, .mtr, .via, .pair, .abut,
             .pwr, .clk, .fab, .acc], pages := [(0x000, 0xFFF)], fields := [] }
  | .lgrantReceive _ _ _ _ | .checkpointReceive _ _ _ _ _ _ _ _ | .heartbeatReceive _ _ _ _ _ _ | .publishReceive _ _ _
  | .subscribeReceive _ _ _ | .kclaimReceive _ _ _ | .kactionReceive _ _ _ _ _ _ | .kackReceive _ _ _ | .ckackReceive _ _ _ =>
    some { parts := [.out, .keys, .sessions, .log, .lane, .pt, .prpt, .seg, .pbus, .mem, .cle, .cte, .mtr, .via, .pair, .pwr,
             .clk, .fab, .acc], pages := [(0x000, 0xFFF)], fields := [] }
  | .abutmentInitialGrant _ =>
    some { parts := [.out, .via, .abut], pages := [], fields := [Reg.UPL_PTXOK_COUNT.ix 0, Reg.UPL_PTXOK_COUNT.ix 1] }
  | .pairRelease =>
    some (Frame.wakes
      { parts := [.out, .pt, .prpt, .seg, .pbus, .via, .pair, .acc],
        pages := [(0x040, 0x040), (0x049, 0x049), (0x078, 0x078), (0x100, 0x11F), (0x120, 0x13F), (0x140, 0x15F), (0x181,
          0x181), (0x182, 0x182)],
        fields := [] })
  | .checkpointCapture =>
    some { parts := [.out, .via, .pair], pages := [(0x181, 0x181), (0x182, 0x182)], fields := [] }
  | .checkpointHomeWriteComplete =>
    some { parts := [.out, .pt, .via, .pair], pages := [(0x040, 0x040), (0x181, 0x181), (0x182, 0x182)], fields := [] }
  | .bscReadProperty _ _ | .bscReadPropertyMultiple _ _ =>
    some (Frame.wakes
      { parts := [.out, .sessions, .log, .lane],
        pages := [(0x007, 0x007), (0x048, 0x048)],
        fields := [Reg.BSC_ERRS_COUNT, Reg.BSC_FAULT_RATE, Reg.BSC_RATEDROP_COUNT, Reg.BSC_REQS_COUNT] })
  | .bscWriteProperty _ _ _ _ =>
    some (Frame.wakes
      { parts := [.out, .sessions, .pt],
        pages := [(0x040, 0x040), (0x184, 0x184)],
        fields := [] })
  | .bscHubConnect _ _ _ =>
    some { parts := [.out, .sessions], pages := [(0x182, 0x182), (0x184, 0x184)], fields := [] }
  | .bscHubLost =>
    some { parts := [.sessions], pages := [], fields := [Reg.BSC_FAULT_HUBLOST, Reg.BSC_STAT_HUB] }
  | _ => none

/-- What a datagram of the viaduct may change when its header carries no higher pair epoch (R396, R414), with that header. -/
def bodyFrame : Instr → Option (ViaHeader × Frame)
  | .heartbeatReceive h _ _ _ _ _ =>
    some (h, { parts := [.out, .pt, .via], pages := [(0x040, 0x040), (0x180, 0x180), (0x181, 0x181), (0x182, 0x182)],
               fields := [] })
  | .publishReceive h _ _ =>
    some (h, Frame.wakes { parts := [.pt, .via], pages := [(0x040, 0x040), (0x180, 0x180), (0x182, 0x182)], fields := [] })
  | .subscribeReceive h _ _ =>
    some (h, Frame.wakes { parts := [.out, .via], pages := [(0x180, 0x180), (0x182, 0x182)], fields := [] })
  | .kclaimReceive h _ _ =>
    some (h, { parts := [.out, .pt, .via], pages := [(0x040, 0x040), (0x180, 0x180), (0x181, 0x181), (0x182, 0x182)],
               fields := [] })
  | .kactionReceive h _ _ _ _ _ =>
    some (h, { parts := [.out, .via], pages := [(0x180, 0x180), (0x181, 0x181), (0x182, 0x182)], fields := [] })
  | .kackReceive h _ _ =>
    some (h, { parts := [.log, .via], pages := [(0x007, 0x007), (0x180, 0x180), (0x182, 0x182)], fields := [] })
  | .ckackReceive h _ _ =>
    some (h, { parts := [.via, .pair], pages := [(0x180, 0x180), (0x182, 0x182)], fields := [] })
  | _ => none

/-- What the commands of the mode, power, clocks, cores, memory, enclave, update, calendar and event recorder may change. -/
def systemFrame : Instr → Option Frame
  | .rcFieldRead _ _ _ _ =>
    some { parts := [.out, .log, .rtc, .time, .lane, .cle], pages := [(0x000, 0xFFF)], fields := [] }
  | .keyTimeout _ =>
    some { parts := [.keys], pages := [], fields := [Reg.SYS_KEYERR_COUNT] }
  | .domainResetRequest _ | .coreFault _ _ _ _ _ _ _ _ | .eccUncorrectable _ _ =>
    some { parts := [.out, .keys, .sessions, .log, .rtc, .lane, .pt, .prpt, .seg, .pbus, .mem, .cle, .cte, .mtr, .via, .pair,
             .pwr, .clk, .fab, .enc, .upd, .acc], pages := [(0x000, 0xFFF)], fields := [] }
  | .domainResetComplete _ | .provisioningEndIncomplete =>
    some { parts := [.out, .keys, .sessions, .log, .sheets, .lane, .pt, .prpt, .seg, .pbus, .mem, .cle, .cte, .mtr, .via,
             .pair, .pwr, .clk, .fab, .enc, .acc], pages := [(0x000, 0xFFF)], fields := [] }
  | .wakeTimer | .dozeWake =>
    some { parts := [.pwr, .clk], pages := [], fields := [Reg.MODE_PWRST_DOZE] }
  | .powerOnStart _ _ =>
    some { parts := [.log, .rtc, .time, .pwr, .clk, .upd], pages := [(0x002, 0x002), (0x003, 0x003), (0x004, 0x004),
             (0x006, 0x006), (0x007, 0x007)], fields := [] }
  | .softwareResetRequest =>
    some { parts := [.pwr], pages := [], fields := [Reg.MODE_FAULT_TRANSREF] }
  | .powerFailWarning _ =>
    some { parts := [.out, .pt, .prpt, .seg, .pbus, .mem, .cte, .mtr, .via, .pair, .pwr, .clk, .fab, .upd, .acc], pages :=
             [(0x002, 0x002), (0x003, 0x003), (0x004, 0x004), (0x010, 0x013), (0x015, 0x016), (0x021, 0x021), (0x040, 0x040),
             (0x049, 0x049), (0x050, 0x050), (0x058, 0x058), (0x078, 0x078), (0x100, 0x11F), (0x120, 0x13F), (0x140, 0x15F),
             (0x181, 0x181), (0x182, 0x182)], fields := [] }
  | .caissonSectionSeal _ _ | .commitHoldupExhausted | .fRestart _ =>
    some { parts := [.out, .keys, .sessions, .log, .rtc, .sheets, .lane, .pt, .prpt, .seg, .pbus, .mem, .cle, .cte, .mtr, .via,
             .pair, .pwr, .clk, .fab, .enc, .upd, .acc], pages := [(0x000, 0xFFF)], fields := [] }
  | .overVoltage _ =>
    some { parts := [.seg], pages := [(0x003, 0x003), (0x100, 0x11F)], fields := [] }
  | .overVoltageEnd _ =>
    some { parts := [], pages := [], fields := [Reg.PWR_STAT_INOK, Reg.PWR_STAT_OV, Reg.PWR_VIN_V10M] }
  | .holdupCharged _ =>
    some { parts := [.pwr], pages := [], fields := [Reg.CSN_STAT_CSTATE, Reg.PWR_VHU_V10M] }
  | .holdupChargingTimeout | .holdupCheckComplete _ _ _ _ | .startConditionsMet | .modeStandbyWrite _
  | .modeHoldWrite _ | .modeFatalWrite | .serviceRequest | .serviceExit =>
    some { parts := [.out, .keys, .sessions, .log, .lane, .pt, .prpt, .seg, .pbus, .mem, .cle, .cte, .mtr, .via, .pair, .pwr,
             .clk, .fab, .acc], pages := [(0x000, 0xFFF)], fields := [] }
  | .holdupCheckRequest | .holdupCheckInterval =>
    some { parts := [.pwr], pages := [], fields := [Reg.CSN_STAT_CSTATE] }
  | .provisioningOpen =>
    some { parts := [.out, .keys, .sessions, .log, .lane, .pt, .prpt, .seg, .pbus, .mem, .cle, .cte, .mtr, .via, .pair, .pwr,
             .clk, .fab, .enc, .acc], pages := [(0x000, 0xFFF)], fields := [] }
  | .provisioningComplete =>
    some { parts := [.out, .keys, .sessions, .log, .rtc, .time, .lane, .pt, .prpt, .seg, .pbus, .mem, .cle, .cte, .mtr, .via,
             .uplinks, .pair, .pwr, .clk, .fab, .enc, .upd, .acc], pages := [(0x000, 0xFFF)], fields := [] }
  | .dozeEntry =>
    some { parts := [.pwr, .clk], pages := [], fields := [Reg.CLK_IRCSTAT_READY, Reg.MODE_DOZECNT_COUNT, Reg.MODE_PWRST_DOZE] }
  | .clockMonitorWindow _ _ | .xt25DetectorTrip | .ircReady _ =>
    some { parts := [.out, .keys, .sessions, .log, .rtc, .time, .lane, .pt, .prpt, .seg, .pbus, .mem, .cle, .cte, .mtr, .via,
             .uplinks, .pair, .pwr, .clk, .fab, .acc], pages := [(0x000, 0xFFF)], fields := [] }
  | .xt32DetectorTrip =>
    some { parts := [.log, .rtc, .clk], pages := [(0x005, 0x005), (0x006, 0x006), (0x007, 0x007)], fields := [] }
  | .ircDeadline | .pllRelockTimeout =>
    some { parts := [.log, .rtc, .clk], pages := [(0x005, 0x005), (0x006, 0x006), (0x007, 0x007), (0x049, 0x049)], fields := []
             }
  | .clockRestoreWrite =>
    some { parts := [.out, .keys, .sessions, .log, .rtc, .lane, .pt, .prpt, .seg, .pbus, .mem, .cle, .cte, .mtr, .via, .pair,
             .pwr, .clk, .fab, .acc], pages := [(0x000, 0xFFF)], fields := [] }
  | .jointRearm _ _ =>
    some { parts := [.pt, .clk], pages := [(0x040, 0x040)], fields := [Reg.CLK_STAT_JBROKEN] }
  | .jointStuck _ _ =>
    some { parts := [], pages := [], fields := [Reg.CLK_FAULT_JSTUCK] }
  | .clkoConfigWrite _ _ _ =>
    some { parts := [], pages := [], fields := [Reg.CLK_CLKOCFG_DIV, Reg.CLK_CLKOCFG_SRC] }
  | .coreHalt core =>
    some { parts := [], pages := [], fields := [Reg.CORE_CSTATE_STATE.inst core.val, Reg.CORE_CTRL_HALT.inst core.val,
             Reg.CORE_STAT_HALTED.inst core.val] }
  | .scrubPatrol _ _ =>
    some { parts := [.log, .fab], pages := [(0x007, 0x007), (0x014, 0x014)], fields := [] }
  | .mmuInvalidate _ _ _ =>
    some { parts := [], pages := [], fields := [Reg.MMU_INVADDRHI_VA, Reg.MMU_INVADDRLO_VA, Reg.MMU_INVAL_ALL,
             Reg.MMU_INVAL_ASID, Reg.MMU_INVAL_BUSY] }
  | .mmuInvalidateComplete =>
    some { parts := [.fab], pages := [], fields := [Reg.MMU_INVAL_BUSY] }
  | .dmaGo _ _ =>
    some (Frame.wakes
      { parts := [.out, .log, .pt, .mem, .cte, .fab, .upd],
        pages := [(0x007, 0x007), (0x010, 0x013), (0x014, 0x016), (0x040, 0x040), (0x058, 0x058)],
        fields := [] })
  | .dmaElementComplete _ | .dmaFault _ _ _ _ _ _ _ =>
    some (Frame.wakes
      { parts := [.out, .log, .lane, .pt, .mem, .cle, .cte, .mtr, .fab, .acc],
        pages := [(0x007, 0x007), (0x010, 0x013), (0x014, 0x016), (0x040, 0x040), (0x041, 0x041), (0x048, 0x048), (0x051,
          0x051), (0x058, 0x058), (0x059, 0x059), (0x060, 0x060), (0x061, 0x061), (0x078, 0x078)],
        fields := [] })
  | .dmaResume _ _ =>
    some (Frame.wakes
      { parts := [.out, .log, .pt, .mem, .cte, .fab],
        pages := [(0x007, 0x007), (0x010, 0x013), (0x014, 0x016), (0x040, 0x040), (0x058, 0x058)],
        fields := [] })
  | .dmaAbort _ _ =>
    some { parts := [.out, .mem, .fab], pages := [(0x015, 0x016)], fields := [] }
  | .mailboxWrite _ _ _ =>
    some { parts := [.out, .log, .lane, .pwr, .clk, .fab], pages := [(0x002, 0x002), (0x007, 0x007), (0x008, 0x008), (0x048, 0x048)],
             fields := [] }
  | .mailboxRead _ mailbox =>
    some { parts := [.out, .log, .lane], pages := [(0x007, 0x007), (0x048, 0x048)], fields := [Reg.MBX_MST_FULL.ix mailbox.val, Reg.MBX_MST_TIMEOUT.ix mailbox.val,
             Reg.MBX_EMPTYRD_COUNT, Reg.MBX_STAT_HOSTRX] }
  | .mailboxTimeout mailbox =>
    some { parts := [], pages := [], fields := [Reg.MBX_MST_TIMEOUT.ix mailbox.val, Reg.MBX_FAULT_TIMEOUT] }
  | .lockAcquire _ lock =>
    some { parts := [.out, .log, .lane], pages := [(0x007, 0x007), (0x048, 0x048)], fields := [Reg.LOCK_LOWN_HELD.ix lock.val, Reg.LOCK_LOWN_MID.ix lock.val,
             Reg.LOCK_LOWN_REQ.ix lock.val] }
  | .lockRelease _ lock =>
    some { parts := [.out, .log, .lane], pages := [(0x007, 0x007), (0x048, 0x048)], fields := [Reg.LOCK_LOWN_HELD.ix lock.val, Reg.LOCK_LOWN_STALE.ix lock.val] }
  | .rootRetry _ =>
    some { parts := [.enc], pages := [], fields := [Reg.ENC_FAULT_ROOTFAIL, Reg.ENC_ROOTTRY_COUNT, Reg.ENC_STAT_ROOTOK] }
  | .encDerive requester _ _ _ _ _ _ _ | .encDestroy requester _ | .encEncrypt requester _ _ _
  | .encDecrypt requester _ _ _ | .encMac requester _ _ | .encSign requester _ _ | .encPubkey requester _
  | .encAgree requester _ _ _ | .encRandom requester _ | .encAttest requester _ =>
    some { parts := [.out, .enc], pages := [], fields := encFields requester }
  | .encOperationComplete =>
    some { parts := [.out, .log, .lane, .pwr, .clk, .fab, .enc], pages := [(0x000, 0x000), (0x002, 0x002), (0x007, 0x007),
             (0x008, 0x008), (0x020, 0x020), (0x048, 0x048)], fields := [] }
  | .entropyHealthFail | .entropyRestart _ =>
    some { parts := [.enc], pages := [], fields := [Reg.ENC_ENTERR_COUNT, Reg.ENC_FAULT_ENTFAIL, Reg.ENC_STAT_ENTOK] }
  | .tamperArmWrite _ _ _ =>
    some { parts := [.log], pages := [(0x007, 0x007), (0x022, 0x022)], fields := [] }
  | .updateVerify _ =>
    some { parts := [.upd], pages := [], fields := [Reg.UPD_STAT_USTATE] }
  | .updateConfirm _ =>
    some { parts := [.log, .upd], pages := [(0x007, 0x007), (0x021, 0x021)], fields := [] }
  | .updateAbort _ =>
    some { parts := [.upd], pages := [(0x021, 0x021)], fields := [] }
  | .rtcTimeCommit _ =>
    some { parts := [.log, .rtc, .time, .cle, .cte, .mtr], pages := [(0x006, 0x006), (0x007, 0x007), (0x00A, 0x00A), (0x050, 0x050),
             (0x058, 0x058), (0x060, 0x060)], fields := [] }
  | .rtcDstForward | .rtcDstBack =>
    some { parts := [.rtc], pages := [], fields := [Reg.RTC_FAULT_DSTREJ, Reg.RTC_STAT_DSTPEND] }
  | .dstBoundaryApply | .rtcPtpCompare =>
    some { parts := [.log, .rtc], pages := [(0x006, 0x006), (0x007, 0x007)], fields := [] }
  | .rtcRangeExpiry =>
    some { parts := [.rtc], pages := [], fields := [Reg.RTC_FAULT_RANGE, Reg.RTC_STAT_VALID] }
  | .trimWindowEnd _ =>
    some { parts := [.rtc], pages := [(0x006, 0x006)], fields := [] }
  | .trimRestart =>
    some { parts := [.rtc], pages := [], fields := [Reg.RTC_STAT_TRIMRUN] }
  | .backupDomainReset =>
    some { parts := [.rtc], pages := [(0x006, 0x006), (0x022, 0x022)], fields := [] }
  | .backupByteWrite _ _ =>
    some { parts := [], pages := [(0x006, 0x006)], fields := [] }
  | .rtcSnapshotRead _ =>
    some { parts := [.out, .rtc], pages := [], fields := [] }
  | .logRecordSubmit _ _ _ | .logFirmwareSubmit _ | .logFlush | .logTimemark =>
    some { parts := [.log], pages := [(0x007, 0x007)], fields := [] }
  | .logReaderLoad _ =>
    some { parts := [], pages := [(0x007, 0x007)], fields := [] }
  | .optimeSave =>
    some { parts := [.log], pages := [], fields := [] }
  | .vbatLow _ =>
    some { parts := [], pages := [], fields := [Reg.PWR_FAULT_VBATLOW, Reg.PWR_VBAT_MV] }
  | .pllUnlock _ =>
    some { parts := [], pages := [], fields := [Reg.CLK_FAULT_PLLUNLOCK, Reg.CLK_PLLSTAT_LOCK] }
  | _ => none

end Sys2Proof.Machine
end

