-- ==== Sys2Proof/Certificates/Slice0/Obligations.lean ====
section
/-! DEFINITION. What is claimed of the model: the statements for the provers, each from the numbered rules that it cites. -/

open Sys2Proof Sys2Proof.Machine

/-- The queue is first in, first out: a step runs the command at the front on the state with the queue's rest, and on an empty
queue 1 ns passes and nothing else changes (the model's choice, assumption 2). -/
def Obligations.StepRunsFront : Prop :=
  (∀ (c : Instr) (rest : List Instr) (s : State), step { s with pending := c :: rest } = exec c { s with pending := rest }) ∧
  (∀ s : State, s.pending = [] → step s = .next { s with now := s.now + 1 })

/-- Every command of the table answers a next state, in every state: it leaves the queue as it is, and time never runs back. -/
def Obligations.CommandsAnswer : Prop :=
  ∀ (c : Instr) (s : State), ∃ t, exec c s = .next t ∧ t.pending = s.pending ∧ s.now ≤ t.now

/-- Every step keeps a safe state safe: DRAM stays in canonical form (the model's own data form), and no takeover that R420
calls complete (the new active in DRIVE and every sound port ACTIVE) is left open. -/
def Obligations.SafeSteps : Prop :=
  ∀ s t : State, safe s = true → step s = .next t → safe t = true

/-- The machine right after a power-on reset is safe, waits for nothing, and holds every register field at its reset value; so
the mode is UNPROVISIONED, STARTING is 1 and RCAUSE shows a P reset (R9, R10, R462). -/
def Obligations.ResetState : Prop :=
  safe State.reset = true ∧ State.reset.pending = [] ∧ State.reset.out = [] ∧
  (∀ f : RegField, State.reset.get f = f.reset % 2 ^ f.width) ∧ mode State.reset = 0 ∧
  State.reset.get Reg.MODE_STAT_STARTING = 1 ∧ State.reset.get Reg.MODE_RCAUSE_LAST = 1 ∧ State.reset.sessions = [] ∧
  State.reset.sheets = {}

/-- R41, R58: every command closes the state `u` that its effect leaves with the change sequence: the SEQ of a page whose STAT
or FAULT differs from before counts one, whatever number of its bits changed, and ATTN.SEQ counts one for each such page from
0x002 to 0x1FF. A command that was a P, B, W or S reset or a loss of power counts nothing (R40). -/
def Obligations.ChangeSequence : Prop :=
  ∀ (c : Instr) (s : State), ∃ u, exec c s = .next (settle s u) ∧
    (seqCleared s u = true → settle s u = u) ∧
    (seqCleared s u = false → ∀ p < 4096, p ≠ 1 → (settle s u).get (Reg.HDR_SEQ.onPage p) =
      (u.get (Reg.HDR_SEQ.onPage p) + if pageChanged s.regs u.regs p then 1 else 0) % 2 ^ 32) ∧
    (seqCleared s u = false → (settle s u).get (Reg.HDR_SEQ.onPage 1) = (u.get (Reg.HDR_SEQ.onPage 1) +
      ((List.range 4096).filter (fun p => pageChanged s.regs u.regs p && (p = 1 || (2 ≤ p && p ≤ 0x1FF)))).length) % 2 ^ 32) ∧
    ∀ f : RegField, f.wordOf ≠ 7 → (settle s u).get f = u.get f

/-- The frame of the commands of segment ports, feed switches, PBUS ports, local channels, readers, doors and lift: what
`fieldFrame` does not name is as before. -/
def Obligations.FieldFrames : Prop :=
  ∀ (c : Instr) (s t : State) (fr : Frame), fieldFrame c = some fr → exec c s = .next t → fr.holds s t

/-- The frame of the commands of the point engine, loops, tasks, meter and parapet: what `engineFrame` does not name is as
before. An admission, of an update or of a batch, leaves what `admissionFrame` does not name, up to the delayed responses of R99 that
follow it, which answer nothing where no write waits. -/
def Obligations.EngineFrames : Prop :=
  (∀ (c : Instr) (s t : State) (fr : Frame), engineFrame c = some fr → exec c s = .next t → fr.holds s t) ∧
  (∀ (s t : State) (k : Fin 16), exec .updateAdmission s = .next t ∨ exec (.taskBatchAdmission k) s = .next t →
    (noWriteWaits s → admissionFrame.holds s t) ∧ ∃ u, admissionFrame.holds s u ∧ (done s u = .next t ∨ done s (writeResponses s u) = .next t))

/-- The frame of the commands of sessions, uplinks, viaduct, pair and BACnet: what `messageFrame` does not name is as before. A datagram
whose header carries no higher pair epoch leaves more: what `bodyFrame` does not name. -/
def Obligations.MessageFrames : Prop :=
  (∀ (c : Instr) (s t : State) (fr : Frame), messageFrame c = some fr → exec c s = .next t → fr.holds s t) ∧
  (∀ (c : Instr) (s t : State) (h : ViaHeader) (fr : Frame), bodyFrame c = some (h, fr) → exec c s = .next t →
    h.pepoch.toNat ≤ pairEpoch s → fr.holds s t)

/-- The frame of the commands of mode, power, clocks, cores, memory, enclave, update, calendar and event recorder: what
`systemFrame` does not name is as before. -/
def Obligations.SystemFrames : Prop :=
  ∀ (c : Instr) (s t : State) (fr : Frame), systemFrame c = some fr → exec c s = .next t → fr.holds s t

/-- R221, R303, R444, R509, R511: the commands that store to DRAM and are no transfer of their own change the bytes they store
only: a received frame the 80 bytes of its queue entry, an abort, a cycle's end or watchdog and a power-fail warning the
destinations of the channels that they stop. -/
def Obligations.MemoryFrames : Prop :=
  (∀ (s t : State) (p : Fin 32) (f : CanFrame) (u : BitVec 64) (b : Bool), exec (.pbusFrameReceive p f u b) s = .next t →
    ∀ a, (∀ i < 80, physical s 0 (s.get (Reg.PBUS_RXQBASELO_ADDR.inst p.val) * 64 + 2 ^ 32 * s.get (Reg.PBUS_RXQBASEHI_ADDR.inst p.val) +
      80 * (s.get (Reg.PBUS_RXQPUT_PUT.inst p.val) % 256) + i) ≠ a) → Memory.read t.mem a = Memory.read s.mem a) ∧
  (∀ (s t : State) (r : Fin 16) (c : Fin 32), exec (.dmaAbort r c) s = .next t →
    ∀ a, (∀ i < dmaLen s c.val, physical s (dmaOwner s c.val) (dmaDesc s c.val 8 8 % 2 ^ 48 + i) ≠ a) →
      Memory.read t.mem a = Memory.read s.mem a) ∧
  (∀ (s t : State) (c : Instr), (∃ k, c = .taskWatchdogExpiry k) ∨ (∃ k os vs ts b, c = .taskCycleComplete k os vs ts b) ∨
      (∃ v, c = .powerFailWarning v) → exec c s = .next t →
    ∀ a, (∀ c < 32, ∀ i < dmaLen s c, physical s (dmaOwner s c) (dmaDesc s c 8 8 % 2 ^ 48 + i) ≠ a) →
      Memory.read t.mem a = Memory.read s.mem a)

/-- R439: an S reset begins 2 ms after its request, and while PFREEZE is 1 the request is refused. -/
def Obligations.SoftwareResetDelay : Prop :=
  ∀ s : State, ∃ t, exec .softwareResetRequest s = .next t ∧
    (s.get Reg.MODE_STAT_PFREEZE = 1 → t.get Reg.MODE_FAULT_TRANSREF = 1 ∧ t.pwr = s.pwr) ∧
    (s.get Reg.MODE_STAT_PFREEZE = 0 → s.pwr.srstAt = none → t.now = s.now ∧ t.mem = s.mem ∧
      ∃ u, exec .softwareReset t = .next u ∧ u.now = s.now + 2000000 ∧ u.get Reg.MODE_RCAUSE_LAST = 4 ∧ u.mem = [] ∧
        u.pwr.booting = true)

/-- R198: a protocol exception stops the reception without an error frame, leaves both error counters, integrates, is counted in
PEXCNT and sets FAULT.PEX. -/
def Obligations.ProtocolException : Prop :=
  ∀ (s : State) (p : Fin 32), busLive s p.val = true →
    ∃ t, exec (.pbusProtocolException p) s = .next t ∧ t.get (Reg.PBUS_FAULT_PEX.inst p.val) = 1 ∧
      t.get (Reg.PBUS_PEXCNT_COUNT.inst p.val) = min (s.get (Reg.PBUS_PEXCNT_COUNT.inst p.val) + 1) (2 ^ 32 - 1) ∧
      t.get (Reg.PBUS_STAT_INTEG.inst p.val) = 1 ∧ t.out = s.out ∧ t.pt = s.pt ∧ t.mem = s.mem ∧
      t.get (Reg.PBUS_ERRC_TEC.inst p.val) = s.get (Reg.PBUS_ERRC_TEC.inst p.val) ∧ recOf t p.val = recOf s p.val ∧
      t.get (Reg.PBUS_RXOK_COUNT.inst p.val) = s.get (Reg.PBUS_RXOK_COUNT.inst p.val)

/-- R68: a session with no request for 30 s is closed, and a NOP that is served keeps it open for 30 s more. -/
def Obligations.SessionIdleClose : Prop :=
  (∀ (s : State) (k : Fin 8), sessionOpen s k.val = true →
    ∃ t, exec (.papSessionIdleTimeout k) s = .next t ∧ sessionOpen t k.val = false ∧
      t.now = max s.now ((tabGet {} s.sessions k.val : Session).lastRequest + 30000000000)) ∧
  (∀ (s : State) (k : Fin 8) (q : PapRequest), papReady s (some k) 6 q →
    ∃ t, exec (.papNop (some k) q) s = .next t ∧ papResponded s t (some k) 6 q 0 [] ∧ sessionOpen t k.val = true ∧
      (tabGet {} t.sessions k.val : Session).lastRequest = s.now)

/-- R49: while KEY of a page is armed or open for another master, a fabric master's write of KEY gets a bus error and an LWRITE
gets KEY_BUSY, and the owner's sequence stands as it was. -/
def Obligations.KeyOwner : Prop :=
  (∀ (s : State) (m : Master) (p : BitVec 12) (v : Word) (k : KeyState), viaBridge m = false → pageMapped p.toNat = true →
    undisturbed s p.toNat → tabFind p.toNat s.keys = some k → k.owner ≠ m → s.now ≤ k.since + 10000 →
    ∃ t, exec (.registerWrite m p 0x018 false v) s = .next t ∧ t.out = s.out ++ [.busError m] ∧ t.keys = s.keys) ∧
  (∀ (s : State) (conn : Option (Fin 8)) (q : PapRequest) (k : KeyState), papReady s conn 3 q →
    tabFind q.page.toNat s.keys = some k → k.owner ≠ connMaster (connCopy conn) → s.now ≤ k.since + 10000 → undisturbed s q.page.toNat →
    (∀ w ∈ rangeWords q, mayWritePage (connMaster (connCopy conn)) q.page.toNat w s = true) →
    (∀ e ∈ rangeData q, wordStatus (connMaster (connCopy conn)) true q.page.toNat e.1 e.2 s = 0) →
    ∃ t, exec (.papLwrite conn q) s = .next t ∧ papResponded s t conn 3 q 9 [] ∧ t.keys = s.keys)

/-- R38, R41, R43, R44, R46: what a write of a plain register, a read that clears, and a write of 1 to FAULT bits do, for every
master that the host bridge lets through and a page in no domain reset. A narrow access is rejected, and a FAULT bit that hardware
sets in the cycle of its clear stays set while SEQ counts once. -/
def Obligations.FabricAccess : Prop :=
  (∀ (s : State) (m : Master) (p : BitVec 12) (v : Word), pageMapped p.toNat = true → p ≠ 0x001 →
    hostClosed m s = false → mayWritePage m p.toNat 5 s = true → s.get (Reg.HDR_STAT_DRBUSY.onPage p.toNat) = 0 →
    ∃ t, exec (.registerWrite m p 0x014 false v) s = .next t ∧
      t.get (Reg.HDR_FAULTEN.onPage p.toNat) = v.toNat ∧ Frame.holds ⟨[.keys], [(0, 0), (p.toNat, p.toNat)], []⟩ s t) ∧
  (∀ (s : State) (m : Master) (p off : BitVec 12) (v : Word), viaBridge m = false →
    ∃ t, exec (.registerWrite m p off true v) s = .next t ∧ t.out = s.out ++ [.busError m] ∧
      Frame.holds ⟨[.out], [], []⟩ s t) ∧
  (∀ (s : State) (m : Master) (p off : BitVec 12), viaBridge m = false →
    ∃ t, exec (.rcFieldRead m p off true) s = .next t ∧ t.out = s.out ++ [.busError m] ∧
      Frame.holds ⟨[.out], [], []⟩ s t) ∧
  (∀ (s : State) (m : Master), hostClosed m s = false → mayReadPage m 0x078 s = true →
    s.get (Reg.HDR_STAT_DRBUSY.onPage 0x078) = 0 →
    ∃ t, exec (.rcFieldRead m 0x078 0x920 false) s = .next t ∧
      t.out = s.out ++ [.readData m (s.get Reg.ACC_DECMAX_US)] ∧ t.get Reg.ACC_DECMAX_US = 0 ∧
      Frame.holds ⟨[.out], [], [Reg.ACC_DECMAX_US]⟩ s t) ∧
  (∀ (s : State) (m : Master) (v e : Word), hostClosed m s = false → mayWritePage m 0x007 4 s = true →
    s.get (Reg.HDR_STAT_DRBUSY.onPage 0x007) = 0 →
    ∃ t, exec (.faultClear m 0x007 v e) s = .next t ∧
      (∀ f ∈ [Reg.LOG_FAULT_DROP, Reg.LOG_FAULT_OVWR, Reg.LOG_FAULT_GAP],
        t.get f = if e.getLsbD f.lo then 1 else if v.getLsbD f.lo then 0 else s.get f % 2) ∧
      (∀ f ∈ [Reg.LOG_FAULT_DROP, Reg.LOG_FAULT_OVWR, Reg.LOG_FAULT_GAP],
        s.pwr.powered = true → s.get f = 1 → v.getLsbD f.lo = true → e.getLsbD f.lo = true →
        t.get (Reg.HDR_SEQ.onPage 0x007) = (s.get (Reg.HDR_SEQ.onPage 0x007) + 1) % 2 ^ 32) ∧
      Frame.holds ⟨[.keys], [(0, 0)], [Reg.LOG_FAULT_DROP, Reg.LOG_FAULT_OVWR, Reg.LOG_FAULT_GAP]⟩ s t)

/-- R40, R47, R48 and R78: KEY of a page on the fabric is armed by the first word, opened for its owner by the complement within 10 µs,
and closed and counted in KEYERR after 10 µs; a domain reset of the PAP or the BACnet/SC block with no session open shows DRBUSY
and takes every field of the page that it does not keep to its reset value, and its completion clears DRBUSY. R78: a request of
a fabric master to LOOPWIN or to the enclave's page during the D reset of its block gets a bus error and has no effect. -/
def Obligations.KeysAndDomainReset : Prop :=
  (∀ (s : State) (m : Master) (p : BitVec 12), viaBridge m = false → pageMapped p.toNat = true →
    s.get (Reg.HDR_STAT_DRBUSY.onPage p.toNat) = 0 → tabFind p.toNat s.keys = none →
    ∃ t, exec (.keyArm m p) s = .next t ∧ tabFind p.toNat t.keys = some { owner := m, opened := false, since := s.now } ∧
      Frame.holds ⟨[.keys], [(0, 0)], []⟩ s t) ∧
  (∀ (s : State) (m : Master) (p : BitVec 12) (a : Nat), viaBridge m = false → pageMapped p.toNat = true →
    s.get (Reg.HDR_STAT_DRBUSY.onPage p.toNat) = 0 →
    tabFind p.toNat s.keys = some { owner := m, opened := false, since := a } → s.now ≤ a + 10000 →
    ∃ t, exec (.keyOpen m p) s = .next t ∧ tabFind p.toNat t.keys = some { owner := m, opened := true, since := s.now } ∧
      Frame.holds ⟨[.keys], [(0, 0)], []⟩ s t) ∧
  (∀ (s : State) (p : BitVec 12) (k : KeyState), tabFind p.toNat s.keys = some k →
    ∃ t, exec (.keyTimeout p) s = .next t ∧ tabFind p.toNat t.keys = none ∧
      t.get Reg.SYS_KEYERR_COUNT = min (s.get Reg.SYS_KEYERR_COUNT + 1) 65535 ∧ t.now = max s.now (k.since + 10000)) ∧
  (∀ (s : State) (p : BitVec 12), p = 0x183 ∨ p = 0x184 → s.get (Reg.HDR_STAT_DRBUSY.onPage p.toNat) = 0 →
    (∀ k < 9, sessionOpen s k = false) → (s.get Reg.MODE_STAT_SHORT).testBit 3 = (List.range 32).any (fun n => pstate s n = 6) →
    ∃ t, exec (.domainResetRequest p) s = .next t ∧ t.get (Reg.HDR_STAT_DRBUSY.onPage p.toNat) = 1 ∧
      ∀ f ∈ blockFields p.toNat, f.kept / 16 % 2 = 0 → t.get (f.onPage p.toNat) = f.reset) ∧
  (∀ (s : State) (p : BitVec 12), p = 0x183 ∨ p = 0x184 → s.get (Reg.HDR_STAT_DRBUSY.onPage p.toNat) = 1 →
    ∃ t, exec (.domainResetComplete p) s = .next t ∧ t.get (Reg.HDR_STAT_DRBUSY.onPage p.toNat) = 0) ∧
  (∀ (s : State) (r : Fin 16) (c : Instr), 10 ≤ r.val →
    (s.get (Reg.HDR_STAT_DRBUSY.onPage 0x050) = 1 ∧ ((∃ i, c = .loopClearOvrcnt r i) ∨ (∃ i, c = .loopReservedSelect r i) ∨
      (∃ i f v, c = .loopCoefficientWrite r i f v) ∨ ∃ i m, c = .loopModeWrite r i m)) ∨
    (s.get (Reg.HDR_STAT_DRBUSY.onPage 0x020) = 1 ∧ ((∃ x, c = .encDestroy r x) ∨ (∃ x, c = .encPubkey r x) ∨ ∃ l, c = .encRandom r l)) →
    ∃ t, exec c s = .next t ∧ Frame.holds ⟨[.out], [(0, 0)], []⟩ s t ∧ t.out = s.out ++ [.busError (.req r)])

/-- R54 to R56 on the six window pages: LOAD takes the record with this index into DATA with VALID 1 where it exists and the requester
may read it, and a LOAD that ends in an error leaves DATA; COMMIT leaves DATA and VALID, hands a value write of the point window to
the point engine or ends in NOT_READY, ends in error 6 on the energy window, and on the credential window replaces the record or
removes it whole; a write of both bits changes AUTOINC only. INDEX counts on where AUTOINC is 1. -/
def Obligations.WindowCommands : Prop :=
  (∀ (s : State) (r : Fin 16) (p : BitVec 12) (a : Bool) (i : Nat) (ws : List Nat), hostClosed (.req r) s = false →
    mayWritePage (.req r) p.toNat 0x011 s = true → undisturbed s p.toNat → winBusy s p.toNat r.val = false → i = winIndex s p.toNat r.val →
    (p = 0x041 ∧ s.bit Reg.PNT_STAT_READY = true ∧ (s.point i).typ ≠ 0 ∧ mayReadLane (requesterLanes s r.val) (s.point i).lane = true ∧
        ws = recordWords (s.point i)) ∨
    (p = 0x051 ∧ i < 0x2000 ∧ (∃ c, loopCfg s i = some c ∧ ws = loopWords s i c) ∧
      (requesterLanes s r.val).getLsbD (loopLane s i) = true) ∨
    (p = 0x059 ∧ (∃ c, taskCfg s i = some c ∧ ws = taskWords s i c) ∧ (requesterLanes s r.val).getLsbD (taskLane s i) = true) ∨
    (p = 0x061 ∧ i < 48 ∧ mayReadChannel s r.val i = true ∧ ws = channelWords s i) ∨
    (p = 0x062 ∧ i < 36 ∧ (circuitCfg s i).isSome = true ∧ (requesterLanes s r.val).getLsbD (circuitLane s i) = true ∧
      ws = energyWords s i) ∨
    (p = 0x078 ∧ mayReadLane (requesterLanes s r.val) (accLane s) = true ∧ 0x10000 ≤ i ∧ i < 0x40D40 ∧
      ∃ c, tabFind (i - 0x10000) s.acc.cache = some c ∧ ws = credentialWords c) →
    ∃ t, exec (.windowLoad r p a) s = .next t ∧
      t.get ((Reg.WIN_VALID.onPage p.toNat).by r.val) = 1 ∧ t.get ((Reg.WIN_ERR.onPage p.toNat).by r.val) = 0 ∧
      (∀ k < ws.length, winData t p.toNat r.val k = ws.getD k 0 % 2 ^ 32) ∧
      winIndex t p.toNat r.val = (i + if a then 1 else 0) % 2 ^ 20 ∧ Frame.holds ⟨[.keys], [(0, 0), (p.toNat, p.toNat)], []⟩ s t) ∧
  (∀ (s : State) (r : Fin 16) (p : BitVec 12) (a : Bool), isWindowPage p.toNat = true → hostClosed (.req r) s = false →
    mayWritePage (.req r) p.toNat 0x011 s = true → undisturbed s p.toNat → winBusy s p.toNat r.val = false →
    (∃ t, exec (.windowLoad r p a) s = .next t ∧ t.get ((Reg.WIN_AUTOINC.onPage p.toNat).by r.val) = (if a then 1 else 0) ∧
      winBusy t p.toNat r.val = false ∧ winIndex t p.toNat r.val = (winIndex s p.toNat r.val + if a then 1 else 0) % 2 ^ 20 ∧
      (t.get ((Reg.WIN_VALID.onPage p.toNat).by r.val) = 1 ↔ t.get ((Reg.WIN_ERR.onPage p.toNat).by r.val) = 0) ∧
      (t.get ((Reg.WIN_ERR.onPage p.toNat).by r.val) ≠ 0 → ∀ k < 512, winData t p.toNat r.val k = winData s p.toNat r.val k) ∧
      Frame.holds ⟨[.keys, .log, .lane], [(0, 0), (7, 7), (0x048, 0x048), (p.toNat, p.toNat)], []⟩ s t) ∧
    (∃ t, exec (.windowCommit r p a) s = .next t ∧ t.get ((Reg.WIN_AUTOINC.onPage p.toNat).by r.val) = (if a then 1 else 0) ∧
      (∀ k < 512, winData t p.toNat r.val k = winData s p.toNat r.val k) ∧
      t.get ((Reg.WIN_VALID.onPage p.toNat).by r.val) = s.get ((Reg.WIN_VALID.onPage p.toNat).by r.val) ∧
      (p ≠ 0x041 → winBusy t p.toNat r.val = false ∧
        winIndex t p.toNat r.val = (winIndex s p.toNat r.val + if a then 1 else 0) % 2 ^ 20) ∧
      (p = 0x062 → t.get ((Reg.WIN_ERR.onPage p.toNat).by r.val) = 6 ∧ t.mtr = s.mtr) ∧
      (p = 0x041 → takesWrites s = false → t.get ((Reg.WIN_ERR.onPage p.toNat).by r.val) = 13 ∧ t.pt = s.pt) ∧
      (p = 0x041 → takesWrites s = true → s.get (Reg.PNTWIN_WSEL_MODE.by r.val) = 0 → queueOpen s 6 →
        winBusy t p.toNat r.val = true ∧ queueOf t 6 = queueOf s 6 ++
          [{ src := requesterSrc r.val, target := .idx (winIndex s 0x041 r.val),
             kind := .value (winData s 0x041 r.val 0 + 2 ^ 32 * winData s 0x041 r.val 1) .valid, path := .window r.val }])) ∧
    (∃ t, exec (.windowLoadCommitConflict r p a) s = .next t ∧
      t.get ((Reg.WIN_AUTOINC.onPage p.toNat).by r.val) = (if a then 1 else 0) ∧
      winIndex t p.toNat r.val = winIndex s p.toNat r.val ∧
      (∀ k < 512, winData t p.toNat r.val k = winData s p.toNat r.val k) ∧
      t.get ((Reg.WIN_VALID.onPage p.toNat).by r.val) = s.get ((Reg.WIN_VALID.onPage p.toNat).by r.val) ∧
      t.get ((Reg.WIN_ERR.onPage p.toNat).by r.val) = s.get ((Reg.WIN_ERR.onPage p.toNat).by r.val) ∧
      Frame.holds ⟨[.keys], [(0, 0)], [(Reg.WIN_AUTOINC.onPage p.toNat).by r.val]⟩ s t)) ∧
  (∀ (s : State) (r : Fin 16) (a : Bool), hostClosed (.req r) s = false → mayWritePage (.req r) 0x078 0x011 s = true →
    undisturbed s 0x078 → winBusy s 0x078 r.val = false →
    mayWriteLane (requesterLanes s r.val) (accLane s) = true → 0x10000 ≤ winIndex s 0x078 r.val → winIndex s 0x078 r.val < 0x40D40 →
    (dataCredential s r.val).flags < 16 →
    ((dataCredential s r.val).flags.testBit 0 = true → ∀ e ∈ s.acc.cache, e.1 ≠ winIndex s 0x078 r.val - 0x10000 →
      e.2.digest ≠ (dataCredential s r.val).digest) →
    ∃ t, exec (.windowCommit r 0x078 a) s = .next t ∧
      tabFind (winIndex s 0x078 r.val - 0x10000) t.acc.cache =
        (if (dataCredential s r.val).flags.testBit 0 then some (dataCredential s r.val) else none) ∧
      t.get ((Reg.WIN_ERR.onPage 0x078).by r.val) = 0 ∧ Frame.holds ⟨[.keys, .acc], [(0, 0), (0x078, 0x078)], []⟩ s t)

/-- R70 to R74, R138: what READ, WRITE, LWRITE, NOP, WREAD and WWRITE answer and do, for a PAP session and for the service port,
and the response of a WWRITE that waited for its window. -/
def Obligations.PapRequests : Prop :=
  (∀ (s : State) (conn : Option (Fin 8)) (q : PapRequest), papReady s conn 1 q → q.offset = 0 → q.count = 1 →
    mayReadPage (connMaster (connCopy conn)) q.page.toNat s = true → undisturbed s q.page.toNat →
    ∃ t, exec (.papRead conn q) s = .next t ∧ papResponded s t conn 1 q 0 [pidWord q.page.toNat] ∧
      Frame.holds ⟨[.out, .sessions], [(0x183, 0x183)], []⟩ s t) ∧
  (∀ (s : State) (conn : Option (Fin 8)) (q : PapRequest) (v : Word), papReady s conn 2 q → q.offset = 0x014 → q.count = 1 →
    q.data = [v] → pageMapped q.page.toNat = true → q.page ≠ 0x001 →
    mayWritePage (connMaster (connCopy conn)) q.page.toNat 5 s = true → undisturbed s q.page.toNat →
    ∃ t, exec (.papWrite conn q) s = .next t ∧ papResponded s t conn 2 q 0 [] ∧
      t.get (Reg.HDR_FAULTEN.onPage q.page.toNat) = v.toNat ∧
      Frame.holds ⟨[.out, .sessions, .keys], [(0, 0), (0x183, 0x183), (q.page.toNat, q.page.toNat)], []⟩ s t) ∧
  (∀ (s : State) (conn : Option (Fin 8)) (q : PapRequest) (v : Word), papReady s conn 3 q → q.offset = 0x014 → q.count = 1 →
    q.data = [v] → pageMapped q.page.toNat = true → q.page ≠ 0x001 → tabFind q.page.toNat s.keys = none →
    mayWritePage (connMaster (connCopy conn)) q.page.toNat 5 s = true → undisturbed s q.page.toNat →
    ∃ t, exec (.papLwrite conn q) s = .next t ∧ papResponded s t conn 3 q 0 [] ∧
      t.get (Reg.HDR_FAULTEN.onPage q.page.toNat) = v.toNat ∧
      Frame.holds ⟨[.out, .sessions, .keys], [(0, 0), (0x183, 0x183), (q.page.toNat, q.page.toNat)], []⟩ s t) ∧
  (∀ (s : State) (conn : Option (Fin 8)) (q : PapRequest), papReady s conn 6 q →
    ∃ t, exec (.papNop conn q) s = .next t ∧ papResponded s t conn 6 q 0 [] ∧
      Frame.holds ⟨[.out, .sessions], [(0x183, 0x183)], []⟩ s t) ∧
  (∀ (s : State) (conn : Option (Fin 8)) (q : PapRequest) (c : Credential), papReady s conn 4 q → q.page = 0x078 → q.offset = 0 →
    q.count = 8 → winBusy s 0x078 (connCopy conn) = false → undisturbed s 0x078 →
    mayReadPage (connMaster (connCopy conn)) 0x078 s = true → mayReadLane (requesterLanes s (connCopy conn)) (accLane s) = true →
    0x10000 ≤ q.arg.toNat → q.arg.toNat < 0x40D40 → tabFind (q.arg.toNat - 0x10000) s.acc.cache = some c →
    ∃ t, exec (.papWread conn q) s = .next t ∧ papResponded s t conn 4 q 0 ((credentialWords c).map (· % 2 ^ 32)) ∧
      Frame.holds ⟨[.out, .sessions], [(0x078, 0x078), (0x183, 0x183)], []⟩ s t) ∧
  (∀ (s : State) (conn : Option (Fin 8)) (q : PapRequest), papReady s conn 5 q → q.page = 0x078 → q.offset = 0 →
    q.count = 8 → winBusy s 0x078 (connCopy conn) = false → undisturbed s 0x078 →
    mayWritePage (connMaster (connCopy conn)) 0x078 0x011 s = true → mayWriteLane (requesterLanes s (connCopy conn)) (accLane s) = true →
    0x10000 ≤ q.arg.toNat → q.arg.toNat < 0x40D40 → papWord q 7 / 256 % 256 = 0 →
    ∃ t, exec (.papWwrite conn q) s = .next t ∧ tabFind (q.arg.toNat - 0x10000) t.acc.cache = none ∧
      Frame.holds ⟨[.out, .sessions, .keys, .acc], [(0, 0), (0x078, 0x078), (0x183, 0x183)], []⟩ s t ∧
      ∃ d, papResponded s t conn 5 q 0 d) ∧
  (∀ (s : State) (conn : Option (Fin 8)) (w : PapWait), (tabGet {} s.sessions (connCopy conn) : Session).waits = [w] →
    (tabGet {} s.sessions (connCopy conn) : Session).held = [] → isWindowPage w.page = true →
    winBusy s w.page (connCopy conn) = false →
    ∃ t, exec (.papWwriteResponse conn) s = .next t ∧ (tabGet {} t.sessions (connCopy conn) : Session).waits = [] ∧
      Frame.holds ⟨[.out, .sessions], [(0x183, 0x183)], []⟩ s t ∧
      ∃ r : PapResponse, t.out = s.out ++ [.papResponse (connCopy conn) r] ∧ r.op = 0x85 ∧ r.tag = w.tag ∧
        (r.status = 0 ↔ s.get ((Reg.WIN_ERR.onPage w.page).by (connCopy conn)) = 0))

/-- R564, R565, R575 to R577: a BLOCK that is taken is being written and answered later, and once written it is listed, or sets
BLKCRC where it did not read back good; the first part of an object is staged, and an object with no reason against it is
installed whole. -/
def Obligations.UpdateTransfers : Prop :=
  (∀ (s : State) (q : PapRequest) (m : Option Manifest), papReady s none 0x10 q → q.page = 0x021 → q.arg.toNat < 2048 →
    mayWriteLane (requesterLanes s 9) (pageLane s 0x021) = true →
    crc32c (bytesOfWords ((q.data.take 16384).map (fun w => w.toNat))) = papWord q 16384 → blockTaken s q.arg.toNat = true →
    ∃ t, exec (.block none q m) s = .next t ∧ Frame.holds ⟨[.upd, .sessions], [(0x021, 0x021)], []⟩ s t ∧ t.get Reg.UPD_STAT_USTATE = 1 ∧
      ∃ w, t.upd.writing = some w ∧ w.index = q.arg.toNat ∧ w.tag = q.tag.toNat ∧
        w.bytes = bytesOfWords ((q.data.take 16384).map (fun w => w.toNat))) ∧
  (∀ (s : State) (w : BlockWrite), s.upd.writing = some w → (tabGet {} s.sessions 9 : Session).held = [] →
    (∃ t, exec (.updateBlockWritten false) s = .next t ∧ t.upd.writing = none ∧ t.get Reg.UPD_FAULT_BLKCRC = 1 ∧
      Frame.holds ⟨[.upd, .out, .sessions], [(0x021, 0x021)], []⟩ s t ∧ (blockAwaited s w = true → blockResponded s t w 0x10)) ∧
    (∃ t, exec (.updateBlockWritten true) s = .next t ∧ t.upd.writing = none ∧
      Frame.holds ⟨[.upd, .out, .sessions], [(0x021, 0x021)], []⟩ s t ∧ (blockAwaited s w = true → blockResponded s t w 0) ∧
      tabFind w.index (bankOf t (newBank t)).blocks = some w.bytes)) ∧
  (∀ (s : State) (q : PapRequest), papReady s none 0x11 q → q.page = 0 → argOk q.arg.toNat = true → q.arg.toNat % 2 ^ 20 = 0 →
    kindAccepted s 9 (argKind q.arg.toNat) = true → kindDenied s 9 (argKind q.arg.toNat) (argTask q.arg.toNat) = false →
    crc32c (bytesOfWords ((q.data.take 256).map (fun w => w.toNat))) = papWord q 256 →
    0 < papWord q 0 → papWord q 0 ≤ 16777212 →
    ∃ t, exec (.sheet none q) s = .next t ∧ papResponded s t none 0x11 q 0 [] ∧
      Frame.holds ⟨[.upd, .out, .sessions], [], []⟩ s t ∧
      ∃ x, tabFind 9 t.upd.staging = some x ∧ x.kind = argKind q.arg.toNat ∧ x.task = argTask q.arg.toNat ∧
        x.length = papWord q 0 ∧ x.parts.length = 1) ∧
  (∀ (s : State) (q : PapRequest) (o : SignedObject), papReady s none 0x12 q → q.page = 0 → argOk q.arg.toNat = true →
    q.arg.toNat % 2 ^ 20 = 0 → mode s = 1 →
    kindDenied (heard 9 s) 9 (argKind q.arg.toNat) (argTask q.arg.toNat) = false →
    installReason 9 (argKind q.arg.toNat) (argTask q.arg.toNat) o true (heard 9 s) = 0 →
    ∃ t, exec (.install none q o true) s = .next t ∧ papResponded s t none 0x12 q 0 [0] ∧ tabFind 9 t.upd.staging = none ∧
      Frame.holds ⟨[.out, .sessions, .log, .sheets, .prpt, .cte, .enc, .upd], [(0x007, 0x007), (0x020, 0x020), (0x040, 0x040),
        (0x048, 0x049), (0x100, 0x15F)], []⟩ s t ∧
      (∀ c, o = .charter c → t.sheets.charter = some c) ∧ (∀ p, o = .parapet p → t.sheets.parapet = some p) ∧
      (∀ c, o = .config c → t.sheets.config = some c) ∧
      (∀ i, o = .task i → (t.task (argTask q.arg.toNat)).staged = some i))

/-- R65 to R67: a handshake with a certified key opens the lowest free session with its lanes, one more than eight is refused,
and a closed session holds nothing. -/
def Obligations.PapSessions : Prop :=
  (∀ (s : State) (p : Fin 2) (udp : BitVec 16) (o : DtlsOffer) (root : Nat) (cert : BitVec 256) (k : Nat), papAccepts s = true →
    udp.toNat = s.get Reg.PAP_CFG_PORT → dtlsOk o = true → s.get Reg.ENC_STAT_ENTOK = 1 →
    s.bit (if p.val = 0 then Reg.PAP_CFG_V0EN else Reg.PAP_CFG_V1EN) = true → uplinkUp s p.val = true → k < 8 → sessionOpen s k = false → (∀ j < k, sessionOpen s j = true) → (charter s).roots.contains root = true →
    ∃ t, exec (.papHandshake p udp o root cert true) s = .next t ∧ sessionOpen t k = true ∧
      (tabGet {} t.sessions k : Session).lanes = certLanes s cert.toNat ∧ t.get (Reg.PAP_SINFO_OPEN.ix k) = 1 ∧
      t.get (Reg.PAP_SINFO_UPLINK.ix k) = p.val ∧ t.out = s.out) ∧
  (∀ (s : State) (p : Fin 2) (udp : BitVec 16) (o : DtlsOffer) (root : Nat) (cert : BitVec 256), papAccepts s = true →
    udp.toNat = s.get Reg.PAP_CFG_PORT → dtlsOk o = true → s.get Reg.ENC_STAT_ENTOK = 1 →
    s.bit (if p.val = 0 then Reg.PAP_CFG_V0EN else Reg.PAP_CFG_V1EN) = true → uplinkUp s p.val = true → (∀ j < 8, sessionOpen s j = true) →
    ∃ t, exec (.papHandshake p udp o root cert true) s = .next t ∧ t.get Reg.PAP_FAULT_REFUSED = 1 ∧ t.out = s.out ++ [.papRefused] ∧
      t.sessions = s.sessions) ∧
  (∀ (s : State) (k : Fin 8), sessionOpen s k.val = true →
    ∃ t, exec (.papSessionClose k) s = .next t ∧ sessionOpen t k.val = false ∧ t.get (Reg.PAP_SINFO_OPEN.ix k.val) = 0) ∧
  (∀ (s : State), sessionOpen s 9 = true → mode s ≠ 1 → mode s ≠ 5 →
    ∃ t, exec .svcDisconnect s = .next t ∧ sessionOpen t 9 = false ∧ t.get Reg.SVC_STAT_CONN = 0)

/-- R97, R99, R100: an update enters the queue of its class; the engine admits the head of the class it serves into the open
tick. -/
def Obligations.PointAdmission : Prop :=
  (∀ (s : State) (u : Update), srcClass u.src < 8 →
    ∃ t, exec (.pointUpdateSubmit u) s = .next t ∧
      (queueOpen s (srcClass u.src) → queueOf t (srcClass u.src) = queueOf s (srcClass u.src) ++ [u] ∧
        t.get (Reg.PNT_QIN_DEPTH.ix (srcClass u.src)) = (queueOf s (srcClass u.src)).length + 1) ∧
      (¬ queueOpen s (srcClass u.src) → queueOf t (srcClass u.src) = queueOf s (srcClass u.src) ∧
        tabGet [] t.pt.held (srcClass u.src) = tabGet [] s.pt.held (srcClass u.src) ++ [u])) ∧
  (∀ (s : State) (c i k : Nat) (u : Update) (us : List Update), admits s = true → nextServed s = some c → queueOf s c = u :: us →
    u.batch = 0 → headFate s u = .admitted i k → tabGet [] s.pt.held c = [] → s.pt.results = [] → (∀ p < 32, (s.segPort p).rxq = []) →
    ∃ t, exec .updateAdmission s = .next t ∧ t.pt.admitted = s.pt.admitted ++ [{ index := i, upd := u, rank := sourceRank s u }] ∧
      t.pt.capUsed = s.pt.capUsed + k ∧ queueOf t c = us)

/-- R82, R91, R93, R108: at the commit a value of the bound source becomes SV and PV of its record, with TS at the commit
instant; the next tick opens empty. -/
def Obligations.DeckTickCommit : Prop :=
  ∀ (s : State) (a : Admitted) (v : Nat), commits s = true → frozen s = false → s.bit Reg.PNT_STAT_READY = true →
    s.pt.admitted = [a] → s.pt.reports = [] → s.pt.results = [] → s.seg.returned = [] → s.acc.grants = [] → s.acc.waits = [] →
    (sheet s).tasks = [] → s.bit Reg.PNT_CTRL_PUBEN = false → a.upd.kind = .value v .valid → a.upd.path = .none →
    a.upd.src = boundSource (s.point a.index).addr → 2 ≤ (s.point a.index).typ → typeOk (s.point a.index).typ v = true →
    (s.point a.index).cmd = false → (s.point a.index).mirror = false → (s.point a.index).oos = false → tabFind a.index s.pt.forces = none →
    ∃ t, exec .deckTickCommit s = .next t ∧ (t.point a.index).pv = v ∧ (t.point a.index).sv = v ∧ (t.point a.index).qual = 1 ∧
      (t.point a.index).ts = (tickNow s + 1) * 1000 ∧ (t.point a.index).lastsrc = a.upd.src ∧ t.pt.admitted = [] ∧
      t.pt.capUsed = 0 ∧ t.pt.lastTick = tickNow s

/-- R93, R115, R127, R131: an input not renewed turns STALE, a record due for publication takes PV into LPV, a dirty unit is
written to MRAM, and the restore of the point store sets READY, ends STARTING and lets the engines run. -/
def Obligations.PointTimersAndRestore : Prop :=
  (∀ (s : State) (i : BitVec 20), (s.point i.toNat).typ ≠ 0 → (s.point i.toNat).staleto ≠ 0 → (s.point i.toNat).qual = 1 →
    (s.point i.toNat).cmd = false → (s.point i.toNat).mirror = false → (s.point i.toNat).pub = false →
    tabFind i.toNat s.pt.forces = none → (s.point i.toNat).forced = false → s.bit Reg.PNT_CTRL_PUBEN = false →
    ∃ t, exec (.staleTimeout i) s = .next t ∧ (t.point i.toNat).qual = 2 ∧ (t.point i.toNat).pv = (s.point i.toNat).pv ∧
      (t.point i.toNat).sv = (s.point i.toNat).sv ∧ (t.point i.toNat).rseq = ((s.point i.toNat).rseq + 1) % 65536) ∧
  (∀ (s : State) (i : BitVec 20), (s.point i.toNat).typ ≠ 0 → (s.point i.toNat).pub = true → (s.point i.toNat).mirror = false →
    (s.point i.toNat).maxpub ≠ 0 → tabGet {} s.pt.pubs i.toNat = {} → (sheet s).tasks = [] → s.bit Reg.PNT_CTRL_PUBEN = false →
    ∃ t, exec (.publicationTimer i) s = .next t ∧ (t.point i.toNat).lpv = (s.point i.toNat).pv ∧
      (tabGet {} t.pt.pubs i.toNat).last.isSome = true ∧ (tabGet {} t.pt.pubs i.toNat).pending = false) ∧
  (∀ (s : State) (u a : Nat), tabFind u s.pt.dirty = some a →
    ∃ t, exec (.persistenceWrite u) s = .next t ∧ tabFind u t.pt.dirty = none ∧
      t.get Reg.PNT_PERSW_COUNT = (s.get Reg.PNT_PERSW_COUNT + 1) % 2 ^ 32 ∧
      (u < 2 ^ 20 → tabFind u t.pt.images = some (imageOf (s.point u)))) ∧
  (∀ (s : State) (failed : List Nat), s.pwr.booting = false → s.bit Reg.PNT_STAT_READY = false → mode s ≤ 2 →
    s.get Reg.MODE_STAT_HCAUSE = 0 →
    ∃ t, exec (.pointStoreRestore failed) s = .next t ∧ t.get Reg.PNT_STAT_READY = 1 ∧ t.get Reg.PNT_STAT_RESTORING = 0 ∧
      t.get Reg.MODE_STAT_STARTING = 0 ∧ t.get Reg.CLE_CTRL_RUN = 1 ∧ t.get Reg.CTE_CTRL_RUN = 1 ∧ t.pt.admitted = [] ∧ t.pt.queues = [])

/-- R110, R113, R118, R119, R142 to R144: on the CMD and FORCE pages a level, its relinquish, the relinquish default, a force
and its release go to the engine as updates; the array and a force are read at once; the reserved operation of FORCE ends in
BAD_SELECT. -/
def Obligations.CommandAndForcePages : Prop :=
  (∀ (s : State) (r : Fin 16) (i : BitVec 20) (n : BitVec 5) (v : BitVec 64), s.get (Reg.CMD_CRES_BUSY.by r.val) = 0 →
    takesWrites s = true → queueOpen s 6 →
    (∃ t, exec (.cmdWriteLevel r i n v) s = .next t ∧ t.get (Reg.CMD_CRES_BUSY.by r.val) = 1 ∧
      t.get (Reg.CMD_CRES_DONE.by r.val) = 0 ∧ queueOf t 6 = queueOf s 6 ++
        [{ src := requesterSrc r.val, target := .idx i.toNat, kind := .level n.toNat v.toNat, path := .cmd r.val }]) ∧
    (∃ t, exec (.cmdRelinquishLevel r i n) s = .next t ∧ t.get (Reg.CMD_CRES_BUSY.by r.val) = 1 ∧
      t.get (Reg.CMD_CRES_DONE.by r.val) = 0 ∧ queueOf t 6 = queueOf s 6 ++
        [{ src := requesterSrc r.val, target := .idx i.toNat, kind := .relinquish n.toNat, path := .cmd r.val }])) ∧
  (∀ (s : State) (r : Fin 16) (i : BitVec 20) (v : BitVec 64), s.get (Reg.CMD_CRES_BUSY.by r.val) = 0 →
    takesWrites s = true → queueOpen s 6 → (s.point i.toNat).typ ≠ 0 → (requesterLanes s r.val).getLsbD 0 = true →
    ∃ t, exec (.cmdWriteRelinquishDefault r i v) s = .next t ∧ t.get (Reg.CMD_CRES_BUSY.by r.val) = 1 ∧
      queueOf t 6 = queueOf s 6 ++
        [{ src := requesterSrc r.val, target := .idx i.toNat, kind := .relDefault v.toNat, path := .cmd r.val }]) ∧
  (∀ (s : State) (r : Fin 16) (i : BitVec 20), s.get (Reg.CMD_CRES_BUSY.by r.val) = 0 → s.bit Reg.PNT_STAT_READY = true →
    (s.point i.toNat).typ ≠ 0 → (s.point i.toNat).cmd = true → mayReadLane (requesterLanes s r.val) (s.point i.toNat).lane = true →
    ∃ t, exec (.cmdReadArray r i) s = .next t ∧ t.get (Reg.CMD_CRES_DONE.by r.val) = 1 ∧ t.get (Reg.CMD_CRES_BUSY.by r.val) = 0 ∧
      t.get (Reg.CMD_CRES_RESULT.by r.val) = 0 ∧ t.get (Reg.CMD_AMASK_MASK.by r.val) = (s.point i.toNat).pamask % 2 ^ 16 ∧
      t.get (Reg.CMD_ARELLO_VAL.by r.val) = (s.point i.toNat).sv % 2 ^ 32 ∧ t.pt = s.pt) ∧
  (∀ (s : State) (r : Fin 16) (i : BitVec 20), (s.get (Reg.FORCE_FRES.by r.val)).testBit 31 = false → takesWrites s = true →
    (queueOpen s 6 → ∀ v : BitVec 64,
      ∃ t, exec (.forceApply r i v) s = .next t ∧ t.get (Reg.FORCE_FRES.by r.val) = 2 ^ 31 ∧ queueOf t 6 = queueOf s 6 ++
        [{ src := requesterSrc r.val, target := .idx i.toNat, kind := .force v.toNat, path := .force r.val }]) ∧
    (queueOpen s 6 →
      ∃ t, exec (.forceRelease r i) s = .next t ∧ t.get (Reg.FORCE_FRES.by r.val) = 2 ^ 31 ∧ queueOf t 6 = queueOf s 6 ++
        [{ src := requesterSrc r.val, target := .idx i.toNat, kind := .release, path := .force r.val }]) ∧
    ((s.point i.toNat).typ ≠ 0 → mayReadLane (requesterLanes s r.val) (s.point i.toNat).lane = true →
      ∃ t, exec (.forceRead r i) s = .next t ∧ t.get (Reg.FORCE_FRES.by r.val) = 2 ^ 30 + servedTick s ∧
        t.get (Reg.FORCE_FINFO_ACTIVE.by r.val) = (if (tabFind i.toNat s.pt.forces).isSome then 1 else 0) ∧ t.pt = s.pt) ∧
    (∃ t, exec (.forceReservedOp r i) s = .next t ∧ t.get (Reg.FORCE_FRES.by r.val) = 2 ^ 30 + 12 * 2 ^ 16 + servedTick s ∧ t.pt = s.pt))

/-- R138 to R141, R157: writes through the point window go to the engine with their part of the record, the reserved select ends
in BAD_SELECT, and an out-of-service request reports to every point of its node or port. -/
def Obligations.PointWindow : Prop :=
  (∀ (s : State) (r : Fin 16) (i : BitVec 20), winBusy s 0x041 r.val = false → takesWrites s = true → queueOpen s 6 →
    (∀ v : BitVec 64, ∃ t, exec (.pntwinValueWrite r i v) s = .next t ∧ winBusy t 0x041 r.val = true ∧ queueOf t 6 = queueOf s 6 ++
      [{ src := requesterSrc r.val, target := .idx i.toNat, kind := .value v.toNat .valid, path := .window r.val }]) ∧
    (∀ (d : Word) (mn mx st ma : BitVec 16), ∃ t, exec (.pntwinTuningWrite r i d mn mx st ma) s = .next t ∧
      winBusy t 0x041 r.val = true ∧ queueOf t 6 = queueOf s 6 ++
      [{ src := requesterSrc r.val, target := .idx i.toNat, kind := .tuning d.toNat mn.toNat mx.toNat st.toNat ma.toNat,
         path := .window r.val }]) ∧
    (∀ b : Bool, ∃ t, exec (.pntwinServiceWrite r i b) s = .next t ∧ winBusy t 0x041 r.val = true ∧ queueOf t 6 = queueOf s 6 ++
      [{ src := requesterSrc r.val, target := .idx i.toNat, kind := .service b, path := .window r.val }])) ∧
  (∀ (s : State) (r : Fin 16) (i : BitVec 20), winBusy s 0x041 r.val = false → takesWrites s = true →
    ∃ t, exec (.pntwinReservedSelect r i) s = .next t ∧ t.get ((Reg.WIN_ERR.onPage 0x041).by r.val) = 12 ∧ t.pt = s.pt) ∧
  (∀ (s : State) (p : Fin 32) (n : Option (Fin 64)) (b : Bool), undisturbed s (0x100 + p.val) →
    ∃ t, exec (.oosServiceRequest p n b) s = .next t ∧
      t.pt.reports = s.pt.reports ++ (pointsOf s p.val (n.map Fin.val)).map (fun i => PointReport.oos i b))

/-- R155, R157, R158, R177, R657: enabling, disabling and restarting a port, and its service state, on every port without the
PBUS personality (PCFG.PERS not 1) whose change leaves the shortfall of failed ports as it is. -/
def Obligations.PortControl : Prop :=
  (∀ (s : State) (p : Fin 32), pstate s p.val = 0 → portsMayRun s = true → 1 ≤ storedGrade s p.val → storedGrade s p.val ≤ 4 →
    s.get (Reg.SEG_POOS_OOS.inst p.val) = 0 → pers s p.val = 0 → undisturbed s (0x100 + p.val) →
    ∃ t, exec (.segEnable p) s = .next t ∧ t.get (Reg.SEG_CTRL_EN.inst p.val) = 1 ∧ pstate t p.val = 2) ∧
  (∀ (s : State) (p : Fin 32), pers s p.val ≠ 1 → undisturbed s (0x100 + p.val) →
    (s.get Reg.MODE_STAT_SHORT).testBit 3 = (List.range 32).any (fun n => n ≠ p.val && pstate s n = 6) →
    ∃ t, exec (.segDisable p) s = .next t ∧ t.get (Reg.SEG_CTRL_EN.inst p.val) = 0 ∧ pstate t p.val = 0) ∧
  (∀ (s : State) (p : Fin 32), pstate s p.val = 6 → engineFree s (p.val / 8) = true → pers s p.val ≠ 1 → undisturbed s (0x100 + p.val) →
    (s.get Reg.MODE_STAT_SHORT).testBit 3 = (List.range 32).any (fun n => n ≠ p.val && pstate s n = 6) →
    ∃ t, exec (.portRestart p) s = .next t ∧ pstate t p.val = 1 ∧ t.get (Reg.SEG_STAT_SVYBUSY.inst p.val) = 1) ∧
  (∀ (s : State) (p : Fin 32), pstate s p.val = 3 ∨ pstate s p.val = 4 → pers s p.val ≠ 1 → undisturbed s (0x100 + p.val) →
    ∃ t, exec (.portOosSet p) s = .next t ∧ t.get (Reg.SEG_POOS_OOS.inst p.val) = 1 ∧ pstate t p.val = 5) ∧
  (∀ (s : State) (p : Fin 32), pstate s p.val = 5 → pers s p.val ≠ 1 → undisturbed s (0x100 + p.val) →
    ∃ t, exec (.portOosClear p) s = .next t ∧ t.get (Reg.SEG_POOS_OOS.inst p.val) = 0 ∧ pstate t p.val = 3) ∧
  (∀ (s : State) (p : Fin 32) (j : Fin 64), pers s p.val ≠ 1 → (noos s p.val).testBit j.val = false → undisturbed s (0x100 + p.val) →
    ∃ t, exec (.nodeOosSet p j) s = .next t ∧ (noos t p.val).testBit j.val = true) ∧
  (∀ (s : State) (p : Fin 32) (j : Fin 64), (noos s p.val).testBit j.val = true → undisturbed s (0x100 + p.val) →
    ∃ t, exec (.nodeOosClear p j) s = .next t ∧ (noos t p.val).testBit j.val = false ∧
      tabFind j.val (t.segPort p.val).oosWait = some ((s.get (Reg.SEG_BSEQ_LAST.inst p.val) + 1) % 65536)) ∧
  (∀ (s : State) (p : Fin 32) (c : Fin 4), pstate s p.val = 2 → pers s p.val ≠ 1 → (s.get Reg.MODE_STAT_SHORT).testBit 3 = true →
    (c.val = 2 → closed s p.val = false) →
    ∃ t, exec (.portFail p c) s = .next t ∧ pstate t p.val = 6 ∧ t.get (Reg.SEG_FAULT_PORTFAIL.inst p.val) = 1)

/-- R173, R175 to R177: a survey request waits for the group's engine, a free engine starts the first of its queue, and a survey
that meets a foreign voltage ends after 200 ms with grade FAILED, fault kind 5 and both fault bits. -/
def Obligations.Surveys : Prop :=
  (∀ (s : State) (p : Fin 32) (b : Bool), 3 ≤ mode s → mode s ≤ 6 → pstate s p.val = 2 → engineFree s (p.val / 8) = false →
    undisturbed s (0x100 + p.val) →
    (svyQueue s (p.val / 8)).length < 8 → (s.get Reg.MODE_STAT_SHORT).testBit 3 = (List.range 32).any (fun n => pstate s n = 6) →
    ∃ t, exec (.surveyRequest p b) s = .next t ∧ svyQueue t (p.val / 8) = svyQueue s (p.val / 8) ++ [p.val] ∧
      t.get (Reg.SEG_STAT_SVYQUEUED.inst p.val) = 1) ∧
  (∀ (s : State) (p : Fin 32) (b : Bool), mode s = 0 ∨ mode s = 2 ∨ mode s = 7 → undisturbed s (0x100 + p.val) →
    (s.get Reg.MODE_STAT_SHORT).testBit 3 = (List.range 32).any (fun n => pstate s n = 6) →
    ∃ t, exec (.surveyRequest p b) s = .next t ∧ t.get (Reg.SEG_FAULT_SVYREJ.inst p.val) = 1 ∧ pstate t p.val = pstate s p.val) ∧
  (∀ (s : State) (g : Fin 4) (p : Nat) (q : List Nat), svyQueue s g.val = p :: q → p < 32 → p / 8 = g.val → engineFree s g.val = true →
    portsMayRun s = true ∨ mode s = 1 →
    pers s p ≠ 1 → (s.get Reg.MODE_STAT_SHORT).testBit 3 = (List.range 32).any (fun n => n ≠ p && pstate s n = 6) →
    ∃ t, exec (.surveyStart g) s = .next t ∧ pstate t p = 1 ∧ t.get (Reg.SEG_STAT_SVYBUSY.inst p) = 1 ∧ svyQueue t g.val = q ∧
      tabFind g.val t.seg.svyBusy = some p) ∧
  (∀ (s : State) (p : Fin 32) (m : SurveyMeasure), pstate s p.val = 1 → foreignVoltage m = true →
    ∃ t, exec (.surveyComplete p m) s = .next t ∧ t.get (Reg.SEG_SVYRES_GRADE.inst p.val) = 5 ∧
      t.get (Reg.SEG_SVYRES_FLTCODE.inst p.val) = 5 ∧ t.get (Reg.SEG_FAULT_FOREIGNV.inst p.val) = 1 ∧
      t.get (Reg.SEG_FAULT_SVYFAIL.inst p.val) = 1 ∧ t.get (Reg.SEG_STAT_SVYVALID.inst p.val) = 1 ∧
      t.get (Reg.SEG_STAT_SVYBUSY.inst p.val) = 0 ∧ t.now = max s.now ((s.segPort p.val).svyAt + 200000000) ∧
      pstate t p.val = if portsMayRun s then 2 else 0)

/-- R150, R151, R155, R156, R160: the line of a port: link up and down, the beacon of a running port, and NOJOIN after 10 s. -/
def Obligations.PortLine : Prop :=
  (∀ (s : State) (p : Fin 32) (q : Fin 8) (l : Bool), pers s p.val = 0 → s.get (Reg.LINK_LCFG_T1LLVL.inst p.val) = 0 →
    s.bit Reg.CLK_STAT_FALLBACK = false → s.get (Reg.LINK_STAT_LINKUP.inst p.val) = 0 → pstate s p.val = 2 →
    1 ≤ storedGrade s p.val → storedGrade s p.val ≤ 4 →
    ∃ t, exec (.t1lLinkUp p l q) s = .next t ∧ t.get (Reg.LINK_STAT_LINKUP.inst p.val) = 1 ∧
      t.get (Reg.LINK_STAT_LVL10.inst p.val) = (if l then 1 else 0) ∧ t.get (Reg.LINK_SQI_LEVEL.inst p.val) = q.val ∧
      pstate t p.val = 3) ∧
  (∀ (s : State) (p : Fin 32), pers s p.val = 0 → s.get (Reg.LINK_STAT_LINKUP.inst p.val) = 1 →
    ∃ t, exec (.t1lLinkLost p) s = .next t ∧ t.get (Reg.LINK_STAT_LINKUP.inst p.val) = 0 ∧ hubAddr t p.val = 0 ∧
      pstate t p.val = pstate s p.val ∧
      (pstate s p.val = 4 → t.get (Reg.LINK_FAULT_LINKDN.inst p.val) = 1 ∧
        t.get (Reg.LINK_LINKDN_COUNT.inst p.val) = min (s.get (Reg.LINK_LINKDN_COUNT.inst p.val) + 1)
          (2 ^ (Reg.LINK_LINKDN_COUNT.inst p.val).width - 1))) ∧
  (∀ (s : State) (p : Fin 32), pers s p.val = 0 → s.get (Reg.LINK_STAT_LINKUP.inst p.val) = 1 → pstate s p.val = 4 →
    (s.segPort p.val).beaconOut = false →
    ∃ t, exec (.beaconSend p) s = .next t ∧ pstate t p.val = 4 ∧
      t.get (Reg.SEG_BSEQ_LAST.inst p.val) = (s.get (Reg.SEG_BSEQ_LAST.inst p.val) + 1) % 65536 ∧
      (t.segPort p.val).beaconOut = true ∧
      ∃ bytes, t.out = s.out ++ [.fpm p.val allNodes (s.get (Reg.LINK_FPMPORT_PORT.inst p.val)) bytes]) ∧
  (∀ (s : State) (p : Fin 32), pstate s p.val = 3 → (s.segPort p.val).joinEchoed = 0 →
    ∃ t, exec (.nojoinTimeout p) s = .next t ∧ t.get (Reg.SEG_FAULT_NOJOIN.inst p.val) = 1 ∧
      t.now = max s.now ((s.segPort p.val).joinSince + 10000000000))

/-- R160, R165, R168 to R170: frames of the port protocol: an echo marks its node present, a data frame takes its item to its
point, an acknowledgement ends its command, and a frame with a bad CRC is counted. Commands to the nodes of a port: a message
with its items leaves, is sent again up to three times, and the RS-485 master polls its nodes in turn and gives a silent one up.
-/
def Obligations.PortFramesAndCommands : Prop :=
  (∀ (s : State) (p : Fin 32) (a : BitVec 128) (j : Fin 64) (d b : BitVec 16), pers s p.val = 2 → osdpPort s p.val = false →
    pstate s p.val = 4 → (nexp s p.val).testBit j.val = true → (s.segPort p.val).beaconOut = true →
    seqLater b.toNat (s.get (Reg.SEG_BSEQ_LAST.inst p.val)) = true →
    ∃ t, exec (.fpmEchoReceive p true a d j b) s = .next t ∧ (nup t p.val).testBit j.val = true ∧
      (t.segPort p.val).echoed.testBit j.val = true) ∧
  (∀ (s : State) (p : Fin 32) (a : BitVec 128) (j : Fin 64) (d b : BitVec 16), pers s p.val ≠ 1 → osdpPort s p.val = false →
    (pers s p.val = 0 → d.toNat = s.get (Reg.LINK_FPMPORT_PORT.inst p.val)) → pstate s p.val = 4 →
    ∃ t, exec (.fpmEchoReceive p false a d j b) s = .next t ∧ t.seg = s.seg ∧ t.pt = s.pt ∧
      t.get (Reg.LINK_CRCERR_COUNT.inst p.val) = min (s.get (Reg.LINK_CRCERR_COUNT.inst p.val) + 1)
        (2 ^ (Reg.LINK_CRCERR_COUNT.inst p.val).width - 1)) ∧
  (∀ (s : State) (p : Fin 32) (a : BitVec 128) (j : Fin 64) (d b : BitVec 16) (i : FpmItem) (m : MapEntry) (u : Update),
    pers s p.val = 2 → osdpPort s p.val = false → pstate s p.val = 4 → (nexp s p.val).testBit j.val = true → (s.segPort p.val).beaconOut = false →
    (s.segPort p.val).visit = none → nodeOpen s p.val j.val = true → mapIn s p.val j.val i.item.toNat = some m →
    itemUpdate s p.val j.val (nodeLane s p.val j.val) m i.value.toNat (itemFlag i.flags.toNat) = some u →
    (s.segPort p.val).rxq = [] → ingressFull s = false → queueOpen s (srcClass u.src) →
    ∃ t, exec (.fpmDataReceive p true a d j b [i]) s = .next t ∧ queueOf t (srcClass u.src) = queueOf s (srcClass u.src) ++ [u]) ∧
  (∀ (s : State) (p : Fin 32) (a : BitVec 128) (j : Fin 64) (d b q : BitVec 16) (m : CmdMsg) (c : CmdItem) (i : BitVec 16),
    pers s p.val = 2 → osdpPort s p.val = false → pstate s p.val = 4 → (nexp s p.val).testBit j.val = true → (s.segPort p.val).beaconOut = false →
    (s.segPort p.val).visit = none → (tabFind j.val (s.segPort p.val).oosWait).isNone = true →
    (s.segPort p.val).sent = [m] → m.node = j.val → m.seq = q.toNat → m.items = [c] → c.item = i.toNat →
    ∃ t, exec (.fpmAckReceive p true a d j b q [(i, false)]) s = .next t ∧ (t.segPort p.val).sent = [] ∧
      t.pt.reports = s.pt.reports ++ [.delivered c.index]) ∧
  (∀ (s : State) (p : Fin 32) (j : Fin 64) (c : CmdItem), pers s p.val = 0 → s.get (Reg.LINK_STAT_LINKUP.inst p.val) = 1 →
    nodeOpen s p.val j.val = true → (s.segPort p.val).cmds = [c] → c.node = j.val →
    (s.point c.index).lane = nodeLane s p.val j.val → frameFits s (fpmNs s p.val 20) = true →
    ∃ t, exec (.commandSend p j) s = .next t ∧ (t.segPort p.val).cmds = [] ∧
      (t.segPort p.val).sent = (s.segPort p.val).sent ++
        [{ node := j.val, seq := (s.segPort p.val).txSeq, items := [c], sentAt := s.now }] ∧
      (t.segPort p.val).txSeq = ((s.segPort p.val).txSeq + 1) % 65536 ∧
      ∃ bytes, t.out = s.out ++ [.fpm p.val (hubAddr s p.val) (s.get (Reg.LINK_FPMPORT_PORT.inst p.val)) bytes]) ∧
  (∀ (s : State) (p : Fin 32) (q : BitVec 16) (m : CmdMsg), pers s p.val = 0 → (s.segPort p.val).sent = [m] → m.seq = q.toNat → m.node < 64 →
    (m.attempts < 3 → cmdMayGo s p.val m.node = true → frameFits s (fpmNs s p.val (8 + 12 * m.items.length)) = true → paired s = false →
      ∃ t, exec (.commandAckTimeout p q) s = .next t ∧
        t.now = max s.now (m.sentAt + s.get (Reg.LINK_LCFG_CMDTO.inst p.val) * 1000000) ∧
        (t.segPort p.val).sent = [{ m with attempts := m.attempts + 1, sentAt := t.now, items := itemsAgain s m }] ∧
        ∃ bytes, t.out = s.out ++ [.fpm p.val (hubAddr s p.val) (s.get (Reg.LINK_FPMPORT_PORT.inst p.val)) bytes]) ∧
    (3 ≤ m.attempts →
      ∃ t, exec (.commandAckTimeout p q) s = .next t ∧ (t.segPort p.val).sent = [] ∧
        t.pt.reports = s.pt.reports ++ m.items.map (fun c => PointReport.undelivered c.index))) ∧
  (∀ (s : State) (p : Fin 32) (j : Nat), pers s p.val = 2 → s.get (Reg.LINK_LCFG_FRAMING.inst p.val) = 0 → pstate s p.val = 4 →
    (s.segPort p.val).visit = none → nextVisit s p.val = some j → j < 64 → (s.segPort p.val).cmds = [] →
    ∃ t, exec (.s485Poll p) s = .next t ∧ (t.segPort p.val).visit = some { node := j, attempts := 1, sentAt := s.now } ∧
      (t.segPort p.val).pollNext = (j + 1) % 64 ∧ ∃ bytes, t.out = s.out ++ [.fpm p.val 0 0 bytes]) ∧
  (∀ (s : State) (p : Fin 32) (v : Visit), (s.segPort p.val).visit = some v → 2 ≤ v.attempts → (s.segPort p.val).sent = [] →
    ∃ t, exec (.s485ResponseTimeout p false) s = .next t ∧ (t.segPort p.val).visit = none ∧
      t.now = max s.now (v.sentAt + s.get (Reg.LINK_LCFG_RESPTO.inst p.val) * 1000000) ∧
      t.get (Reg.LINK_TIMEOUT_COUNT.inst p.val) = min (s.get (Reg.LINK_TIMEOUT_COUNT.inst p.val) + 1)
        (2 ^ (Reg.LINK_TIMEOUT_COUNT.inst p.val).width - 1))

/-- R179, R181, R184 to R186: the switch of a field feed closes when it is the next one due, passes from START to ON, limits the
current in LIMIT, recloses from BACKOFF, and leaves LATCHED on FCLR; every trip (at the end of LIMIT, on a fast overcurrent, on
overtemperature) counts in FTRIPS and CONSEC, sets FTRIP, and takes the switch to BACKOFF, or at TRIPMAX to LATCHED. -/
def Obligations.FieldFeeds : Prop :=
  (∀ (s : State) (p : Fin 32), mayClose s p.val = true → fstate s p.val < 2 → supplyAllows s = true →
    firstPort s (dueToClose s) = some p.val →
    ∃ t, exec (.feedClose p) s = .next t ∧ fstate t p.val = 2 ∧ t.now = max s.now (closeSpacing s) ∧
      (feed t p.val).closedAt = t.now ∧ t.seg.lastClose = some t.now) ∧
  (∀ (s : State) (p : Fin 32), fstate s p.val = 2 →
    ∃ t, exec (.feedStartWindowEnd p) s = .next t ∧ fstate t p.val = 3 ∧
      t.now = max s.now ((feed s p.val).closedAt + 52000000) ∧ (feed t p.val).onSince = t.now) ∧
  (∀ (s : State) (p : Fin 32) (i : BitVec 16), closed s p.val = true →
    ∃ t, exec (.feedCurrentLimit p i) s = .next t ∧
      (feedLimit s p.val < i.toNat → fstate t p.val = 4 ∧ t.get (Reg.SEG_FMEAS_FCUR.inst p.val) = feedLimit s p.val % 65536) ∧
      (i.toNat ≤ feedLimit s p.val → fstate t p.val ≠ 4 ∧ t.get (Reg.SEG_FMEAS_FCUR.inst p.val) = i.toNat)) ∧
  (∀ (s : State) (p : Fin 32), fstate s p.val = 5 → mayClose s p.val = true → supplyAllows s = true →
    ∃ t, exec (.feedBackoffExpiry p) s = .next t ∧ fstate t p.val = 2 ∧
      t.now = max (max s.now (feed s p.val).backoffEnd) (closeSpacing s)) ∧
  (∀ (s : State) (p : Fin 32), fstate s p.val = 3 →
    ∃ t, exec (.feedConsecReset p) s = .next t ∧ t.get (Reg.SEG_FTRIPST_CONSEC.inst p.val) = 0 ∧ fstate t p.val = 3 ∧
      t.now = max s.now ((feed s p.val).onSince + 10000000000)) ∧
  (∀ (s : State) (p : Fin 32), fstate s p.val = 6 → s.get (Reg.SEG_FCFG_FMODE.inst p.val) = 1 → mayClose s p.val = true →
    supplyAllows s = true →
    undisturbed s (0x100 + p.val) → firstPort s (p.val :: dueToClose s) = some p.val →
    ∃ t, exec (.feedClear p) s = .next t ∧ fstate t p.val = 2 ∧ t.get (Reg.SEG_FTRIPST_CONSEC.inst p.val) = 0) ∧
  (∀ (s : State) (p : Fin 32), fstate s p.val = 6 → mayClose s p.val = false → undisturbed s (0x100 + p.val) →
    ∃ t, exec (.feedClear p) s = .next t ∧ fstate t p.val = 0 ∧ t.get (Reg.SEG_FTRIPST_CONSEC.inst p.val) = 0) ∧
  (∀ (s : State) (p : Fin 32) (c : Instr),
    (c = .feedLimitTrip p ∧ fstate s p.val = 4) ∨
    (∃ i : BitVec 16, c = .feedFastTrip p i ∧ closed s p.val = true ∧ (i.toNat > 2 * feedLimit s p.val ∨ i.toNat > 2200)) ∨
    (c = .feedOvertempTrip p ∧ closed s p.val = true) →
    ∃ t, exec c s = .next t ∧ t.get (Reg.SEG_FAULT_FTRIP.inst p.val) = 1 ∧
      t.get (Reg.SEG_FTRIPS_COUNT.inst p.val) = min (s.get (Reg.SEG_FTRIPS_COUNT.inst p.val) + 1) (2 ^ 32 - 1) ∧
      t.get (Reg.SEG_FTRIPST_CONSEC.inst p.val) = min (s.get (Reg.SEG_FTRIPST_CONSEC.inst p.val) + 1) 15 ∧
      fstate t p.val = (if s.get (Reg.SEG_FCEIL_TRIPMAX.inst p.val) ≤ min (s.get (Reg.SEG_FTRIPST_CONSEC.inst p.val) + 1) 15
        then 6 else 5))

/-- R180, R182, R183, R185: a limit in range is taken and cut at the ceiling, an overload sheds one port, a shed port recloses,
and PoDL takes a class that the limit allows and reports a rail out of range. -/
def Obligations.FeedLimitsAndShedding : Prop :=
  (∀ (s : State) (p : Fin 32) (v : BitVec 7), undisturbed s (0x100 + p.val) →
    ∃ t, exec (.feedLimitWrite p v) s = .next t ∧
      (5 ≤ v.toNat → v.toNat ≤ 100 → t.get (Reg.SEG_FCFG_FLIM.inst p.val) = v.toNat ∧
        t.get (Reg.SEG_FCFG_FEFF.inst p.val) = min v.toNat (s.get (Reg.SEG_FCEIL_CEIL.inst p.val))) ∧
      (¬ (5 ≤ v.toNat ∧ v.toNat ≤ 100) → t.get (Reg.SEG_FCFG_FLIM.inst p.val) = s.get (Reg.SEG_FCFG_FLIM.inst p.val) ∧
        t.get (Reg.SEG_FCFG_FEFF.inst p.val) = s.get (Reg.SEG_FCFG_FEFF.inst p.val))) ∧
  (∀ (s u : State) (is : List (BitVec 16)) (g p : Nat), u = currents (is.map BitVec.toNat) (s.reach (shedInstant s)) →
    [0, 1, 2, 3].find? (fun g => groupSum u g > 6000) = some g → shedChoice u ((List.range 8).map (fun k => g * 8 + k)) = some p →
    ∃ t, exec (.feedShed is) s = .next t ∧ (fstate t p = 7 ∨ fstate t p = 6) ∧ t.get (Reg.SEG_FAULT_FSHED.inst p) = 1 ∧
      t.get (Reg.SEG_FSHEDI_MA.inst p) = u.get (Reg.SEG_FMEAS_FCUR.inst p) % 65536 ∧ t.seg.lastShed = some t.now) ∧
  (∀ (s u : State) (is : List (BitVec 16)) (p : Nat), u = currents (is.map BitVec.toNat) (s.reach (recloseInstant s)) →
    firstPort u ((shedPorts u).filter (shedReady u)) = some p → supplyAllows u = true → firstPort u (dueToClose u) = some p →
    ∃ t, exec (.feedShedReclose is) s = .next t ∧ fstate t p = 2 ∧ t.seg.lastReclose = some t.now) ∧
  (∀ (s : State) (p : Fin 32) (c : Fin 16) (w : Nat), s.get (Reg.SEG_FCFG_FMODE.inst p.val) = 2 → pers s p.val = 0 → fstate s p.val < 2 →
    ∃ t, exec (.podlDetection p (some (c, w)) true) s = .next t ∧ t.get (Reg.SEG_PDL_CLASS.inst p.val) = c.val ∧
      t.get (Reg.SEG_PDL_CVALID.inst p.val) = 1 ∧ t.now = max s.now (feed s p.val).detectAt ∧
      (limitMw s p.val < w → fstate t p.val = 6 ∧ t.get (Reg.SEG_FAULT_CLASSDENY.inst p.val) = 1) ∧
      (w ≤ limitMw s p.val → fstate t p.val = fstate s p.val)) ∧
  (∀ (s : State) (p : Fin 32), s.get (Reg.SEG_FCFG_FMODE.inst p.val) = 2 → closed s p.val = true →
    ∃ t, exec (.podlRailOutOfRange p) s = .next t ∧ t.get (Reg.SEG_FAULT_PDLRANGE.inst p.val) = 1 ∧ fstate t p.val = fstate s p.val)

/-- R197, R212, R221, R235, R241: what a PBUS port does with frames it receives: it counts only while it monitors, discards an
identifier in no range, and puts one of a range without a message into the receive queue. -/
def Obligations.BusReception : Prop :=
  (∀ (s : State) (p : Fin 32) (f : CanFrame) (u : BitVec 64) (b : Bool), pers s p.val = 1 → s.get (Reg.PBUS_STAT_ECS.inst p.val) ≠ 2 →
    s.get (Reg.PBUS_STAT_MON.inst p.val) = 1 →
    ∃ t, exec (.pbusFrameReceive p f u b) s = .next t ∧ t.pbus = s.pbus ∧ t.pt = s.pt ∧ t.seg = s.seg ∧
      t.get (Reg.PBUS_RXOK_COUNT.inst p.val) = (s.get (Reg.PBUS_RXOK_COUNT.inst p.val) + 1) % 2 ^ 32) ∧
  (∀ (s : State) (p : Fin 32) (f : CanFrame) (u : BitVec 64) (b : Bool), busLive s p.val = true →
    s.get (Reg.PBUS_STAT_MON.inst p.val) = 0 → f.rtr = false → (s.bus p.val).confirms = [] →
    reservedId (pcfg s p.val) f.ide f.id.toNat = false → rangeOf s p.val f.ide f.id.toNat = none →
    ∃ t, exec (.pbusFrameReceive p f u b) s = .next t ∧ t.get (Reg.PBUS_FAULT_UNKNOWN.inst p.val) = 1 ∧
      t.get (Reg.PBUS_RXOK_COUNT.inst p.val) = (s.get (Reg.PBUS_RXOK_COUNT.inst p.val) + 1) % 2 ^ 32) ∧
  (∀ (s : State) (p : Fin 32) (f : CanFrame) (u : BitVec 64) (r : IdRange), busLive s p.val = true →
    s.get (Reg.PBUS_STAT_MON.inst p.val) = 0 → f.rtr = false → (s.bus p.val).confirms = [] →
    reservedId (pcfg s p.val) f.ide f.id.toNat = false → rangeOf s p.val f.ide f.id.toNat = some r → r.rxq = true →
    matchMsg s p.val f = none → s.get (Reg.PBUS_RXQBASELO_ADDR.inst p.val) ≠ 0 → s.get (Reg.PBUS_STAT_RXQFULL.inst p.val) = 0 →
    ∃ t, exec (.pbusFrameReceive p f u false) s = .next t ∧
      t.get (Reg.PBUS_RXQPUT_PUT.inst p.val) = (s.get (Reg.PBUS_RXQPUT_PUT.inst p.val) + 1) % 512 ∧
      (t.bus p.val).eseq = ((s.bus p.val).eseq + 1) % 65536) ∧
  (∀ (s : State) (p : Fin 32) (c : Fin 2) (g : BitVec 9), undisturbed s (0x120 + p.val) →
    (g.toNat + 512 - s.get (Reg.PBUS_RXQGET_GET.inst p.val)) % 512 ≤
      (s.get (Reg.PBUS_RXQPUT_PUT.inst p.val) + 512 - s.get (Reg.PBUS_RXQGET_GET.inst p.val)) % 512 →
    ∃ t, exec (.rxqGetWrite p c g) s = .next t ∧ t.get (Reg.PBUS_RXQGET_GET.inst p.val) = g.toNat) ∧
  (∀ (s : State) (p : Fin 32) (d : Bool) (k : Fin 6), busLive s p.val = true → s.get (Reg.PBUS_STAT_MON.inst p.val) = 0 →
    recOf s p.val < 127 →
    ∃ t, exec (.pbusReceiveError p d k false) s = .next t ∧ recOf t p.val = recOf s p.val + 1 ∧ t.out = s.out ++ [.canError p.val])

/-- R215, R217 to R219, R229, R231, R232: the transmit side of a PBUS port: the beacon starts when the line is free, and the
firmware frame of a slot completes, is offered again, or is cancelled. -/
def Obligations.BusTransmission : Prop :=
  (∀ (s : State) (p : Fin 32) (f : CanFrame) (fs : List CanFrame), lineReady s p.val = true → (pcfg s p.val).tten = false →
    pstate s p.val ≠ 5 → fittingShadow p.val (fun _ => true) s = (s, none) → txState s p.val 63 = 1 → (s.bus p.val).beacon = f :: fs →
    ∃ t, exec (.pbusTxStart p) s = .next t ∧ txState t p.val 63 = 2 ∧ t.out = s.out ++ [.canStart p.val f] ∧
      (t.bus p.val).tx = some { target := .slot 63 none, frame := f, win := .event, startedAt := s.now }) ∧
  (∀ (s : State) (p : Fin 32) (x : Transmission) (j : Nat), (s.bus p.val).tx = some x → x.target = .slot j none → j < 63 →
    x.late = false → portsMayRun s = true → slotMsgs s p.val j = [] →
    (∃ t, exec (.pbusTxComplete p) s = .next t ∧ (t.bus p.val).tx = none ∧ txState t p.val j = 3 ∧
      t.get ((Reg.PBUS_TXSTAT_SENT.inst p.val).ix j) = 1 ∧ tabFind j (t.bus p.val).frames = none ∧
      t.get (Reg.PBUS_TXOK_COUNT.inst p.val) = (s.get (Reg.PBUS_TXOK_COUNT.inst p.val) + 1) % 2 ^ 32) ∧
    (∃ t, exec (.pbusArbitrationLost p) s = .next t ∧ (t.bus p.val).tx = none ∧ txState t p.val j = 1 ∧
      t.get ((Reg.PBUS_TXSTAT_MISSED.inst p.val).ix j) = (if x.win = .excl then 1 else 0)) ∧
    (∀ (d : Bool) (k : Fin 6) (e : Bool), ∃ t, exec (.pbusTxError p d k e) s = .next t ∧ (t.bus p.val).tx = none ∧ txState t p.val j = 1 ∧
      (errorExempt s p.val d k.val e = false →
        t.get (Reg.PBUS_ERRC_TEC.inst p.val) = min (s.get (Reg.PBUS_ERRC_TEC.inst p.val) + 8) 511) ∧
      t.out = s.out ++ [.canError p.val])) ∧
  (∀ (s : State) (p : Fin 32) (j : Fin 63), undisturbed s (0x100 + p.val) → txState s p.val j.val = 1 →
    ∃ t, exec (.pbusSlotCancel p (1#64 <<< j.val)) s = .next t ∧ txState t p.val j.val = 3 ∧
      t.get ((Reg.PBUS_TXSTAT_CANCELLED.inst p.val).ix j.val) = 1 ∧ slotMsgs t p.val j.val = [] ∧
      tabFind j.val (t.bus p.val).frames = none)

/-- R214, R218, R220, R224, R227, R228, R231, R236, R237, R239, R243: shadow buffers are armed by an emergency source within its
lanes and cancelled off the line, and firmware fills a slot of its own; bus-off, its recovery and the end of integration; the
reference opens a basic cycle, its absence voids the cycle, a pending slot whose window passed is MISSED, the hold after a
foreign reference ends, and an unconfirmed message is not delivered. Firmware starts no recovery while the third bus-off latches. -/
def Obligations.BusBuffersAndErrors : Prop :=
  (∀ (s : State) (p : Fin 32) (k : Fin 4) (c : BitVec 16) (f : CanFrame), srcClass c.toNat = 0 →
    idLaneOk s p.val (writeSet s c.toNat none) f = true → (shadowOf s p.val k.val).armedAt = none →
    ∃ t, exec (.pbusShadowArm p k c f) s = .next t ∧
      (shadowOf t p.val k.val).frame = some f ∧ (shadowOf t p.val k.val).armedAt = some s.now ∧ t.get (shField p.val k.val) = 8) ∧
  (∀ (s : State) (p : Fin 32) (k : Fin 4), undisturbed s (0x100 + p.val) → (shadowOf s p.val k.val).frame.isSome = true →
    (s.bus p.val).tx = none →
    ∃ t, exec (.pbusShadowCancel p (1#4 <<< k.val)) s = .next t ∧ (shadowOf t p.val k.val).frame = none ∧
      t.get (shField p.val k.val) = 1) ∧
  (∀ (s : State) (p : Fin 32) (c : Fin 2) (j : Nat), undisturbed s (0x120 + p.val) →
    s.get ((Reg.PBUS_FTXSEL_SEL.inst p.val).by (14 + c.val)) = j → j ≤ 62 →
    s.get ((Reg.PBUS_SLOTCFG_OWNER.inst p.val).ix j) = 1 → txState s p.val j = 0 →
    reservedId (pcfg s p.val) (ftxFrame s p.val (14 + c.val)).ide (ftxFrame s p.val (14 + c.val)).id.toNat = false →
    idLaneOk s p.val (requesterLanes s (14 + c.val)) (ftxFrame s p.val (14 + c.val)) = true →
    ∃ t, exec (.pbusFirmwareSubmit p c) s = .next t ∧ txState t p.val j = 1 ∧
      tabFind j (t.bus p.val).frames = some (ftxFrame s p.val (14 + c.val)) ∧
      t.get ((Reg.PBUS_FTXRES_RESULT.inst p.val).by (14 + c.val)) = 0) ∧
  (∀ (s : State) (p : Fin 32), 255 < s.get (Reg.PBUS_ERRC_TEC.inst p.val) → s.get (Reg.PBUS_STAT_ECS.inst p.val) ≠ 2 →
    (s.bus p.val).tx = none →
    ∃ t, exec (.pbusBusOff p) s = .next t ∧ t.get (Reg.PBUS_STAT_ECS.inst p.val) = 2 ∧ t.get (Reg.PBUS_FAULT_BUSOFF.inst p.val) = 1 ∧
      (t.bus p.val).busoffs.head? = some s.now ∧ (t.bus p.val).confirms = []) ∧
  (∀ (s : State) (p : Fin 32) (r : Fin 16), undisturbed s (0x120 + p.val) → s.get (Reg.PBUS_STAT_ECS.inst p.val) = 2 →
    ∃ t, exec (.pbusBusoffRecoveryStart p r) s = .next t ∧
      (r.val < 10 ∨ (s.bus p.val).busoffs.length < 3 → t.get (Reg.PBUS_STAT_BOREC.inst p.val) = 1) ∧
      (10 ≤ r.val → 3 ≤ (s.bus p.val).busoffs.length → t.get (Reg.PBUS_STAT_BOREC.inst p.val) = s.get (Reg.PBUS_STAT_BOREC.inst p.val))) ∧
  (∀ (s : State) (p : Fin 32), s.get (Reg.PBUS_STAT_BOREC.inst p.val) = 1 → pstate s p.val ≠ 4 →
    ∃ t, exec (.pbusBusoffRecoveryComplete p) s = .next t ∧ t.get (Reg.PBUS_STAT_BOREC.inst p.val) = 0 ∧
      t.get (Reg.PBUS_STAT_ECS.inst p.val) = 0 ∧ t.get (Reg.PBUS_ERRC_TEC.inst p.val) = 0 ∧ recOf t p.val = 0 ∧
      t.get (Reg.PBUS_STAT_INTEG.inst p.val) = 1) ∧
  (∀ (s : State) (p : Fin 32), s.get (Reg.PBUS_STAT_INTEG.inst p.val) = 1 →
    ∃ t, exec (.pbusIntegrationComplete p) s = .next t ∧ t.get (Reg.PBUS_STAT_INTEG.inst p.val) = 0 ∧
      pstate t p.val = if pstate s p.val = 2 ∧ 1 ≤ storedGrade s p.val ∧ storedGrade s p.val ≤ 4 then 3 else pstate s p.val) ∧
  (∀ (s : State) (p : Fin 32), (pcfg s p.val).tten = true → pers s p.val = 1 → pstate s p.val = 4 → lineReady s p.val = true →
    s.get (Reg.PBUS_STAT_FREF.inst p.val) = 0 →
    ∃ t, exec (.ttBasicCycleStart p) s = .next t ∧ (t.bus p.val).cycleAt = t.now ∧ (t.bus p.val).void = false ∧
      ∃ f : CanFrame, t.out = s.out ++ [.canStart p.val f] ∧ f.id.toNat = (pcfg s p.val).refid % 2 ^ 29 ∧
      (t.bus p.val).tx = some { target := .reference, frame := f, win := .reference, startedAt := t.now }) ∧
  (∀ (s : State) (p : Fin 32), (pcfg s p.val).tten = true → pers s p.val = 1 → (s.bus p.val).refDone = false →
    (s.bus p.val).void = false → s.get (Reg.PBUS_STAT_FREF.inst p.val) = 0 →
    ∃ t, exec (.ttVoidCycle p) s = .next t ∧ (t.bus p.val).void = true ∧ t.get (Reg.PBUS_FAULT_REFFAIL.inst p.val) = 1 ∧
      t.now = max s.now ((s.bus p.val).cycleAt + (pcfg s p.val).txen * 1000)) ∧
  (∀ (s u : State) (p : Fin 32) (w : Fin 32) (col : Nat × Nat), (pcfg s p.val).cols[w.val]? = some col → (pcfg s p.val).tten = true →
    col.2 ≠ 0 → u = s.reach (s.now + ((col.1 + (pcfg s p.val).txen) * 1000 + max 1 (pcfg s p.val).cyclen * 1000 - (cycleNow s p.val).1) %
      (max 1 (pcfg s p.val).cyclen * 1000)) →
    cellOf (pcfg s p.val) (cycleNow u p.val).2 w.val / 64 = 1 →
    txState s p.val (cellOf (pcfg s p.val) (cycleNow u p.val).2 w.val % 64) = 1 →
    ∃ t, exec (.ttWindowMissed p w) s = .next t ∧ t.get (Reg.PBUS_FAULT_MISSED.inst p.val) = 1 ∧ t.now = u.now ∧
      t.get ((Reg.PBUS_TXSTAT_MISSED.inst p.val).ix (cellOf (pcfg s p.val) (cycleNow u p.val).2 w.val % 64)) = 1) ∧
  (∀ (s : State) (p : Fin 32) (a : Nat), (s.bus p.val).holdUntil = some a →
    ∃ t, exec (.ttForeignHoldEnd p) s = .next t ∧ t.now = max s.now a ∧ (t.bus p.val).holdUntil = none ∧
      t.get (Reg.PBUS_STAT_FREF.inst p.val) = 0) ∧
  (∀ (s : State) (p : Fin 32) (m : BitVec 10) (a : Nat), (s.bus p.val).confirms = [(m.toNat, a)] →
    ∃ t, exec (.pbusConfirmTimeout p m) s = .next t ∧ (t.bus p.val).confirms = [] ∧
      t.now = max s.now (a + s.get (Reg.LINK_LCFG_CMDTO.inst p.val) * 1000000) ∧
      t.pt.reports = s.pt.reports ++ (msgPoints s p.val m.toNat).map PointReport.undelivered)

/-- R248 to R250, R252, R271, R272, R276, R282, R283: a loop of its own is sampled at its next instant, evaluated, and presents
its output; an overrun counts; through LOOPWIN a coefficient or mode is staged until its sample, OVRCNT is cleared, and the
reserved select fails. -/
def Obligations.LoopCycleAndWindow : Prop :=
  (∀ (s : State) (n ms : Nat) (c : LoopCfg), loopSlots s = [n] → loopCfg s n = some c → s.bit Reg.CLE_STAT_HALTED = false →
    ms = nextSample s ((taiNs s + 999999) / 1000000) n → ms ≤ (taiNs s + 999999) / 1000000 + 3600000 → loopDue s ms n = true →
    ∃ t, exec .loopSample s = .next t ∧ t.now = max s.now (instantOfTai s (ms * 1000000)) ∧
      (t.loop n).lastK = some ((ms - c.phase) / c.period) ∧ (t.loop n).pvq = (readInput n c.refpv s).2.qual) ∧
  (∀ (s : State) (n : BitVec 13) (c : LoopCfg) (g : Gather), cleRuns s = true → loopCfg s n.toNat = some c →
    c.group = none → (s.loop n.toNat).gather = some g → taiNs s ≤ deadlineNs c g →
    ∃ t, exec (.loopEvaluationComplete n) s = .next t ∧ (t.loop n.toNat).gather = none ∧ (t.loop n.toNat).sample = g.k % 2 ^ 32 ∧
      (t.loop n.toNat).init = false ∧ (t.loop n.toNat).held = some ((t.loop n.toNat).uout, applyInstant c g) ∧
      ((s.loop n.toNat).init = false → g.action = 1 → (t.loop n.toNat).uout =
        f64Clamp (coef (coefsOf c (s.loop n.toNat)) 13) (coef (coefsOf c (s.loop n.toNat)) 8) (coef (coefsOf c (s.loop n.toNat)) 9)) ∧
      t.get Reg.CLE_EVALS_COUNT = (s.get Reg.CLE_EVALS_COUNT + 1) % 2 ^ 32) ∧
  (∀ (s : State) (n : BitVec 13) (c : LoopCfg) (v ms : Nat), loopCfg s n.toNat = some c → (s.loop n.toNat).held = some (v, ms) →
    cleRuns s = true → c.outcmd = false → (s.point c.out).typ = 8 → queueOpen s 4 →
    ∃ t, exec (.loopOutputPresent n) s = .next t ∧ (t.loop n.toNat).held = none ∧
      t.now = max s.now (instantOfTai s ((ms - 1) * 1000000)) ∧ queueOf t 4 = queueOf s 4 ++
        [{ src := mkSrc 4 n.toNat, target := .idx c.out, kind := .value v .valid, path := .loop n.toNat ms }]) ∧
  (∀ (s : State) (n : BitVec 13) (c : LoopCfg) (g : Gather), cleRuns s = true → loopCfg s n.toNat = some c → c.group = none →
    (s.loop n.toNat).gather = some g →
    ∃ t, exec (.loopOverrun n) s = .next t ∧ (t.loop n.toNat).gather = none ∧ t.get Reg.CLE_FAULT_OVERRUN = 1 ∧
      (t.loop n.toNat).ovrcnt = min ((s.loop n.toNat).ovrcnt + 1) (2 ^ 32 - 1) ∧
      t.now = max s.now (instantOfTai s (deadlineNs c g))) ∧
  (∀ (s : State) (r : Fin 16) (i : BitVec 20) (c : LoopCfg), undisturbed s 0x050 → winBusy s 0x051 r.val = false → i.toNat < 0x10000 → loopCfg s i.toNat = some c →
    (requesterLanes s r.val).getLsbD (loopLane s i.toNat) = true →
    (∃ t, exec (.loopReservedSelect r i) s = .next t ∧ t.get ((Reg.WIN_ERR.onPage 0x051).by r.val) = 6 ∧ t.cle = s.cle) ∧
    (s.bit Reg.CLE_CTRL_RUN = true → s.bit Reg.CLE_STAT_HALTED = false →
      (∀ (f : BitVec 4) (v : Word), f.toNat ≤ 14 → coefsOk ((stagedCoefs c (s.loop i.toNat)).set f.toNat v.toNat) = true →
        ∃ t, exec (.loopCoefficientWrite r i f v) s = .next t ∧ t.get ((Reg.WIN_ERR.onPage 0x051).by r.val) = 0 ∧
          tabFind f.toNat (t.loop i.toNat).staged = some (v.toNat, effectSample s c (s.loop i.toNat))) ∧
      (∀ m : BitVec 3, m.toNat ≤ 4 → c.group = none →
        ∃ t, exec (.loopModeWrite r i m) s = .next t ∧ t.get ((Reg.WIN_ERR.onPage 0x051).by r.val) = 0 ∧
          tabFind 15 (t.loop i.toNat).staged = some (m.toNat, effectSample s c (s.loop i.toNat) +
            if (s.loop i.toNat).latched && (s.loop i.toNat).latchNew then 1 else 0)) ∧
      (∃ t, exec (.loopClearOvrcnt r i) s = .next t ∧ t.get ((Reg.WIN_ERR.onPage 0x051).by r.val) = 0 ∧ (t.loop i.toNat).ovrcnt = 0)))

/-- R31, R285, R390 to R392, R394: the time base follows the received synchronisation and loses it after 3 s; an announcement
holds for 3 s; the module wakes 60 µs before its next instant; the uplinks' link state, the ring block, the loss of a port, and
the ICMPv6 messages that an uplink answers. -/
def Obligations.TimeAndUplinks : Prop :=
  (∀ (s : State) (p : Fin 2) (o : Int) (d : Word), s.get Reg.TBASE_CFG_SRC = 0 → uplinkUp s p.val = true → s.get (ptpField p.val) = 2 →
    o.natAbs ≤ 1000 → s.time.syncing = false →
    ∃ t, exec (.ptpSyncReceive p o d) s = .next t ∧ t.get (ptpField p.val) = 3 ∧ t.get Reg.UPL_MDELAY_NS = d.toNat ∧
      t.get Reg.TBASE_OFFSET_NS = toField 32 o ∧ t.get Reg.TBASE_STAT_SET = 1 ∧ t.get Reg.TBASE_STAT_HOLDOVER = 0 ∧
      t.time.lastSync = some s.now ∧ t.time.slew = o ∧ t.time.syncing = true) ∧
  (∀ (s : State) (a : Nat), s.time.lastSync = some a →
    ∃ t, exec .ptpSyncLoss s = .next t ∧ t.time.lastSync = none ∧ t.time.syncing = false ∧ t.get Reg.TBASE_STAT_HOLDOVER = 1 ∧
      t.get Reg.TBASE_STAT_LOCK = 0 ∧ t.now = max s.now (a + 3000000000)) ∧
  (∀ (s : State) (p : Fin 2) (v : BitVec 12) (a : PtpAnnounce), uplinkUp s p.val = true → vidOk s p.val v.toNat = true →
    a.domain.toNat = s.get Reg.UPL_CFG_PTPDOM →
    ∃ t, exec (.ptpAnnounceReceive p v a) s = .next t ∧ (t.uplink p.val).announce = some a ∧ (t.uplink p.val).announceAt = s.now) ∧
  (∀ (s : State) (p : Fin 2) (a : PtpAnnounce), (s.uplink p.val).announce = some a →
    ∃ t, exec (.ptpAnnounceTimeout p) s = .next t ∧ (t.uplink p.val).announce = none ∧
      t.now = max s.now ((s.uplink p.val).announceAt + 3000000000)) ∧
  (∀ (s : State) (k : Nat), nextWakeMs s = some k → s.get Reg.CSN_STAT_CSTATE ≠ 6 → s.get Reg.MODE_PWRST_DOZE = 1 →
    ∃ t, exec .wakeTimer s = .next t ∧ t.get Reg.MODE_PWRST_DOZE = 0 ∧
      t.now = max s.now (instantOfTai s (k * 1000000 - 60000))) ∧
  (∀ (s : State) (p : Fin 2) (up : Bool) (v : Fin 4), (up = true → mediaCarries s p.val v.val = true) → s.bit Reg.CLK_STAT_FALLBACK = false →
    (s.uplink 0).lost = false → (s.uplink 1).lost = false → (s.get Reg.MODE_STAT_SHORT).testBit 2 = false →
    ∃ t, exec (.uplinkLinkChange p up v) s = .next t ∧ uplinkUp t p.val = up ∧
      t.get (Reg.UPL_PSPD_SPEED.ix p.val) = (if up then v.val else 0) ∧
      (uplinkUp s p.val = true → up = false → (t.uplink p.val).downSince = some s.now ∧
        t.get (Reg.UPL_PLNKDN_COUNT.ix p.val) = min (s.get (Reg.UPL_PLNKDN_COUNT.ix p.val) + 1)
          (2 ^ (Reg.UPL_PLNKDN_COUNT.ix p.val).width - 1))) ∧
  (∀ (s : State) (p : Fin 2) (a : Nat), (s.uplink p.val).downSince = some a → s.get (Reg.UPL_PCFG_MEDIA.ix p.val) ≠ 0 →
    uplinkUp s p.val = false → (s.uplink p.val).lost = false → (s.get Reg.MODE_STAT_SHORT).testBit 2 = true →
    ∃ t, exec (.uplinkPortLost p) s = .next t ∧ (t.uplink p.val).lost = true ∧ t.now = max s.now (a + 1000000000) ∧
      t.get (if p.val = 0 then Reg.UPL_FAULT_LINKDN0 else Reg.UPL_FAULT_LINKDN1) = 1) ∧
  (∀ (s : State) (a : Nat), s.via.linksUp = some a → s.get Reg.VIA_STAT_ROLE = 2 → s.get (Reg.UPL_PCFG_FWD.ix 0) = 1 →
    s.get (Reg.UPL_PCFG_FWD.ix 1) = 1 →
    ∃ t, exec .ringBlockSet s = .next t ∧ t.get (Reg.UPL_PCFG_RINGBLK.ix 1) = 1 ∧ t.now = max s.now (a + 5000000000)) ∧
  (∀ (s : State) (p : Fin 2) (v : BitVec 12) (m : IcmpMessage), uplinkUp s p.val = true → vidOk s p.val v.toNat = true → icmpFits m = true →
    ∃ t, exec (.icmpv6MessageReceive p v m) s = .next t ∧
      t.get (Reg.UPL_PRXOK_COUNT.ix p.val) = (s.get (Reg.UPL_PRXOK_COUNT.ix p.val) + 1) % 2 ^ 32 ∧
      (∀ g i q d, m = .echoRequest g i q d → icmpTarget s p.val g = true → t.out = s.out ++ [.echoReply p.val v.toNat i q d]) ∧
      (∀ k, m = .other k → t.out = s.out))

/-- R289 to R291, R294, R299, R302, R303, R309, R314: a task's release, gather, overrun, watchdog and retained save happen at
their instants and in the states that R314 names. -/
def Obligations.TaskReleases : Prop :=
  (∀ (s : State) (k : Fin 16) (c : TaskCfg) (ms : Nat), taskCfg s k.val = some c → c.event = false → mayRelease k.val s = true →
    inCycle (taskState s k.val) = false → (s.task k.val).swap = false → ms = nextRelease c (s.task k.val) s →
    ∃ t, exec (.taskRelease k) s = .next t ∧ taskState t k.val = 3 ∧ t.now = max s.now (instantOfTai s (ms * 1000000)) ∧
      (t.task k.val).relk = (ms - c.phase) / max 1 c.period ∧ (t.task k.val).relAt = t.now ∧
      t.get (Reg.CTE_TRELK_COUNT.ix k.val) = (ms - c.phase) / max 1 c.period % 2 ^ 32 ∧
      t.get Reg.CTE_RELS_COUNT = (s.get Reg.CTE_RELS_COUNT + 1) % 2 ^ 32) ∧
  (∀ (s : State) (k : Fin 16) (c : TaskCfg), taskCfg s k.val = some c → c.event = false → mayRelease k.val s = true →
    inCycle (taskState s k.val) = true → (s.task k.val).late = false →
    ∃ t, exec (.taskRelease k) s = .next t ∧ taskState t k.val = taskState s k.val ∧ t.get Reg.CTE_FAULT_OVERRUN = 1 ∧
      t.get (Reg.CTE_TOVR_COUNT.ix k.val) = min (s.get (Reg.CTE_TOVR_COUNT.ix k.val) + 1) (2 ^ 32 - 1)) ∧
  (∀ (s : State) (k : Fin 16) (c : TaskCfg) (a : Nat), taskCfg s k.val = some c → c.event = true → (s.task k.val).evtAt = some a →
    mayRelease k.val s = true → inCycle (taskState s k.val) = false → taskState s k.val ≠ 6 → (s.task k.val).swap = false →
    ∃ t, exec (.taskEventRelease k) s = .next t ∧ taskState t k.val = 3 ∧ (t.task k.val).relk = (s.task k.val).relk + 1 ∧
      (t.task k.val).evtAt = none ∧ (t.task k.val).relAt = t.now) ∧
  (∀ (s : State) (k : Fin 16) (c : TaskCfg) (u : Nat), taskCfg s k.val = some c → taskState s k.val = 3 →
    topTask s (taskCore s k.val) = some u →
    ∃ t, exec (.taskGatherComplete k) s = .next t ∧ taskState t k.val = if u = k.val then 4 else 5) ∧
  (∀ (s : State) (k : Fin 16) (c : TaskCfg), taskCfg s k.val = some c → c.event = true → inCycle (taskState s k.val) = true →
    (s.task k.val).late = false →
    ∃ t, exec (.taskBudgetOverrun k) s = .next t ∧ (t.task k.val).late = true ∧ t.get Reg.CTE_FAULT_OVERRUN = 1 ∧
      t.get (Reg.CTE_TOVR_COUNT.ix k.val) = min (s.get (Reg.CTE_TOVR_COUNT.ix k.val) + 1) (2 ^ 32 - 1) ∧
      t.now = max s.now ((s.task k.val).relAt + taskLimitNs c)) ∧
  (∀ (s : State) (k : Fin 16) (c : TaskCfg), taskCfg s k.val = some c → inCycle (taskState s k.val) = true →
    ∃ t, exec (.taskWatchdogExpiry k) s = .next t ∧ taskState t k.val = 7 ∧ t.get Reg.CTE_FAULT_WATCHDOG = 1 ∧
      t.now = max s.now ((s.task k.val).relAt + 4 * taskLimitNs c)) ∧
  (∀ (s : State) (k : Fin 16) (im : TaskImage), (s.task k.val).active = some im → s.bit Reg.CTE_STAT_HALTED = false →
    ∃ t, exec (.retainSave k) s = .next t ∧ (t.task k.val).saved = retainedOf im (s.task k.val).vars ∧
      (t.task k.val).savedAt = t.now ∧ (s.task k.val).savedAt + 1000000000 ≤ t.now) ∧
  (∀ (s : State) (l : Fin 128) (rise : Bool), latchTaken s l.val = true → (latchOf s l.val).level ≠ rise →
    ∃ t, exec (.edgeLatchEdge l rise) s = .next t ∧ (latchOf t l.val).level = rise ∧
      (latchOf t l.val).rising = min ((latchOf s l.val).rising + if rise then 1 else 0) 65535 ∧
      (latchOf t l.val).falling = min ((latchOf s l.val).falling + if rise then 0 else 1) 65535 ∧ (latchOf t l.val).first.isSome = true)

/-- R100, R295, R296, R315: a cycle that ends within its limit commits its variables and presents its outputs as one batch,
which is admitted as an update at the head of its queue is. Through TASKWIN: R304, R307, R308, R310, R316: what a write to
TASKWIN of a task in the requester's lanes does, with result 0, and the reserved codes. -/
def Obligations.TaskCycleAndWindow : Prop :=
  (∀ (s : State) (k : Fin 16) (c : TaskCfg) (im : TaskImage) (os : List Nat) (vs : List (Nat × Nat)) (ts : List (Nat × Bool × Nat))
      (b : Bool), taskCfg s k.val = some c → taskState s k.val = 4 → s.now < (s.task k.val).relAt + 4 * taskLimitNs c → c.event = true →
    s.now ≤ (s.task k.val).relAt + taskLimitNs c → (s.task k.val).late = false → (s.task k.val).active = some im →
    ∃ t, exec (.taskCycleComplete k os vs ts b) s = .next t ∧
      (t.task k.val).vars = (vs.filter (fun e => (tabFind e.1 im.vars).isSome)).foldl (fun tb e => tabInsert e.1 e.2 tb)
        (s.task k.val).vars ∧
      t.get (Reg.CTE_TEXEC_US.ix k.val) = (s.now - (s.task k.val).relAt) / 1000 % 2 ^ 32 ∧
      (im.outputs = [] ∨ os = [] → taskState t k.val = (if (s.task k.val).stop then 1 else 2)) ∧
      (im.outputs ≠ [] → os ≠ [] → taskState t k.val = 6)) ∧
  (∀ (s : State) (k : Fin 16), batchNext s k.val = true →
    ∃ t, exec (.taskBatchAdmission k) s = .next t ∧ exec .updateAdmission s = .next t) ∧
  (∀ (s : State) (k : Fin 16) (u : Update) (us : List Update) (as : List (Nat × Update)), batchNext s k.val = true → admits s = true →
    (queueOf s 5).head? = some u → us = headBatch s u.batch → as = batchPasses s us → as.length = us.length →
    (∀ a ∈ as, (s.point a.1).oos = false) → s.pt.capUsed + batchCost s as ≤ 20000 → batchQuota s as = true → batchBlocked s as = false →
    tabGet [] s.pt.held 5 = [] → s.pt.results = [] → (∀ p < 32, (s.segPort p).rxq = []) →
    ∃ t, exec (.taskBatchAdmission k) s = .next t ∧ t.pt.capUsed = s.pt.capUsed + batchCost s as ∧
      t.pt.admitted = s.pt.admitted ++ as.map (fun a => { index := a.1, upd := a.2, rank := sourceRank s a.2 }) ∧
      queueOf t 5 = (queueOf s 5).drop us.length) ∧
  (∀ (s : State) (r k : Fin 16) (i : BitVec 20) (c : TaskCfg), i.toNat = k.val → undisturbed s 0x058 → winBusy s 0x059 r.val = false →
    taskCfg s k.val = some c → (requesterLanes s r.val).getLsbD (taskLane s k.val) = true → s.bit Reg.CTE_CTRL_RUN = true →
    s.bit Reg.CTE_STAT_HALTED = false →
    (taskState s k.val = 1 → ∃ t, exec (.taskStart r i) s = .next t ∧ taskState t k.val = 2 ∧
      t.get ((Reg.WIN_ERR.onPage 0x059).by r.val) = 0) ∧
    (taskState s k.val = 2 → ∃ t, exec (.taskStop r i) s = .next t ∧ taskState t k.val = 1 ∧
      t.get ((Reg.WIN_ERR.onPage 0x059).by r.val) = 0) ∧
    (taskState s k.val = 7 → ∃ t, exec (.taskRestart r i) s = .next t ∧ taskState t k.val = 2 ∧
      t.get ((Reg.WIN_ERR.onPage 0x059).by r.val) = 0) ∧
    ((s.task k.val).staged.isSome = true → ∃ t, exec (.taskSwap r i) s = .next t ∧ (t.task k.val).swap = true ∧
      t.get ((Reg.WIN_ERR.onPage 0x059).by r.val) = 0) ∧
    (∃ t, exec (.taskClearCounters r i) s = .next t ∧ t.get (Reg.CTE_TOVR_COUNT.ix k.val) = 0 ∧ t.get (Reg.CTE_TEXMAX_US.ix k.val) = 0 ∧
      t.get (Reg.CTE_TEVT_COUNT.ix k.val) = 0 ∧ t.get ((Reg.WIN_ERR.onPage 0x059).by r.val) = 0) ∧
    (∀ (item : BitVec 16) (v : BitVec 64) (e : ChangeEntry), tabFind item.toNat (taskImage s k.val).changes = some e →
      changeOk (taskImage s k.val) e v.toNat = true → overlayUsed s k.val < 4096 →
      ∃ t, exec (.taskValueChange r i item v) s = .next t ∧ t.get ((Reg.WIN_ERR.onPage 0x059).by r.val) = 0 ∧
        (t.task k.val).changes = (s.task k.val).changes ++ [(item.toNat, v.toNat, effectRelease s k.val)]) ∧
    (∀ x : Option (Fin 16), (∀ y, x = some y → y.val = 0 ∨ 5 ≤ y.val) →
      ∃ t, exec (.taskReservedSelect r i x) s = .next t ∧ t.get ((Reg.WIN_ERR.onPage 0x059).by r.val) = 6 ∧
        t.get Reg.CTE_FAULT_CHGREJ = 1 ∧ t.cte = s.cte)) ∧
  (∀ (s : State) (k : Fin 16) (im : TaskImage), (s.task k.val).swap = true → (s.task k.val).staged = some im →
    inCycle (taskState s k.val) = false → taskState s k.val ≠ 6 →
    ∃ t, exec (.taskSwapApply k) s = .next t ∧ (t.task k.val).active = some im ∧ (t.task k.val).staged = none ∧
      (t.task k.val).swap = false ∧ (t.task k.val).overlay = [])

/-- R319, R322, R325, R332, R335, R337, R339, R342, R347: a running meter closes its 200 ms window and its demand interval at
their instants, follows its frequency trackers, and runs its test gate and calibration; the samples of a channel pass through its
chain, which stands where they left it, and give its peak and over-range count. -/
def Obligations.Metering : Prop :=
  (∀ (s : State) (w : MeterWindow) (b : Bool) (e : Nat), s.bit Reg.MTR_STAT_RUNNING = true → s.bit Reg.MTR_STAT_HALTED = false →
    meterMode s = true → s.mtr.stopAt = none →
    e = instantFrom 200 0 (max (msUp s) (s.mtr.windowMs + 1)) →
    ∃ t, exec (.meterWindowEnd w b) s = .next t ∧ t.mtr.windowMs = e ∧ t.now = max s.now (instantOfTai s (e * 1000000)) ∧
      t.mtr.secWindows = if e % 1000 = 0 then 0 else s.mtr.secWindows + 1) ∧
  (∀ (s : State) (o : OpenInterval) (e : Nat), s.mtr.interval = some o → s.bit Reg.MTR_STAT_RUNNING = true →
    s.bit Reg.TBASE_STAT_SET = true → s.mtr.waiting = false → justClosed s = false → e = intervalEndMs o s →
    ∃ t, exec .demandIntervalEnd s = .next t ∧ t.mtr.closedMs = e ∧ t.now = max s.now (instantOfTai s (e * 1000000)) ∧
      t.mtr.interval.isSome = true ∧ t.mtr.regs = s.mtr.regs ∧
      ∀ c ∈ circuits s, (tabFind c t.mtr.last).isSome = true) ∧
  (∀ (s : State) (v : Fin 12) (b : Bool),
    ∃ t, exec (.freqTrackerChange v b) s = .next t ∧ trackerValid t v.val = b ∧
      (trackerValid s v.val = true → b = false → t.get Reg.MTR_FAULT_FREQRANGE = 1)) ∧
  (∀ (s : State) (a b : Nat), a = get64 s Reg.MTR_TSTARTLO_US Reg.MTR_TSTARTHI_US → b = get64 s Reg.MTR_TSTOPLO_US Reg.MTR_TSTOPHI_US →
    taiUs s < a → a + 1000000 ≤ b → b ≤ a + 86400000000 → undisturbed s 0x060 →
    ∃ t, exec .mtrTestArm s = .next t ∧ t.get Reg.MTR_STAT_TESTARMED = 1 ∧ t.mtr.gate = some (a, b) ∧ t.mtr.tregs = []) ∧
  (∀ (s : State) (a b : Nat), s.mtr.gate = some (a, b) → s.bit Reg.MTR_STAT_TESTARMED = true → s.bit Reg.MTR_STAT_TESTACT = false →
    s.bit Reg.MTR_STAT_RUNNING = true →
    ∃ t, exec .testGateStart s = .next t ∧ t.get Reg.MTR_STAT_TESTACT = 1 ∧ t.now = max s.now (instantOfTai s (a * 1000)) ∧
      t.mtr.regs = s.mtr.regs ∧ t.mtr.tregs = s.mtr.tregs) ∧
  (∀ (s : State) (r : Fin 16) (i : BitVec 20) (g : Word) (d : BitVec 16), undisturbed s 0x060 → winBusy s 0x061 r.val = false → i.toNat < 48 →
    ∃ t, exec (.mtrCalibrationStage r i g d) s = .next t ∧
      (r.val = 9 → s.get Reg.MODE_STAT_MODE = 5 → calibrationOk g.toNat d.toNat = true →
        t.get ((Reg.WIN_ERR.onPage 0x061).by r.val) = 0 ∧ t.get Reg.MTR_STAT_CALSTAGED = 1 ∧
        tabFind i.toNat t.mtr.staged = some (g.toNat, d.toNat)) ∧
      (¬ (r.val = 9 ∧ s.get Reg.MODE_STAT_MODE = 5) → t.get ((Reg.WIN_ERR.onPage 0x061).by r.val) = 6 ∧ t.mtr = s.mtr)) ∧
  (∀ (s : State) (r : Fin 16), undisturbed s 0x060 →
    ∃ t, exec (.mtrCalibrationApply r) s = .next t ∧
      (r.val = 9 → s.get Reg.MODE_STAT_MODE = 5 → s.mtr.staged ≠ [] → t.mtr = { s.mtr with applying := true }) ∧
      (r.val ≠ 9 → t.mtr = s.mtr)) ∧
  (∀ (s : State) (w : MeterWindow), frozen s = true → s.get Reg.CSN_STAT_CSTATE ≠ 5 →
    s.get Reg.CSN_STAT_CSTATE ≠ 6 → s.bit Reg.MTR_STAT_RUNNING = true → s.pwr.planned = false →
    ∃ t, exec (.meterPowerFailStop w) s = .next t ∧ t.get Reg.MTR_STAT_RUNNING = 0 ∧ t.get Reg.MTR_STAT_HALTED = 1 ∧
      t.mtr.pfImage.isSome = true ∧ t.mtr.windowMs = (commitInstant s).1 ∧ t.now = max s.now (commitInstant s).2) ∧
  (∀ (s : State) (w : MeterWindow) (b : Bool) (ch : Fin 48) (bits : List (BitVec 128)), w.channels = [(ch.val, bits)] →
    s.bit Reg.MTR_STAT_RUNNING = true → s.bit Reg.MTR_STAT_HALTED = false → meterMode s = true → s.mtr.stopAt = none → s.mtr.applying = false →
    ∃ t, exec (.meterWindowEnd w b) s = .next t ∧ tabGet {} t.mtr.chains ch.val = (channelRun s ch.val bits).chain ∧
      (meterChannel t ch.val).peak = ratF64 ((channelRun s ch.val bits).values.foldl (fun m v => max m |v|) 0) ∧
      (meterChannel t ch.val).ovrw = min ((meterChannel s ch.val).ovrw + b2n (channelRun s ch.val bits).over') (2 ^ 32 - 1))

/-- R371, R378, R383, R388, R413: the parapet releases an engine entry's request cut to its bounds, drive permission is
withdrawn 50 ms before the lease ends, and EIDX copies an entry into the read window of the requester. -/
def Obligations.ParapetControl : Prop :=
  (∀ (s : State) (e : Nat), s.prpt.out = .drive → entriesInUse s = [e] → e < 64 → (entryCfg s e).kind ≠ 2 →
    (entryCfg s e).kind = 3 ∨ bypass (entryCfg s e) (s.point (entryCfg s e).point) = true →
    (s.point (entryCfg s e).point).typ ≠ 0 → (s.point (entryCfg s e).point).oos = false → s.prpt.releases = [] → s.lift.calls = [] →
    ∃ t, exec .parapetEvaluation s = .next t ∧ t.now = max s.now (evalInstant s) ∧ t.prpt.evalAt = t.now ∧
      (entryState t e).rel = clipValue (entryCfg s e) (s.point (entryCfg s e).point).typ (s.point (entryCfg s e).point).pv ∧
      (entryState t e).rng = decide ((entryState t e).rel ≠ (s.point (entryCfg s e).point).pv) ∧
      Frame.holds ⟨[.prpt, .log], [(0x007, 0x007), (0x049, 0x049)], []⟩ s t) ∧
  (∀ s : State, s.prpt.out ≠ .drive → s.prpt.releases = [] → s.lift.calls = [] →
    ∃ t, exec .parapetEvaluation s = .next t ∧ t.prpt.entries = s.prpt.entries ∧
      Frame.holds ⟨[.prpt], [], []⟩ s t) ∧
  (∀ s : State, s.prpt.permission = true → paired s = true →
    ∃ t, exec .leaseWithdrawal s = .next t ∧ t.prpt.permission = false ∧ (s.prpt.out = .drive → t.prpt.out = .released) ∧
      t.get Reg.PAIR_FAULT_LEASELOST = 1 ∧ t.get Reg.PRPT_FAULT_WDRAW = 1 ∧ t.get Reg.PAIR_STAT_LEASE = 0 ∧
      t.now = max s.now (instantOfMono s (s.pair.leaseEnd - 50000000))) ∧
  (∀ (s : State) (r : Fin 16) (e : BitVec 16) (k : Fin 16), hostReaches s r 0x049 →
    ∃ t, exec (.prptEntryLoad r e) s = .next t ∧ t.get (Reg.PRPT_EVAL_VALID.by r.val) = 1 ∧
      t.get ((Reg.PRPT_EDATA.by r.val).ix k.val) = (entryWords s (t.get (Reg.PRPT_EIDX_INDEX.by r.val))).getD k.val 0 % 2 ^ 32)

/-- R396 to R399, R405, R406: heartbeats, handshakes, publications and subscriptions of the viaduct's peers, and the loss of a
peer. -/
def Obligations.ViaductPeers : Prop :=
  (∀ (s : State) (k : Nat), peerList s = [k] → k < 508 → canSend s k 1 = true →
    ∃ t, exec .heartbeatSend s = .next t ∧ t.now = max s.now (s.via.hbAt + 50000000) ∧ t.via.hbAt = t.now ∧
      ∃ b, t.out = s.out ++ [.viaduct (portTo s k) (s.get (Reg.UPL_PCFG_VID.ix (portTo s k))) k (viaHeader s 1 12 ++ b)]) ∧
  (∀ (s : State) (h : ViaHeader) (m f j r : Byte) (e : BitVec 64), viaArrives s h 1 12 →
    ∃ t, exec (.heartbeatReceive h m f j r e) s = .next t ∧ (t.peer (viaKey h)).up = true ∧ (t.peer (viaKey h)).lastHb = s.now ∧
      (t.peer (viaKey h)).mode = m.toNat ∧ (t.peer (viaKey h)).flags = f.toNat ∧ (t.peer (viaKey h)).kepoch = e.toNat ∧
      t.get (Reg.UPL_PRXOK_COUNT.ix h.port.val) = (s.get (Reg.UPL_PRXOK_COUNT.ix h.port.val) + 1) % 2 ^ 32) ∧
  (∀ (s : State) (j : Fin 64) (m : Bool), (s.peer (peerKey j.val (if m then 1 else 0))).up = true →
    ∃ t, exec (.peerLost j m) s = .next t ∧ (t.peer (peerKey j.val (if m then 1 else 0))).up = false ∧ t.get Reg.VIA_FAULT_PEERLOST = 1 ∧
      t.now = max s.now ((s.peer (peerKey j.val (if m then 1 else 0))).lastHb + 150000000) ∧
      t.get Reg.VIA_HBMISS_COUNT = min (s.get Reg.VIA_HBMISS_COUNT + 3) (2 ^ 32 - 1)) ∧
  (∀ (s : State) (p : Fin 2) (u : BitVec 16) (o : DtlsOffer) (a : Byte) (m : Bool) (d : BitVec 256) (root : Nat), viaRuns s = true →
    uplinkUp s p.val = true → u.toNat = (sheet s).via.port → dtlsOk o = true → (charter s).roots.contains root = true →
    a.toNat < 64 → s.get Reg.ENC_STAT_ENTOK = 1 → peerKey a.toNat (if m then 1 else 0) ≠ ownKey s →
    (s.peer (peerKey a.toNat (if m then 1 else 0))).session = true ∨ (peerList s).length < 65 →
    ∃ t, exec (.viaHandshake p u o a m d root true) s = .next t ∧ (t.peer (peerKey a.toNat (if m then 1 else 0))).session = true ∧
      (t.peer (peerKey a.toNat (if m then 1 else 0))).digest = d.toNat ∧
      (t.peer (peerKey a.toNat (if m then 1 else 0))).enrolled = isEnrolled s (peerKey a.toNat (if m then 1 else 0)) d.toNat ∧
      (isEnrolled s (peerKey a.toNat (if m then 1 else 0)) d.toNat = false → s.get Reg.VIA_STAT_ROLE = 2 →
        t.get Reg.VIA_FAULT_UNENR = 1)) ∧
  (∀ (s : State) (h : ViaHeader) (k : BitVec 64) (it : PubItem) (i : Nat), viaArrives s h 2 44 →
    publisherOk (s.setPeer (viaKey h) { s.peer (viaKey h) with port := h.port.val, pepoch := h.pepoch.toNat }) (viaKey h) = true →
    resolve s (.gpr it.gpr.toNat) = some i → (s.point i).mirror = true → gprOfSlot s (viaKey h / 2) it.gpr.toNat = true →
    (s.point i).typ = it.info.toNat / 2 ^ 20 % 16 → queueOpen s 7 →
    ∃ t, exec (.publishReceive h k [it]) s = .next t ∧ t.get Reg.VIA_PUBRX_COUNT = (s.get Reg.VIA_PUBRX_COUNT + 1) % 2 ^ 32 ∧
      ∃ u, queueOf t 7 = queueOf s 7 ++ [u] ∧ u.src = mkSrc 7 (viaKey h / 2) ∧ u.target = .idx i) ∧
  (∀ (s : State) (h : ViaHeader) (op : Byte) (is : List Word), viaArrives s h 3 (3 + 4 * is.length) → (s.peer (viaKey h)).enrolled = true →
    ∃ t, exec (.subscribeReceive h op is) s = .next t ∧
      (op.toNat = 1 → t.via.subs = s.via.subs.filter (fun e => !(decide (e.2 = viaKey h) && (is.map BitVec.toNat).contains e.1)) ∧
        t.get Reg.VIA_SUBCNT_COUNT = t.via.subs.length % 2 ^ 18) ∧
      (2 < op.toNat → t.via.subs = s.via.subs ∧ t.get Reg.VIA_FAULT_BADMSG = 1))

/-- R400 to R403, R425: the keystone role: claims sent and heard, the role taken and given up, and the enrolment that a keystone
orders. -/
def Obligations.Keystone : Prop :=
  (∀ s : State, viaRuns s = true → s.get Reg.VIA_IDENT_RANK ≠ 0 → s.via.mine = none → pairRole s ≠ 2 →
    ∃ t, exec .kclaimSend s = .next t ∧ t.get Reg.VIA_STAT_ROLE = 3 ∧ t.via.claimAt = t.now ∧
      t.via.mine = some { epoch := (keystoneEpoch s + 1) % 2 ^ 64, rank := s.get Reg.VIA_IDENT_RANK, slot := s.get Reg.VIA_IDENT_SLOT } ∧
      t.now = max s.now (max (s.via.heardAt + 150000000) s.via.noClaim)) ∧
  (∀ (s : State) (c : Claim), s.get Reg.VIA_STAT_ROLE = 3 → s.via.mine = some c →
    ∃ t, exec .keystoneTakeRole s = .next t ∧ t.get Reg.VIA_STAT_ROLE = 2 ∧ t.via.view = some c ∧
      t.get Reg.VIA_KVIEW_KSLOT = c.slot % 256 ∧ t.now = max s.now (s.via.claimAt + 100000000)) ∧
  (∀ (s : State) (h : ViaHeader) (e : BitVec 64) (r : Byte) (c : Claim), viaArrives s h 4 9 →
    c = { epoch := e.toNat, rank := r.toNat, slot := viaKey h / 2 } →
    ∃ t, exec (.kclaimReceive h e r) s = .next t ∧
      (∀ m, s.via.mine = some m → claimAbove c m = true → t.via.mine = none ∧ t.via.view = some c ∧
        (s.get Reg.VIA_STAT_ROLE = 2 ∨ s.get Reg.VIA_STAT_ROLE = 3 → t.get Reg.VIA_STAT_ROLE = 1)) ∧
      (∀ m, s.via.mine = some m → claimAbove c m = false → t.via.mine = some m) ∧
      (s.via.mine = none → s.via.view = none → t.via.view = some c ∧ t.via.heardAt = s.now)) ∧
  (∀ s : State, s.get Reg.VIA_STAT_ROLE = 2 →
    ∃ t, exec .keystoneStepDownTimeout s = .next t ∧ t.get Reg.VIA_STAT_ROLE = 1 ∧ t.via.mine = none ∧ t.via.view = none ∧
      t.get Reg.VIA_KVIEW_KSLOT = 255 ∧ t.now = max s.now (s.via.namedAt + 400000000)) ∧
  (∀ (s : State) (h : ViaHeader) (e : BitVec 64) (a j m : Byte) (d : BitVec 256), viaArrives s h 5 43 →
    s.get Reg.VIA_KVIEW_KSLOT = viaKey h / 2 → s.get Reg.VIA_STAT_ROLE ≠ 2 → j.toNat < 64 → m.toNat < 2 →
    ∃ t, exec (.kactionReceive h e a j m d) s = .next t ∧
      (a.toNat = 1 → t.via.enrolled = tabInsert (peerKey j.toNat m.toNat) d.toNat s.via.enrolled) ∧
      (a.toNat = 2 → t.via.enrolled = tabErase (peerKey j.toNat m.toNat) s.via.enrolled) ∧
      (a.toNat = 0 ∨ 3 < a.toNat → t.via.enrolled = s.via.enrolled ∧ t.get Reg.VIA_FAULT_BADMSG = 1)) ∧
  (∀ (s : State) (h : ViaHeader) (r : Byte) (c : Claim) (e : BitVec 64), viaArrives s h 6 9 → s.via.mine = some c →
    s.get Reg.VIA_STAT_ROLE = 2 → e.toNat = c.epoch → r.toNat = 1 →
    ∃ t, exec (.kackReceive h e r) s = .next t ∧ t.get Reg.VIA_FAULT_OVERLAP = 1) ∧
  (∀ (s : State) (c : Claim) (k : Nat), s.via.mine = some c → s.get Reg.VIA_STAT_ROLE = 2 →
    k = peerKey (s.get Reg.VIA_ENRSLOT_SLOT) (s.get Reg.VIA_ENRSLOT_MEMB) →
    undisturbed s 0x180 →
    (∃ t, exec .viaEnroll s = .next t ∧ t.via.enrolled = tabInsert k (stagedDigest s) s.via.enrolled) ∧
    (∃ t, exec .viaUnenroll s = .next t ∧ t.via.enrolled = tabErase k s.via.enrolled)) ∧
  (∀ (s : State) (c : Claim), s.via.mine = some c → undisturbed s 0x180 →
    ∃ t, exec .viaKeystoneStep s = .next t ∧ t.via.mine = none ∧ t.via.view = none ∧ t.via.noClaim = s.now + 10000000000)

/-- R411 to R415: the lease of a pair: its renewal, what an abutment grants and refuses, a takeover only after the holder's
lease has ended, and the standby's request. R417, R418: checkpoints of a pair: captured by the active one at a time, staged and
taken by the standby only in its epoch, and acknowledged after their home writes. -/
def Obligations.PairLeasesAndCheckpoints : Prop :=
  (∀ s : State, pairRole s = 1 → s.prpt.permission = true → mayAsk s = true →
    ∃ t, exec .leaseRenewalSend s = .next t ∧ t.now = max s.now (s.pair.renewAt + 100000000) ∧ t.pair.renewAt = t.now ∧
      t.pair.reqSeq = (s.pair.reqSeq + 1) % 2 ^ 32 ∧ t.pair.reqs.getLast? = some { seq := t.pair.reqSeq, kind := 0, sent := monoNs t }) ∧
  (∀ (s : State) (h : ViaHeader) (e q : Word) (k : Byte) (b : BitVec 16) (g : Bool) (x : AbutPair), viaArrives s h 9 11 →
    paired s = false → (s.peer (viaKey h)).enrolled = true → (tabFind (viaKey h / 2) (sheet s).via.abutments).isSome = true →
    x = s.pairOf (viaKey h / 2) →
    ∃ t, exec (.lreqReceive h e q k b g) s = .next t ∧
      (k.toNat < 2 → e.toNat < x.epoch → t.pairOf (viaKey h / 2) = x) ∧
      (k.toNat = 0 → e.toNat = x.epoch → x.holder = some (viaKey h % 2) →
        t.pairOf (viaKey h / 2) = { epoch := x.epoch, holder := x.holder, grantEnd := max x.grantEnd (monoNs s + 400000000) }) ∧
      (k.toNat = 1 → x.epoch ≤ e.toNat → x.holder = some (1 - viaKey h % 2) → g = true → x.waits = [] → x.released = false →
        t.pairOf (viaKey h / 2) = { x with
          waits := [{ member := viaKey h % 2, seq := q.toNat, received := monoNs s, due := max (x.grantEnd + 50000000) (monoNs s + (b.toNat + 50) * 1000000) }] }) ∧
      (k.toNat = 2 → x.holder = some (viaKey h % 2) → x.waits = [] →
        t.pairOf (viaKey h / 2) = { x with released := true, grantEnd := monoNs s }) ∧
      (3 < k.toNat → t.pairOf (viaKey h / 2) = x ∧ t.get Reg.VIA_FAULT_BADMSG = 1)) ∧
  (∀ (s : State) (h : ViaHeader) (q e : Word) (v : Byte) (r : LeaseReq), viaArrives s h 10 9 → paired s = true →
    s.pair.reqs.find? (fun r => decide (r.seq = q.toNat)) = some r → e.toNat ≤ pairEpoch s →
    h.pepoch.toNat ≤ pairEpoch s → mayAsk s = true →
    ∃ t, exec (.lgrantReceive h q v e) s = .next t ∧
      (v.toNat = 0 → s.prpt.permission = true → t.pair.leaseEnd = max s.pair.leaseEnd (r.sent + 400000000) ∧
        t.get Reg.PAIR_RENEWS_COUNT = (s.get Reg.PAIR_RENEWS_COUNT + 1) % 2 ^ 32) ∧
      (v.toNat = 2 ∨ v.toNat = 3 → t.get Reg.PAIR_FAULT_DENIED = 1 ∧ t.pair.leaseEnd = s.pair.leaseEnd)) ∧
  (∀ (s : State) (j : Fin 64) (a m q r : Nat), (s.pairOf j.val).firstAsk = some a → tabFind j.val (sheet s).via.abutments = some m → m < 2 →
    tabFind m (s.pairOf j.val).asked = some (q, r) → (s.pairOf j.val).holder = none →
    ∃ t, exec (.abutmentInitialGrant j) s = .next t ∧ t.now = max s.now (instantOfMono s (a + 2000000000)) ∧
      t.pairOf j.val = { epoch := (s.pairOf j.val).epoch + 1, holder := some m, grantEnd := r + 400000000 }) ∧
  (∀ s : State, pairRole s = 2 → s.pair.granting = true → mayAsk s = true →
    ∃ t, exec .standbyRenewalTimeout s = .next t ∧ t.pair.granting = false ∧ t.pair.askedAt = t.now ∧
      t.now = max s.now (instantOfMono s (s.pair.heardAt + 200000000)) ∧
      t.pair.reqs.getLast? = some { seq := t.pair.reqSeq, kind := 1, sent := monoNs t }) ∧
  (∀ s : State, pairRole s = 3 → mayAsk s = true →
    ∃ t, exec .lreqRetry s = .next t ∧ t.now = max s.now (s.pair.askedAt + 100000000) ∧ t.pair.askedAt = t.now ∧
      t.pair.reqs.getLast? = some { seq := t.pair.reqSeq, kind := 3, sent := monoNs t }) ∧
  (∀ s : State, pairRole s = 1 →
    ∃ t, exec .pairRelease s = .next t ∧ pairRole t = 2 ∧ t.prpt.permission = false ∧ t.pair.leaseEnd = 0 ∧ t.pair.reqs = []) ∧
  (∀ s : State, pairRole s = 1 → s.prpt.permission = true → s.pair.sentCk = none → canSend s (partnerKey s) 7 = true →
    ∃ t, exec .checkpointCapture s = .next t ∧ t.pair.capturedAt = t.now ∧
      t.now = max s.now (s.pair.capturedAt + s.get Reg.PAIR_CFG_CKINT * 1000000) ∧
      t.get Reg.PAIR_CKSEQ_SEQ = (s.get Reg.PAIR_CKSEQ_SEQ + 1) % 2 ^ 32 ∧
      t.pair.sentCk = some ((s.get Reg.PAIR_CKSEQ_SEQ + 1) % 2 ^ 32, ckImage s)) ∧
  (∀ (s : State) (h : ViaHeader) (e q : Word) (k : BitVec 64) (a b : BitVec 16) (f : Bool) (es : List CkEntry),
    viaArrives s h 7 (ckLen es) → paired s = true → viaKey h = partnerKey s → (s.peer (viaKey h)).enrolled = true → pairRole s = 2 →
    h.pepoch.toNat ≤ pairEpoch s →
    ∃ t, exec (.checkpointReceive h e q k a b f es) s = .next t ∧
      (e.toNat < pairEpoch s → t.pt = s.pt ∧ t.pair.stage = s.pair.stage ∧ t.get Reg.PAIR_FAULT_CKFAIL = 1) ∧
      (e.toNat = pairEpoch s → a.toNat < b.toNat → 1 < b.toNat → s.pair.home = none → s.pair.stage = none → t.pt = s.pt ∧
        t.pair.stage = some { seq := q.toNat, tick := k.toNat, nparts := b.toNat, full := f, parts := [(a.toNat, es)] })) ∧
  (∀ (s : State) (q : Nat) (l : Bool) (g : CkStage), s.pair.home = some (q, l) → s.pair.stage = some g →
    ∃ t, exec .checkpointHomeWriteComplete s = .next t ∧ t.pair.home = none ∧ t.pair.stage = none ∧ t.pair.ckEpoch = some (pairEpoch s) ∧
      (canSend s (partnerKey s) 8 = true → t.out.length = s.out.length + 1)) ∧
  (∀ (s : State) (h : ViaHeader) (q : Word) (v : Byte) (i : CkImage), viaArrives s h 8 5 → s.pair.sentCk = some (q.toNat, i) →
    viaKey h = partnerKey s → h.pepoch.toNat ≤ pairEpoch s →
    ∃ t, exec (.ckackReceive h q v) s = .next t ∧ t.pair.sentCk = none ∧ t.pair.base = if v.toNat = 0 then some i else none)

/-- R421 to R423: a BACnet request of a connected hub takes a token and is counted, answered in order, and a write becomes an
update of class 6; the hub connection is made and lost. -/
def Obligations.Bacnet : Prop :=
  (∀ (s : State) (n : Byte), 2 ≤ s.get Reg.BSC_STAT_HUB → 1000000 ≤ tokensOf s 8 →
    (∀ q : BacRef, ∃ t, exec (.bscReadProperty n q) s = .next t ∧ t.out = s.out ++ [.bacnet n.toNat [bacRead s q]] ∧
      t.get Reg.BSC_REQS_COUNT = (s.get Reg.BSC_REQS_COUNT + 1) % 2 ^ 32) ∧
    (∀ qs : List BacRef, ∃ t, exec (.bscReadPropertyMultiple n qs) s = .next t ∧
      t.out = s.out ++ [.bacnet n.toNat (qs.map (bacRead s))]) ∧
    (∀ (q : BacRef) (o : BscObject) (p : Fin 32), bscObject s q.otype q.inst = some o → q.prop = 85 → commandable s o = true →
      queueOpen s (srcClass bscSrc) →
      ∃ t, exec (.bscWriteProperty n q .null (some p)) s = .next t ∧
        (3 ≤ p.val → p.val ≤ 16 → t.out = s.out ∧ queueOf t (srcClass bscSrc) = queueOf s (srcClass bscSrc) ++
          [{ src := bscSrc, target := .idx o.index, kind := .relinquish p.val, path := .bsc n.toNat }]) ∧
        (¬ (3 ≤ p.val ∧ p.val ≤ 16) → t.pt = s.pt ∧ t.out = s.out ++ [.bacnet n.toNat [bacNoWrite]]))) ∧
  (∀ (s : State) (f v : Bool), viaRuns s = true → anyLink s = true → s.get Reg.BSC_STAT_HUB < 2 → s.get Reg.ENC_STAT_ENTOK = 1 →
    ∃ t, exec (.bscHubConnect true f v) s = .next t ∧ t.get Reg.BSC_STAT_HUB = 2 ∧ (v = true → t.get Reg.BSC_FAULT_TLSFAIL = 1)) ∧
  (∀ (s : State) (v : Bool), viaRuns s = true → anyLink s = true → s.get Reg.BSC_STAT_HUB < 2 → s.get Reg.ENC_STAT_ENTOK = 1 →
    ∃ t, exec (.bscHubConnect false true v) s = .next t ∧ t.get Reg.BSC_STAT_HUB = 3 ∧ t.get Reg.BSC_FAULT_FAILOVER = 1) ∧
  (∀ s : State, 2 ≤ s.get Reg.BSC_STAT_HUB →
    ∃ t, exec .bscHubLost s = .next t ∧ t.get Reg.BSC_STAT_HUB = 1 ∧ t.get Reg.BSC_FAULT_HUBLOST = 1)

/-- R436 to R440, R442, R443, R455, R462, R597: each start and reset records its cause; a B, W or S reset clears what R442 does
not keep, and a start with a clock and a sound bank ends the boot with the point store to restore. -/
def Obligations.StartsAndResets : Prop :=
  (∀ (s : State) (v : BitVec 16) (b : Bool), s.pwr.powered = false →
    ∃ t, exec (.powerOnStart v b) s = .next t ∧ t.pwr.powered = true ∧ t.pwr.booting = true ∧ t.get Reg.MODE_RCAUSE_LAST = 1 ∧
      t.get Reg.PWR_VIN_V10M = v.toNat ∧ t.get Reg.PWR_STAT_INOK = (if inputOk v.toNat then 1 else 0) ∧
      (b = false → t.get Reg.RTC_FAULT_BKCRC = 1 ∧ t.get Reg.RTC_STAT_VALID = 0) ∧
      t.sheets = s.sheets ∧ (b = true → keptFields 1 [(0x002, 16), (0x006, 3), (0x006, 4), (0x006, 37), (0x007, 19)] s t ∧
        t.get Reg.RTC_STAT_VALID = s.get Reg.RTC_STAT_VALID)) ∧
  (∀ (s u : State) (v : BitVec 16) (x i : Bool) (f : List (Nat × Nat)) (sb rb : List Nat), s.pwr.booting = true → s.pwr.powered = true →
    s.clk.cf2 = none → x = true ∨ i = true → s.enc.tripped = false → armLost s = false →
    loadComponents f (((s.set Reg.PWR_VIN_V10M v.toNat).setBit Reg.PWR_STAT_INOK (inputOk v.toNat)).setBit Reg.TAMP_FAULT_TAMPER
      (s.bit Reg.TAMP_STAT_LATCH)) = .go u →
    ∃ t, exec (.fullStart v x i f sb rb) s = .next t ∧ t.pwr.booting = false ∧ t.get Reg.PNT_STAT_RESTORING = 1) ∧
  (∀ (s : State) (r : Fin 5), s.pwr.powered = true →
    ∃ t, exec (.brownoutReset r) s = .next t ∧ t.get Reg.MODE_RCAUSE_LAST = 2 ∧ t.get Reg.MODE_RCAUSE_BRAIL = r.val + 1 ∧
      t.mem = [] ∧ t.keys = [] ∧ t.sessions = [] ∧ t.cle = {} ∧ t.pwr.booting = true ∧ t.get Reg.CSN_STAT_CSTATE = 1 ∧
      t.log = s.log ∧ (s.get Reg.CLK_STAT_AOSRC = 0 → s.rtc.rc32 = false → t.rtc = { s.rtc with snaps := [], trimAt := none }) ∧
      (mode s ≠ 1 → t.sheets = s.sheets ∧ keptFields 2 [(0x002, 16), (0x006, 3), (0x006, 4), (0x049, 16)] s t)) ∧
  (∀ s : State, watchdogRuns s = true → trialComp s = none →
    ∃ t, exec .watchdogExpiry s = .next t ∧ t.get Reg.MODE_RCAUSE_LAST = 3 ∧ t.mem = [] ∧
      t.now = max s.now (s.pwr.wdAt + s.get Reg.MODE_WDCFG_PER * 1000000) ∧ t.log = s.log ∧
      (s.get Reg.CLK_STAT_AOSRC = 0 → s.rtc.rc32 = false → t.rtc = { s.rtc with snaps := [], trimAt := none }) ∧
      (mode s ≠ 1 → t.sheets = s.sheets ∧ keptFields 4 [(0x002, 16), (0x006, 3), (0x006, 4), (0x049, 16)] s t)) ∧
  (∀ (s : State) (w : Word), s.pwr.powered = true → frozen s = false →
    ∃ t, exec (.watchdogKick w) s = .next t ∧
      (w = 0x5A5A5A5A#32 ∨ w = 0xA5A5A5A5#32 → s.pwr.wdLast ≠ some w.toNat → t.pwr.wdAt = s.now ∧ t.pwr.wdLast = some w.toNat ∧
        Frame.holds ⟨[.pwr], [], []⟩ s t) ∧
      (w ≠ 0x5A5A5A5A#32 → w ≠ 0xA5A5A5A5#32 → trialComp s = none → t.get Reg.MODE_RCAUSE_LAST = 3)) ∧
  (∀ (s : State) (a : Nat), s.pwr.srstAt = some a → frozen s = false →
    ∃ t, exec .softwareReset s = .next t ∧ t.get Reg.MODE_RCAUSE_LAST = 4 ∧ t.now = max s.now (a + 2000000) ∧ t.mem = [] ∧
      t.log = s.log ∧ (s.get Reg.CLK_STAT_AOSRC = 0 → s.rtc.rc32 = false → t.rtc = { s.rtc with snaps := [], trimAt := none }) ∧
      (mode s ≠ 1 → t.sheets = s.sheets ∧ keptFields 8 [(0x002, 16), (0x006, 3), (0x006, 4), (0x049, 16)] s t)) ∧
  (∀ s : State, s.pwr.powered = true →
    ∃ t, exec .powerLoss s = .next t ∧ t.pwr.powered = false ∧ t.get Reg.MODE_RCAUSE_LAST = 1 ∧ t.mem = [] ∧
      t.log = s.log ∧
      (mode s ≠ 1 → t.sheets = s.sheets ∧ keptFields 1 [(0x002, 16), (0x006, 3), (0x006, 4), (0x049, 16)] s t))

/-- R443, R444, R447 to R449, R452, R454, R456: a power-fail warning freezes the engines, the caisson seals its sections or
gives up, an F restart resumes, an input over-voltage opens every feed switch; the charged hold-up bank is checked, at the
request and at the interval too, and a check or a charge that fails leaves the caisson DEGRADED. -/
def Obligations.PowerFailAndHoldup : Prop :=
  (∀ (s : State) (v : BitVec 16), s.get Reg.PWR_STAT_PFW = 0 → s.pwr.powered = true →
    ∃ t, exec (.powerFailWarning v) s = .next t ∧ t.get Reg.PWR_STAT_PFW = 1 ∧ t.get Reg.PWR_FAULT_PFW = 1 ∧ t.get Reg.PWR_STAT_ISOL = 1 ∧
      t.get Reg.MODE_STAT_PFREEZE = 1 ∧ t.get Reg.CLE_STAT_HALTED = 1 ∧ t.get Reg.CTE_STAT_HALTED = 1 ∧ t.pwr.warnAt = s.now ∧
      t.get Reg.PWR_PFCNT_COUNT = min (s.get Reg.PWR_PFCNT_COUNT + 1) (2 ^ Reg.PWR_PFCNT_COUNT.width - 1)) ∧
  (∀ (s : State) (us : Word) (j : JournalHalf), tabFind s.pwr.half s.pwr.journal = some j → s.get Reg.CSN_STAT_CSTATE = 5 →
    s.pwr.stopped = false → s.pwr.restartWaits = false → j.sealed2 = false →
    (j.sealed1 = false →
      ∃ t, exec (.caissonSectionSeal false us) s = .next t ∧ t.get Reg.CSN_STAT_JPEND = 1 ∧
        tabFind s.pwr.half t.pwr.journal = some { j with sealed1 := true } ∧ t.now = max s.now (s.pwr.warnAt + us.toNat * 1000)) ∧
    (j.sealed1 = true → s.bit Reg.PNT_STAT_HALTED = true →
      ∃ t, exec (.caissonSectionSeal true us) s = .next t ∧ t.get Reg.CSN_STAT_CSTATE = 6 ∧ t.get Reg.MODE_PWRST_DOZE = 1 ∧
        t.get Reg.CSN_CMTSEQ_SEQ = j.cmtseq % 2 ^ 32 ∧ (∃ k, tabFind s.pwr.half t.pwr.journal = some k ∧ k.sealed2 = true) ∧
        (6000 < (t.now - s.pwr.warnAt) / 1000 → t.get Reg.CSN_FAULT_COMMITLATE = 1) ∧
        t.now = max s.now (s.pwr.warnAt + us.toNat * 1000))) ∧
  (∀ s : State, s.get Reg.CSN_STAT_CSTATE = 5 → s.pwr.stopped = false → s.pwr.restartWaits = false →
    ∃ t, exec .commitHoldupExhausted s = .next t ∧ t.pwr.stopped = true ∧ t.get Reg.CSN_FAULT_COMMITABORT = 1 ∧
      t.pwr.journal = s.pwr.journal) ∧
  (∀ (s : State) (v : BitVec 16), frozen s = true → s.pwr.powered = true → s.clk.cf2 = none →
    ∃ t, exec (.fRestart v) s = .next t ∧
      (commitRuns s = true → t.pwr.restartWaits = true ∧ t.get Reg.MODE_STAT_PFREEZE = 1) ∧
      (commitRuns s = false → t.get Reg.MODE_RCAUSE_LAST = 5 ∧ t.get Reg.PWR_STAT_PFW = 0 ∧ t.get Reg.PWR_STAT_ISOL = 0 ∧
        t.get Reg.MODE_STAT_PFREEZE = 0 ∧ t.pwr.restartWaits = false)) ∧
  (∀ (s : State) (v : BitVec 16), s.get Reg.PWR_STAT_OV = 0 → s.pwr.powered = true →
    ∃ t, exec (.overVoltage v) s = .next t ∧ t.get Reg.PWR_STAT_OV = 1 ∧ t.get Reg.PWR_FAULT_OV = 1 ∧
      (∀ p < 32, fstate t p = if closed s p then 1 else fstate s p)) ∧
  (∀ (s : State) (v : BitVec 16), s.get Reg.PWR_STAT_OV = 1 →
    ∃ t, exec (.overVoltageEnd v) s = .next t ∧ t.get Reg.PWR_STAT_OV = 0 ∧ t.get Reg.PWR_VIN_V10M = v.toNat) ∧
  (∀ (s : State) (v : BitVec 16), frozen s = false → s.pwr.powered = true → s.pwr.booting = false → checkMode s = true →
    s.get Reg.CSN_STAT_CSTATE = 1 ∨ (s.get Reg.CSN_STAT_CSTATE = 4 ∧ s.pwr.lastCheck ≤ s.pwr.chargeAt) →
    ∃ t, exec (.holdupCharged v) s = .next t ∧ t.get Reg.CSN_STAT_CSTATE = 2 ∧ t.get Reg.PWR_VHU_V10M = v.toNat ∧ t.pwr.checkAt = s.now) ∧
  (∀ s : State, s.get Reg.CSN_STAT_CSTATE = 1 → (s.get Reg.MODE_STAT_SHORT).testBit 0 = true →
    ∃ t, exec .holdupChargingTimeout s = .next t ∧ t.get Reg.CSN_STAT_CSTATE = 4 ∧ t.get Reg.CSN_FAULT_CHGTO = 1 ∧
      t.pwr.checked = false ∧ t.now = max s.now (s.pwr.chargeAt + 5000000000)) ∧
  (∀ s : State, checkMode s = true → frozen s = false → s.get Reg.CSN_STAT_CSTATE = 0 ∨ s.get Reg.CSN_STAT_CSTATE = 3 ∨
      s.get Reg.CSN_STAT_CSTATE = 4 →
    (∃ t, exec .holdupCheckRequest s = .next t ∧ t.get Reg.CSN_STAT_CSTATE = 2 ∧ t.pwr.checkAt = s.now) ∧
    (s.get Reg.CSN_CFG_CHKINT ≠ 0 → ∃ t, exec .holdupCheckInterval s = .next t ∧ t.get Reg.CSN_STAT_CSTATE = 2 ∧
      t.now = max s.now (s.pwr.lastCheck + s.get Reg.CSN_CFG_CHKINT * 3600000000000))) ∧
  (∀ (s : State) (a b c d : BitVec 17), s.get Reg.CSN_STAT_CSTATE = 2 →
    ∃ t, exec (.holdupCheckComplete a b c d) s = .next t ∧ t.now = max s.now (s.pwr.checkAt + 4000000) ∧
      (180 * (c.toNat - d.toNat) ≤ 89775 → 10 * (a.toNat - b.toNat) ≤ 2000 → (s.get Reg.MODE_STAT_SHORT).testBit 0 = false →
        t.get Reg.CSN_STAT_CSTATE = 3 ∧ t.pwr.checked = true) ∧
      (180 * (c.toNat - d.toNat) > 89775 → (s.get Reg.MODE_STAT_SHORT).testBit 0 = true →
        t.get Reg.CSN_STAT_CSTATE = 4 ∧ t.pwr.checked = false ∧ t.get Reg.CSN_FAULT_HULOW = 1))

/-- R30, R429, R430, R432, R433, R435: the transitions of the mode: at the start conditions, on STBY, HOLD and FATAL, and in and
out of DOZE. -/
def Obligations.ModeTransitions : Prop :=
  (∀ s : State, mode s = 2 → frozen s = false → startConditions s = true →
    ∃ t, exec .startConditionsMet s = .next t ∧ mode t = (if s.get Reg.MODE_STAT_SHORT = 0 then 3 else 4) ∧
      t.get Reg.MODE_LASTTR_FROM = 2 ∧ t.get Reg.MODE_LASTTR_CAUSE = 3 ∧
      t.get Reg.MODE_TRCNT_COUNT = (s.get Reg.MODE_TRCNT_COUNT + 1) % 2 ^ Reg.MODE_TRCNT_COUNT.width) ∧
  (∀ (s : State) (v : Bool),
    ∃ t, exec (.modeStandbyWrite v) s = .next t ∧
      (frozen s = true → s.bit Reg.MODE_CTRL_STBY ≠ v → t.get Reg.MODE_FAULT_TRANSREF = 1 ∧ mode t = mode s ∧
        t.get Reg.MODE_CTRL_STBY = s.get Reg.MODE_CTRL_STBY) ∧
      (frozen s = false → v = true → mode s = 3 ∨ mode s = 4 → s.get Reg.MODE_STAT_HCAUSE = 0 → mode t = 2 ∧
        t.get Reg.MODE_CTRL_STBY = 1 ∧ t.get Reg.MODE_LASTTR_CAUSE = 6)) ∧
  (∀ (s : State) (v : Bool), frozen s = false →
    ∃ t, exec (.modeHoldWrite v) s = .next t ∧ t.get Reg.MODE_CTRL_HOLD = (if v then 1 else 0) ∧
      (v = true → mode s = 3 ∨ mode s = 4 → mode t = 6 ∧ (t.get Reg.MODE_STAT_HCAUSE).testBit 0 = true) ∧
      (v = false → s.get Reg.MODE_STAT_HCAUSE = 1 → mode s = 6 → mode t = 2 ∧ t.get Reg.MODE_STAT_HCAUSE = 0)) ∧
  (∀ s : State, s.get Reg.MODE_CTRL_FATAL = 0 →
    ∃ t, exec .modeFatalWrite s = .next t ∧ t.get Reg.MODE_CTRL_FATAL = 1 ∧ t.get Reg.MODE_FAULT_FATAL = 1 ∧
      (t.get Reg.MODE_STAT_HCAUSE).testBit 2 = true ∧ (frozen s = false → mode s = 3 ∨ mode s = 4 → mode t = 6)) ∧
  (∀ s : State, mayDoze s = true →
    ∃ t, exec .dozeEntry s = .next t ∧ t.get Reg.MODE_PWRST_DOZE = 1 ∧ t.pwr.dozeAt = s.now ∧ t.clk.ircFrom = none) ∧
  (∀ s : State, s.get Reg.CSN_STAT_CSTATE ≠ 6 → s.get Reg.MODE_PWRST_DOZE = 1 →
    ∃ t, exec .dozeWake s = .next t ∧ t.get Reg.MODE_PWRST_DOZE = 0 ∧ t.pwr.wdAt = s.now ∧ t.clk.ircFrom = some s.now)

/-- R429, R548, R559 to R561, R578: the service connection and SERVICE, and PROVISIONING opened, completed or undone. -/
def Obligations.ServiceAndProvisioning : Prop :=
  (∀ s : State, sessionOpen s 9 = true → s.get Reg.SVC_STAT_SVCEN = 1 → mode s = 2 ∨ mode s = 3 ∨ mode s = 4 ∨ mode s = 6 →
    frozen s = false →
    ∃ t, exec .serviceRequest s = .next t ∧ mode t = 5 ∧ t.get Reg.MODE_LASTTR_FROM = mode s ∧ t.get Reg.MODE_LASTTR_CAUSE = 8) ∧
  (∀ s : State, sessionOpen s 9 = true → mode s = 5 → frozen s = false →
    (∃ t, exec .serviceExit s = .next t ∧ mode t = if s.get Reg.MODE_STAT_HCAUSE ≠ 0 then 6 else 2) ∧
    (∃ t, exec .svcEnRelease s = .next t ∧ t.get Reg.SVC_STAT_SVCEN = 0 ∧ t.get Reg.SVC_FAULT_DROPPED = 1 ∧ sessionOpen t 9 = false ∧
      mode t = if s.get Reg.MODE_STAT_HCAUSE ≠ 0 then 6 else 2) ∧
    (∃ t, exec .svcDisconnect s = .next t ∧ sessionOpen t 9 = false ∧ t.get Reg.SVC_STAT_CONN = 0 ∧
      mode t = if s.get Reg.MODE_STAT_HCAUSE ≠ 0 then 6 else 2)) ∧
  (∀ (s : State) (d : BitVec 16) (o : DtlsOffer) (r : Option Nat) (c : BitVec 256) (v : Bool) (p : BitVec 512),
    serviceUp s = true → sessionOpen s 9 = false → mode s = 0 ∨ mode s = 1 ∨ s.bit Reg.SVC_STAT_SVCEN = true →
    d.toNat = s.get Reg.SVC_CFG_PORT → dtlsOk o = true → s.get Reg.ENC_STAT_ENTOK = 1 →
    ∃ t, exec (.svcConnect d o r c v p) s = .next t ∧
      (v = true → serviceRootOk s r = true → sessionOpen t 9 = true ∧ t.get Reg.SVC_STAT_CONN = 1 ∧
        t.get (Reg.SVC_PEERDIG.ix 0) = p.toNat % 2 ^ 32) ∧
      (v = false → sessionOpen t 9 = false ∧ t.get Reg.SVC_FAULT_AUTHFAIL = 1)) ∧
  (∀ s : State, sessionOpen s 9 = true → frozen s = false → s.get Reg.ENC_STAT_READY = 1 → s.get Reg.ENC_STAT_ENTOK = 1 →
    (mode s = 0 ∧ s.get Reg.ENC_STAT_PROV = 0) ∨ mode s = 7 →
    ∃ t, exec .provisioningOpen s = .next t ∧ mode t = 1 ∧ t.get Reg.ENC_STAT_ROOTOK = 1 ∧ t.enc.root.isSome = true ∧
      t.enc.provFrom = mode s ∧ t.get Reg.MODE_LASTTR_CAUSE = 2) ∧
  (∀ s : State, mode s = 1 → sessionOpen s 9 = true → frozen s = false → provisioned s = true → s.get Reg.MODE_STAT_HCAUSE = 0 →
    ∃ t, exec .provisioningComplete s = .next t ∧ mode t = 2 ∧ t.get Reg.ENC_STAT_PROV = 1 ∧ t.enc.zeroized = false ∧
      t.get Reg.TAMP_STAT_LATCH = 0) ∧
  (∀ s : State, mode s = 1 → sessionOpen s 9 = true → frozen s = false → s.enc.provFrom = 0 ∨ s.enc.provFrom = 7 →
    ∃ t, exec .provisioningEndIncomplete s = .next t ∧ mode t = s.enc.provFrom ∧ t.enc.root = none ∧ t.sheets = {}) ∧
  (∀ s : State, ∃ t, exec .svcEnAssert s = .next t ∧ t.get Reg.SVC_STAT_SVCEN = 1 ∧ t.now = s.now + 20000000) ∧
  (∀ (s : State) (b : Bool), s.get Reg.CLK_STAT_FALLBACK = 0 → s.pwr.powered = true → s.clk.cf2 = none →
    ∃ t, exec (.svcLinkChange b) s = .next t ∧ t.get Reg.SVC_STAT_LINK = if b then 1 else 0)

/-- R472 to R475, R477, R479, R480, R485, R486, R488, R580: the clock monitors, the fallback to IRC and to the RC source,
CLKFAIL2 and its retries, the return to XT25, the joints, the clock output, and the supply monitors. -/
def Obligations.Clocks : Prop :=
  (∀ (s : State) (n : BitVec 17), s.clk.cf2 = none → s.get Reg.MODE_PWRST_DOZE = 0 → s.pwr.powered = true →
    (∃ t, exec (.clockMonitorWindow false n) s = .next t ∧ t.get Reg.CLK_MONXT_COUNT = n.toNat % 65536 ∧
      (24500 ≤ n.toNat → n.toNat ≤ 25500 → s.get Reg.CLK_STAT_FALLBACK = 0 → t.clk.xtFails = 0 ∧ t.get Reg.CLK_STAT_FALLBACK = 0) ∧
      (¬ (24500 ≤ n.toNat ∧ n.toNat ≤ 25500) → s.get Reg.CLK_STAT_FALLBACK = 0 → s.clk.xtFails = 0 → s.clk.m32Fails = 0 →
        t.clk.xtFails = 1 ∧ t.get Reg.CLK_STAT_FALLBACK = 0)) ∧
    (∃ t, exec (.clockMonitorWindow true n) s = .next t ∧ t.get Reg.CLK_MON32_COUNT = n.toNat ∧
      (¬ (61250 ≤ n.toNat ∧ n.toNat ≤ 63750) → s.clk.xtFails = 0 → s.clk.m32Fails = 1 → s.get Reg.CLK_STAT_AOSRC = 0 →
        t.get Reg.CLK_STAT_AOSRC = 1 ∧ t.get Reg.CLK_FAULT_XT32FAIL = 1))) ∧
  (∀ s : State, s.get Reg.CLK_STAT_FALLBACK = 0 → s.clk.tripped = false → s.clk.cf2 = none → s.pwr.powered = true →
    ∃ t, exec .xt25DetectorTrip s = .next t ∧
      (s.clk.ircBad = false → s.get Reg.CLK_IRCSTAT_READY = 1 → t.get Reg.CLK_STAT_FALLBACK = 1 ∧ t.get Reg.CLK_FAULT_CLKFAIL = 1 ∧
        t.get Reg.CLK_FBCNT_COUNT = min (s.get Reg.CLK_FBCNT_COUNT + 1) (2 ^ Reg.CLK_FBCNT_COUNT.width - 1) ∧ t.clk.fbAt = s.now) ∧
      (s.get Reg.CLK_IRCSTAT_READY = 0 → t.clk.tripped = true ∧ t.get Reg.CLK_STAT_FALLBACK = 0)) ∧
  (∀ s : State, s.get Reg.CLK_STAT_AOSRC = 0 →
    ∃ t, exec .xt32DetectorTrip s = .next t ∧ t.get Reg.CLK_STAT_AOSRC = 1 ∧ t.get Reg.CLK_FAULT_XT32FAIL = 1) ∧
  (∀ (s : State) (u : Byte) (a : Nat), s.clk.cf2 = none → s.clk.ircFrom = some a →
    ∃ t, exec (.ircReady u) s = .next t ∧ t.get Reg.CLK_IRCSTAT_READY = 1 ∧ t.get Reg.CLK_IRCSTAT_STARTUS = u.toNat ∧
      t.clk.tripped = false ∧ (s.clk.tripped = true → t.get Reg.CLK_STAT_FALLBACK = 1) ∧
      (s.clk.tripped = false → t.now = max s.now (a + u.toNat * 1000))) ∧
  (∀ (s : State) (a : Nat), s.clk.tripped = true → s.clk.cf2 = none → s.clk.ircFrom = some a →
    ∃ t, exec .ircDeadline s = .next t ∧ (∃ x, t.clk.cf2 = some x ∧ x.element = 1) ∧ t.get Reg.PRPT_AO_SVLATCH = 1 ∧
      t.now = max s.now (a + 20000) ∧ t.get Reg.CLK_IRCSTAT_STARTUS = 255) ∧
  (∀ (s : State) (a : Nat), s.clk.refAt = some a → s.clk.cf2 = none →
    ∃ t, exec .pllRelockTimeout s = .next t ∧ (∃ x, t.clk.cf2 = some x ∧ x.element = 2) ∧ t.get Reg.CLK_PLLSTAT_LOCK = 0 ∧
      t.now = max s.now (a + 1000000)) ∧
  (∀ (s : State) (x : ClkFail2), s.clk.cf2 = some x →
    (∃ t, exec (.clkfail2Retry false) s = .next t ∧ t.now = max s.now x.nextAt ∧ (∃ y, t.clk.cf2 = some y ∧ y.retries = x.retries + 1)) ∧
    (s.enc.tripped = false → ∃ t, exec (.clkfail2Retry true) s = .next t ∧ t.clk.cf2 = none)) ∧
  (∀ s : State, s.get Reg.CLK_STAT_FALLBACK = 1 → s.get Reg.CLK_STAT_XTGOOD = 1 →
    ∃ t, exec .clockRestoreWrite s = .next t ∧ t.get Reg.CLK_STAT_FALLBACK = 0 ∧ t.get Reg.CLK_STAT_FLAP = 0) ∧
  (∀ (s : State) (j : Fin 16) (p : Fin 32),
    ((∀ q ∈ [0x020, 0x050, 0x060, 0x180, 0x100 + p.val], undisturbed s q) → ∃ t, exec (.jointRearm j p) s = .next t ∧ tabFind (32 * j.val + p.val) t.clk.broken = none) ∧
    (∀ a, tabFind (32 * j.val + p.val) s.clk.broken = some a →
      ∃ t, exec (.jointStuck j p) s = .next t ∧ t.get Reg.CLK_FAULT_JSTUCK = 1 ∧ t.now = max s.now (a + 10000000))) ∧
  (∀ (s : State) (r : Fin 16) (c : BitVec 4) (d : BitVec 16),
    ∃ t, exec (.clkoConfigWrite r c d) s = .next t ∧
      (clkoHz c.toNat ≠ 0 → clkoHz c.toNat ≤ 125000000 * (d.toNat + 1) → c.toNat ≠ 11 →
        t.get Reg.CLK_CLKOCFG_SRC = c.toNat ∧ t.get Reg.CLK_CLKOCFG_DIV = d.toNat) ∧
      (125000000 * (d.toNat + 1) < clkoHz c.toNat → t.get Reg.CLK_CLKOCFG_SRC = s.get Reg.CLK_CLKOCFG_SRC ∧
        t.get Reg.CLK_CLKOCFG_DIV = s.get Reg.CLK_CLKOCFG_DIV)) ∧
  (∀ (s : State) (v : BitVec 12),
    ∃ t, exec (.vbatLow v) s = .next t ∧ t.get Reg.PWR_VBAT_MV = v.toNat ∧ (v.toNat < 2200 → t.get Reg.PWR_FAULT_VBATLOW = 1)) ∧
  (∀ (s : State) (p : Fin 6),
    ∃ t, exec (.pllUnlock p) s = .next t ∧ (t.get Reg.CLK_PLLSTAT_LOCK).testBit p.val = false ∧ t.get Reg.CLK_FAULT_PLLUNLOCK = 1)

/-- R494, R497 to R502: core faults and parking, uncorrectable errors, the scrubber, and translation invalidation. -/
def Obligations.CoresAndMemory : Prop :=
  (∀ (s : State) (n : Fin 4) (x : Fin 5) (a : Fin 3) (l : Fin 4) (v : BitVec 48) (m : Bool), s.get (Reg.CORE_STAT_ONLINE.inst n.val) = 1 →
    s.get (Reg.CORE_STAT_HALTED.inst n.val) = 0 →
    ∃ t, exec (.coreFault n 0 x a l v m false) s = .next t ∧
      t.get (Reg.CORE_FSYN.inst n.val) = fsynOf (x.val + 1) a.val l.val 0 0 ∧ t.get (Reg.CORE_FADDRLO_VA.inst n.val) = v.toNat % 2 ^ 32 ∧
      t.get (Reg.CORE_FADDRHI_VA.inst n.val) = v.toNat / 2 ^ 32 ∧ t.get ((coreFaultBit (x.val + 1)).inst n.val) = 1 ∧
      t.get (Reg.CORE_FCNT_COUNT.inst n.val) = min (s.get (Reg.CORE_FCNT_COUNT.inst n.val) + 1)
        (2 ^ (Reg.CORE_FCNT_COUNT.inst n.val).width - 1) ∧ t.cte = s.cte) ∧
  (∀ (s : State) (n : Fin 4) (k : Fin 16) (c : TaskCfg) (x : Fin 4) (a : Fin 3) (l : Fin 4) (v : BitVec 48) (m : Bool) (d : Fin 17),
    d.val = k.val + 1 → s.get (Reg.CORE_STAT_ONLINE.inst n.val) = 1 → s.get (Reg.CORE_STAT_HALTED.inst n.val) = 0 →
    taskCfg s k.val = some c → taskState s k.val = 4 → taskCore s k.val = n.val →
    ∃ t, exec (.coreFault n d x.castSucc a l v m false) s = .next t ∧ taskState t k.val = 7 ∧ t.get Reg.CTE_FAULT_WATCHDOG = 1 ∧
      t.get ((coreFaultBit (x.val + 1)).inst n.val) = 1) ∧
  (∀ (s : State) (n : Fin 4), n.val ≠ 0 → (∀ k ∈ taskSlots s, taskCore s k = n.val → taskState s k = 0) →
    ∃ t, exec (.coreHalt n) s = .next t ∧ t.get (Reg.CORE_CTRL_HALT.inst n.val) = 1 ∧ t.get (Reg.CORE_STAT_HALTED.inst n.val) = 1 ∧
      t.get (Reg.CORE_CSTATE_STATE.inst n.val) = 4) ∧
  (∀ (s : State) (a : BitVec 36) (n : Fin 4), s.get (Reg.CORE_STAT_ONLINE.inst n.val) = 1 → s.get (Reg.CORE_STAT_HALTED.inst n.val) = 0 →
    ∃ t, exec (.eccUncorrectable a (.coreFirmware n true)) s = .next t ∧ t.get Reg.MMU_FAULT_ECCUNC = 1 ∧
      t.get Reg.MMU_ECCADDRLO_PA = a.toNat % 2 ^ 32 ∧ t.get Reg.MMU_ECCADDRHI_PA = a.toNat / 2 ^ 32 ∧ t.get Reg.MMU_ECCSRC_MID = 3 + n.val ∧
      t.get Reg.MMU_ECCUNC_COUNT = min (s.get Reg.MMU_ECCUNC_COUNT + 1) (2 ^ Reg.MMU_ECCUNC_COUNT.width - 1) ∧ mode t = mode s) ∧
  (∀ (s : State) (n : Nat) (a : Option (BitVec 36)), s.get Reg.MODE_PWRST_DOZE = 0 → s.get Reg.CSN_STAT_CSTATE ≠ 5 →
    ∃ t, exec (.scrubPatrol n a) s = .next t ∧ t.get Reg.MMU_STAT_SCRUBON = 1 ∧
      t.get Reg.MMU_ECCCOR_COUNT = min (s.get Reg.MMU_ECCCOR_COUNT + n) (2 ^ Reg.MMU_ECCCOR_COUNT.width - 1) ∧
      (a.isSome = true → t.get Reg.MMU_FAULT_SCRUBUNC = 1 ∧ t.get Reg.MMU_FAULT_ECCUNC = 1)) ∧
  (∀ (s : State) (d : Fin 17) (b : Bool) (v : BitVec 48), s.get Reg.MMU_INVAL_BUSY = 0 →
    ∃ t, exec (.mmuInvalidate d b v) s = .next t ∧ t.get Reg.MMU_INVAL_BUSY = 1 ∧ t.get Reg.MMU_INVAL_ASID = d.val ∧
      t.get Reg.MMU_INVAL_ALL = (if b then 1 else 0) ∧ t.fab.maps = s.fab.maps) ∧
  (∀ s : State, s.get Reg.MMU_INVAL_BUSY = 1 →
    ∃ t, exec .mmuInvalidateComplete s = .next t ∧ t.get Reg.MMU_INVAL_BUSY = 0 ∧ t.fab.maps = s.fab.maps + 1)

/-- R505, R506, R508, R509: firmware starts, resumes and aborts a copy channel, a completed copy element moves its bytes and no
others, and a fault suspends the channel. -/
def Obligations.DmaChannels : Prop :=
  (∀ (s : State) (r : Fin 16) (c : Fin 32), 14 ≤ r.val → dmaState s c.val ≠ 1 → dmaState s c.val ≠ 2 →
    ofLeBytes (((s.getBytes (s.get (dmaField Reg.DMA_COWN_ASID c.val)) (dmaDescAddr s c.val) 32).drop 0x14).take 4) % 4 = 0 →
    ∃ t, exec (.dmaGo r c) s = .next t ∧ dmaState t c.val = 1 ∧ dmaKind t c.val = 0 ∧ dmaElement t c.val = 0 ∧
      t.get (dmaField Reg.DMA_CBYTES_COUNT c.val) = 0 ∧ t.get (dmaField Reg.DMA_CFSYN c.val) = 0 ∧ t.mem = s.mem) ∧
  (∀ (s : State) (r : Fin 16) (c : Fin 32), 10 ≤ r.val → r.val < 14 →
    ∃ t, exec (.dmaGo r c) s = .next t ∧ t.out = s.out ++ [.busError (.req r)] ∧ t.fab = s.fab ∧ t.mem = s.mem) ∧
  (∀ (s : State) (c : Fin 32), dmaState s c.val = 1 → dmaGood s c.val = true → dmaKind s c.val = 0 → dmaProgress s c.val = 0 →
    (dmaDesc s c.val 0x14 4).testBit 8 = true →
    ∃ t, exec (.dmaElementComplete c) s = .next t ∧ dmaState t c.val = 3 ∧
      t.mem = (copyBursts (dmaOwner s c.val) ((dmaLen s c.val + 63) / 64) (dmaDesc s c.val 0 8 % 2 ^ 48) (dmaDesc s c.val 8 8 % 2 ^ 48)
        (dmaLen s c.val) s).mem ∧
      t.get (dmaField Reg.DMA_CBYTES_COUNT c.val) = (s.get (dmaField Reg.DMA_CBYTES_COUNT c.val) + dmaLen s c.val) % 2 ^ 32 ∧
      (Memory.wf s.mem = true → ∀ a, (∀ i < dmaLen s c.val, physical s (dmaOwner s c.val) (dmaDesc s c.val 8 8 % 2 ^ 48 + i) ≠ a) →
        Memory.read t.mem a = Memory.read s.mem a)) ∧
  (∀ (s : State) (c : Fin 32) (x : Fin 4) (a : Fin 2) (l : Fin 4) (o : BitVec 25) (v : BitVec 48), dmaState s c.val = 1 →
    dmaKind s c.val = 0 → dmaOwner s c.val = 0 →
    ∃ t, exec (.dmaFault c x a l o v false) s = .next t ∧ dmaState t c.val = 2 ∧ t.get (Reg.DMA_FAULT_CHFAULT.inst (c.val / 16)) = 1 ∧
      t.get (dmaField Reg.DMA_CFSYN c.val) = fsynOf (x.val + 1) a.val l.val 0 0 ∧
      t.get (dmaField Reg.DMA_CFADDRLO_VA c.val) = v.toNat % 2 ^ 32) ∧
  (∀ (s : State) (r : Fin 16) (c : Fin 32), 14 ≤ r.val →
    (dmaState s c.val = 2 → dmaOwner s c.val = 0 → dmaKind s c.val = 0 → s.get (dmaField Reg.DMA_CFSYN c.val) / 2 ^ 26 % 4 ≠ 2 →
      ∃ t, exec (.dmaResume r c) s = .next t ∧ dmaState t c.val = 1 ∧ t.mem = s.mem) ∧
    (dmaState s c.val = 1 ∨ dmaState s c.val = 2 →
      ∃ t, exec (.dmaAbort r c) s = .next t ∧ dmaState t c.val = 4 ∧ (dmaState s c.val = 2 → t.mem = s.mem)))

/-- R513 to R515, R520: mailboxes accept one word from their source and give it once to their destination, and a lock has one
owner until its owner's write; a DMA channel is no mailbox endpoint and no lock owner and gets a bus error. -/
def Obligations.MailboxesAndLocks : Prop :=
  (∀ (s : State) (w : Master) (m : Fin 64) (v : Word), masterMid w ≠ 7 → reachesLane w (pageLane s 0x008) s = true →
    ∃ t, exec (.mailboxWrite w m v) s = .next t ∧
      (mailAccepts m.val w s = true → t.get (Reg.MBX_MDATA.ix m.val) = v.toNat ∧ t.get (Reg.MBX_MST_FULL.ix m.val) = 1) ∧
      (mailAccepts m.val w s = false → viaBridge w = false → t.out = s.out ++ [.busError w] ∧ t.get Reg.MBX_FAULT_FULLERR = 1 ∧
        t.get (Reg.MBX_MDATA.ix m.val) = s.get (Reg.MBX_MDATA.ix m.val)) ∧
      (mailAccepts m.val w s = false → viaBridge w = true → t.out = s.out ∧
        t.get (Reg.MBX_MDATA.ix m.val) = s.get (Reg.MBX_MDATA.ix m.val))) ∧
  (∀ (s : State) (w : Master) (m : Fin 64), masterMid w ≠ 7 → reachesLane w (pageLane s 0x008) s = true → s.get (Reg.MBX_MCFG_VALID.ix m.val) = 1 →
    s.get (Reg.MBX_MCFG_DST.ix m.val) = mailEndpoint w s →
    ∃ t, exec (.mailboxRead w m) s = .next t ∧
      (s.get (Reg.MBX_MST_FULL.ix m.val) = 1 → t.out = s.out ++ [.readData w (s.get (Reg.MBX_MDATA.ix m.val))] ∧
        t.get (Reg.MBX_MST_FULL.ix m.val) = 0) ∧
      (s.get (Reg.MBX_MST_FULL.ix m.val) = 0 → t.out = s.out ++ [.readData w 0] ∧
        t.get Reg.MBX_EMPTYRD_COUNT = min (s.get Reg.MBX_EMPTYRD_COUNT + 1) (2 ^ Reg.MBX_EMPTYRD_COUNT.width - 1))) ∧
  (∀ (s : State) (m : Fin 64), s.get (Reg.MBX_MST_FULL.ix m.val) = 1 → s.get (Reg.MBX_MCFG_TMO.ix m.val) ≠ 0 →
    s.get (Reg.MBX_MST_TIMEOUT.ix m.val) = 0 →
    ∃ t, exec (.mailboxTimeout m) s = .next t ∧ t.get (Reg.MBX_MST_TIMEOUT.ix m.val) = 1 ∧ t.get Reg.MBX_FAULT_TIMEOUT = 1 ∧
      t.get (Reg.MBX_MST_FULL.ix m.val) = 1) ∧
  (∀ (s : State) (w : Master) (l : Fin 128), masterMid w ≠ 7 → reachesLane w (pageLane s 0x009) s = true →
    ∃ t, exec (.lockAcquire w l) s = .next t ∧ t.get (Reg.LOCK_LOWN_HELD.ix l.val) = 1 ∧
      (s.get (Reg.LOCK_LOWN_HELD.ix l.val) = 0 → t.out = s.out ++ [.readData w 0] ∧ lockOwner l.val w t = true) ∧
      (s.get (Reg.LOCK_LOWN_HELD.ix l.val) = 1 → t.out = s.out ++ [.readData w (s.get (Reg.LOCK_LOWN_MID.ix l.val) + 1)] ∧
        t.get (Reg.LOCK_LOWN_MID.ix l.val) = s.get (Reg.LOCK_LOWN_MID.ix l.val) ∧
        t.get (Reg.LOCK_LOWN_REQ.ix l.val) = s.get (Reg.LOCK_LOWN_REQ.ix l.val))) ∧
  (∀ (s : State) (d : Fin 32) (m : Fin 64) (l : Fin 128) (v : Word) (c : Instr),
    c = .mailboxWrite (.dma d) m v ∨ c = .mailboxRead (.dma d) m ∨ c = .lockAcquire (.dma d) l →
    ∃ t, exec c s = .next t ∧ t.out = s.out ++ [.busError (.dma d)] ∧ Frame.holds ⟨[.out], [], []⟩ s t) ∧
  (∀ (s : State) (w : Master) (l : Fin 128),
    ∃ t, exec (.lockRelease w l) s = .next t ∧
      (lockOwner l.val w s = true → t.get (Reg.LOCK_LOWN_HELD.ix l.val) = 0) ∧
      (lockOwner l.val w s = false → t.get (Reg.LOCK_LOWN_HELD.ix l.val) = s.get (Reg.LOCK_LOWN_HELD.ix l.val)))

/-- R540, R542, R544 to R547, R551: a key operation that an idle enclave takes starts at once, with its operands; its completion
gives the result of R546 and, where it did not succeed, leaves the slots as they were. -/
def Obligations.EnclaveOperations : Prop :=
  (∀ (s : State) (r : Fin 16) (c : Instr) (op k : Nat),
    (∃ x y m u g l b, c = .encDerive r x y m u g l b ∧ op = 1 ∧ k = x.toNat) ∨ (∃ x, c = .encDestroy r x ∧ op = 2 ∧ k = x.toNat) ∨
    (∃ x a i, c = .encEncrypt r x a i ∧ op = 3 ∧ k = x.toNat) ∨ (∃ x a i, c = .encDecrypt r x a i ∧ op = 4 ∧ k = x.toNat) ∨
    (∃ x i, c = .encMac r x i ∧ op = 5 ∧ k = x.toNat) ∨ (∃ x i, c = .encSign r x i ∧ op = 6 ∧ k = x.toNat) ∨
    (∃ x, c = .encPubkey r x ∧ op = 7 ∧ k = x.toNat) ∨ (∃ x y i, c = .encAgree r x y i ∧ op = 8 ∧ k = x.toNat) ∨
    (∃ l, c = .encRandom r l ∧ op = 9 ∧ k = 0) ∨ (∃ i, c = .encAttest r i ∧ op = 10 ∧ k = 0) →
    undisturbed s 0x020 → copyLive r.val s = true → s.get (Reg.ENC_ERES_BUSY.by r.val) = 0 → s.enc.running = none → s.enc.queue = [] → frozen s = false →
    ∃ t, exec c s = .next t ∧ t.get (Reg.ENC_ERES_BUSY.by r.val) = 1 ∧ t.get (Reg.ENC_ERES_DONE.by r.val) = 0 ∧
      t.enc.slots = s.enc.slots ∧
      ∃ o, t.enc.running = some o ∧ o.copy = r.val ∧ o.op = op ∧ o.slot = k ∧ o.lanes = requesterLanes s r.val) ∧
  (∀ (s : State) (o : EncOp), s.enc.running = some o → o.copy < 16 → o.dropped = false → s.enc.queue = [] →
    ∃ t, exec .encOperationComplete s = .next t ∧ t.enc.running = none ∧ t.get (Reg.ENC_ERES_RESULT.by o.copy) = encResult o s ∧
      t.get (Reg.ENC_ERES_DONE.by o.copy) = 1 ∧ t.get (Reg.ENC_ERES_BUSY.by o.copy) = 0 ∧
      t.get Reg.ENC_OPS_COUNT = (s.get Reg.ENC_OPS_COUNT + 1) % 2 ^ Reg.ENC_OPS_COUNT.width ∧
      (encResult o s ≠ 0 → encResult o s ≠ 9 → t.enc.slots = s.enc.slots) ∧
      (encResult o s = 0 → o.op = 2 → t.enc.slots = tabErase o.slot s.enc.slots))

/-- R531, R532, R537, R550, R554, R555: the root key's retries, the health of the entropy source, tampering and ZEROIZE, and the
arming of the sensors. -/
def Obligations.EntropyAndTamper : Prop :=
  (∀ (s : State) (b : Bool) (x k : Nat), s.enc.regenerating = true → s.enc.nonce = some x →
    k = max 1 (s.get Reg.ENC_ROOTTRY_COUNT) + 1 →
    ∃ t, exec (.rootRetry b) s = .next t ∧ (b = true → t.enc.root = some (Config.pufRoot x) ∧ t.get Reg.ENC_STAT_ROOTOK = 1) ∧
      (b = false → 3 ≤ k → t.get Reg.ENC_FAULT_ROOTFAIL = 1 ∧ t.enc.root = none ∧ t.enc.regenerating = false)) ∧
  (∀ s : State, ∃ t, exec .entropyHealthFail s = .next t ∧ t.get Reg.ENC_FAULT_ENTFAIL = 1 ∧ t.get Reg.ENC_STAT_ENTOK = 0 ∧
      t.enc.entAt = s.now) ∧
  (∀ (s : State) (b : Bool), s.get Reg.ENC_STAT_ENTOK = 0 →
    ∃ t, exec (.entropyRestart b) s = .next t ∧ t.now = max s.now (s.enc.entAt + 1000000000) ∧
      t.get Reg.ENC_STAT_ENTOK = if b then 1 else 0) ∧
  (∀ (s : State) (v : BitVec 6), v.toNat &&& s.get Reg.TAMP_ARM_BITS ≠ 0 →
    ∃ t, exec (.tamperTrip v) s = .next t ∧ t.get Reg.TAMP_STAT_LATCH = 1 ∧
      t.get Reg.TAMP_CAUSE_BITS = (s.get Reg.TAMP_CAUSE_BITS ||| (v.toNat &&& s.get Reg.TAMP_ARM_BITS)) % 256 ∧
      (s.pwr.powered = true → s.clk.cf2 = none → t.enc.slots = [] ∧ t.enc.zeroized = true ∧ t.sheets = {} ∧ t.mem = [] ∧
        t.get Reg.MODE_RCAUSE_LAST = 6) ∧
      (s.pwr.powered = false → t.enc.tripped = true)) ∧
  (∀ s : State, sessionOpen s 9 = true → mode s = 5 → s.pwr.powered = true → s.clk.cf2 = none → undisturbed s 0x020 →
    ∃ t, exec (.zeroizeCommand 9) s = .next t ∧ t.enc.slots = [] ∧ t.enc.zeroized = true ∧ t.get Reg.TAMP_STAT_LATCH = 1 ∧
      t.get Reg.MODE_RCAUSE_LAST = 6) ∧
  (∀ (s : State) (r : Fin 16) (v : BitVec 6) (l : Bool),
    ∃ t, exec (.tamperArmWrite r v l) s = .next t ∧
      (r.val = 9 → sessionOpen s 9 = true → mode s = 5 → t.get Reg.TAMP_ARM_BITS = s.get Reg.TAMP_ARM_BITS &&& v.toNat) ∧
      (r.val ≠ 9 → t.get Reg.TAMP_ARM_BITS = s.get Reg.TAMP_ARM_BITS ∧ t.get Reg.TAMP_ARM_LOSSACT = s.get Reg.TAMP_ARM_LOSSACT))

/-- R566, R569, R570, R577: verification, activation, trial, confirmation, reversion and abandonment of an image, all of them
from the service connection. -/
def Obligations.ImageUpdate : Prop :=
  (∀ s : State, sessionOpen s 9 = true → s.get Reg.UPD_STAT_USTATE = 2 →
    ∃ t, exec (.updateVerify 9) s = .next t ∧ t.get Reg.UPD_STAT_USTATE = 3 ∧ t.upd.verifyAt = s.now) ∧
  (∀ (s : State) (b : Bool), s.get Reg.UPD_STAT_USTATE = 3 →
    ∃ t, exec (.verifyComplete b) s = .next t ∧
      (verifyStep b s = none → t.get Reg.UPD_STAT_USTATE = 4) ∧
      (∀ n, verifyStep b s = some n → t.get Reg.UPD_STAT_USTATE = 2 ∧ t.get (verifyFault n) = 1) ∧
      Frame.holds ⟨[.log, .upd], [(0x007, 0x007), (0x021, 0x021)], []⟩ s t) ∧
  (∀ (s : State) (b : Bool) (n x : Nat), sessionOpen s 9 = true → s.get Reg.UPD_ARES_BUSY = 0 →
    stepCheck b (newBank s) (s.get Reg.UPD_ASEL_COMP) s = (n, x) →
    ∃ t, exec (.updateActivate 9 b) s = .next t ∧
      (n = 0 → t.get Reg.UPD_STAT_USTATE = 5 ∧ t.get Reg.UPD_SEL_TRIAL = 2 ^ s.get Reg.UPD_ASEL_COMP) ∧
      (n ≠ 0 → t.get Reg.UPD_ARES_RESULT = n % 16 ∧ t.get Reg.UPD_ARES_DONE = 1 ∧
        Frame.holds ⟨[], [(0x021, 0x021)], []⟩ s t ∧ t.get Reg.UPD_SEL_BANK = s.get Reg.UPD_SEL_BANK)) ∧
  (∀ s : State, sessionOpen s 9 = true → s.get Reg.UPD_STAT_USTATE = 5 → s.get Reg.UPD_ARES_BUSY = 0 →
    ∃ t, exec (.updateConfirm 9) s = .next t ∧ t.get Reg.UPD_SEL_TRIAL = 0 ∧
      (allFrom s (newBank s) = true → t.get Reg.UPD_STAT_USTATE = 0 ∧ t.upd.home = newBank s) ∧
      (allFrom s (newBank s) = false → t.upd.home = s.upd.home ∧ t.get Reg.UPD_STAT_USTATE = if allFrom s s.upd.home then 4 else 6)) ∧
  (∀ (s : State) (b : Bool) (c : Nat), sessionOpen s 9 = true → s.get Reg.UPD_ARES_BUSY = 0 → trialComp s = some c →
    ∃ t, exec (.updateRevert 9 b) s = .next t ∧ t.get Reg.UPD_FAULT_REVERT = 1 ∧ t.get Reg.UPD_SEL_TRIAL = 0) ∧
  (∀ s : State, sessionOpen s 9 = true → s.get Reg.UPD_STAT_USTATE ≠ 5 → s.get Reg.UPD_STAT_MIXED = 0 →
    ∃ t, exec (.updateAbort 9) s = .next t ∧ t.get Reg.UPD_STAT_USTATE = 0 ∧ t.get Reg.UPD_BLKRX_COUNT = 0 ∧ t.upd.writing = none) ∧
  (∀ (s : State) (c : Nat), trialComp s = some c → s.pwr.powered = true →
    (∃ t, exec .trialTimeout s = .next t ∧ t.get Reg.UPD_FAULT_REVERT = 1 ∧ t.get Reg.UPD_SEL_TRIAL = 0 ∧
      t.now = max s.now (s.upd.trialAt + s.get Reg.UPD_TRIALLEFT_S * 1000000000)) ∧
    (∃ t, exec .trialReadyTimeout s = .next t ∧ t.now = max s.now (s.upd.resetAt + 10000000000) ∧
      (trialReady s c = false → t.get Reg.UPD_FAULT_REVERT = 1) ∧ (trialReady s c = true → t.get Reg.UPD_SEL_TRIAL = s.get Reg.UPD_SEL_TRIAL))) ∧
  (∀ (s : State) (r : Fin 16) (b : Bool), r.val ≠ 9 →
    ∃ t, exec (.updateActivate r b) s = .next t ∧ t.upd = s.upd ∧ t.get Reg.UPD_STAT_USTATE = s.get Reg.UPD_STAT_USTATE)

/-- R581, R582, R584, R586, R587, R589, R591, R592, R595: the real-time clock is set by a valid staged time, moves at a boundary
of summer time, follows the time base, trims itself, and loses its time and its backup bytes at a reset of the backup domain. -/
def Obligations.RealTimeClock : Prop :=
  (∀ (s : State) (r : Fin 16),
    ∃ t, exec (.rtcTimeCommit r) s = .next t ∧
      (stagedSeconds s r.val = none → t.get Reg.RTC_FAULT_SETREJ = 1 ∧ t.rtc = s.rtc) ∧
      (∀ x, stagedSeconds s r.val = some x → s.get Reg.TBASE_STAT_LOCK = 0 → t.get Reg.RTC_STAT_VALID = 1 ∧ t.get Reg.RTC_STAT_COARSE = 0 ∧
        t.get Reg.TBASE_STAT_SET = 1 ∧ rtcSeconds t = x) ∧
      (s.get Reg.TBASE_STAT_LOCK = 1 → s.get Reg.RTC_CFG_PTPSET = 1 → t.get Reg.RTC_FAULT_SETREJ = 1 ∧ t.rtc = s.rtc)) ∧
  (∀ s : State,
    (∃ t, exec .rtcDstForward s = .next t ∧
      (s.get Reg.RTC_STAT_DSTPEND = 0 → s.get Reg.RTC_STAT_VALID = 1 → s.get Reg.RTC_STAT_DSTACT = 0 →
        t.get Reg.RTC_STAT_DSTPEND = 1 ∧ t.rtc.dstForward = true) ∧
      (s.get Reg.RTC_STAT_DSTACT = 1 → t.get Reg.RTC_FAULT_DSTREJ = 1 ∧ t.rtc = s.rtc)) ∧
    (∃ t, exec .rtcDstBack s = .next t ∧
      (s.get Reg.RTC_STAT_DSTPEND = 0 → s.get Reg.RTC_STAT_VALID = 1 → s.get Reg.RTC_STAT_DSTACT = 1 →
        t.get Reg.RTC_STAT_DSTPEND = 1 ∧ t.rtc.dstForward = false) ∧
      (s.get Reg.RTC_STAT_DSTACT = 0 → t.get Reg.RTC_FAULT_DSTREJ = 1 ∧ t.rtc = s.rtc))) ∧
  (∀ s : State, s.get Reg.RTC_STAT_DSTPEND = 1 → (rtcSeconds s + 3601) * rtcHz < rtcEnd →
    ∃ t, exec .dstBoundaryApply s = .next t ∧ t.get Reg.RTC_STAT_DSTPEND = 0 ∧
      t.get Reg.RTC_STAT_DSTACT = (if s.rtc.dstForward then 1 else 0) ∧
      rtcSeconds t = if s.rtc.dstForward then rtcSeconds s + 1 + 3600 else rtcSeconds s + 1 - 3600) ∧
  (∀ s : State, s.get Reg.RTC_CFG_PTPSET = 0 →
    ∃ t, exec .rtcPtpCompare s = .next t ∧ t.rtc = s.rtc ∧ t.now = max s.now (instantOfCycles s ((rtcSeconds s + 1) * rtcHz))) ∧
  (∀ (s u : State), u = s.reach (instantOfCycles s ((rtcSeconds s + 1) * rtcHz)) → s.get Reg.RTC_CFG_PTPSET = 1 →
    s.get Reg.TBASE_STAT_LOCK = 1 → 1 < (taiMs u : Int) - 1000 * (u.get Reg.TBASE_CFG_UTCOFF : Int) - rtcUtcMs u →
    ∃ t, exec .rtcPtpCompare s = .next t ∧ t.get Reg.RTC_STAT_VALID = 1 ∧ t.get Reg.RTC_STAT_COARSE = 0 ∧
      t.get Reg.RTC_SETCNT_COUNT = min (s.get Reg.RTC_SETCNT_COUNT + 1) (2 ^ 32 - 1)) ∧
  (∀ s : State, ∃ t, exec .rtcRangeExpiry s = .next t ∧ t.get Reg.RTC_STAT_VALID = 0 ∧ t.get Reg.RTC_FAULT_RANGE = 1 ∧ rtcSeconds t = 0 ∧
      t.now = max s.now (instantOfCycles s rtcEnd)) ∧
  (∀ (s : State) (n : BitVec 40) (a : Nat), s.rtc.trimAt = some a → s.get Reg.RTC_CFG_TSRC = 2 → s.get Reg.TBASE_STAT_LOCK = 1 →
    ∃ t, exec (.trimWindowEnd n) s = .next t ∧ t.now = max s.now (a + 1000000000000) ∧ t.rtc.trimAt = some t.now ∧
      t.get Reg.RTC_TRIM_PPB10 = toField 18 (max (-50000) (min (ofField 18 (s.get Reg.RTC_TRIM_PPB10) - trimError n.toNat 1000 1) 50000))) ∧
  (∀ s : State, ∃ t, exec .trimRestart s = .next t ∧
      (s.get Reg.RTC_CFG_TSRC = 2 → s.get Reg.TBASE_STAT_LOCK = 1 → t.get Reg.RTC_STAT_TRIMRUN = 1 ∧ t.rtc.trimAt = some s.now) ∧
      (s.get Reg.RTC_CFG_TSRC = 0 → t.get Reg.RTC_STAT_TRIMRUN = 0 ∧ t.rtc.trimAt = none)) ∧
  (∀ s : State, ∃ t, exec .backupDomainReset s = .next t ∧ t.get Reg.RTC_STAT_VALID = 0 ∧ t.get Reg.TAMP_ARM_BITS = 0 ∧
      t.get Reg.RTC_FAULT_BKLOST = 1 ∧ (∀ k < 16, t.get (Reg.RTC_BKUP.ix k) = 0) ∧ rtcSeconds t = 0) ∧
  (∀ (s : State) (i : Fin 64) (v : Byte),
    ∃ t, exec (.backupByteWrite i v) s = .next t ∧ t.get (Reg.RTC_BKUP.ix (i.val / 4)) / 2 ^ (8 * (i.val % 4)) % 256 = v.toNat ∧
      t.get Reg.RTC_BKCRC_CRC = backupCrc t % 2 ^ Reg.RTC_BKCRC_CRC.width) ∧
  (∀ (s : State) (r : Fin 16), ∃ t, exec (.rtcSnapshotRead r) s = .next t ∧ tabFind r.val t.rtc.snaps = some (rtcFields s) ∧
      t.out = s.out ++ [.readData (.req r) (rtcFields s).sec])

/-- R601 to R603, R605, R607, R609: event records are numbered, buffered or stored by severity and flushed, firmware's own are
judged first, readers load them, and the recorder marks the hour and saves its operating time. -/
def Obligations.EventLog : Prop :=
  (∀ (s : State) (k : BitVec 16) (v : Fin 8) (is : List (BitVec 64)),
    ∃ t, exec (.logRecordSubmit k v is) s = .next t ∧
      (6 ≤ v.val → t.get Reg.LOG_NEXTSEQ_SEQ = (s.get Reg.LOG_NEXTSEQ_SEQ + 1) % 2 ^ 32 ∧ t.log.buffer = s.log.buffer) ∧
      (v.val < 6 → bufBytes s + 24 + 8 * is.length ≤ 65536 → t.get Reg.LOG_NEXTSEQ_SEQ = (s.get Reg.LOG_NEXTSEQ_SEQ + 1) % 2 ^ 32 ∧
        t.log.buffer.length = s.log.buffer.length + 1) ∧
      (v.val < 6 → 65536 < bufBytes s + 24 + 8 * is.length → t.get Reg.LOG_NEXTSEQ_SEQ = s.get Reg.LOG_NEXTSEQ_SEQ ∧
        t.log.buffer = s.log.buffer ∧ t.get Reg.LOG_FAULT_DROP = 1)) ∧
  (∀ (s : State) (k : Fin 2), 
    ∃ t, exec (.logFirmwareSubmit k) s = .next t ∧
      (goodTypeLen (s.get (Reg.LOG_WHDR_TYPE.by (14 + k.val))) (s.get (Reg.LOG_WHDR_BLEN.by (14 + k.val))) = false →
        t.get (Reg.LOG_WRES_RESULT.by (14 + k.val)) = 2 ∧ t.log = s.log) ∧
      (goodTypeLen (s.get (Reg.LOG_WHDR_TYPE.by (14 + k.val))) (s.get (Reg.LOG_WHDR_BLEN.by (14 + k.val))) = true →
        6 ≤ s.get (Reg.LOG_WHDR_SEV.by (14 + k.val)) → t.get (Reg.LOG_WRES_RESULT.by (14 + k.val)) = 0 ∧
        t.get Reg.LOG_NEXTSEQ_SEQ = (s.get Reg.LOG_NEXTSEQ_SEQ + 1) % 2 ^ 32)) ∧
  (∀ s : State, s.log.drops = [] →
    ∃ t, exec .logFlush s = .next t ∧ t.log.buffer = [] ∧ t.get Reg.LOG_BUFUSE_BYTES = 0 ∧
      (s.log.buffer ≠ [] → bufBytes s < 4096 → t.now = max s.now (s.log.bufSince + 100000000))) ∧
  (∀ (s : State) (r : Fin 16) (k : Nat), k = s.get (Reg.LOG_RSEL_READER.by r.val) →
    ∃ t, exec (.logReaderLoad r) s = .next t ∧ t.get (Reg.LOG_RUSE_INUSE.ix k) = 1 ∧
      (nextRecord (storedRecords s) (s.get (Reg.LOG_RPTR_SEQ.ix k)) = none → t.get (Reg.LOG_RRES_EMPTY.by r.val) = 1) ∧
      (∀ e, nextRecord (storedRecords s) (s.get (Reg.LOG_RPTR_SEQ.ix k)) = some e → t.get (Reg.LOG_RRES_VALID.by r.val) = 1 ∧
        t.get (Reg.LOG_RRES_EMPTY.by r.val) = 0 ∧ t.get (Reg.LOG_RRES_BYTES.by r.val) = logSize e % 512 ∧
        (s.get (Reg.LOG_RSEL_ADV.by r.val) = 1 → t.get (Reg.LOG_RPTR_SEQ.ix k) = (e.seq + 1) % 2 ^ 32))) ∧
  (∀ s : State, s.get Reg.TBASE_STAT_SET = 1 → s.log.lastMark = none →
    ∃ t, exec .logTimemark s = .next t ∧ t.log.lastMark = some (utcMs s / 3600000) ∧ t.now = s.now) ∧
  (∀ s : State, ∃ t, exec .optimeSave s = .next t ∧ t.now = max s.now (s.log.optSaveAt + 1000000000) ∧ t.log.optSaveAt = t.now ∧
      t.log.optSaved = optimeMs t)

/-- R612 to R614: the universal and binary channels: a reading is judged and shown, a contact moves after its debounce time, an
output that does not follow or is shorted faults, and clears. -/
def Obligations.LocalChannels : Prop :=
  (∀ (s : State) (n : Fin 24) (r : UioReading), uioRuns s = true → 1 ≤ uioMode s n.val → uioMode s n.val ≤ 6 →
    ∃ t, exec (.uioInputUpdate n r) s = .next t ∧ t.get (Reg.UIO_URAW.ix n.val) = r.raw.toNat ∧
      (readsBad (uioMode s n.val) r = true → t.get (Reg.UIO_USTAT_OPEN.ix n.val) = 1 ∧ t.get Reg.UIO_FAULT_OPENWIRE = 1 ∧
        t.get Reg.UIO_STAT_IFAULT = 1) ∧
      (readsBad (uioMode s n.val) r = false → t.get (Reg.UIO_USTAT_OPEN.ix n.val) = 0) ∧
      (uioMode s n.val = 6 → t.get (Reg.UIO_UCNT.ix n.val) = (s.get (Reg.UIO_UCNT.ix n.val) + r.pulses) % 2 ^ 32)) ∧
  (∀ (s : State) (n : Fin 24) (b : Bool), uioRuns s = true → uioMode s n.val = 5 ∨ uioMode s n.val = 6 →
    s.bit (Reg.UIO_USTAT_LEVEL.ix n.val) ≠ b →
    ∃ t, exec (.uioContactChange n b) s = .next t ∧ t.bit (Reg.UIO_USTAT_LEVEL.ix n.val) = b ∧
      t.now = s.now + s.get (Reg.UIO_UCFG_DEB.ix n.val) * 1000000) ∧
  (∀ (s : State) (n : Fin 24), uioMode s n.val = 7 ∨ uioMode s n.val = 8 → (localOutput s n.val).isSome = true →
    s.get (Reg.UIO_USTAT_OUTFLT.ix n.val) = 0 →
    ∃ t, exec (.uioOutputFault n) s = .next t ∧ t.get (Reg.UIO_USTAT_OUTFLT.ix n.val) = 1 ∧ t.get Reg.UIO_FAULT_OUTFAULT = 1 ∧
      t.get Reg.UIO_STAT_OFAULT = 1 ∧ t.now = s.now + 100000000) ∧
  (∀ (s : State) (n : Fin 24), s.get (Reg.UIO_USTAT_OUTFLT.ix n.val) = 1 →
    ∃ t, exec (.uioOutputFaultClear n) s = .next t ∧ t.get (Reg.UIO_USTAT_OUTFLT.ix n.val) = 0 ∧ t.now = s.now + 100000000) ∧
  (∀ (s : State) (k : Fin 8), boOn s k.val = true →
    ∃ t, exec (.binaryOutputShort k) s = .next t ∧ (t.get Reg.UIO_BOSTAT_SHORT).testBit k.val = true ∧ t.get Reg.UIO_FAULT_BOSHORT = 1 ∧
      t.get Reg.UIO_BOTRIP_COUNT = min (s.get Reg.UIO_BOTRIP_COUNT + 1) (2 ^ 32 - 1) ∧ t.now = s.now + 20000) ∧
  (∀ (s : State) (k : Fin 8) (b : Bool), (s.get Reg.UIO_BOSTAT_SHORT).testBit k.val = true → boAsked s k.val = true →
    ∃ t, exec (.binaryOutputReclose k b) s = .next t ∧ (t.get Reg.UIO_BOSTAT_SHORT).testBit k.val = b ∧
      t.now = max s.now (tabGet 0 s.uio.boTried k.val + 1000000000)) ∧
  (∀ (s : State) (k : Fin 8) (b : Bool), b = true ∨ boOn s k.val = false →
    ∃ t, exec (.binaryOutputOpenLoad k b) s = .next t ∧ (t.get Reg.UIO_BOSTAT_OPEN).testBit k.val = !b ∧
      (b = false → t.get Reg.UIO_FAULT_BOOPEN = 1))

/-- R615 to R618, R620, R621, R628: readers are polled in turn and their replies awaited, a card or a PIN is decided from the
cache, and a release ends. -/
def Obligations.ReadersAndDoors : Prop :=
  (∀ (s : State) (p : Fin 32) (r : Nat) (c : ReaderCfg), osdpRuns s p.val = true → tabFind p.val s.acc.polls = none →
    nextReader s p.val = some (r, c) → (s.get Reg.ACC_RSECURE_BITS).testBit r = true →
    ∃ t, exec (.osdpPoll p) s = .next t ∧ t.out = s.out ++ [.osdp p.val c.addr 0x60 []] ∧
      tabFind p.val t.acc.polls = some { reader := r, attempts := 1, sentAt := s.now }) ∧
  (∀ (s : State) (p : Fin 32) (x : OsdpPoll) (c : ReaderCfg) (k : Byte) (b : Bool), tabFind p.val s.acc.polls = some x →
    tabFind x.reader (sheet s).readers = some c → osdpRuns s p.val = true →
    ∃ t, exec (.osdpReplyReceive p k .clear b) s = .next t ∧
      (osdpReplies.contains k.toNat = false → t.get Reg.ACC_BADREP_COUNT = min (s.get Reg.ACC_BADREP_COUNT + 1) (2 ^ 32 - 1) ∧
        t.acc = s.acc) ∧
      (k.toNat = 0x40 → (secureOf s x.reader).exchange = none → pstate s p.val = 4 → tabFind p.val t.acc.polls = none)) ∧
  (∀ (s : State) (r : Fin 32), 3 ≤ (secureOf s r.val).fails →
    ∃ t, exec (.secureChannelRetry r) s = .next t ∧ (secureOf t r.val).fails = 0 ∧ t.now = max s.now (secureOf s r.val).retryAt) ∧
  (∀ (s : State) (p : Fin 32) (x : OsdpPoll) (c : ReaderCfg), tabFind p.val s.acc.polls = some x →
    tabFind x.reader (sheet s).readers = some c → osdpRuns s p.val = true →
    ∃ t, exec (.osdpReplyTimeout p false) s = .next t ∧ t.now = max s.now (x.sentAt + 200000000) ∧
      (x.attempts < 2 → tabFind p.val t.acc.polls = some { reader := x.reader, attempts := 2, sentAt := t.now }) ∧
      (2 ≤ x.attempts → tabFind p.val t.acc.polls = none)) ∧
  (∀ (s : State) (p : Fin 32) (x : OsdpPoll) (c : ReaderCfg) (j : Nat) (d : DoorCfg) (n : BitVec 16) (k : List Byte),
    tabFind p.val s.acc.polls = some x → tabFind x.reader (sheet s).readers = some c → osdpRuns s p.val = true → pstate s p.val = 4 →
    (secureOf s x.reader).exchange = none → doorOf s x.reader = some (j, d) → mode s = 3 ∨ mode s = 4 →
    s.acc.cache.find? (fun e => decide (e.2.digest = cardDigest n.toNat (k.map (fun b => b.toNat)))) = none →
    ∃ t, exec (.cardRead p (.secure true) n k) s = .next t ∧ t.acc.grants = s.acc.grants ∧ t.acc.pins = s.acc.pins ∧
      t.get Reg.ACC_DENIES_COUNT = (s.get Reg.ACC_DENIES_COUNT + 1) % 2 ^ Reg.ACC_DENIES_COUNT.width) ∧
  (∀ (s : State) (p : Fin 32) (x : OsdpPoll) (c : ReaderCfg) (j i : Nat) (d : DoorCfg) (e : Credential) (n : BitVec 16) (k : List Byte),
    tabFind p.val s.acc.polls = some x → tabFind x.reader (sheet s).readers = some c → osdpRuns s p.val = true → pstate s p.val = 4 →
    (secureOf s x.reader).exchange = none → doorOf s x.reader = some (j, d) → mode s = 3 ∨ mode s = 4 →
    s.acc.cache.find? (fun e => decide (e.2.digest = cardDigest n.toNat (k.map (fun b => b.toNat)))) = some (i, e) →
    e.doors.testBit j = true → timeOk s e = true → e.flags.testBit 1 = false → e.flags.testBit 2 = false → d.lockdown = none →
    ∃ t, exec (.cardRead p (.secure true) n k) s = .next t ∧ tabFind j t.acc.grants = some (s.now + d.drelt * 1000000000)) ∧
  (∀ (s : State) (p : Fin 32) (x : OsdpPoll) (c : ReaderCfg) (j : Nat) (d : DoorCfg) (w : PinWait) (k : List Byte),
    tabFind p.val s.acc.polls = some x → tabFind x.reader (sheet s).readers = some c → osdpRuns s p.val = true → pstate s p.val = 4 →
    (secureOf s x.reader).exchange = none → doorOf s x.reader = some (j, d) → tabFind j s.acc.pins = some w →
    ∃ t, exec (.osdpKeypadReceive p (.secure true) k) s = .next t ∧
      (k.contains 0x23#8 = false → tabFind j t.acc.pins = some { w with digits := w.digits ++ k.map (fun b => b.toNat) }) ∧
      (k.contains 0x23#8 = true → tabFind j t.acc.pins = none)) ∧
  (∀ (s : State) (j : Fin 32) (w : PinWait) (d : DoorCfg), tabFind j.val s.acc.pins = some w → tabFind j.val (sheet s).doors = some d →
    ∃ t, exec (.pinTimeout j) s = .next t ∧ tabFind j.val t.acc.pins = none ∧ t.now = max s.now (w.since + 10000000000)) ∧
  (∀ (s : State) (j : Fin 32) (a : Nat) (d : DoorCfg), tabFind j.val s.acc.grants = some a → tabFind j.val (sheet s).doors = some d →
    ∃ t, exec (.doorReleaseExpiry j) s = .next t ∧ tabFind j.val t.acc.grants = none ∧ t.now = max s.now a) ∧
  (∀ (s : State) (r : Fin 16) (i : BitVec 20) (e : BitVec 256), winBusy s 0x078 r.val = false → 0x10000 ≤ i.toNat → i.toNat < 0x40D40 →
    ∃ t, exec (.accCredentialCommit r i e) s = .next t ∧
      (mayWriteLane (requesterLanes s r.val) (accLane s) = true → e.toNat / 2 ^ 232 % 256 = 0 →
        t.get ((Reg.WIN_ERR.onPage 0x078).by r.val) = 0 ∧ tabFind (i.toNat - 0x10000) t.acc.cache = none) ∧
      (mayWriteLane (requesterLanes s r.val) (accLane s) = true → e.toNat / 2 ^ 232 % 256 = 1 →
        (∀ x ∈ s.acc.cache, x.2.digest ≠ e.toNat % 2 ^ 96) →
        t.get ((Reg.WIN_ERR.onPage 0x078).by r.val) = 0 ∧
        ∃ x, tabFind (i.toNat - 0x10000) t.acc.cache = some x ∧ x.digest = e.toNat % 2 ^ 96 ∧ x.flags = 1) ∧
      (mayWriteLane (requesterLanes s r.val) (accLane s) = false →
        t.get ((Reg.WIN_ERR.onPage 0x078).by r.val) = 4 ∧ t.acc = s.acc))

/-- R623 to R625, R629: lift calls are placed while the parapet drives, answered or timed out, and the cars' positions and modes
are shown until the link is lost. -/
def Obligations.LiftInterface : Prop :=
  (∀ (s : State) (r : Fin 16) (f g : Byte) (b : Bool), hostReaches s r 0x079 → s.get (Reg.LIFT_CALLRES_BUSY.by r.val) = 0 →
    ∃ t, exec (.liftHostCall r f g b) s = .next t ∧
      (s.prpt.out ≠ .drive → t.get (Reg.LIFT_CALLRES_RESULT.by r.val) = 4 ∧ t.get (Reg.LIFT_CALLRES_DONE.by r.val) = 1 ∧
        t.get (Reg.LIFT_CALLRES_BUSY.by r.val) = 0 ∧ t.get Reg.LIFT_FAULT_REFUSED = 1) ∧
      (s.prpt.out = .drive → (liftPort s).isSome = true → (liftToken s).isSome = true → paired s = false →
        t.get (Reg.LIFT_CALLRES_BUSY.by r.val) = 1 ∧ t.lift.lastId = (s.lift.lastId + 1) % 2 ^ 32 ∧
        t.get Reg.LIFT_CALLS_COUNT = (s.get Reg.LIFT_CALLS_COUNT + 1) % 2 ^ Reg.LIFT_CALLS_COUNT.width)) ∧
  (∀ (s : State) (i : Word) (v k : Byte) (e : BitVec 16) (c : LiftCall) (r : Nat), liftRuns s = true → k.toNat < 16 →
    s.lift.calls.find? (fun c => decide (c.id = i.toNat) && c.sentAt.isSome) = some c → c.copy = some r →
    ∃ t, exec (.drespReceive i v k e) s = .next t ∧ t.get (Reg.LIFT_CALLRES_BUSY.by r) = 0 ∧ t.get (Reg.LIFT_CALLRES_DONE.by r) = 1 ∧
      t.get (Reg.LIFT_CALLRES_CAR.by r) = k.toNat ∧ t.get (Reg.LIFT_CALLRES_ETA.by r) = e.toNat ∧
      t.lift.calls = s.lift.calls.filter (fun x => decide (x.id ≠ i.toNat))) ∧
  (∀ (s : State) (i : Word) (c : LiftCall) (a r : Nat), s.lift.calls.find? (fun c => decide (c.id = i.toNat)) = some c →
    c.sentAt = some a → c.copy = some r →
    ∃ t, exec (.liftCallTimeout i) s = .next t ∧ t.now = max s.now (a + 2000000000) ∧ t.get (Reg.LIFT_CALLRES_RESULT.by r) = 5 ∧
      t.get (Reg.LIFT_CALLRES_BUSY.by r) = 0 ∧ t.get Reg.LIFT_FAULT_CALLTO = 1) ∧
  (∀ (s : State) (c : CarPos), liftRuns s = true →
    ∃ t, exec (.carposReceive [c]) s = .next t ∧
      (c.car.toNat < 16 → floorOk s c.floor = true → t.get (Reg.LIFT_CAR_FLOOR.ix c.car.toNat) = c.floor.toNat ∧
        t.get (Reg.LIFT_CAR_DIR.ix c.car.toNat) = c.dir.toNat % 4 ∧ t.get (Reg.LIFT_CAR_VALID.ix c.car.toNat) = 1) ∧
      (16 ≤ c.car.toNat → t.get Reg.LIFT_FAULT_BADMSG = 1 ∧ t.pt = s.pt)) ∧
  (∀ (s : State) (m : Byte), liftRuns s = true →
    ∃ t, exec (.lstatReceive [m]) s = .next t ∧ t.get (Reg.LIFT_CAR_LMODE.ix 0) = m.toNat % 4 ∧ t.get Reg.LIFT_STAT_LINKUP = 1 ∧
      t.lift.heardAt = s.now) ∧
  (∀ s : State, liftRuns s = true →
    ∃ t, exec .lstatSend s = .next t ∧ t.now = max s.now (s.lift.lstatAt + 1000000000) ∧ t.lift.lstatAt = t.now ∧
      t.out.length = s.out.length + 1) ∧
  (∀ s : State, s.get Reg.LIFT_STAT_LINKUP = 1 →
    ∃ t, exec .liftLinkTimeout s = .next t ∧ t.get Reg.LIFT_STAT_LINKUP = 0 ∧ t.get Reg.LIFT_FAULT_LINKLOST = 1 ∧
      (∀ c < 16, t.get (Reg.LIFT_CAR_VALID.ix c) = 0) ∧ t.now = max s.now (s.lift.heardAt + 3000000000))
end

