-- ==== Sys2Proof/Laws/Bytes.lean ====
section
/-! SUPPORT. The CRC-32C of a byte list is a word of 32 bits. -/

namespace Sys2Proof.Machine

/-- One bit of the CRC keeps it below 2 ^ 32. -/
theorem crc32cBit_lt {c : Nat} (h : c < 2 ^ 32) : crc32cBit c < 2 ^ 32 := by
  unfold crc32cBit
  split
  · exact Nat.xor_lt_two_pow (by omega) (by decide)
  · omega

/-- One byte of the CRC keeps it below 2 ^ 32. -/
theorem crc32cByte_lt {c : Nat} (b : Nat) (h : c < 2 ^ 32) : crc32cByte c b < 2 ^ 32 := by
  unfold crc32cByte
  iterate 8 apply crc32cBit_lt
  exact Nat.xor_lt_two_pow h (by omega)

/-- The CRC-32C lies below 2 ^ 32. -/
theorem crc32c_lt (bs : List Nat) : crc32c bs < 2 ^ 32 := by
  have h : ∀ (l : List Nat) (c : Nat), c < 2 ^ 32 → l.foldl crc32cByte c < 2 ^ 32 := fun l => by
    induction l with
    | nil => exact fun _ hc => hc
    | cons b l ih => exact fun c hc => ih _ (crc32cByte_lt b hc)
  exact Nat.xor_lt_two_pow (h bs _ (by decide)) (by decide)

end Sys2Proof.Machine
end

