-- ==== Sys2Proof/Laws/State.lean ====
section
/-! SUPPORT. One lemma per field of State and per update of `Machine/Ops.lean`: what the update leaves and what it makes. -/

namespace Sys2Proof.Machine

variable (s : State)


/-! ### `set` -/

@[simp] theorem State.set_regs (f : RegField) (v : Nat) : (s.set f v).regs = regWrite s.regs f v := rfl
@[simp] theorem State.set_now (f : RegField) (v : Nat) : (s.set f v).now = s.now := rfl
@[simp] theorem State.set_freeCtr (f : RegField) (v : Nat) : (s.set f v).freeCtr = s.freeCtr := rfl
@[simp] theorem State.set_pending (f : RegField) (v : Nat) : (s.set f v).pending = s.pending := rfl
@[simp] theorem State.set_out (f : RegField) (v : Nat) : (s.set f v).out = s.out := rfl
@[simp] theorem State.set_keys (f : RegField) (v : Nat) : (s.set f v).keys = s.keys := rfl
@[simp] theorem State.set_sessions (f : RegField) (v : Nat) : (s.set f v).sessions = s.sessions := rfl
@[simp] theorem State.set_log (f : RegField) (v : Nat) : (s.set f v).log = s.log := rfl
@[simp] theorem State.set_rtc (f : RegField) (v : Nat) : (s.set f v).rtc = s.rtc := rfl
@[simp] theorem State.set_time (f : RegField) (v : Nat) : (s.set f v).time = s.time := rfl
@[simp] theorem State.set_sheets (f : RegField) (v : Nat) : (s.set f v).sheets = s.sheets := rfl
@[simp] theorem State.set_lane (f : RegField) (v : Nat) : (s.set f v).lane = s.lane := rfl
@[simp] theorem State.set_pt (f : RegField) (v : Nat) : (s.set f v).pt = s.pt := rfl
@[simp] theorem State.set_prpt (f : RegField) (v : Nat) : (s.set f v).prpt = s.prpt := rfl
@[simp] theorem State.set_seg (f : RegField) (v : Nat) : (s.set f v).seg = s.seg := rfl
@[simp] theorem State.set_pbus (f : RegField) (v : Nat) : (s.set f v).pbus = s.pbus := rfl
@[simp] theorem State.set_mem (f : RegField) (v : Nat) : (s.set f v).mem = s.mem := rfl
@[simp] theorem State.set_cle (f : RegField) (v : Nat) : (s.set f v).cle = s.cle := rfl
@[simp] theorem State.set_cte (f : RegField) (v : Nat) : (s.set f v).cte = s.cte := rfl
@[simp] theorem State.set_mtr (f : RegField) (v : Nat) : (s.set f v).mtr = s.mtr := rfl
@[simp] theorem State.set_via (f : RegField) (v : Nat) : (s.set f v).via = s.via := rfl
@[simp] theorem State.set_uplinks (f : RegField) (v : Nat) : (s.set f v).uplinks = s.uplinks := rfl
@[simp] theorem State.set_pair (f : RegField) (v : Nat) : (s.set f v).pair = s.pair := rfl
@[simp] theorem State.set_abut (f : RegField) (v : Nat) : (s.set f v).abut = s.abut := rfl
@[simp] theorem State.set_pwr (f : RegField) (v : Nat) : (s.set f v).pwr = s.pwr := rfl
@[simp] theorem State.set_clk (f : RegField) (v : Nat) : (s.set f v).clk = s.clk := rfl
@[simp] theorem State.set_fab (f : RegField) (v : Nat) : (s.set f v).fab = s.fab := rfl
@[simp] theorem State.set_enc (f : RegField) (v : Nat) : (s.set f v).enc = s.enc := rfl
@[simp] theorem State.set_upd (f : RegField) (v : Nat) : (s.set f v).upd = s.upd := rfl
@[simp] theorem State.set_uio (f : RegField) (v : Nat) : (s.set f v).uio = s.uio := rfl
@[simp] theorem State.set_acc (f : RegField) (v : Nat) : (s.set f v).acc = s.acc := rfl
@[simp] theorem State.set_lift (f : RegField) (v : Nat) : (s.set f v).lift = s.lift := rfl

/-! ### `reach` -/

@[simp] theorem State.reach_regs (t : Nat) : (s.reach t).regs = s.regs := rfl
@[simp] theorem State.reach_now (t : Nat) : (s.reach t).now = max s.now t := rfl
@[simp] theorem State.reach_freeCtr (t : Nat) : (s.reach t).freeCtr = s.freeCtr := rfl
@[simp] theorem State.reach_pending (t : Nat) : (s.reach t).pending = s.pending := rfl
@[simp] theorem State.reach_out (t : Nat) : (s.reach t).out = s.out := rfl
@[simp] theorem State.reach_keys (t : Nat) : (s.reach t).keys = s.keys := rfl
@[simp] theorem State.reach_sessions (t : Nat) : (s.reach t).sessions = s.sessions := rfl
@[simp] theorem State.reach_log (t : Nat) : (s.reach t).log = s.log := rfl
@[simp] theorem State.reach_rtc (t : Nat) : (s.reach t).rtc = s.rtc := rfl
@[simp] theorem State.reach_time (t : Nat) : (s.reach t).time = s.time := rfl
@[simp] theorem State.reach_sheets (t : Nat) : (s.reach t).sheets = s.sheets := rfl
@[simp] theorem State.reach_lane (t : Nat) : (s.reach t).lane = s.lane := rfl
@[simp] theorem State.reach_pt (t : Nat) : (s.reach t).pt = s.pt := rfl
@[simp] theorem State.reach_prpt (t : Nat) : (s.reach t).prpt = s.prpt := rfl
@[simp] theorem State.reach_seg (t : Nat) : (s.reach t).seg = s.seg := rfl
@[simp] theorem State.reach_pbus (t : Nat) : (s.reach t).pbus = s.pbus := rfl
@[simp] theorem State.reach_mem (t : Nat) : (s.reach t).mem = s.mem := rfl
@[simp] theorem State.reach_cle (t : Nat) : (s.reach t).cle = s.cle := rfl
@[simp] theorem State.reach_cte (t : Nat) : (s.reach t).cte = s.cte := rfl
@[simp] theorem State.reach_mtr (t : Nat) : (s.reach t).mtr = s.mtr := rfl
@[simp] theorem State.reach_via (t : Nat) : (s.reach t).via = s.via := rfl
@[simp] theorem State.reach_uplinks (t : Nat) : (s.reach t).uplinks = s.uplinks := rfl
@[simp] theorem State.reach_pair (t : Nat) : (s.reach t).pair = s.pair := rfl
@[simp] theorem State.reach_abut (t : Nat) : (s.reach t).abut = s.abut := rfl
@[simp] theorem State.reach_pwr (t : Nat) : (s.reach t).pwr = s.pwr := rfl
@[simp] theorem State.reach_clk (t : Nat) : (s.reach t).clk = s.clk := rfl
@[simp] theorem State.reach_fab (t : Nat) : (s.reach t).fab = s.fab := rfl
@[simp] theorem State.reach_enc (t : Nat) : (s.reach t).enc = s.enc := rfl
@[simp] theorem State.reach_upd (t : Nat) : (s.reach t).upd = s.upd := rfl
@[simp] theorem State.reach_uio (t : Nat) : (s.reach t).uio = s.uio := rfl
@[simp] theorem State.reach_acc (t : Nat) : (s.reach t).acc = s.acc := rfl
@[simp] theorem State.reach_lift (t : Nat) : (s.reach t).lift = s.lift := rfl

/-! ### `emit` -/

@[simp] theorem State.emit_regs (o : Out) : (s.emit o).regs = s.regs := rfl
@[simp] theorem State.emit_now (o : Out) : (s.emit o).now = s.now := rfl
@[simp] theorem State.emit_freeCtr (o : Out) : (s.emit o).freeCtr = s.freeCtr := rfl
@[simp] theorem State.emit_pending (o : Out) : (s.emit o).pending = s.pending := rfl
@[simp] theorem State.emit_out (o : Out) : (s.emit o).out = s.out ++ [o] := rfl
@[simp] theorem State.emit_keys (o : Out) : (s.emit o).keys = s.keys := rfl
@[simp] theorem State.emit_sessions (o : Out) : (s.emit o).sessions = s.sessions := rfl
@[simp] theorem State.emit_log (o : Out) : (s.emit o).log = s.log := rfl
@[simp] theorem State.emit_rtc (o : Out) : (s.emit o).rtc = s.rtc := rfl
@[simp] theorem State.emit_time (o : Out) : (s.emit o).time = s.time := rfl
@[simp] theorem State.emit_sheets (o : Out) : (s.emit o).sheets = s.sheets := rfl
@[simp] theorem State.emit_lane (o : Out) : (s.emit o).lane = s.lane := rfl
@[simp] theorem State.emit_pt (o : Out) : (s.emit o).pt = s.pt := rfl
@[simp] theorem State.emit_prpt (o : Out) : (s.emit o).prpt = s.prpt := rfl
@[simp] theorem State.emit_seg (o : Out) : (s.emit o).seg = s.seg := rfl
@[simp] theorem State.emit_pbus (o : Out) : (s.emit o).pbus = s.pbus := rfl
@[simp] theorem State.emit_mem (o : Out) : (s.emit o).mem = s.mem := rfl
@[simp] theorem State.emit_cle (o : Out) : (s.emit o).cle = s.cle := rfl
@[simp] theorem State.emit_cte (o : Out) : (s.emit o).cte = s.cte := rfl
@[simp] theorem State.emit_mtr (o : Out) : (s.emit o).mtr = s.mtr := rfl
@[simp] theorem State.emit_via (o : Out) : (s.emit o).via = s.via := rfl
@[simp] theorem State.emit_uplinks (o : Out) : (s.emit o).uplinks = s.uplinks := rfl
@[simp] theorem State.emit_pair (o : Out) : (s.emit o).pair = s.pair := rfl
@[simp] theorem State.emit_abut (o : Out) : (s.emit o).abut = s.abut := rfl
@[simp] theorem State.emit_pwr (o : Out) : (s.emit o).pwr = s.pwr := rfl
@[simp] theorem State.emit_clk (o : Out) : (s.emit o).clk = s.clk := rfl
@[simp] theorem State.emit_fab (o : Out) : (s.emit o).fab = s.fab := rfl
@[simp] theorem State.emit_enc (o : Out) : (s.emit o).enc = s.enc := rfl
@[simp] theorem State.emit_upd (o : Out) : (s.emit o).upd = s.upd := rfl
@[simp] theorem State.emit_uio (o : Out) : (s.emit o).uio = s.uio := rfl
@[simp] theorem State.emit_acc (o : Out) : (s.emit o).acc = s.acc := rfl
@[simp] theorem State.emit_lift (o : Out) : (s.emit o).lift = s.lift := rfl

/-! ### `emitAll` -/

@[simp] theorem State.emitAll_regs (os : List Out) : (s.emitAll os).regs = s.regs := rfl
@[simp] theorem State.emitAll_now (os : List Out) : (s.emitAll os).now = s.now := rfl
@[simp] theorem State.emitAll_freeCtr (os : List Out) : (s.emitAll os).freeCtr = s.freeCtr := rfl
@[simp] theorem State.emitAll_pending (os : List Out) : (s.emitAll os).pending = s.pending := rfl
@[simp] theorem State.emitAll_out (os : List Out) : (s.emitAll os).out = s.out ++ os := rfl
@[simp] theorem State.emitAll_keys (os : List Out) : (s.emitAll os).keys = s.keys := rfl
@[simp] theorem State.emitAll_sessions (os : List Out) : (s.emitAll os).sessions = s.sessions := rfl
@[simp] theorem State.emitAll_log (os : List Out) : (s.emitAll os).log = s.log := rfl
@[simp] theorem State.emitAll_rtc (os : List Out) : (s.emitAll os).rtc = s.rtc := rfl
@[simp] theorem State.emitAll_time (os : List Out) : (s.emitAll os).time = s.time := rfl
@[simp] theorem State.emitAll_sheets (os : List Out) : (s.emitAll os).sheets = s.sheets := rfl
@[simp] theorem State.emitAll_lane (os : List Out) : (s.emitAll os).lane = s.lane := rfl
@[simp] theorem State.emitAll_pt (os : List Out) : (s.emitAll os).pt = s.pt := rfl
@[simp] theorem State.emitAll_prpt (os : List Out) : (s.emitAll os).prpt = s.prpt := rfl
@[simp] theorem State.emitAll_seg (os : List Out) : (s.emitAll os).seg = s.seg := rfl
@[simp] theorem State.emitAll_pbus (os : List Out) : (s.emitAll os).pbus = s.pbus := rfl
@[simp] theorem State.emitAll_mem (os : List Out) : (s.emitAll os).mem = s.mem := rfl
@[simp] theorem State.emitAll_cle (os : List Out) : (s.emitAll os).cle = s.cle := rfl
@[simp] theorem State.emitAll_cte (os : List Out) : (s.emitAll os).cte = s.cte := rfl
@[simp] theorem State.emitAll_mtr (os : List Out) : (s.emitAll os).mtr = s.mtr := rfl
@[simp] theorem State.emitAll_via (os : List Out) : (s.emitAll os).via = s.via := rfl
@[simp] theorem State.emitAll_uplinks (os : List Out) : (s.emitAll os).uplinks = s.uplinks := rfl
@[simp] theorem State.emitAll_pair (os : List Out) : (s.emitAll os).pair = s.pair := rfl
@[simp] theorem State.emitAll_abut (os : List Out) : (s.emitAll os).abut = s.abut := rfl
@[simp] theorem State.emitAll_pwr (os : List Out) : (s.emitAll os).pwr = s.pwr := rfl
@[simp] theorem State.emitAll_clk (os : List Out) : (s.emitAll os).clk = s.clk := rfl
@[simp] theorem State.emitAll_fab (os : List Out) : (s.emitAll os).fab = s.fab := rfl
@[simp] theorem State.emitAll_enc (os : List Out) : (s.emitAll os).enc = s.enc := rfl
@[simp] theorem State.emitAll_upd (os : List Out) : (s.emitAll os).upd = s.upd := rfl
@[simp] theorem State.emitAll_uio (os : List Out) : (s.emitAll os).uio = s.uio := rfl
@[simp] theorem State.emitAll_acc (os : List Out) : (s.emitAll os).acc = s.acc := rfl
@[simp] theorem State.emitAll_lift (os : List Out) : (s.emitAll os).lift = s.lift := rfl

/-! ### `drawn` -/

@[simp] theorem State.drawn_regs : s.drawn.regs = s.regs := rfl
@[simp] theorem State.drawn_now : s.drawn.now = s.now := rfl
@[simp] theorem State.drawn_freeCtr : s.drawn.freeCtr = s.freeCtr + 1 := rfl
@[simp] theorem State.drawn_pending : s.drawn.pending = s.pending := rfl
@[simp] theorem State.drawn_out : s.drawn.out = s.out := rfl
@[simp] theorem State.drawn_keys : s.drawn.keys = s.keys := rfl
@[simp] theorem State.drawn_sessions : s.drawn.sessions = s.sessions := rfl
@[simp] theorem State.drawn_log : s.drawn.log = s.log := rfl
@[simp] theorem State.drawn_rtc : s.drawn.rtc = s.rtc := rfl
@[simp] theorem State.drawn_time : s.drawn.time = s.time := rfl
@[simp] theorem State.drawn_sheets : s.drawn.sheets = s.sheets := rfl
@[simp] theorem State.drawn_lane : s.drawn.lane = s.lane := rfl
@[simp] theorem State.drawn_pt : s.drawn.pt = s.pt := rfl
@[simp] theorem State.drawn_prpt : s.drawn.prpt = s.prpt := rfl
@[simp] theorem State.drawn_seg : s.drawn.seg = s.seg := rfl
@[simp] theorem State.drawn_pbus : s.drawn.pbus = s.pbus := rfl
@[simp] theorem State.drawn_mem : s.drawn.mem = s.mem := rfl
@[simp] theorem State.drawn_cle : s.drawn.cle = s.cle := rfl
@[simp] theorem State.drawn_cte : s.drawn.cte = s.cte := rfl
@[simp] theorem State.drawn_mtr : s.drawn.mtr = s.mtr := rfl
@[simp] theorem State.drawn_via : s.drawn.via = s.via := rfl
@[simp] theorem State.drawn_uplinks : s.drawn.uplinks = s.uplinks := rfl
@[simp] theorem State.drawn_pair : s.drawn.pair = s.pair := rfl
@[simp] theorem State.drawn_abut : s.drawn.abut = s.abut := rfl
@[simp] theorem State.drawn_pwr : s.drawn.pwr = s.pwr := rfl
@[simp] theorem State.drawn_clk : s.drawn.clk = s.clk := rfl
@[simp] theorem State.drawn_fab : s.drawn.fab = s.fab := rfl
@[simp] theorem State.drawn_enc : s.drawn.enc = s.enc := rfl
@[simp] theorem State.drawn_upd : s.drawn.upd = s.upd := rfl
@[simp] theorem State.drawn_uio : s.drawn.uio = s.uio := rfl
@[simp] theorem State.drawn_acc : s.drawn.acc = s.acc := rfl
@[simp] theorem State.drawn_lift : s.drawn.lift = s.lift := rfl

/-! ### `commandEnd` -/

@[simp] theorem commandEnd_regs (s' : State) : (commandEnd s s').regs = s'.regs := rfl
@[simp] theorem commandEnd_now (s' : State) : (commandEnd s s').now = max s.now s'.now := rfl
@[simp] theorem commandEnd_freeCtr (s' : State) : (commandEnd s s').freeCtr = s'.freeCtr := rfl
@[simp] theorem commandEnd_pending (s' : State) : (commandEnd s s').pending = s.pending := rfl
@[simp] theorem commandEnd_out (s' : State) : (commandEnd s s').out = s'.out := rfl
@[simp] theorem commandEnd_keys (s' : State) : (commandEnd s s').keys = s'.keys := rfl
@[simp] theorem commandEnd_sessions (s' : State) : (commandEnd s s').sessions = s'.sessions := rfl
@[simp] theorem commandEnd_log (s' : State) : (commandEnd s s').log = s'.log := rfl
@[simp] theorem commandEnd_rtc (s' : State) : (commandEnd s s').rtc = s'.rtc := rfl
@[simp] theorem commandEnd_time (s' : State) : (commandEnd s s').time = s'.time := rfl
@[simp] theorem commandEnd_sheets (s' : State) : (commandEnd s s').sheets = s'.sheets := rfl
@[simp] theorem commandEnd_lane (s' : State) : (commandEnd s s').lane = s'.lane := rfl
@[simp] theorem commandEnd_pt (s' : State) : (commandEnd s s').pt = s'.pt := rfl
@[simp] theorem commandEnd_prpt (s' : State) : (commandEnd s s').prpt = s'.prpt := rfl
@[simp] theorem commandEnd_seg (s' : State) : (commandEnd s s').seg = s'.seg := rfl
@[simp] theorem commandEnd_pbus (s' : State) : (commandEnd s s').pbus = s'.pbus := rfl
@[simp] theorem commandEnd_mem (s' : State) : (commandEnd s s').mem = s'.mem := rfl
@[simp] theorem commandEnd_cle (s' : State) : (commandEnd s s').cle = s'.cle := rfl
@[simp] theorem commandEnd_cte (s' : State) : (commandEnd s s').cte = s'.cte := rfl
@[simp] theorem commandEnd_mtr (s' : State) : (commandEnd s s').mtr = s'.mtr := rfl
@[simp] theorem commandEnd_via (s' : State) : (commandEnd s s').via = s'.via := rfl
@[simp] theorem commandEnd_uplinks (s' : State) : (commandEnd s s').uplinks = s'.uplinks := rfl
@[simp] theorem commandEnd_pair (s' : State) : (commandEnd s s').pair = s'.pair := rfl
@[simp] theorem commandEnd_abut (s' : State) : (commandEnd s s').abut = s'.abut := rfl
@[simp] theorem commandEnd_pwr (s' : State) : (commandEnd s s').pwr = s'.pwr := rfl
@[simp] theorem commandEnd_clk (s' : State) : (commandEnd s s').clk = s'.clk := rfl
@[simp] theorem commandEnd_fab (s' : State) : (commandEnd s s').fab = s'.fab := rfl
@[simp] theorem commandEnd_enc (s' : State) : (commandEnd s s').enc = s'.enc := rfl
@[simp] theorem commandEnd_upd (s' : State) : (commandEnd s s').upd = s'.upd := rfl
@[simp] theorem commandEnd_uio (s' : State) : (commandEnd s s').uio = s'.uio := rfl
@[simp] theorem commandEnd_acc (s' : State) : (commandEnd s s').acc = s'.acc := rfl
@[simp] theorem commandEnd_lift (s' : State) : (commandEnd s s').lift = s'.lift := rfl

/-! ### The one-bit and counting forms are stores -/

@[simp] theorem State.raise_eq (f : RegField) : s.raise f = s.set f 1 := rfl
@[simp] theorem State.setBit_eq (f : RegField) (b : Bool) : s.setBit f b = s.set f (if b then 1 else 0) := rfl
@[simp] theorem State.countSat_eq (f : RegField) (n : Nat) :
    s.countSat f n = s.set f (min (s.get f + n) (2 ^ f.width - 1)) := rfl
@[simp] theorem State.countWrap_eq (f : RegField) (n : Nat) : s.countWrap f n = s.set f (s.get f + n) := rfl
@[simp] theorem State.bit_iff (f : RegField) : s.bit f = true ↔ s.get f = 1 := by simp [State.bit]

/-! ### Reading a register field after an update -/

@[simp] theorem State.get_reach (f : RegField) (t : Nat) : (s.reach t).get f = s.get f := rfl
@[simp] theorem State.get_emit (f : RegField) (o : Out) : (s.emit o).get f = s.get f := rfl
@[simp] theorem State.get_emitAll (f : RegField) (os : List Out) : (s.emitAll os).get f = s.get f := rfl
@[simp] theorem State.get_drawn (f : RegField) : s.drawn.get f = s.get f := rfl
@[simp] theorem State.get_commandEnd (s' : State) (f : RegField) : (commandEnd s s').get f = s'.get f := rfl

end Sys2Proof.Machine
end

