-- ==== Sys2Proof/Laws/Table.lean ====
section
/-! SUPPORT. What the table operations do: reading after storing, and the canonical form that every store keeps. -/

namespace Sys2Proof.Machine

variable {α : Type}

@[simp] theorem tabFind_erase_same (k : Nat) (t : Table α) : tabFind k (tabErase k t) = none := by
  induction t with
  | nil => rfl
  | cons e t ih =>
    by_cases h : e.1 = k
    · simp [tabErase, h, ih]
    · simp [tabErase, tabFind, h, ih]

theorem tabFind_erase_ne {k j : Nat} (h : j ≠ k) (t : Table α) : tabFind j (tabErase k t) = tabFind j t := by
  induction t with
  | nil => rfl
  | cons e t ih =>
    by_cases h1 : e.1 = k
    · have h2 : ¬ e.1 = j := fun e2 => h (e2.symm.trans h1)
      rw [tabErase, if_pos h1, ih, tabFind, if_neg h2]
    · by_cases h2 : e.1 = j
      · rw [tabErase, if_neg h1, tabFind, if_pos h2, tabFind, if_pos h2]
      · rw [tabErase, if_neg h1, tabFind, if_neg h2, tabFind, if_neg h2, ih]

@[simp] theorem tabFind_insert_same (k : Nat) (v : α) (t : Table α) : tabFind k (tabInsert k v t) = some v := by
  induction t with
  | nil => simp [tabInsert, tabFind]
  | cons e t ih =>
    by_cases h1 : k < e.1
    · simp [tabInsert, tabFind, h1]
    · by_cases h2 : e.1 = k
      · simp [tabInsert, tabFind, h2]
      · simp [tabInsert, tabFind, h1, h2, ih]

theorem tabFind_insert_ne {k j : Nat} (h : j ≠ k) (v : α) (t : Table α) : tabFind j (tabInsert k v t) = tabFind j t := by
  have hk : ¬ k = j := fun e => h e.symm
  induction t with
  | nil => simp [tabInsert, tabFind, hk]
  | cons e t ih =>
    by_cases h1 : k < e.1
    · rw [tabInsert, if_pos h1, tabFind, if_neg hk]
    · by_cases h2 : e.1 = k
      · have h3 : ¬ e.1 = j := fun e2 => h (e2.symm.trans h2)
        rw [tabInsert, if_neg h1, if_pos h2, tabFind, if_neg hk, tabFind, if_neg h3]
      · by_cases h3 : e.1 = j
        · rw [tabInsert, if_neg h1, if_neg h2, tabFind, if_pos h3, tabFind, if_pos h3]
        · rw [tabInsert, if_neg h1, if_neg h2, tabFind, if_neg h3, tabFind, if_neg h3, ih]

/-- Reading the key that was just stored gives the stored value. -/
@[simp] theorem tabGet_put_same [DecidableEq α] (d : α) (k : Nat) (v : α) (t : Table α) : tabGet d (tabPut d k v t) k = v := by
  by_cases h : v = d <;> simp [tabPut, tabGet, h]

/-- Storing at one key leaves what another key holds. -/
theorem tabGet_put_ne [DecidableEq α] {k j : Nat} (h : j ≠ k) (d d' : α) (v : α) (t : Table α) :
    tabGet d' (tabPut d k v t) j = tabGet d' t j := by
  by_cases hv : v = d <;> simp [tabPut, tabGet, hv, tabFind_erase_ne h, tabFind_insert_ne h]

@[simp] theorem tabGet_insert_same (d : α) (k : Nat) (v : α) (t : Table α) : tabGet d (tabInsert k v t) k = v := by
  simp [tabGet]

theorem tabGet_insert_ne {k j : Nat} (h : j ≠ k) (d v : α) (t : Table α) : tabGet d (tabInsert k v t) j = tabGet d t j := by
  simp [tabGet, tabFind_insert_ne h]

@[simp] theorem tabGet_erase_same (d : α) (k : Nat) (t : Table α) : tabGet d (tabErase k t) k = d := by simp [tabGet]

theorem tabGet_erase_ne {k j : Nat} (h : j ≠ k) (d : α) (t : Table α) : tabGet d (tabErase k t) j = tabGet d t j := by
  simp [tabGet, tabFind_erase_ne h]

@[simp] theorem tabGet_nil (d : α) (k : Nat) : tabGet d ([] : Table α) k = d := rfl

/-! ### The canonical form -/

/-- All keys of the table exceed `b`. -/
theorem tabSortedFrom_some (b : Nat) (t : Table α) :
    tabSortedFrom (some b) t = true ↔ (∀ e ∈ t, b < e.1) ∧ tabSorted t = true := by
  induction t generalizing b with
  | nil => simp [tabSorted, tabSortedFrom]
  | cons e t ih =>
    simp only [tabSortedFrom, tabSorted, Bool.and_eq_true, decide_eq_true_eq, List.mem_cons, forall_eq_or_imp]
    constructor
    · rintro ⟨h1, h2⟩
      exact ⟨⟨h1, fun x hx => lt_trans h1 (((ih e.1).1 h2).1 x hx)⟩, h2⟩
    · rintro ⟨⟨h1, -⟩, h2⟩; exact ⟨h1, h2⟩

theorem tabSorted_cons (e : Nat × α) (t : Table α) :
    tabSorted (e :: t) = true ↔ (∀ x ∈ t, e.1 < x.1) ∧ tabSorted t = true := by
  have h : tabSorted (e :: t) = tabSortedFrom (some e.1) t := rfl
  rw [h]; exact tabSortedFrom_some e.1 t

theorem mem_of_mem_erase {k : Nat} {t : Table α} {e : Nat × α} (h : e ∈ tabErase k t) : e ∈ t := by
  induction t with
  | nil => simp [tabErase] at h
  | cons x t ih =>
    by_cases hx : x.1 = k
    · simp [tabErase, hx] at h; exact List.mem_cons_of_mem _ (ih h)
    · simp only [tabErase, hx, if_false, List.mem_cons] at h
      rcases h with h | h
      · exact h ▸ List.mem_cons_self
      · exact List.mem_cons_of_mem _ (ih h)

theorem mem_of_mem_insert {k : Nat} {v : α} {t : Table α} {e : Nat × α} (h : e ∈ tabInsert k v t) : e = (k, v) ∨ e ∈ t := by
  induction t with
  | nil => simp [tabInsert] at h; exact .inl h
  | cons x t ih =>
    by_cases h1 : k < x.1
    · simp [tabInsert, h1] at h; simp; tauto
    · by_cases h2 : x.1 = k
      · simp [tabInsert, h2] at h; simp; tauto
      · simp [tabInsert, h1, h2] at h
        rcases h with h | h
        · exact .inr (h ▸ List.mem_cons_self)
        · rcases ih h with h | h
          · exact .inl h
          · exact .inr (List.mem_cons_of_mem _ h)

/-- Removing a key keeps the keys rising. -/
theorem tabSorted_erase (k : Nat) {t : Table α} (h : tabSorted t = true) : tabSorted (tabErase k t) = true := by
  induction t with
  | nil => rfl
  | cons e t ih =>
    have h2 := (tabSorted_cons e t).1 h
    by_cases hk : e.1 = k
    · simp only [tabErase, hk, if_true]; exact ih h2.2
    · simp only [tabErase, hk, if_false]
      exact (tabSorted_cons _ _).2 ⟨fun x hx => h2.1 x (mem_of_mem_erase hx), ih h2.2⟩

/-- Listing a key keeps the keys rising. -/
theorem tabSorted_insert (k : Nat) (v : α) {t : Table α} (h : tabSorted t = true) : tabSorted (tabInsert k v t) = true := by
  induction t with
  | nil => rfl
  | cons e t ih =>
    have h2 := (tabSorted_cons e t).1 h
    by_cases h1 : k < e.1
    · simp only [tabInsert, h1, if_true]
      refine (tabSorted_cons _ _).2 ⟨fun x hx => ?_, h⟩
      rcases List.mem_cons.1 hx with hx | hx
      · exact hx ▸ h1
      · exact lt_trans h1 (h2.1 x hx)
    · by_cases hk : e.1 = k
      · rw [tabInsert, if_neg h1, if_pos hk]
        exact (tabSorted_cons _ _).2 ⟨fun x hx => by have := h2.1 x hx; rw [hk] at this; exact this, h2.2⟩
      · simp only [tabInsert, h1, hk, if_false]
        refine (tabSorted_cons _ _).2 ⟨fun x hx => ?_, ih h2.2⟩
        rcases mem_of_mem_insert hx with hx | hx
        · subst hx; have := Nat.lt_or_gt_of_ne hk; simp at *; omega
        · exact h2.1 x hx

theorem tabWf_iff [DecidableEq α] (d : α) (t : Table α) : tabWf d t = true ↔ tabSorted t = true ∧ ∀ e ∈ t, e.2 ≠ d := by
  simp [tabWf]

/-- A store keeps the canonical form. -/
theorem tabWf_put [DecidableEq α] {d : α} {t : Table α} (k : Nat) (v : α) (h : tabWf d t = true) : tabWf d (tabPut d k v t) = true := by
  rw [tabWf_iff] at h ⊢
  by_cases hv : v = d
  · simp only [tabPut, hv, if_true]
    exact ⟨tabSorted_erase k h.1, fun e he => h.2 e (mem_of_mem_erase he)⟩
  · simp only [tabPut, hv, if_false]
    refine ⟨tabSorted_insert k v h.1, fun e he => ?_⟩
    rcases mem_of_mem_insert he with he | he
    · subst he; exact hv
    · exact h.2 e he

/-- The empty table is in canonical form. -/
theorem tabWf_nil [DecidableEq α] (d : α) : tabWf d ([] : Table α) = true := rfl

end Sys2Proof.Machine
end

