-- ==== Sys2Proof/Laws/Ops.lean ====
section
/-! SUPPORT. What the shared operations of `Machine/Ops.lean` do: storing and reading a register field, the change sequence of
R41, requests to a page, and the close of a command. -/

namespace Sys2Proof.Machine

/-! ### Register fields -/

/-- A field reads as what was stored in it, cut to its width. -/
@[simp] theorem State.get_set_same (s : State) (f : RegField) (v : Nat) : (s.set f v).get f = v % 2 ^ f.width := by
  show tabGet _ (tabPut _ _ _ _) _ % _ = _
  rw [tabGet_put_same, Nat.mod_mod]

/-- A field reads below two to its width, whatever the state. -/
theorem State.get_lt (s : State) (f : RegField) : s.get f < 2 ^ f.width := Nat.mod_lt _ (Nat.two_pow_pos _)

/-- A store changes no field of another key. -/
theorem State.get_set_ne {f g : RegField} (h : g.key ≠ f.key) (s : State) (v : Nat) : (s.set f v).get g = s.get g :=
  congrArg (· % 2 ^ g.width) (tabGet_put_ne h _ _ _ _)

/-- A store changes no word of another key, whatever field is read there. -/
theorem regRead_set_ne {f g : RegField} (h : g.key ≠ f.key) (t : Table Nat) (v : Nat) :
    regRead (regWrite t f v) g = regRead t g := congrArg (· % 2 ^ g.width) (tabGet_put_ne h _ _ _ _)

/-- A store keeps the keys of the register table rising. -/
theorem State.set_regs_sorted {s : State} (f : RegField) (v : Nat) (h : tabSorted s.regs = true) :
    tabSorted (s.set f v).regs = true := by
  show tabSorted (tabPut _ _ _ _) = true
  unfold tabPut
  split
  · exact tabSorted_erase _ h
  · exact tabSorted_insert _ _ h

/-- At reset every field holds its reset value. -/
@[simp] theorem State.get_reset (f : RegField) : State.reset.get f = f.reset % 2 ^ f.width := rfl

/-! Keys of a placed field. -/

theorem RegField.key_inst (f : RegField) (n : Nat) : (f.inst n).key = f.key + n % f.npages * 32768 := by
  simp only [RegField.key, RegField.inst]; ring

theorem RegField.key_ix (f : RegField) (i : Nat) : (f.ix i).key = f.key + i % f.n1 * f.s1 * 32 := by
  simp only [RegField.key, RegField.ix]; ring

theorem RegField.key_ix2 (f : RegField) (i j : Nat) : (f.ix2 i j).key = f.key + (i % f.n1 * f.s1 + j % f.n2 * f.s2) * 32 := by
  simp only [RegField.key, RegField.ix2]; ring

theorem RegField.key_by (f : RegField) (r : Nat) (h : f.copy = 0) : (f.by r).key = f.key + r * 134217728 := by
  simp only [RegField.key, RegField.by, h]; ring

/-! ### The change sequence (R41, R58) -/

theorem seq_key (p : Nat) : (Reg.HDR_SEQ.onPage p).key = p * 32768 + 224 := by
  simp only [RegField.key, RegField.onPage, Reg.HDR_SEQ, regField]; ring

/-- A field whose word is not 7 is none of the SEQ fields. -/
theorem key_ne_seq {f : RegField} (h : f.wordOf ≠ 7) (p : Nat) : f.key ≠ (Reg.HDR_SEQ.onPage p).key := by
  rw [seq_key]; intro e; apply h; unfold RegField.wordOf; rw [e]; omega

/-- What an increment of SEQ keeps: everything but registers. -/
theorem bumpSeq_regs (s : State) (p : Nat) : ∃ t, bumpSeq s p = { s with regs := t } := by
  unfold bumpSeq
  simp only
  split
  · exact ⟨_, rfl⟩
  · exact ⟨_, rfl⟩

/-- An increment of SEQ changes no field outside word 7. -/
theorem bumpSeq_get (s : State) (p : Nat) {f : RegField} (h : f.wordOf ≠ 7) : (bumpSeq s p).get f = s.get f := by
  unfold bumpSeq
  simp only [State.countWrap_eq]
  split
  · rw [State.get_set_ne (key_ne_seq h 1), State.get_set_ne (key_ne_seq h p)]
  · rw [State.get_set_ne (key_ne_seq h p)]

theorem foldl_bumpSeq_regs (ps : List Nat) (s : State) : ∃ t, ps.foldl bumpSeq s = { s with regs := t } := by
  induction ps generalizing s with
  | nil => exact ⟨s.regs, rfl⟩
  | cons p ps ih =>
    obtain ⟨t, ht⟩ := bumpSeq_regs s p
    obtain ⟨u, hu⟩ := ih (bumpSeq s p)
    exact ⟨u, by rw [List.foldl_cons, hu, ht]⟩

theorem foldl_bumpSeq_get (ps : List Nat) (s : State) {f : RegField} (h : f.wordOf ≠ 7) :
    (ps.foldl bumpSeq s).get f = s.get f := by
  induction ps generalizing s with
  | nil => rfl
  | cons p ps ih => rw [List.foldl_cons, ih, bumpSeq_get s p h]

/-- A reset that clears SEQ counts nothing (R40). -/
theorem settle_cleared {s s' : State} (h : seqCleared s s' = true) : settle s s' = s' := by
  unfold settle
  rw [if_pos h]

/-- The change sequence changes registers only. -/
theorem settle_regs (s s' : State) : ∃ t, settle s s' = { s' with regs := t } := by
  unfold settle
  split
  · exact ⟨s'.regs, rfl⟩
  · exact foldl_bumpSeq_regs _ _

/-- The change sequence changes no field outside word 7 of a page. -/
theorem settle_get (s s' : State) {f : RegField} (h : f.wordOf ≠ 7) : (settle s s').get f = s'.get f := by
  unfold settle
  split
  · rfl
  · exact foldl_bumpSeq_get _ _ h

/-! ### Requests to a page (R78) -/

section
variable {p : Nat} {s : State} (f : State → State)

/-- Outside a D reset of its block a request to a page takes effect. -/
theorem unlessBusy_free (h : s.get (Reg.HDR_STAT_DRBUSY.onPage p) = 0) : unlessBusy p f s = f s := by
  simp [unlessBusy, pageBusy, State.bit, h]

/-- In a D reset of its block a request to a page leaves the state. -/
theorem unlessBusy_busy (h : s.get (Reg.HDR_STAT_DRBUSY.onPage p) = 1) : unlessBusy p f s = s := by
  simp [unlessBusy, pageBusy, State.bit, h]

/-- Outside a D reset of its block a requester's request to a page takes effect. -/
theorem askPage_free (r : Fin 16) (h : s.get (Reg.HDR_STAT_DRBUSY.onPage p) = 0) : askPage r p f s = f s := by
  simp [askPage, pageBusy, State.bit, h]

/-- In a D reset of its block a fabric master gets a bus error. -/
theorem askPage_busy (r : Fin 16) (h : s.get (Reg.HDR_STAT_DRBUSY.onPage p) = 1) (hr : 10 ≤ r.val) :
    askPage r p f s = s.emit (.busError (.req r)) := by
  simp [askPage, pageBusy, State.bit, h, viaBridge, Nat.not_le.mpr (show 9 < r.val from hr)]

/-- A requester that the host bridge lets through to the page is served (R52, R364). -/
theorem askHost_reaches {r : Fin 16}
    (h : viaBridge (.req r) = true → mayWriteLane (requesterLanes s r.val) (pageLane s p) = true) : askHost r p f s = f s := by
  unfold askHost
  split
  · rename_i hd; simp_all
  · rfl

/-- The host bridge turns away a host whose session lacks the page's lane, and records it (R52, R364, R366). -/
theorem askHost_denied {r : Fin 16} (hv : viaBridge (.req r) = true)
    (h : mayWriteLane (requesterLanes s r.val) (pageLane s p) = false) : askHost r p f s = fabricDenial r.val (pageLane s p) p s := by
  simp [askHost, hv, h]
end

/-! ### A takeover (R420) -/

/-- What the completion of a takeover may change: `LASTTKO` and the open takeover. -/
theorem takeoverCheck_get (s : State) {f : RegField} (h : f.key ≠ Reg.PAIR_LASTTKO_MS.key) :
    (takeoverCheck s).get f = s.get f := by
  unfold takeoverCheck
  split
  · rfl
  · split
    · exact regRead_set_ne h _ _
    · rfl

/-- The completion of a takeover keeps everything but registers and the open takeover. -/
theorem takeoverCheck_frame (s : State) :
    ∃ t x, takeoverCheck s = { s with regs := t, pair := { s.pair with takeoverFrom := x } } := by
  unfold takeoverCheck
  split
  · exact ⟨s.regs, s.pair.takeoverFrom, rfl⟩
  · split
    · exact ⟨_, _, rfl⟩
    · exact ⟨s.regs, s.pair.takeoverFrom, rfl⟩

/-! ### The close of a command -/

/-- A command closed by `done` answers one next state. -/
theorem done_next (s s' : State) : ∃ t, done s s' = .next t := ⟨_, rfl⟩

/-- A command closed by `done` answers a next state, of which everything holds that holds of each of its answers. -/
theorem done_completes {s s' : State} {P : State → Prop} (h : ∀ t, done s s' = .next t → P t) :
    ∃ t, done s s' = .next t ∧ P t := ⟨_, rfl, h _ rfl⟩

theorem done_eq {s s' t : State} (h : done s s' = .next t) : t = settle s (takeoverCheck (commandEnd s s')) := by
  unfold done at h; injection h with h; exact h.symm

/-- What `done` keeps of the command's effect: everything but registers, the open takeover, the queue and the time. -/
theorem done_frame {s s' t : State} (h : done s s' = .next t) :
    ∃ r x, t = { s' with regs := r, pending := s.pending, now := max s.now s'.now, pair := { s'.pair with takeoverFrom := x } } := by
  rw [done_eq h]
  obtain ⟨r, hr⟩ := settle_regs s (takeoverCheck (commandEnd s s'))
  obtain ⟨u, x, hx⟩ := takeoverCheck_frame (commandEnd s s')
  exact ⟨r, x, by rw [hr, hx]; rfl⟩

/-- Every register field reads as the command left it, but for SEQ and LASTTKO. -/
theorem done_get {s s' t : State} (h : done s s' = .next t) {f : RegField} (hw : f.wordOf ≠ 7)
    (hk : f.key ≠ Reg.PAIR_LASTTKO_MS.key) : t.get f = s'.get f := by
  rw [done_eq h, settle_get _ _ hw, takeoverCheck_get _ hk]; rfl

section
variable {s s' t : State} (h : done s s' = .next t)
include h

theorem done_pending : t.pending = s.pending := by obtain ⟨r, x, rfl⟩ := done_frame h; rfl
theorem done_now : t.now = max s.now s'.now := by obtain ⟨r, x, rfl⟩ := done_frame h; rfl
theorem done_freeCtr : t.freeCtr = s'.freeCtr := by obtain ⟨r, x, rfl⟩ := done_frame h; rfl
theorem done_out : t.out = s'.out := by obtain ⟨r, x, rfl⟩ := done_frame h; rfl
theorem done_keys : t.keys = s'.keys := by obtain ⟨r, x, rfl⟩ := done_frame h; rfl
theorem done_sessions : t.sessions = s'.sessions := by obtain ⟨r, x, rfl⟩ := done_frame h; rfl
theorem done_log : t.log = s'.log := by obtain ⟨r, x, rfl⟩ := done_frame h; rfl
theorem done_rtc : t.rtc = s'.rtc := by obtain ⟨r, x, rfl⟩ := done_frame h; rfl
theorem done_time : t.time = s'.time := by obtain ⟨r, x, rfl⟩ := done_frame h; rfl
theorem done_sheets : t.sheets = s'.sheets := by obtain ⟨r, x, rfl⟩ := done_frame h; rfl
theorem done_lane : t.lane = s'.lane := by obtain ⟨r, x, rfl⟩ := done_frame h; rfl
theorem done_pt : t.pt = s'.pt := by obtain ⟨r, x, rfl⟩ := done_frame h; rfl
theorem done_prpt : t.prpt = s'.prpt := by obtain ⟨r, x, rfl⟩ := done_frame h; rfl
theorem done_seg : t.seg = s'.seg := by obtain ⟨r, x, rfl⟩ := done_frame h; rfl
theorem done_pbus : t.pbus = s'.pbus := by obtain ⟨r, x, rfl⟩ := done_frame h; rfl
theorem done_mem : t.mem = s'.mem := by obtain ⟨r, x, rfl⟩ := done_frame h; rfl
theorem done_cle : t.cle = s'.cle := by obtain ⟨r, x, rfl⟩ := done_frame h; rfl
theorem done_cte : t.cte = s'.cte := by obtain ⟨r, x, rfl⟩ := done_frame h; rfl
theorem done_mtr : t.mtr = s'.mtr := by obtain ⟨r, x, rfl⟩ := done_frame h; rfl
theorem done_via : t.via = s'.via := by obtain ⟨r, x, rfl⟩ := done_frame h; rfl
theorem done_uplinks : t.uplinks = s'.uplinks := by obtain ⟨r, x, rfl⟩ := done_frame h; rfl
theorem done_abut : t.abut = s'.abut := by obtain ⟨r, x, rfl⟩ := done_frame h; rfl
theorem done_pwr : t.pwr = s'.pwr := by obtain ⟨r, x, rfl⟩ := done_frame h; rfl
theorem done_clk : t.clk = s'.clk := by obtain ⟨r, x, rfl⟩ := done_frame h; rfl
theorem done_fab : t.fab = s'.fab := by obtain ⟨r, x, rfl⟩ := done_frame h; rfl
theorem done_enc : t.enc = s'.enc := by obtain ⟨r, x, rfl⟩ := done_frame h; rfl
theorem done_upd : t.upd = s'.upd := by obtain ⟨r, x, rfl⟩ := done_frame h; rfl
theorem done_uio : t.uio = s'.uio := by obtain ⟨r, x, rfl⟩ := done_frame h; rfl
theorem done_acc : t.acc = s'.acc := by obtain ⟨r, x, rfl⟩ := done_frame h; rfl
theorem done_lift : t.lift = s'.lift := by obtain ⟨r, x, rfl⟩ := done_frame h; rfl
end

end Sys2Proof.Machine
end

