-- ==== Sys2Proof/Laws/Log.lean ====
section
/-! SUPPORT. What submitting an event record changes: the LOG page (R603 to R607) and the recorder, nothing else. -/

namespace Sys2Proof.Machine

/-- `s'` differs from `s` in the recorder and in fields of the LOG page at most. -/
def LogOnly (s s' : State) : Prop :=
  (∃ r l, s' = { s with regs := r, log := l }) ∧ ∀ f : RegField, f.key / 32768 ≠ 7 → s'.get f = s.get f

theorem LogOnly.refl (s : State) : LogOnly s s := ⟨⟨s.regs, s.log, rfl⟩, fun _ _ => rfl⟩

theorem LogOnly.trans {s s' s'' : State} (h : LogOnly s s') (h' : LogOnly s' s'') : LogOnly s s'' := by
  obtain ⟨⟨r, l, rfl⟩, hg⟩ := h
  obtain ⟨⟨r', l', rfl⟩, hg'⟩ := h'
  exact ⟨⟨r', l', rfl⟩, fun f hf => (hg' f hf).trans (hg f hf)⟩

/-- A store to a field of the LOG page. -/
theorem LogOnly.set (s : State) (f : RegField) (v : Nat) (h : f.key / 32768 = 7) : LogOnly s (s.set f v) :=
  ⟨⟨_, s.log, rfl⟩, fun g hg => State.get_set_ne (fun e => hg (by rw [e, h])) s v⟩

/-- A change of the recorder alone. -/
theorem LogOnly.log (s : State) (l : LogState) : LogOnly s { s with log := l } := ⟨⟨s.regs, l, rfl⟩, fun _ _ => rfl⟩

theorem logKey_ix8 (f : RegField) (hk : f.key = 7 * 32768 + f.key % 32768) (hs : f.s1 = 1) (i : Nat) (hi : i < 8)
    (h : f.key % 32768 < 32768 - 256) : (f.ix i).key / 32768 = 7 := by
  have hm : i % f.n1 ≤ i := Nat.mod_le _ _
  rw [RegField.key_ix, hs]; omega

theorem countOverwritten_only (s : State) (rs : List LogRecord) : LogOnly s (countOverwritten s rs) := by
  induction rs generalizing s with
  | nil => exact .refl s
  | cons r rs ih =>
    have h1 : LogOnly s (s.countSat (Reg.LOG_OVWR_COUNT.ix (r.sev % 8)) 1) :=
      .set _ _ _ (logKey_ix8 _ (by decide) (by decide) _ (Nat.mod_lt _ (by decide)) (by decide))
    unfold countOverwritten
    rw [List.foldl_cons]
    refine LogOnly.trans ?_ (ih _)
    simp only
    split
    · exact h1.trans (.set _ _ _ (by decide))
    · exact h1

theorem showSegs_only (s : State) : LogOnly s (showSegs s) :=
  ((LogOnly.set s _ _ (by decide)).trans (.set _ _ _ (by decide))).trans (.set _ _ _ (by decide))

theorem openSegment_only (s : State) (b : Nat) (r : LogRecord) : LogOnly s (openSegment s b r) := by
  unfold openSegment
  simp only
  split
  · exact .log _ _
  · exact (countOverwritten_only _ _).trans (.log _ _)

theorem logStore_only (s : State) (r : LogRecord) : LogOnly s (logStore s r) := by
  unfold logStore
  simp only
  split
  · exact .log _ _
  · exact (openSegment_only _ _ _).trans (showSegs_only _)

/-- Submitting an event record changes the recorder and the LOG page only. -/
theorem logEvent_only (typ sev : Nat) (items : List Nat) (s : State) : LogOnly s (logEvent typ sev items s) := by
  unfold logEvent
  simp only
  split
  · exact (logStore_only _ _).trans (.set _ _ _ (by decide))
  · split
    · exact ((LogOnly.log s _).trans (.set _ _ _ (by decide))).trans (.set _ _ _ (by decide))
    · exact (((LogOnly.log s _).trans
        (.set _ _ _ (logKey_ix8 _ (by decide) (by decide) _ (Nat.mod_lt _ (by decide)) (by decide)))).trans
          (.set _ _ _ (by decide))).trans (.set _ _ _ (by decide))

/-- A field outside the LOG page reads the same after an event record was submitted. -/
theorem logEvent_get (typ sev : Nat) (items : List Nat) (s : State) {f : RegField} (h : f.key / 32768 ≠ 7) :
    (logEvent typ sev items s).get f = s.get f := (logEvent_only typ sev items s).2 f h

@[simp] theorem logEvent_now (typ sev : Nat) (items : List Nat) (s : State) : (logEvent typ sev items s).now = s.now := by
  obtain ⟨⟨r, l, h⟩, -⟩ := logEvent_only typ sev items s; rw [h]
@[simp] theorem logEvent_freeCtr (typ sev : Nat) (items : List Nat) (s : State) : (logEvent typ sev items s).freeCtr = s.freeCtr := by
  obtain ⟨⟨r, l, h⟩, -⟩ := logEvent_only typ sev items s; rw [h]
@[simp] theorem logEvent_pending (typ sev : Nat) (items : List Nat) (s : State) : (logEvent typ sev items s).pending = s.pending := by
  obtain ⟨⟨r, l, h⟩, -⟩ := logEvent_only typ sev items s; rw [h]
@[simp] theorem logEvent_out (typ sev : Nat) (items : List Nat) (s : State) : (logEvent typ sev items s).out = s.out := by
  obtain ⟨⟨r, l, h⟩, -⟩ := logEvent_only typ sev items s; rw [h]
@[simp] theorem logEvent_keys (typ sev : Nat) (items : List Nat) (s : State) : (logEvent typ sev items s).keys = s.keys := by
  obtain ⟨⟨r, l, h⟩, -⟩ := logEvent_only typ sev items s; rw [h]
@[simp] theorem logEvent_sessions (typ sev : Nat) (items : List Nat) (s : State) : (logEvent typ sev items s).sessions = s.sessions := by
  obtain ⟨⟨r, l, h⟩, -⟩ := logEvent_only typ sev items s; rw [h]
@[simp] theorem logEvent_rtc (typ sev : Nat) (items : List Nat) (s : State) : (logEvent typ sev items s).rtc = s.rtc := by
  obtain ⟨⟨r, l, h⟩, -⟩ := logEvent_only typ sev items s; rw [h]
@[simp] theorem logEvent_time (typ sev : Nat) (items : List Nat) (s : State) : (logEvent typ sev items s).time = s.time := by
  obtain ⟨⟨r, l, h⟩, -⟩ := logEvent_only typ sev items s; rw [h]
@[simp] theorem logEvent_sheets (typ sev : Nat) (items : List Nat) (s : State) : (logEvent typ sev items s).sheets = s.sheets := by
  obtain ⟨⟨r, l, h⟩, -⟩ := logEvent_only typ sev items s; rw [h]
@[simp] theorem logEvent_lane (typ sev : Nat) (items : List Nat) (s : State) : (logEvent typ sev items s).lane = s.lane := by
  obtain ⟨⟨r, l, h⟩, -⟩ := logEvent_only typ sev items s; rw [h]
@[simp] theorem logEvent_pt (typ sev : Nat) (items : List Nat) (s : State) : (logEvent typ sev items s).pt = s.pt := by
  obtain ⟨⟨r, l, h⟩, -⟩ := logEvent_only typ sev items s; rw [h]
@[simp] theorem logEvent_prpt (typ sev : Nat) (items : List Nat) (s : State) : (logEvent typ sev items s).prpt = s.prpt := by
  obtain ⟨⟨r, l, h⟩, -⟩ := logEvent_only typ sev items s; rw [h]
@[simp] theorem logEvent_seg (typ sev : Nat) (items : List Nat) (s : State) : (logEvent typ sev items s).seg = s.seg := by
  obtain ⟨⟨r, l, h⟩, -⟩ := logEvent_only typ sev items s; rw [h]
@[simp] theorem logEvent_pbus (typ sev : Nat) (items : List Nat) (s : State) : (logEvent typ sev items s).pbus = s.pbus := by
  obtain ⟨⟨r, l, h⟩, -⟩ := logEvent_only typ sev items s; rw [h]
@[simp] theorem logEvent_mem (typ sev : Nat) (items : List Nat) (s : State) : (logEvent typ sev items s).mem = s.mem := by
  obtain ⟨⟨r, l, h⟩, -⟩ := logEvent_only typ sev items s; rw [h]
@[simp] theorem logEvent_cle (typ sev : Nat) (items : List Nat) (s : State) : (logEvent typ sev items s).cle = s.cle := by
  obtain ⟨⟨r, l, h⟩, -⟩ := logEvent_only typ sev items s; rw [h]
@[simp] theorem logEvent_cte (typ sev : Nat) (items : List Nat) (s : State) : (logEvent typ sev items s).cte = s.cte := by
  obtain ⟨⟨r, l, h⟩, -⟩ := logEvent_only typ sev items s; rw [h]
@[simp] theorem logEvent_mtr (typ sev : Nat) (items : List Nat) (s : State) : (logEvent typ sev items s).mtr = s.mtr := by
  obtain ⟨⟨r, l, h⟩, -⟩ := logEvent_only typ sev items s; rw [h]
@[simp] theorem logEvent_via (typ sev : Nat) (items : List Nat) (s : State) : (logEvent typ sev items s).via = s.via := by
  obtain ⟨⟨r, l, h⟩, -⟩ := logEvent_only typ sev items s; rw [h]
@[simp] theorem logEvent_uplinks (typ sev : Nat) (items : List Nat) (s : State) : (logEvent typ sev items s).uplinks = s.uplinks := by
  obtain ⟨⟨r, l, h⟩, -⟩ := logEvent_only typ sev items s; rw [h]
@[simp] theorem logEvent_pair (typ sev : Nat) (items : List Nat) (s : State) : (logEvent typ sev items s).pair = s.pair := by
  obtain ⟨⟨r, l, h⟩, -⟩ := logEvent_only typ sev items s; rw [h]
@[simp] theorem logEvent_abut (typ sev : Nat) (items : List Nat) (s : State) : (logEvent typ sev items s).abut = s.abut := by
  obtain ⟨⟨r, l, h⟩, -⟩ := logEvent_only typ sev items s; rw [h]
@[simp] theorem logEvent_pwr (typ sev : Nat) (items : List Nat) (s : State) : (logEvent typ sev items s).pwr = s.pwr := by
  obtain ⟨⟨r, l, h⟩, -⟩ := logEvent_only typ sev items s; rw [h]
@[simp] theorem logEvent_clk (typ sev : Nat) (items : List Nat) (s : State) : (logEvent typ sev items s).clk = s.clk := by
  obtain ⟨⟨r, l, h⟩, -⟩ := logEvent_only typ sev items s; rw [h]
@[simp] theorem logEvent_fab (typ sev : Nat) (items : List Nat) (s : State) : (logEvent typ sev items s).fab = s.fab := by
  obtain ⟨⟨r, l, h⟩, -⟩ := logEvent_only typ sev items s; rw [h]
@[simp] theorem logEvent_enc (typ sev : Nat) (items : List Nat) (s : State) : (logEvent typ sev items s).enc = s.enc := by
  obtain ⟨⟨r, l, h⟩, -⟩ := logEvent_only typ sev items s; rw [h]
@[simp] theorem logEvent_upd (typ sev : Nat) (items : List Nat) (s : State) : (logEvent typ sev items s).upd = s.upd := by
  obtain ⟨⟨r, l, h⟩, -⟩ := logEvent_only typ sev items s; rw [h]
@[simp] theorem logEvent_uio (typ sev : Nat) (items : List Nat) (s : State) : (logEvent typ sev items s).uio = s.uio := by
  obtain ⟨⟨r, l, h⟩, -⟩ := logEvent_only typ sev items s; rw [h]
@[simp] theorem logEvent_acc (typ sev : Nat) (items : List Nat) (s : State) : (logEvent typ sev items s).acc = s.acc := by
  obtain ⟨⟨r, l, h⟩, -⟩ := logEvent_only typ sev items s; rw [h]
@[simp] theorem logEvent_lift (typ sev : Nat) (items : List Nat) (s : State) : (logEvent typ sev items s).lift = s.lift := by
  obtain ⟨⟨r, l, h⟩, -⟩ := logEvent_only typ sev items s; rw [h]

/-- Flushing the buffer changes the recorder and the LOG page only. -/
theorem flushBuffer_only (s : State) : LogOnly s (flushBuffer s) := by
  have hf : ∀ (rs : List LogRecord) (u : State), LogOnly u (rs.foldl logStore u) := by
    intro rs
    induction rs with
    | nil => exact fun u => .refl u
    | cons r rs ih => intro u; rw [List.foldl_cons]; exact (logStore_only u r).trans (ih _)
  have h := (((LogOnly.log s { s.log with buffer := [] }).trans (hf s.log.buffer _)).trans
    (LogOnly.set _ Reg.LOG_BUFUSE_BYTES 0 (by decide))).trans (LogOnly.set _ Reg.LOG_STAT_BUFFULL 0 (by decide))
  unfold flushBuffer
  simp only
  split
  · exact h
  · exact (h.trans (.log _ _)).trans (logEvent_only _ _ _ _)

end Sys2Proof.Machine
end

