-- ==== Sys2Proof/Laws/Memory.lean ====
section
/-! SUPPORT. What the memory operations do: reading after writing, and the canonical form that every write keeps. -/

namespace Sys2Proof.Machine

/-- Reading the byte that was just written gives it. -/
@[simp] theorem Memory.read_write_same (m : List Host.Cell) (a : Nat) (v : BitVec 8) :
    Memory.read (Memory.write m a v) a = v := tabGet_put_same Memory.unwritten a v m

/-- A write leaves every other byte. -/
theorem Memory.read_write_ne {a b : Nat} (h : b ≠ a) (m : List Host.Cell) (v : BitVec 8) :
    Memory.read (Memory.write m a v) b = Memory.read m b := tabGet_put_ne h Memory.unwritten Memory.unwritten v m

/-- A memory with nothing listed is in canonical form. -/
@[simp] theorem Memory.wf_nil : Memory.wf [] = true := rfl

/-- A write keeps the canonical form. -/
theorem Memory.wf_write {m : List Host.Cell} (a : Nat) (v : BitVec 8) (h : Memory.wf m = true) :
    Memory.wf (Memory.write m a v) = true := tabWf_put a v h

/-- Storing a byte string keeps the canonical form. -/
theorem State.putBytes_wf {s : State} {asid a : Nat} {bs : List Nat} (h : Memory.wf s.mem = true) :
    Memory.wf (State.putBytes s asid a bs).mem = true := by
  induction bs generalizing s a with
  | nil => exact h
  | cons b bs ih => exact ih (Memory.wf_write _ _ h)

end Sys2Proof.Machine
end

