-- ==== Sys2Proof/WellFormed.lean ====
section
/-! DEFINITION. Well-formed commands: operands that a sender of the block can present. What a check refuses is no message, frame,
record or measurement that the specification knows; an illegal but possible one (a bad request, a bad manifest) is well-formed. -/

namespace Sys2Proof

/-- The bytes that a DLC stands for in a CAN FD frame; a classic frame has at most 8 (R197). -/
def dlcBytes (fdf : Bool) (dlc : Fin 16) : Nat :=
  match [0, 1, 2, 3, 4, 5, 6, 7, 8, 12, 16, 20, 24, 32, 48, 64][dlc.val]? with
  | some n => if fdf then n else min n 8
  | none => 0

/-- A frame that a controller can put on the line: identifier by format, data by DLC, no remote FD frame, BRS only in FD. -/
def CanFrame.ok (f : CanFrame) : Bool :=
  (f.ide || decide (f.id.toNat < 2048)) && !(f.rtr && f.fdf) && (f.fdf || (!f.brs && !f.esi)) &&
    (if f.rtr then f.data.isEmpty else decide (f.data.length = dlcBytes f.fdf f.dlc))

/-- The operation codes of R71. -/
def opCodes : List Nat := [1, 2, 3, 4, 5, 6, 0x10, 0x11, 0x12]

/-- A request whose data words are those that its record carries (R69), and whose OP, if it is given, is one that R71 does not list. -/
def PapRequest.ok (q : PapRequest) : Bool :=
  (match q.op with | some o => !opCodes.contains o.toNat | none => true) && decide (16 ≤ q.length) && decide (q.data.length = (q.length - 16) / 4)

/-- A 64-bit value. -/
def val64 (v : Nat) : Bool := decide (v < 2 ^ 64)

/-- The values of an update fit their fields, its source identifier is one of R95, and its point one of the store or a GPR. -/
def Update.ok (u : Update) : Bool :=
  decide (u.src < 2 ^ 16) &&
  (match u.target with | .idx i => decide (i < 2 ^ 20) | .gpr g => decide (g < 2 ^ 48)) &&
  (match u.kind with
  | .value v _ => val64 v
  | .level n v => decide (n < 32) && val64 v
  | .relinquish n => decide (n < 32)
  | .relDefault v => val64 v
  | .tuning d a b c e => decide (d < 2 ^ 32) && [a, b, c, e].all (fun x => decide (x < 2 ^ 16))
  | .service _ => true
  | .force v => val64 v
  | .release => true
  | .publication v q _ _ ts r p => val64 v && decide (q < 8) && val64 ts && decide (r < 2 ^ 16) && decide (p < 2 ^ 32))

/-- Reflections in the order of their distance (R173). -/
def SurveyMeasure.ok (m : SurveyMeasure) : Bool :=
  (m.reflections.zip (m.reflections.drop 1)).all (fun e => decide (e.1.ps ≤ e.2.ps))

/-- Samples of channels 0 to 47, at most the 6,400 of 200 ms, and trackers of voltage channels 0 to 11. -/
def MeterWindow.ok (w : MeterWindow) : Bool :=
  w.channels.all (fun e => decide (e.1 < 48) && decide (e.2.length ≤ 6400)) && w.trackers.all (fun e => decide (e.1 < 12))

/-- Components have identifiers 0 to 31 (R562). -/
def Manifest.ok (m : Manifest) : Bool := m.comps.all (fun e => decide (e.1 < 32))

/-- An operand segment of the enclave's input buffer (R545). -/
def segmentOk (bs : List Byte) : Bool := decide (bs.length ≤ 16384)

/-- An event record of at most 32 items (R600). -/
def itemsOk (xs : List (BitVec 64)) : Bool := decide (xs.length ≤ 32)

/-- Outputs, variables and timers of a task cycle fit their words (R294, R305, R306). -/
def cycleOk (outs : List Nat) (vars : List (Nat × Nat)) (timers : List (Nat × Bool × Nat)) : Bool :=
  outs.all val64 && vars.all (fun e => val64 e.2) && timers.all (fun e => decide (e.1 < 4096))

/-- A unit of persistence: a record, or half a priority array (R127). -/
def unitOk (u : Nat) : Bool := decide (u < 2 ^ 20 + 2 * 2 ^ 17)

/-- Banks 0 and 1, components 0 to 4 (R562). -/
def failedOk (l : List (Nat × Nat)) : Bool := l.all (fun e => decide (e.1 < 2) && decide (e.2 < 5))

/-- The command's operands are ones that a sender can present. -/
def Instr.wellFormed : Instr → Bool
  | .papRead _ q => q.ok
  | .papWrite _ q => q.ok
  | .papLwrite _ q => q.ok
  | .papWread _ q => q.ok
  | .papWwrite _ q => q.ok
  | .papNop _ q => q.ok
  | .block _ q m => q.ok && (match m with | some m => m.ok | none => true)
  | .sheet _ q => q.ok
  | .install _ q _ _ => q.ok
  | .pointUpdateSubmit u => u.ok
  | .persistenceWrite u => unitOk u
  | .surveyComplete _ m => m.ok
  | .pbusFrameReceive _ f _ _ => f.ok
  | .pbusShadowArm _ _ _ f => f.ok
  | .taskCycleComplete _ o v t _ => cycleOk o v t
  | .meterWindowEnd w _ => w.ok
  | .meterPowerFailStop w => w.ok
  | .fullStart _ _ _ f _ _ => failedOk f
  | .encDerive _ _ _ _ _ _ _ l => segmentOk l
  | .encEncrypt _ _ _ b => segmentOk b
  | .encDecrypt _ _ _ b => segmentOk b
  | .encMac _ _ b => segmentOk b
  | .encSign _ _ b => segmentOk b
  | .encAgree _ _ _ b => segmentOk b
  | .encAttest _ b => segmentOk b
  | .logRecordSubmit _ _ xs => itemsOk xs
  | _ => true

end Sys2Proof
end

