-- ==== Sys2Proof/Tests/Slice0.lean ====
section
/-! SUPPORT. The model's own tests: ill-formed commands that the checks refuse, results that the specification's worked examples
give, and, for every statement with hypotheses, a state and operands that meet them together. -/

-- One theorem at a time: many kernel evaluations waiting at once take a thread and its stack each.
set_option Elab.async false

open Sys2Proof Sys2Proof.Machine

namespace Sys2Proof.Tests

/-! ### Well-formed commands -/

/-- A request of 16 bytes without data. -/
def plainRequest : PapRequest := { tag := 1, page := 5, offset := 0, count := 1, length := 16 }

/-- A request whose data do not have the length of its record is ill-formed (R69). -/
theorem test_request_length :
    plainRequest.ok = true ∧ { plainRequest with data := [1] }.ok = false ∧ { plainRequest with length := 12 }.ok = false := by decide

/-- A classic frame of eleven identifier bits takes identifiers below 2048, at most 8 bytes and no BRS; a remote FD frame does
not exist (R197). -/
theorem test_frame_form :
    ({ id := 0x123, dlc := 2, data := [1, 2] } : CanFrame).ok = true ∧ ({ id := 0x800, dlc := 0 } : CanFrame).ok = false ∧
      ({ id := 1, dlc := 2, data := [1] } : CanFrame).ok = false ∧ ({ id := 1, dlc := 0, brs := true } : CanFrame).ok = false ∧
      ({ id := 1, dlc := 0, rtr := true, fdf := true } : CanFrame).ok = false ∧ dlcBytes true 15 = 64 ∧ dlcBytes false 15 = 8 := by
  decide

/-- Updates whose source, point or value is wider than its field are ill-formed (R16, R95). -/
theorem test_update_form :
    ({ src := 0xC001, target := .idx 4, kind := .value 1 .valid } : Update).ok = true ∧
      ({ src := 0x1C001, target := .idx 4, kind := .value 1 .valid } : Update).ok = false ∧
      ({ src := 0xC001, target := .idx 0x100000, kind := .release } : Update).ok = false ∧
      ({ src := 0xC001, target := .gpr (2 ^ 48), kind := .release } : Update).ok = false ∧
      ({ src := 0xC001, target := .idx 4, kind := .level 32 0 } : Update).ok = false ∧
      ({ src := 0xC001, target := .idx 4, kind := .force (2 ^ 64) } : Update).ok = false := by decide

/-- Operands of the other checks that are out of their range. -/
theorem test_operand_ranges :
    unitOk 0x13FFFF = true ∧ unitOk 0x140000 = false ∧ failedOk [(1, 4)] = true ∧ failedOk [(2, 0)] = false ∧ failedOk [(0, 5)] = false ∧
      itemsOk (List.replicate 32 0) = true ∧ itemsOk (List.replicate 33 0) = false ∧ cycleOk [1] [(1, 2)] [(4095, true, 0)] = true ∧
      cycleOk [2 ^ 64] [] [] = false ∧ cycleOk [] [] [(4096, true, 0)] = false ∧
      ({ comps := [(31, {})] } : Manifest).ok = true ∧ ({ comps := [(32, {})] } : Manifest).ok = false ∧
      ({ trackers := [(12, {})] } : MeterWindow).ok = false ∧ ({ channels := [(48, [])] } : MeterWindow).ok = false := by decide

/-- The operand segment of an enclave operation has at most 16 KiB (R545). -/
theorem test_segment_length :
    segmentOk (List.replicate 16384 0) = true ∧ segmentOk (List.replicate 16385 0) = false :=
  ⟨decide_eq_true (List.length_replicate.trans_le (by decide)), decide_eq_false (by rw [List.length_replicate]; decide)⟩

/-- A pair without reflections or foreign voltage. -/
def quietPair : SurveyMeasure :=
  { vdc := 0, dcMax := 0, acMax := 0, rins := 1000, rloop := none, reflections := [], z := 1000, il1 := 0, il4 := 0, il10 := 0, nrms := 0, npk := 0 }

/-- Reflections out of the order of their distance are no measurement (R173). -/
theorem test_reflection_order :
    { quietPair with reflections := [{ ps := 10, gamma := 0 }, { ps := 20, gamma := 800 }] }.ok = true ∧
      { quietPair with reflections := [{ ps := 20, gamma := 0 }, { ps := 10, gamma := 800 }] }.ok = false := by decide

/-- No word of the table spells a command, since no row of the table gives bits. -/
theorem test_no_word_decodes : decodeTableWord 32 0 = none := rfl

/-! ### Results that the specification gives -/

/-- A machine answers a next state with this property. -/
def nextWith (o : Host.Outcome State Fault Refusal) (p : State → Bool) : Bool :=
  match o with
  | .next t => p t
  | _ => false

/-- An empty queue lets 1 ns pass (the model's choice, assumption 2). -/
theorem test_idle_step : step State.reset = .next { State.reset with now := 1 } := rfl

/-- `SYS.IDENT.STEP` of step B reads 0x42 (R2). -/
theorem test_silicon_step : State.reset.get Reg.SYS_IDENT_STEP = 0x42 := by decide +kernel

/-- The six bytes of the global point reference 0x0103_2400_2A40 (worked example of 00_scope.md). -/
theorem test_reference_bytes : leBytes 6 (0x0103 * 2 ^ 32 + 9 * 2 ^ 26 + 0x2A40) = [0x40, 0x2A, 0x00, 0x24, 0x03, 0x01] := by decide

/-- The published check values of the CRC-32C and of the CRC-16 of R582: those of the characters 1 to 9. -/
theorem test_crc_check_values :
    crc32c [0x31, 0x32, 0x33, 0x34, 0x35, 0x36, 0x37, 0x38, 0x39] = 0xE3069283 ∧
      crc16 [0x31, 0x32, 0x33, 0x34, 0x35, 0x36, 0x37, 0x38, 0x39] = 0x29B1 := by decide +kernel

/-- Grade B, RECNET 1 and RECS485 9 of the pair of 612.0 m (worked example of 04_segment_ports.md, R176). -/
theorem test_survey_grade :
    surveyGrade (some 1224) 542 380 40 1084 4800 0 = 2 ∧ recNet 2 false (some 1224) = 1 ∧ recS485 2 = 9 := by decide

/-- Local 2031-10-26 02:59:59.400 in summer time, with the change back pending. -/
def autumn : State :=
  ((({ State.reset with rtc := { cycles := 1004065199 * 32768 + 13107, dstForward := false } }.set Reg.RTC_STAT_VALID 1).set
    Reg.RTC_STAT_DSTACT 1).set Reg.RTC_STAT_DSTPEND 1)

/-- The autumn change: at the boundary local time goes from 02:59:59 on 2031-10-26 to 02:00:00, 600 ms after the command
(worked example of 16_rtc_log.md, R591). -/
theorem test_autumn_boundary :
    nextWith (exec .dstBoundaryApply autumn)
      (fun t => rtcSeconds t = 1004061600 && t.get Reg.RTC_STAT_DSTACT = 0 && t.get Reg.RTC_STAT_DSTPEND = 0 &&
        t.now / 1000000 = 600) = true := by decide +kernel

/-- Image 5.1 in bank A and 5.2 in bank B, verified, in SERVICE. -/
def twoImages : State :=
  ({ State.reset with upd :=
      { bankA := { manifest := some { comps := [(1, { level := 12, reqs := [(2, 6, 7)] }), (2, { level := 6, reqs := [(1, 12, 12)] })] } }
        bankB := { manifest := some { comps := [(1, { level := 13, reqs := [(2, 7, 7)] }), (2, { level := 7, reqs := [(1, 12, 13)] })] } } } }.set
    Reg.UPD_STAT_USTATE 4).set Reg.MODE_STAT_MODE 5

/-- Component 1 of image 5.2 needs level 7 of component 2, which still gives level 6: the step is refused with CONFLICT 2 (worked
example of 15_update.md, R568, R569). -/
theorem test_component_conflict :
    stepCheck true 1 1 twoImages = (3, 2) := by decide +kernel

/-! ### Every statement's hypotheses can be met together -/

/-- Register fields set one after the other. -/
def withRegs (fs : List (RegField × Nat)) (s : State) : State := fs.foldl (fun s e => s.set e.1 e.2) s

/-- All lanes. -/
def allLanes : BitVec 256 := BitVec.ofNat 256 (2 ^ 256 - 1)

/-- A charter that maps certificate 9 and every firmware context to all lanes, with root 7. -/
def chart : Charter :=
  { epoch := 1, roots := [7], certs := [(9, allLanes)],
    fwSets := [(0, allLanes), (1, allLanes), (2, allLanes), (3, allLanes), (4, allLanes), (5, allLanes)] }

/-- A session with all lanes and a full bucket. -/
def sess : Session := { opened := true, lanes := allLanes, tokens := 100000000 }

/-- A running module in ACTIVE with the charter, PAP sessions 0 and 2 and the service connection, its point store READY and
uplink 0 up. -/
def base : State :=
  withRegs [(Reg.MODE_STAT_MODE, 3), (Reg.MODE_STAT_STARTING, 0), (Reg.PNT_STAT_READY, 1), (Reg.UPL_STAT_LINK0, 1),
      (Reg.PAP_CFG_V0EN, 1), (Reg.ENC_STAT_ENTOK, 1), (Reg.SVC_STAT_CONN, 1), (Reg.SVC_STAT_LINK, 1), (Reg.CSN_STAT_CSTATE, 3)]
    { State.reset with
      now := 5000000000
      pwr := { booting := false }
      sheets := { charter := some chart, config := some {} }
      sessions := [(0, sess), (2, sess), (9, sess)] }

def key5 (m : Master) (o : Bool) : State := { base with keys := [(5, { owner := m, opened := o, since := base.now - 100 })] }

def bus3 : State := withRegs [((Reg.SEG_STAT_PSTATE.inst 3), 4), ((Reg.SEG_PCFG_PERS.inst 3), 1)] base
def qNop : PapRequest := { tag := 7, page := 0, offset := 0, count := 0, length := 16 }
def qL : PapRequest := { tag := 7, page := 5, offset := 0x014, count := 1, data := [0x1234], length := 20 }
def noSess : State := { base with sessions := [] }
def card : Credential := { digest := 0x1234, doors := 5, since := 1, until' := 2, pinchk := 0, home := 3, flags := 1, tag := 8 }
def cached : State := withRegs [((Reg.WIN_INDEX.onPage 0x078).by 2, 0x10003)] { base with acc := { base.acc with cache := [(3, card)] } }
def qR : PapRequest := { tag := 7, page := 5, offset := 0, count := 1, length := 16 }
def qWr : PapRequest := { tag := 7, page := 0x078, offset := 0, count := 8, arg := 0x10003, length := 16 }
def qWw : PapRequest := { tag := 7, page := 0x078, offset := 0, count := 8, arg := 0x10003, data := [0,0,0,0,0,0,0,0], length := 48 }
def waits : State := { base with sessions := [(0, sess), (2, { sess with waits := [{ tag := 7, page := 0x041, arg := 3 }] }), (9, sess)] }

/-- The hypotheses of SafeSteps can be met together. -/
theorem witness_SafeSteps : ∃ s t : State, safe s = true ∧ step s = .next t :=
  ⟨State.reset, _, by decide +kernel, rfl⟩

/-- The hypotheses of ChangeSequence can be met together. -/
theorem witness_ChangeSequence :
    (∃ s u : State, seqCleared s u = true) ∧ (∃ (s u : State) (p : Nat), seqCleared s u = false ∧ p < 4096 ∧ p ≠ 1) ∧
      ∃ f : RegField, f.wordOf ≠ 7 :=
  ⟨⟨base, { base with pwr := { powered := false } }, by decide +kernel⟩, ⟨base, base, 5, by decide +kernel, by decide, by decide⟩, ⟨Reg.MODE_STAT_MODE, by decide⟩⟩

/-- The hypotheses of FieldFrames can be met together. -/
theorem witness_FieldFrames : ∃ (c : Instr) (s t : State) (fr : Frame), fieldFrame c = some fr ∧ exec c s = .next t :=
  ⟨.feedBackoffExpiry 3, State.reset, _, _, rfl, rfl⟩

/-- The hypotheses of each clause of EngineFrames can be met together. -/
theorem witness_EngineFrames :
    (∃ (c : Instr) (s t : State) (fr : Frame), engineFrame c = some fr ∧ exec c s = .next t) ∧
    ∃ (s t : State) (k : Fin 16), exec (.taskBatchAdmission k) s = .next t ∧ noWriteWaits s :=
  ⟨⟨.retainSave 3, State.reset, _, _, rfl, rfl⟩, ⟨State.reset, _, 3, rfl, by unfold noWriteWaits; decide +kernel⟩⟩

/-- The hypotheses of each clause of MessageFrames can be met together. -/
theorem witness_MessageFrames :
    (∃ (c : Instr) (s t : State) (fr : Frame), messageFrame c = some fr ∧ exec c s = .next t) ∧
    ∃ (c : Instr) (s t : State) (h : ViaHeader) (fr : Frame), bodyFrame c = some (h, fr) ∧ exec c s = .next t ∧
      h.pepoch.toNat ≤ pairEpoch s :=
  ⟨⟨.papSessionClose 3, State.reset, _, _, rfl, rfl⟩,
   ⟨.publishReceive { port := 0, vid := 0, typ := 4, len := 0, viaid := 1, src := 5, memb := false, seq := 8, pepoch := 0 } 0 [], State.reset, _, _,
    _, rfl, rfl, Nat.zero_le _⟩⟩

/-- The hypotheses of SystemFrames can be met together. -/
theorem witness_SystemFrames : ∃ (c : Instr) (s t : State) (fr : Frame), systemFrame c = some fr ∧ exec c s = .next t :=
  ⟨.keyTimeout 5, State.reset, _, _, rfl, rfl⟩

/-- The two cases of SoftwareResetDelay occur. -/
theorem witness_SoftwareResetDelay :
    (∃ s : State, s.get Reg.MODE_STAT_PFREEZE = 1) ∧ ∃ s : State, s.get Reg.MODE_STAT_PFREEZE = 0 ∧ s.pwr.srstAt = none :=
  ⟨⟨base.set Reg.MODE_STAT_PFREEZE 1, by decide +kernel⟩, ⟨base, by decide +kernel⟩⟩

/-- Address 80 is none of DRAM (R491). -/
theorem physical_ne (s : State) (asid va : Nat) : physical s asid va ≠ 80 := by
  unfold physical
  omega

/-- The hypotheses of each clause of MemoryFrames can be met together. -/
theorem witness_MemoryFrames :
    (∃ (s t : State) (p : Fin 32) (f : CanFrame) (u : BitVec 64) (b : Bool) (a : Nat), exec (.pbusFrameReceive p f u b) s = .next t ∧
      ∀ i < 80, physical s 0 (s.get (Reg.PBUS_RXQBASELO_ADDR.inst p.val) * 64 + 2 ^ 32 * s.get (Reg.PBUS_RXQBASEHI_ADDR.inst p.val) +
        80 * (s.get (Reg.PBUS_RXQPUT_PUT.inst p.val) % 256) + i) ≠ a) ∧
    (∃ (s t : State) (r : Fin 16) (c : Fin 32) (a : Nat), exec (.dmaAbort r c) s = .next t ∧
      ∀ i < dmaLen s c.val, physical s (dmaOwner s c.val) (dmaDesc s c.val 8 8 % 2 ^ 48 + i) ≠ a) ∧
    (∃ (s t : State) (c : Instr) (a : Nat), (∃ v, c = .powerFailWarning v) ∧ exec c s = .next t ∧
      ∀ c < 32, ∀ i < dmaLen s c, physical s (dmaOwner s c) (dmaDesc s c 8 8 % 2 ^ 48 + i) ≠ a) :=
  ⟨⟨State.reset, _, 3, { id := 0x123, dlc := 0 }, 0, true, 80, rfl, fun _ _ => physical_ne _ _ _⟩,
   ⟨State.reset, _, 14, 5, 80, rfl, fun _ _ => physical_ne _ _ _⟩,
   ⟨State.reset, _, .powerFailWarning 3000, 80, ⟨3000, rfl⟩, rfl, fun _ _ _ _ => physical_ne _ _ _⟩⟩

end Sys2Proof.Tests


/-! #### Register pages and sessions -/

namespace Sys2Proof.Tests.Access

def full : State := { base with sessions := (List.range 10).map (fun k => (k, sess)) }

/-- The hypotheses of the statement of StepRunsFront can be met together. -/
theorem witness_StepRunsFront :
    (∃ (s : State), s.pending = []) :=
  ⟨State.reset, by decide +kernel⟩

/-- The hypotheses of the statement of ProtocolException can be met together. -/
theorem witness_ProtocolException :
    (∃ (s : State) (p : Fin 32), busLive s p.val = true) :=
  ⟨bus3, 3, by decide +kernel⟩

/-- The hypotheses of each clause of SessionIdleClose can be met together. -/
theorem witness_SessionIdleClose :
    (∃ (s : State) (k : Fin 8), sessionOpen s k.val = true) ∧
    (∃ (s : State) (k : Fin 8) (q : PapRequest), papReady s (some k) 6 q) :=
  ⟨⟨base, 2, by decide +kernel⟩,
   ⟨base, 2, qNop, by unfold papReady; decide +kernel⟩⟩

/-- The hypotheses of each clause of KeyOwner can be met together. -/
theorem witness_KeyOwner :
    (∃ (s : State) (m : Master) (p : BitVec 12) (k : KeyState), viaBridge m = false ∧ pageMapped p.toNat = true ∧
      undisturbed s p.toNat ∧ tabFind p.toNat s.keys = some k ∧ k.owner ≠ m ∧ s.now ≤ k.since + 10000) ∧
    (∃ (s : State) (conn : Option (Fin 8)) (q : PapRequest) (k : KeyState), papReady s conn 3 q ∧ tabFind q.page.toNat
      s.keys = some k ∧ k.owner ≠ connMaster (connCopy conn) ∧ s.now ≤ k.since + 10000 ∧ undisturbed s q.page.toNat ∧ (∀ w ∈
      rangeWords q, mayWritePage (connMaster (connCopy conn)) q.page.toNat w s = true) ∧ (∀ e ∈ rangeData q, wordStatus
      (connMaster (connCopy conn)) true q.page.toNat e.1 e.2 s = 0)) :=
  ⟨⟨key5 .pointEngine true, .req 11, 5, { owner := .pointEngine, opened := true, since := base.now - 100 },
     by unfold undisturbed; decide +kernel⟩,
   ⟨key5 .pointEngine true, some 2, qL, { owner := .pointEngine, opened := true, since := base.now - 100 },
     by unfold papReady undisturbed; decide +kernel⟩⟩

/-- The hypotheses of each clause of FabricAccess can be met together. -/
theorem witness_FabricAccess :
    (∃ (s : State) (m : Master) (p : BitVec 12), pageMapped p.toNat = true ∧ p ≠ 0x001 ∧ hostClosed m s = false ∧
      mayWritePage m p.toNat 5 s = true ∧ s.get (Reg.HDR_STAT_DRBUSY.onPage p.toNat) = 0) ∧
    (∃ (m : Master), viaBridge m = false) ∧
    (∃ (m : Master), viaBridge m = false) ∧
    (∃ (s : State) (m : Master), hostClosed m s = false ∧ mayReadPage m 0x078 s = true ∧ s.get (Reg.HDR_STAT_DRBUSY.onPage
      0x078) = 0) ∧
    (∃ (s : State) (m : Master), hostClosed m s = false ∧ mayWritePage m 0x007 4 s = true ∧ s.get
      (Reg.HDR_STAT_DRBUSY.onPage 0x007) = 0) :=
  ⟨⟨base, .req 2, 5, by decide +kernel⟩,
   ⟨.req 12, by decide +kernel⟩,
   ⟨.req 12, by decide +kernel⟩,
   ⟨base.set Reg.ACC_DECMAX_US 77, .req 2, by decide +kernel⟩,
   ⟨withRegs [(Reg.LOG_FAULT_DROP,1),(Reg.LOG_FAULT_GAP,1)] base, .req 2, by decide +kernel⟩⟩

/-- The hypotheses of each clause of KeysAndDomainReset can be met together. -/
theorem witness_KeysAndDomainReset :
    (∃ (s : State) (m : Master) (p : BitVec 12), viaBridge m = false ∧ pageMapped p.toNat = true ∧ s.get
      (Reg.HDR_STAT_DRBUSY.onPage p.toNat) = 0 ∧ tabFind p.toNat s.keys = none) ∧
    (∃ (s : State) (m : Master) (p : BitVec 12) (a : Nat), viaBridge m = false ∧ pageMapped p.toNat = true ∧ s.get
      (Reg.HDR_STAT_DRBUSY.onPage p.toNat) = 0 ∧ tabFind p.toNat s.keys = some { owner := m, opened := false, since := a } ∧
      s.now ≤ a + 10000) ∧
    (∃ (s : State) (p : BitVec 12) (k : KeyState), tabFind p.toNat s.keys = some k) ∧
    (∃ (s : State) (p : BitVec 12), (p = 0x183 ∨ p = 0x184) ∧ s.get (Reg.HDR_STAT_DRBUSY.onPage p.toNat) = 0 ∧ (∀ k < 9,
      sessionOpen s k = false) ∧ (s.get Reg.MODE_STAT_SHORT).testBit 3 = (List.range 32).any (fun n => pstate s n = 6)) ∧
    (∃ (s : State) (p : BitVec 12), (p = 0x183 ∨ p = 0x184) ∧ s.get (Reg.HDR_STAT_DRBUSY.onPage p.toNat) = 1) ∧
    (∃ (s : State) (r : Fin 16) (c : Instr), 10 ≤ r.val ∧ ((s.get (Reg.HDR_STAT_DRBUSY.onPage 0x050) = 1 ∧ ((∃ i, c =
      .loopClearOvrcnt r i) ∨ (∃ i, c = .loopReservedSelect r i) ∨ (∃ i f v, c = .loopCoefficientWrite r i f v) ∨ ∃ i m, c =
      .loopModeWrite r i m)) ∨ (s.get (Reg.HDR_STAT_DRBUSY.onPage 0x020) = 1 ∧ ((∃ x, c = .encDestroy r x) ∨ (∃ x, c =
      .encPubkey r x) ∨ ∃ l, c = .encRandom r l)))) :=
  ⟨⟨base, .req 12, 5, by decide +kernel⟩,
   ⟨key5 (.req 12) false, .req 12, 5, base.now - 100, by decide +kernel⟩,
   ⟨key5 (.req 12) false, 5, { owner := .req 12, opened := false, since := base.now - 100 }, by decide +kernel⟩,
   ⟨withRegs [(Reg.PAP_FAULT_RATE, 1), (Reg.PAP_REFCNT_COUNT, 7)] noSess, 0x183, by decide +kernel⟩,
   ⟨noSess.set (Reg.HDR_STAT_DRBUSY.onPage 0x183) 1, 0x183, by decide +kernel⟩,
   ⟨base.set (Reg.HDR_STAT_DRBUSY.onPage 0x050) 1, 12, .loopClearOvrcnt 12 3, by decide, Or.inl ⟨by decide +kernel, Or.inl
     ⟨3, rfl⟩⟩⟩⟩

/-- The hypotheses of each clause of WindowCommands can be met together. -/
theorem witness_WindowCommands :
    (∃ (s : State) (r : Fin 16) (p : BitVec 12) (i : Nat) (ws : List Nat), hostClosed (.req r) s = false ∧ mayWritePage
      (.req r) p.toNat 0x011 s = true ∧ undisturbed s p.toNat ∧ winBusy s p.toNat r.val = false ∧ i = winIndex s p.toNat
      r.val ∧ ((p = 0x041 ∧ s.bit Reg.PNT_STAT_READY = true ∧ (s.point i).typ ≠ 0 ∧ mayReadLane (requesterLanes s r.val)
      (s.point i).lane = true ∧ ws = recordWords (s.point i)) ∨ (p = 0x051 ∧ i < 0x2000 ∧ (∃ c, loopCfg s i = some c ∧ ws =
      loopWords s i c) ∧ (requesterLanes s r.val).getLsbD (loopLane s i) = true) ∨ (p = 0x059 ∧ (∃ c, taskCfg s i = some c ∧
      ws = taskWords s i c) ∧ (requesterLanes s r.val).getLsbD (taskLane s i) = true) ∨ (p = 0x061 ∧ i < 48 ∧ mayReadChannel
      s r.val i = true ∧ ws = channelWords s i) ∨ (p = 0x062 ∧ i < 36 ∧ (circuitCfg s i).isSome = true ∧ (requesterLanes s
      r.val).getLsbD (circuitLane s i) = true ∧ ws = energyWords s i) ∨ (p = 0x078 ∧ mayReadLane (requesterLanes s r.val)
      (accLane s) = true ∧ 0x10000 ≤ i ∧ i < 0x40D40 ∧ ∃ c, tabFind (i - 0x10000) s.acc.cache = some c ∧ ws =
      credentialWords c))) ∧
    (∃ (s : State) (r : Fin 16) (p : BitVec 12), isWindowPage p.toNat = true ∧ hostClosed (.req r) s = false ∧ mayWritePage
      (.req r) p.toNat 0x011 s = true ∧ undisturbed s p.toNat ∧ winBusy s p.toNat r.val = false) ∧
    (∃ (s : State) (r : Fin 16), hostClosed (.req r) s = false ∧ mayWritePage (.req r) 0x078 0x011 s = true ∧ undisturbed s
      0x078 ∧ winBusy s 0x078 r.val = false ∧ mayWriteLane (requesterLanes s r.val) (accLane s) = true ∧ 0x10000 ≤ winIndex
      s 0x078 r.val ∧ winIndex s 0x078 r.val < 0x40D40 ∧ (dataCredential s r.val).flags < 16 ∧ ((dataCredential s
      r.val).flags.testBit 0 = true → ∀ e ∈ s.acc.cache, e.1 ≠ winIndex s 0x078 r.val - 0x10000 → e.2.digest ≠
      (dataCredential s r.val).digest)) :=
  ⟨⟨cached, 2, 0x078, 0x10003, credentialWords card, rfl, rfl, rfl, rfl, rfl, .inr (.inr (.inr (.inr (.inr ⟨rfl,
     by decide +kernel, by decide +kernel, by decide +kernel, card, rfl, rfl⟩))))⟩,
   ⟨cached, 2, 0x051, by unfold undisturbed; decide +kernel⟩,
   ⟨cached, 2, by unfold undisturbed; decide +kernel⟩⟩

/-- The hypotheses of each clause of PapRequests can be met together. -/
theorem witness_PapRequests :
    (∃ (s : State) (conn : Option (Fin 8)) (q : PapRequest), papReady s conn 1 q ∧ q.offset = 0 ∧ q.count = 1 ∧ mayReadPage
      (connMaster (connCopy conn)) q.page.toNat s = true ∧ undisturbed s q.page.toNat) ∧
    (∃ (s : State) (conn : Option (Fin 8)) (q : PapRequest) (v : Word), papReady s conn 2 q ∧ q.offset = 0x014 ∧ q.count = 1
      ∧ q.data = [v] ∧ pageMapped q.page.toNat = true ∧ q.page ≠ 0x001 ∧ mayWritePage (connMaster (connCopy conn))
      q.page.toNat 5 s = true ∧ undisturbed s q.page.toNat) ∧
    (∃ (s : State) (conn : Option (Fin 8)) (q : PapRequest) (v : Word), papReady s conn 3 q ∧ q.offset = 0x014 ∧ q.count = 1
      ∧ q.data = [v] ∧ pageMapped q.page.toNat = true ∧ q.page ≠ 0x001 ∧ tabFind q.page.toNat s.keys = none ∧ mayWritePage
      (connMaster (connCopy conn)) q.page.toNat 5 s = true ∧ undisturbed s q.page.toNat) ∧
    (∃ (s : State) (conn : Option (Fin 8)) (q : PapRequest), papReady s conn 6 q) ∧
    (∃ (s : State) (conn : Option (Fin 8)) (q : PapRequest) (c : Credential), papReady s conn 4 q ∧ q.page = 0x078 ∧
      q.offset = 0 ∧ q.count = 8 ∧ winBusy s 0x078 (connCopy conn) = false ∧ undisturbed s 0x078 ∧ mayReadPage (connMaster
      (connCopy conn)) 0x078 s = true ∧ mayReadLane (requesterLanes s (connCopy conn)) (accLane s) = true ∧ 0x10000 ≤
      q.arg.toNat ∧ q.arg.toNat < 0x40D40 ∧ tabFind (q.arg.toNat - 0x10000) s.acc.cache = some c) ∧
    (∃ (s : State) (conn : Option (Fin 8)) (q : PapRequest), papReady s conn 5 q ∧ q.page = 0x078 ∧ q.offset = 0 ∧ q.count =
      8 ∧ winBusy s 0x078 (connCopy conn) = false ∧ undisturbed s 0x078 ∧ mayWritePage (connMaster (connCopy conn)) 0x078
      0x011 s = true ∧ mayWriteLane (requesterLanes s (connCopy conn)) (accLane s) = true ∧ 0x10000 ≤ q.arg.toNat ∧
      q.arg.toNat < 0x40D40 ∧ papWord q 7 / 256 % 256 = 0) ∧
    (∃ (s : State) (conn : Option (Fin 8)) (w : PapWait), (tabGet {} s.sessions (connCopy conn) : Session).waits = [w] ∧
      (tabGet {} s.sessions (connCopy conn) : Session).held = [] ∧ isWindowPage w.page = true ∧ winBusy s w.page (connCopy
      conn) = false) :=
  ⟨⟨base, some 2, qR, by unfold papReady undisturbed; decide +kernel⟩,
   ⟨base, some 2, qL, 0x1234, by unfold papReady undisturbed; decide +kernel⟩,
   ⟨base, some 2, qL, 0x1234, by unfold papReady undisturbed; decide +kernel⟩,
   ⟨base, some 2, qNop, by unfold papReady; decide +kernel⟩,
   ⟨cached, some 2, qWr, card, by unfold papReady undisturbed; decide +kernel⟩,
   ⟨cached, some 2, qWw, by unfold papReady undisturbed; decide +kernel⟩,
   ⟨waits, some 2, { tag := 7, page := 0x041, arg := 3 }, by decide +kernel⟩⟩

/-- The hypotheses of each clause of PapSessions can be met together. -/
theorem witness_PapSessions :
    (∃ (s : State) (p : Fin 2) (udp : BitVec 16) (o : DtlsOffer) (root : Nat) (k : Nat), papAccepts s = true ∧ udp.toNat =
      s.get Reg.PAP_CFG_PORT ∧ dtlsOk o = true ∧ s.get Reg.ENC_STAT_ENTOK = 1 ∧ s.bit (if p.val = 0 then Reg.PAP_CFG_V0EN
      else Reg.PAP_CFG_V1EN) = true ∧ uplinkUp s p.val = true ∧ k < 8 ∧ sessionOpen s k = false ∧ (∀ j < k, sessionOpen s j
      = true) ∧ (charter s).roots.contains root = true) ∧
    (∃ (s : State) (p : Fin 2) (udp : BitVec 16) (o : DtlsOffer), papAccepts s = true ∧ udp.toNat = s.get Reg.PAP_CFG_PORT ∧
      dtlsOk o = true ∧ s.get Reg.ENC_STAT_ENTOK = 1 ∧ s.bit (if p.val = 0 then Reg.PAP_CFG_V0EN else Reg.PAP_CFG_V1EN) =
      true ∧ uplinkUp s p.val = true ∧ (∀ j < 8, sessionOpen s j = true)) ∧
    (∃ (s : State) (k : Fin 8), sessionOpen s k.val = true) ∧
    (∃ (s : State), sessionOpen s 9 = true ∧ mode s ≠ 1 ∧ mode s ≠ 5) :=
  ⟨⟨base, 0, BitVec.ofNat 16 (base.get Reg.PAP_CFG_PORT), {}, 7, 1, by decide +kernel⟩,
   ⟨full, 0, BitVec.ofNat 16 (base.get Reg.PAP_CFG_PORT), {}, by decide +kernel⟩,
   ⟨base, 2, by decide +kernel⟩,
   ⟨base, by decide +kernel⟩⟩

end Sys2Proof.Tests.Access

/-! #### Points and ports -/

namespace Sys2Proof.Tests.Points

def upd1 : Update := { src := mkSrc 1 3, target := .idx 4, kind := .value 1 .valid }
def pt4 : PointRec := { typ := 2, lane := 3, addr := 3 * 2 ^ 34 + 2^45 }
def updB : Update := { src := boundSource pt4.addr, target := .idx 4, kind := .value 77 .valid, lane := some 3 }
def queued : State := { base with pt := { recs := [(4, pt4)], queues := [(1, [updB])] } }
def adm : Admitted := { index := 4, upd := updB, rank := 0 }
def commits1 : State := { base with pt := { recs := [(4, pt4)], admitted := [adm], capUsed := 1 } }
def stale1 : State :=
  { base with pt := { recs := [(4, { pt4 with qual := 1, staleto := 10, rseq := 65535, pv := 5, sv := 5 })] } }
def pub1 : State := { base with pt := { recs := [(4, { pt4 with pub := true, maxpub := 10, pv := 5 })] } }
def dirty1 : State := { base with pt := { recs := [(4, { pt4 with persist := true, pv := 5 })], dirty := [(4, 0), (9,0)] } }
def unrestored : State :=
  withRegs [(Reg.PNT_STAT_READY, 0), (Reg.PNT_STAT_RESTORING, 1), (Reg.MODE_STAT_MODE, 2), (Reg.MODE_STAT_STARTING, 1)] base
def cmdPt : State := { base with pt := { recs := [(4, { pt4 with cmd := true, pamask := 0x81, sv := 5 })] } }
def grade (g : Nat) (p : Nat) (s : State) : State :=
  withRegs [(Reg.SEG_STAT_SVYVALID.inst p, 1), (Reg.SEG_SVYRES_GRADE.inst p, g)] s
def port (n ps : Nat) (s : State := base) : State := grade 1 n (s.set (Reg.SEG_STAT_PSTATE.inst n) ps)
def busyEng (s : State) : State := { s with seg := { s.seg with svyBusy := [(0, 5)], svyQueue := [(0, [6])] } }
def foreignM : SurveyMeasure :=
  { vdc := 600, dcMax := 600, acMax := 0, rins := 100, rloop := none, reflections := [], z := 1000, il1 := 0, il4 := 0, il10 := 0, nrms := 0, npk := 0 }

/-- The hypotheses of each clause of PointAdmission can be met together. -/
theorem witness_PointAdmission :
    (∃ (u : Update), srcClass u.src < 8) ∧
    (∃ (s : State) (c : Nat) (i : Nat) (k : Nat) (u : Update) (us : List Update), admits s = true ∧ nextServed s = some c ∧
      queueOf s c = u :: us ∧ u.batch = 0 ∧ headFate s u = .admitted i k ∧ tabGet [] s.pt.held c = [] ∧ s.pt.results = [] ∧
      (∀ p < 32, (s.segPort p).rxq = [])) :=
  ⟨⟨upd1, by decide +kernel⟩,
   ⟨queued, 1, 4, 1, updB, [], by decide +kernel⟩⟩

/-- The hypotheses of the statement of DeckTickCommit can be met together. -/
theorem witness_DeckTickCommit :
    (∃ (s : State) (a : Admitted) (v : Nat), commits s = true ∧ frozen s = false ∧ s.bit Reg.PNT_STAT_READY = true ∧
      s.pt.admitted = [a] ∧ s.pt.reports = [] ∧ s.pt.results = [] ∧ s.seg.returned = [] ∧ s.acc.grants = [] ∧ s.acc.waits =
      [] ∧ (sheet s).tasks = [] ∧ s.bit Reg.PNT_CTRL_PUBEN = false ∧ a.upd.kind = .value v .valid ∧ a.upd.path = .none ∧
      a.upd.src = boundSource (s.point a.index).addr ∧ 2 ≤ (s.point a.index).typ ∧ typeOk (s.point a.index).typ v = true ∧
      (s.point a.index).cmd = false ∧ (s.point a.index).mirror = false ∧ (s.point a.index).oos = false ∧ tabFind a.index
      s.pt.forces = none) :=
  ⟨commits1.set Reg.PNT_CTRL_PUBEN 0, adm, 77, by decide +kernel⟩

/-- The hypotheses of each clause of PointTimersAndRestore can be met together. -/
theorem witness_PointTimersAndRestore :
    (∃ (s : State) (i : BitVec 20), (s.point i.toNat).typ ≠ 0 ∧ (s.point i.toNat).staleto ≠ 0 ∧ (s.point i.toNat).qual = 1 ∧
      (s.point i.toNat).cmd = false ∧ (s.point i.toNat).mirror = false ∧ (s.point i.toNat).pub = false ∧ tabFind i.toNat
      s.pt.forces = none ∧ (s.point i.toNat).forced = false ∧ s.bit Reg.PNT_CTRL_PUBEN = false) ∧
    (∃ (s : State) (i : BitVec 20), (s.point i.toNat).typ ≠ 0 ∧ (s.point i.toNat).pub = true ∧ (s.point i.toNat).mirror =
      false ∧ (s.point i.toNat).maxpub ≠ 0 ∧ tabGet {} s.pt.pubs i.toNat = {} ∧ (sheet s).tasks = [] ∧ s.bit
      Reg.PNT_CTRL_PUBEN = false) ∧
    (∃ (s : State) (u : Nat) (a : Nat), tabFind u s.pt.dirty = some a) ∧
    (∃ (s : State), s.pwr.booting = false ∧ s.bit Reg.PNT_STAT_READY = false ∧ mode s ≤ 2 ∧ s.get Reg.MODE_STAT_HCAUSE = 0) :=
  ⟨⟨stale1.set Reg.PNT_CTRL_PUBEN 0, 4, by decide +kernel⟩,
   ⟨pub1.set Reg.PNT_CTRL_PUBEN 0, 4, by decide +kernel⟩,
   ⟨dirty1, 4, 0, by decide +kernel⟩,
   ⟨unrestored, by decide +kernel⟩⟩

/-- The hypotheses of each clause of CommandAndForcePages can be met together. -/
theorem witness_CommandAndForcePages :
    (∃ (s : State) (r : Fin 16), s.get (Reg.CMD_CRES_BUSY.by r.val) = 0 ∧ takesWrites s = true ∧ queueOpen s 6) ∧
    (∃ (s : State) (r : Fin 16) (i : BitVec 20), s.get (Reg.CMD_CRES_BUSY.by r.val) = 0 ∧ takesWrites s = true ∧ queueOpen s
      6 ∧ (s.point i.toNat).typ ≠ 0 ∧ (requesterLanes s r.val).getLsbD 0 = true) ∧
    (∃ (s : State) (r : Fin 16) (i : BitVec 20), s.get (Reg.CMD_CRES_BUSY.by r.val) = 0 ∧ s.bit Reg.PNT_STAT_READY = true ∧
      (s.point i.toNat).typ ≠ 0 ∧ (s.point i.toNat).cmd = true ∧ mayReadLane (requesterLanes s r.val) (s.point i.toNat).lane
      = true) ∧
    (∃ (s : State) (r : Fin 16), (s.get (Reg.FORCE_FRES.by r.val)).testBit 31 = false ∧ takesWrites s = true) :=
  ⟨⟨base, 2, by unfold queueOpen; decide +kernel⟩,
   ⟨cmdPt, 2, 4, by unfold queueOpen; decide +kernel⟩,
   ⟨cmdPt, 2, 4, by decide +kernel⟩,
   ⟨cmdPt, 2, by decide +kernel⟩⟩

/-- The hypotheses of each clause of PointWindow can be met together. -/
theorem witness_PointWindow :
    (∃ (s : State) (r : Fin 16), winBusy s 0x041 r.val = false ∧ takesWrites s = true ∧ queueOpen s 6) ∧
    (∃ (s : State) (r : Fin 16), winBusy s 0x041 r.val = false ∧ takesWrites s = true) ∧
    (∃ (s : State) (p : Fin 32), undisturbed s (0x100 + p.val)) :=
  ⟨⟨base, 2, by unfold queueOpen; decide +kernel⟩,
   ⟨base, 2, by decide +kernel⟩,
   ⟨base, 3, by unfold undisturbed; decide +kernel⟩⟩

/-- The hypotheses of each clause of PortControl can be met together. -/
theorem witness_PortControl :
    (∃ (s : State) (p : Fin 32), pstate s p.val = 0 ∧ portsMayRun s = true ∧ 1 ≤ storedGrade s p.val ∧ storedGrade s p.val ≤
      4 ∧ s.get (Reg.SEG_POOS_OOS.inst p.val) = 0 ∧ pers s p.val = 0 ∧ undisturbed s (0x100 + p.val)) ∧
    (∃ (s : State) (p : Fin 32), pers s p.val ≠ 1 ∧ undisturbed s (0x100 + p.val) ∧ (s.get Reg.MODE_STAT_SHORT).testBit 3 =
      (List.range 32).any (fun n => n ≠ p.val && pstate s n = 6)) ∧
    (∃ (s : State) (p : Fin 32), pstate s p.val = 6 ∧ engineFree s (p.val / 8) = true ∧ pers s p.val ≠ 1 ∧ undisturbed s
      (0x100 + p.val) ∧ (s.get Reg.MODE_STAT_SHORT).testBit 3 = (List.range 32).any (fun n => n ≠ p.val && pstate s n = 6)) ∧
    (∃ (s : State) (p : Fin 32), (pstate s p.val = 3 ∨ pstate s p.val = 4) ∧ pers s p.val ≠ 1 ∧ undisturbed s (0x100 +
      p.val)) ∧
    (∃ (s : State) (p : Fin 32), pstate s p.val = 5 ∧ pers s p.val ≠ 1 ∧ undisturbed s (0x100 + p.val)) ∧
    (∃ (s : State) (p : Fin 32) (j : Fin 64), pers s p.val ≠ 1 ∧ (noos s p.val).testBit j.val = false ∧ undisturbed s (0x100
      + p.val)) ∧
    (∃ (s : State) (p : Fin 32) (j : Fin 64), (noos s p.val).testBit j.val = true ∧ undisturbed s (0x100 + p.val)) ∧
    (∃ (s : State) (p : Fin 32) (c : Fin 4), pstate s p.val = 2 ∧ pers s p.val ≠ 1 ∧ (s.get Reg.MODE_STAT_SHORT).testBit 3 =
      true ∧ (c.val = 2 → closed s p.val = false)) :=
  ⟨⟨port 3 0, 3, by unfold undisturbed; decide +kernel⟩,
   ⟨port 3 4, 3, by unfold undisturbed; decide +kernel⟩,
   ⟨port 3 6, 3, by unfold undisturbed; decide +kernel⟩,
   ⟨port 3 4, 3, by unfold undisturbed; decide +kernel⟩,
   ⟨withRegs [(Reg.SEG_POOS_OOS.inst 3,1)] (port 3 5), 3, by unfold undisturbed; decide +kernel⟩,
   ⟨port 3 4, 3, 40, by unfold undisturbed; decide +kernel⟩,
   ⟨withRegs [(Reg.SEG_NOOSHI_BITS.inst 3, 256)] (port 3 4), 3, 40, by unfold undisturbed; decide +kernel⟩,
   ⟨withRegs [(Reg.MODE_STAT_SHORT, 8)] (port 3 2), 3, 2, by decide +kernel⟩⟩

/-- The hypotheses of each clause of Surveys can be met together. -/
theorem witness_Surveys :
    (∃ (s : State) (p : Fin 32), 3 ≤ mode s ∧ mode s ≤ 6 ∧ pstate s p.val = 2 ∧ engineFree s (p.val / 8) = false ∧
      undisturbed s (0x100 + p.val) ∧ (svyQueue s (p.val / 8)).length < 8 ∧ (s.get Reg.MODE_STAT_SHORT).testBit 3 =
      (List.range 32).any (fun n => pstate s n = 6)) ∧
    (∃ (s : State) (p : Fin 32), (mode s = 0 ∨ mode s = 2 ∨ mode s = 7) ∧ undisturbed s (0x100 + p.val) ∧ (s.get
      Reg.MODE_STAT_SHORT).testBit 3 = (List.range 32).any (fun n => pstate s n = 6)) ∧
    (∃ (s : State) (g : Fin 4) (p : Nat) (q : List Nat), svyQueue s g.val = p :: q ∧ p < 32 ∧ p / 8 = g.val ∧ engineFree s
      g.val = true ∧ (portsMayRun s = true ∨ mode s = 1) ∧ pers s p ≠ 1 ∧ (s.get Reg.MODE_STAT_SHORT).testBit 3 =
      (List.range 32).any (fun n => n ≠ p && pstate s n = 6)) ∧
    (∃ (s : State) (p : Fin 32) (m : SurveyMeasure), pstate s p.val = 1 ∧ foreignVoltage m = true) :=
  ⟨⟨busyEng (port 3 2), 3, by unfold undisturbed; decide +kernel⟩,
   ⟨withRegs [(Reg.MODE_STAT_MODE, 2)] (port 3 2), 3, by unfold undisturbed; decide +kernel⟩,
   ⟨{ (port 3 2) with seg := { svyQueue := [(0, [3, 4])] } }, 0, 3, [4], by decide +kernel⟩,
   ⟨{ (port 3 1) with seg := { svyBusy := [(0, 3)], ports := [(3, { svyAt := base.now, svyFrom := 2 })] } }, 3, foreignM,
     by decide +kernel⟩⟩

/-- The hypotheses of each clause of PortLine can be met together. -/
theorem witness_PortLine :
    (∃ (s : State) (p : Fin 32), pers s p.val = 0 ∧ s.get (Reg.LINK_LCFG_T1LLVL.inst p.val) = 0 ∧ s.bit
      Reg.CLK_STAT_FALLBACK = false ∧ s.get (Reg.LINK_STAT_LINKUP.inst p.val) = 0 ∧ pstate s p.val = 2 ∧ 1 ≤ storedGrade s
      p.val ∧ storedGrade s p.val ≤ 4) ∧
    (∃ (s : State) (p : Fin 32), pers s p.val = 0 ∧ s.get (Reg.LINK_STAT_LINKUP.inst p.val) = 1) ∧
    (∃ (s : State) (p : Fin 32), pers s p.val = 0 ∧ s.get (Reg.LINK_STAT_LINKUP.inst p.val) = 1 ∧ pstate s p.val = 4 ∧
      (s.segPort p.val).beaconOut = false) ∧
    (∃ (s : State) (p : Fin 32), pstate s p.val = 3 ∧ (s.segPort p.val).joinEchoed = 0) :=
  ⟨⟨port 3 2, 3, by decide +kernel⟩,
   ⟨withRegs [(Reg.LINK_STAT_LINKUP.inst 3, 1)] (port 3 4), 3, by decide +kernel⟩,
   ⟨withRegs [(Reg.LINK_STAT_LINKUP.inst 3, 1)] (port 3 4), 3, by decide +kernel⟩,
   ⟨port 3 3, 3, by decide +kernel⟩⟩

end Sys2Proof.Tests.Points

/-! #### Field ports and priority bus -/

namespace Sys2Proof.Tests.Ports

def grade (g : Nat) (p : Nat) (s : State) : State :=
  withRegs [(Reg.SEG_STAT_SVYVALID.inst p, 1), (Reg.SEG_SVYRES_GRADE.inst p, g)] s
def port (n ps : Nat) (s : State := base) : State := grade 1 n (s.set (Reg.SEG_STAT_PSTATE.inst n) ps)
def withPort (n : Nat) (x : SegPort) (s : State) : State := { s with seg := { s.seg with ports := [(n, x)] } }
def s485 : State :=
  withRegs [(Reg.SEG_PCFG_PERS.inst 3, 2), (Reg.SEG_NEXPLO_BITS.inst 3, 0x20), (Reg.SEG_NUPLO_BITS.inst 3, 0x20),
    (Reg.SEG_BSEQ_LAST.inst 3, 9)] (port 3 4)
def conf1 : ConfigSheet :=
  { maps := [{ port := 3, node := 5, cmd := false, index := 4, place := 17 }, { port := 3, node := 5, cmd := true, index := 6, place := 18 }] }
def s485m : State :=
  { s485 with sheets := { charter := some chart, config := some conf1 }, pt := { recs := [(4, { typ := 2 }), (6, {typ := 2, cmd := true})] } }
def cmdItem : CmdItem := { node := 5, item := 18, index := 6, value := 7 }
def cmdMsg : CmdMsg := { node := 5, seq := 12, items := [cmdItem], sentAt := base.now }
def t1l : State := withRegs [(Reg.LINK_STAT_LINKUP.inst 3, 1), (Reg.SEG_NUPLO_BITS.inst 3, 0x20)] (port 3 4)
def feedP (fs : Nat) (mode : Nat := 1) (s : State := port 3 4) : State :=
  withRegs [(Reg.SEG_STAT_FSTATE.inst 3, fs), (Reg.SEG_FCFG_FMODE.inst 3, mode), (Reg.SEG_FCFG_FEFF.inst 3, 50)] s
def shedS : State := feedP 3
def chartR : Charter :=
  { chart with ranges := [(3 * 32, { low := 0x100, high := 0x1FF, rxq := true, lane := 4 }), (3 * 32 + 1, { low := 0x200, high := 0x2FF, lane := 4 })] }
def pb : PbusCfg := {}
def busS (c : PbusCfg := pb) : State :=
  withRegs [(Reg.SEG_PCFG_PERS.inst 3, 1)]
    { port 3 4 with sheets := { charter := some chartR, config := some { ports := [(3, { pers := 1, pbus := c })] } } }
def withBus (x : PbusPort) (s : State) : State := { s with pbus := [(3, x)] }
def fr : CanFrame := { id := 0x123, dlc := 0 }
def txs (w : WinKind) : Transmission := { target := .slot 5 none, frame := fr, win := w, startedAt := base.now }
def chartE : Charter := { chartR with emergencySets := [(2, allLanes)] }
def busE : State := { busS with sheets := { busS.sheets with charter := some chartE } }
def pbT : PbusCfg := { tten := true, cyclen := 10000, ncycexp := 1, cols := [(100, 2)], cells := [(0, 64 + 5), (32, 64 + 5)] }

/-- The hypotheses of each clause of PortFramesAndCommands can be met together. -/
theorem witness_PortFramesAndCommands :
    (∃ (s : State) (p : Fin 32) (j : Fin 64) (b : BitVec 16), pers s p.val = 2 ∧ osdpPort s p.val = false ∧ pstate s p.val =
      4 ∧ (nexp s p.val).testBit j.val = true ∧ (s.segPort p.val).beaconOut = true ∧ seqLater b.toNat (s.get
      (Reg.SEG_BSEQ_LAST.inst p.val)) = true) ∧
    (∃ (s : State) (p : Fin 32) (d : BitVec 16), pers s p.val ≠ 1 ∧ osdpPort s p.val = false ∧ (pers s p.val = 0 → d.toNat =
      s.get (Reg.LINK_FPMPORT_PORT.inst p.val)) ∧ pstate s p.val = 4) ∧
    (∃ (s : State) (p : Fin 32) (j : Fin 64) (i : FpmItem) (m : MapEntry) (u : Update), pers s p.val = 2 ∧ osdpPort s p.val
      = false ∧ pstate s p.val = 4 ∧ (nexp s p.val).testBit j.val = true ∧ (s.segPort p.val).beaconOut = false ∧ (s.segPort
      p.val).visit = none ∧ nodeOpen s p.val j.val = true ∧ mapIn s p.val j.val i.item.toNat = some m ∧ itemUpdate s p.val
      j.val (nodeLane s p.val j.val) m i.value.toNat (itemFlag i.flags.toNat) = some u ∧ (s.segPort p.val).rxq = [] ∧
      ingressFull s = false ∧ queueOpen s (srcClass u.src)) ∧
    (∃ (s : State) (p : Fin 32) (j : Fin 64) (q : BitVec 16) (m : CmdMsg) (c : CmdItem) (i : BitVec 16), pers s p.val = 2 ∧
      osdpPort s p.val = false ∧ pstate s p.val = 4 ∧ (nexp s p.val).testBit j.val = true ∧ (s.segPort p.val).beaconOut =
      false ∧ (s.segPort p.val).visit = none ∧ (tabFind j.val (s.segPort p.val).oosWait).isNone = true ∧ (s.segPort
      p.val).sent = [m] ∧ m.node = j.val ∧ m.seq = q.toNat ∧ m.items = [c] ∧ c.item = i.toNat) ∧
    (∃ (s : State) (p : Fin 32) (j : Fin 64) (c : CmdItem), pers s p.val = 0 ∧ s.get (Reg.LINK_STAT_LINKUP.inst p.val) = 1 ∧
      nodeOpen s p.val j.val = true ∧ (s.segPort p.val).cmds = [c] ∧ c.node = j.val ∧ (s.point c.index).lane = nodeLane s
      p.val j.val ∧ frameFits s (fpmNs s p.val 20) = true) ∧
    (∃ (s : State) (p : Fin 32) (q : BitVec 16) (m : CmdMsg), pers s p.val = 0 ∧ (s.segPort p.val).sent = [m] ∧ m.seq =
      q.toNat ∧ m.node < 64) ∧
    (∃ (s : State) (p : Fin 32) (j : Nat), pers s p.val = 2 ∧ s.get (Reg.LINK_LCFG_FRAMING.inst p.val) = 0 ∧ pstate s p.val
      = 4 ∧ (s.segPort p.val).visit = none ∧ nextVisit s p.val = some j ∧ j < 64 ∧ (s.segPort p.val).cmds = []) ∧
    (∃ (s : State) (p : Fin 32) (v : Visit), (s.segPort p.val).visit = some v ∧ 2 ≤ v.attempts ∧ (s.segPort p.val).sent =
      []) :=
  ⟨⟨withPort 3 { beaconOut := true } s485, 3, 5, 9, by decide +kernel⟩,
   ⟨s485, 3, 0, by decide +kernel⟩,
   ⟨s485m, 3, 5, { item := 17, value := 33 }, { port := 3, node := 5, cmd := false, index := 4, place := 17 },
     { src := nodeSrc 3 5, target := .idx 4, kind := .value 33 .valid, lane := some 0 },
     by unfold queueOpen; decide +kernel⟩,
   ⟨withPort 3 { sent := [cmdMsg] } s485m, 3, 5, 12, cmdMsg, cmdItem, 18, by decide +kernel⟩,
   ⟨withPort 3 { cmds := [cmdItem] } t1l, 3, 5, cmdItem, by decide +kernel⟩,
   ⟨withPort 3 { sent := [cmdMsg] } t1l, 3, 12, cmdMsg, by decide +kernel⟩,
   ⟨s485, 3, 5, by decide +kernel⟩,
   ⟨withPort 3 { visit := some { node := 5, attempts := 2, sentAt := base.now } } s485, 3,
     { node := 5, attempts := 2, sentAt := base.now }, by decide +kernel⟩⟩

/-- The hypotheses of each clause of FieldFeeds can be met together. -/
theorem witness_FieldFeeds :
    (∃ (s : State) (p : Fin 32), mayClose s p.val = true ∧ fstate s p.val < 2 ∧ supplyAllows s = true ∧ firstPort s
      (dueToClose s) = some p.val) ∧
    (∃ (s : State) (p : Fin 32), fstate s p.val = 2) ∧
    (∃ (s : State) (p : Fin 32), closed s p.val = true) ∧
    (∃ (s : State) (p : Fin 32), fstate s p.val = 5 ∧ mayClose s p.val = true ∧ supplyAllows s = true) ∧
    (∃ (s : State) (p : Fin 32), fstate s p.val = 3) ∧
    (∃ (s : State) (p : Fin 32), fstate s p.val = 6 ∧ s.get (Reg.SEG_FCFG_FMODE.inst p.val) = 1 ∧ mayClose s p.val = true ∧
      supplyAllows s = true ∧ undisturbed s (0x100 + p.val) ∧ firstPort s (p.val :: dueToClose s) = some p.val) ∧
    (∃ (s : State) (p : Fin 32), fstate s p.val = 6 ∧ mayClose s p.val = false ∧ undisturbed s (0x100 + p.val)) ∧
    (∃ (s : State) (p : Fin 32) (c : Instr), ((c = .feedLimitTrip p ∧ fstate s p.val = 4) ∨ (∃ i : BitVec 16, c =
      .feedFastTrip p i ∧ closed s p.val = true ∧ (i.toNat > 2 * feedLimit s p.val ∨ i.toNat > 2200)) ∨ (c =
      .feedOvertempTrip p ∧ closed s p.val = true))) :=
  ⟨⟨feedP 1, 3, by decide +kernel⟩,
   ⟨feedP 2, 3, by decide +kernel⟩,
   ⟨feedP 3, 3, by decide +kernel⟩,
   ⟨feedP 5, 3, by decide +kernel⟩,
   ⟨feedP 3, 3, by decide +kernel⟩,
   ⟨feedP 6, 3, by unfold undisturbed; decide +kernel⟩,
   ⟨feedP 6 1 (port 3 0), 3, by unfold undisturbed; decide +kernel⟩,
   ⟨feedP 4, 3, .feedLimitTrip 3, by decide +kernel⟩⟩

/-- The hypotheses of each clause of FeedLimitsAndShedding can be met together. -/
theorem witness_FeedLimitsAndShedding :
    (∃ (s : State) (p : Fin 32), undisturbed s (0x100 + p.val)) ∧
    (∃ (s : State) (u : State) (is : List (BitVec 16)) (g : Nat) (p : Nat), u = currents (is.map BitVec.toNat) (s.reach
      (shedInstant s)) ∧ [0, 1, 2, 3].find? (fun g => groupSum u g > 6000) = some g ∧ shedChoice u ((List.range 8).map (fun
      k => g * 8 + k)) = some p) ∧
    (∃ (s : State) (u : State) (is : List (BitVec 16)) (p : Nat), u = currents (is.map BitVec.toNat) (s.reach
      (recloseInstant s)) ∧ firstPort u ((shedPorts u).filter (shedReady u)) = some p ∧ supplyAllows u = true ∧ firstPort u
      (dueToClose u) = some p) ∧
    (∃ (s : State) (p : Fin 32), s.get (Reg.SEG_FCFG_FMODE.inst p.val) = 2 ∧ pers s p.val = 0 ∧ fstate s p.val < 2) ∧
    (∃ (s : State) (p : Fin 32), s.get (Reg.SEG_FCFG_FMODE.inst p.val) = 2 ∧ closed s p.val = true) :=
  ⟨⟨feedP 3, 3, by unfold undisturbed; decide +kernel⟩,
   ⟨shedS, currents [0,0,0,6001] (shedS.reach 0), [0,0,0,6001], 0, 3, rfl, by decide +kernel, by decide +kernel⟩,
   ⟨withPort 3 { feed := { sheds := [0], shed := true } } (feedP 7), currents [] ((withPort 3
     { feed := { sheds := [0], shed := true } } (feedP 7)).reach (recloseInstant (withPort 3
     { feed := { sheds := [0], shed := true } } (feedP 7)))), [], 3, rfl, by decide +kernel, by decide +kernel,
     by decide +kernel⟩,
   ⟨(feedP 1 2).set Reg.PWR_VIN_V10M 4800, 3, by decide +kernel⟩,
   ⟨feedP 3 2, 3, by decide +kernel⟩⟩

/-- The hypotheses of each clause of BusReception can be met together. -/
theorem witness_BusReception :
    (∃ (s : State) (p : Fin 32), pers s p.val = 1 ∧ s.get (Reg.PBUS_STAT_ECS.inst p.val) ≠ 2 ∧ s.get (Reg.PBUS_STAT_MON.inst
      p.val) = 1) ∧
    (∃ (s : State) (p : Fin 32) (f : CanFrame), busLive s p.val = true ∧ s.get (Reg.PBUS_STAT_MON.inst p.val) = 0 ∧ f.rtr =
      false ∧ (s.bus p.val).confirms = [] ∧ reservedId (pcfg s p.val) f.ide f.id.toNat = false ∧ rangeOf s p.val f.ide
      f.id.toNat = none) ∧
    (∃ (s : State) (p : Fin 32) (f : CanFrame) (r : IdRange), busLive s p.val = true ∧ s.get (Reg.PBUS_STAT_MON.inst p.val)
      = 0 ∧ f.rtr = false ∧ (s.bus p.val).confirms = [] ∧ reservedId (pcfg s p.val) f.ide f.id.toNat = false ∧ rangeOf s
      p.val f.ide f.id.toNat = some r ∧ r.rxq = true ∧ matchMsg s p.val f = none ∧ s.get (Reg.PBUS_RXQBASELO_ADDR.inst
      p.val) ≠ 0 ∧ s.get (Reg.PBUS_STAT_RXQFULL.inst p.val) = 0) ∧
    (∃ (s : State) (p : Fin 32) (g : BitVec 9), undisturbed s (0x120 + p.val) ∧ (g.toNat + 512 - s.get
      (Reg.PBUS_RXQGET_GET.inst p.val)) % 512 ≤ (s.get (Reg.PBUS_RXQPUT_PUT.inst p.val) + 512 - s.get
      (Reg.PBUS_RXQGET_GET.inst p.val)) % 512) ∧
    (∃ (s : State) (p : Fin 32), busLive s p.val = true ∧ s.get (Reg.PBUS_STAT_MON.inst p.val) = 0 ∧ recOf s p.val < 127) :=
  ⟨⟨withRegs [(Reg.PBUS_STAT_MON.inst 3, 1)] (busS), 3, by decide +kernel⟩,
   ⟨busS, 3, { id := 0x423, dlc := 0 }, by decide +kernel⟩,
   ⟨withRegs [(Reg.PBUS_RXQBASELO_ADDR.inst 3, 64)] busS, 3, { id := 0x123, dlc := 0 },
     { low := 0x100, high := 0x1FF, rxq := true, lane := 4 }, by decide +kernel⟩,
   ⟨withRegs [(Reg.PBUS_RXQPUT_PUT.inst 3, 2), (Reg.PBUS_RXQGET_GET.inst 3, 511)] busS, 3, 2,
     by unfold undisturbed; decide +kernel⟩,
   ⟨busS, 3, by decide +kernel⟩⟩

/-- The hypotheses of each clause of BusTransmission can be met together. -/
theorem witness_BusTransmission :
    (∃ (s : State) (p : Fin 32) (f : CanFrame) (fs : List CanFrame), lineReady s p.val = true ∧ (pcfg s p.val).tten = false
      ∧ pstate s p.val ≠ 5 ∧ fittingShadow p.val (fun _ => true) s = (s, none) ∧ txState s p.val 63 = 1 ∧ (s.bus
      p.val).beacon = f :: fs) ∧
    (∃ (s : State) (p : Fin 32) (x : Transmission) (j : Nat), (s.bus p.val).tx = some x ∧ x.target = .slot j none ∧ j < 63 ∧
      x.late = false ∧ portsMayRun s = true ∧ slotMsgs s p.val j = []) ∧
    (∃ (s : State) (p : Fin 32) (j : Fin 63), undisturbed s (0x100 + p.val) ∧ txState s p.val j.val = 1) :=
  ⟨⟨withBus { beacon := [fr] } (busS.set ((Reg.PBUS_TXSTAT_STATE.inst 3).ix 63) 1), 3, fr, [], by decide +kernel⟩,
   ⟨withBus { tx := some (txs .event), frames := [(5, fr)] } (busS.set ((Reg.PBUS_TXSTAT_STATE.inst 3).ix 5) 2), 3, txs
     .event, 5, by decide +kernel⟩,
   ⟨withBus { frames := [(5, fr)] } (busS.set ((Reg.PBUS_TXSTAT_STATE.inst 3).ix 5) 1), 3, 5,
     by unfold undisturbed; decide +kernel⟩⟩

/-- The hypotheses of each clause of BusBuffersAndErrors can be met together. -/
theorem witness_BusBuffersAndErrors :
    (∃ (s : State) (p : Fin 32) (k : Fin 4) (c : BitVec 16) (f : CanFrame), srcClass c.toNat = 0 ∧ idLaneOk s p.val
      (writeSet s c.toNat none) f = true ∧ (shadowOf s p.val k.val).armedAt = none) ∧
    (∃ (s : State) (p : Fin 32) (k : Fin 4), undisturbed s (0x100 + p.val) ∧ (shadowOf s p.val k.val).frame.isSome = true ∧
      (s.bus p.val).tx = none) ∧
    (∃ (s : State) (p : Fin 32) (c : Fin 2) (j : Nat), undisturbed s (0x120 + p.val) ∧ s.get ((Reg.PBUS_FTXSEL_SEL.inst
      p.val).by (14 + c.val)) = j ∧ j ≤ 62 ∧ s.get ((Reg.PBUS_SLOTCFG_OWNER.inst p.val).ix j) = 1 ∧ txState s p.val j = 0 ∧
      reservedId (pcfg s p.val) (ftxFrame s p.val (14 + c.val)).ide (ftxFrame s p.val (14 + c.val)).id.toNat = false ∧
      idLaneOk s p.val (requesterLanes s (14 + c.val)) (ftxFrame s p.val (14 + c.val)) = true) ∧
    (∃ (s : State) (p : Fin 32), 255 < s.get (Reg.PBUS_ERRC_TEC.inst p.val) ∧ s.get (Reg.PBUS_STAT_ECS.inst p.val) ≠ 2 ∧
      (s.bus p.val).tx = none) ∧
    (∃ (s : State) (p : Fin 32), undisturbed s (0x120 + p.val) ∧ s.get (Reg.PBUS_STAT_ECS.inst p.val) = 2) ∧
    (∃ (s : State) (p : Fin 32), s.get (Reg.PBUS_STAT_BOREC.inst p.val) = 1 ∧ pstate s p.val ≠ 4) ∧
    (∃ (s : State) (p : Fin 32), s.get (Reg.PBUS_STAT_INTEG.inst p.val) = 1) ∧
    (∃ (s : State) (p : Fin 32), (pcfg s p.val).tten = true ∧ pers s p.val = 1 ∧ pstate s p.val = 4 ∧ lineReady s p.val =
      true ∧ s.get (Reg.PBUS_STAT_FREF.inst p.val) = 0) ∧
    (∃ (s : State) (p : Fin 32), (pcfg s p.val).tten = true ∧ pers s p.val = 1 ∧ (s.bus p.val).refDone = false ∧ (s.bus
      p.val).void = false ∧ s.get (Reg.PBUS_STAT_FREF.inst p.val) = 0) ∧
    (∃ (s : State) (u : State) (p : Fin 32) (w : Fin 32) (col : Nat × Nat), (pcfg s p.val).cols[w.val]? = some col ∧ (pcfg s
      p.val).tten = true ∧ col.2 ≠ 0 ∧ u = s.reach (s.now + ((col.1 + (pcfg s p.val).txen) * 1000 + max 1 (pcfg s
      p.val).cyclen * 1000 - (cycleNow s p.val).1) % (max 1 (pcfg s p.val).cyclen * 1000)) ∧ cellOf (pcfg s p.val) (cycleNow
      u p.val).2 w.val / 64 = 1 ∧ txState s p.val (cellOf (pcfg s p.val) (cycleNow u p.val).2 w.val % 64) = 1) ∧
    (∃ (s : State) (p : Fin 32) (a : Nat), (s.bus p.val).holdUntil = some a) ∧
    (∃ (s : State) (p : Fin 32) (m : BitVec 10) (a : Nat), (s.bus p.val).confirms = [(m.toNat, a)]) :=
  ⟨⟨busE, 3, 2, 2, { fr with id := 0x234 }, by decide +kernel⟩,
   ⟨withBus { shadows := [(2, { frame := some fr, armedAt := some 3 })] } busE, 3, 2, by unfold undisturbed; decide +kernel⟩,
   ⟨withRegs [((Reg.PBUS_FTXSEL_SEL.inst 3).by 14, 5), ((Reg.PBUS_SLOTCFG_OWNER.inst 3).ix 5, 1), ((Reg.PBUS_FTXID.inst
     3).by 14, 0x123)] busS, 3, 0, 5, by unfold undisturbed; decide +kernel⟩,
   ⟨withRegs [(Reg.PBUS_ERRC_TEC.inst 3, 256)] busS, 3, by decide +kernel⟩,
   ⟨withRegs [(Reg.PBUS_STAT_ECS.inst 3, 2)] busS, 3, by unfold undisturbed; decide +kernel⟩,
   ⟨withRegs [(Reg.PBUS_STAT_ECS.inst 3, 2),(Reg.PBUS_STAT_BOREC.inst 3, 1), (Reg.SEG_STAT_PSTATE.inst 3, 3)] busS, 3,
     by decide +kernel⟩,
   ⟨withRegs [(Reg.PBUS_STAT_INTEG.inst 3, 1)] busS, 3, by decide +kernel⟩,
   ⟨busS pbT, 3, by decide +kernel⟩,
   ⟨busS pbT, 3, by decide +kernel⟩,
   ⟨(busS pbT).set ((Reg.PBUS_TXSTAT_STATE.inst 3).ix 5) 1, ((busS pbT).set ((Reg.PBUS_TXSTAT_STATE.inst 3).ix 5) 1).reach
     (base.now + ((100+1)*1000 + 10000000 - (cycleNow (busS pbT) 3).1) % 10000000), 3, 0, (100, 2), by decide +kernel⟩,
   ⟨withBus { holdUntil := some 6000000000 } (busS pbT), 3, 6000000000, by decide +kernel⟩,
   ⟨withBus { confirms := [(2, 4000000000)] } (busS pbT), 3, 2, 4000000000, by decide +kernel⟩⟩

end Sys2Proof.Tests.Ports

/-! #### Loops, tasks, meter and parapet -/

namespace Sys2Proof.Tests.Engines

def withConf (c : ConfigSheet) (s : State := base) : State := { s with sheets := { s.sheets with config := some c } }
def lc : LoopCfg := { period := 100, out := 4, refpv := 0 }
def cleS : State :=
  withRegs [(Reg.CLE_CTRL_RUN, 1)] (withConf { loops := [(3, lc)] } { base with pt := { recs := [(4, { typ := 8 })] } })
def gth : Gather :=
  { k := 50, tms := 5000, y := 0, sp := 0, ff := 0, tv := 0, r := 0, rUninit := false, overridden := false, action := 1 }
def withLoop (x : LoopState) (s : State) : State := { s with cle := { s.cle with loops := [(3, x)] } }
def tb : State := withRegs [(Reg.TBASE_CFG_SRC, 0), (Reg.UPL_STAT_PTPST0, 2)] base
def ann : PtpAnnounce :=
  { domain := 0, prio1 := 1, clockClass := 2, accuracy := 3, variance := 4, prio2 := 5, gm := 6, steps := 7 }
def upl : State := withRegs [(Reg.UPL_PCFG_MEDIA.ix 1, 1)] base
def im : TaskImage :=
  { task := 5, vars := [(1, { name := 1, typ := 2, retained := true }), (2, { name := 2, typ := 2 })], changes := [(9, { var := 1, lo := 0, hi := 100 })], latches := [(7, .uio 0)], outputs := [] }
def tcfg : TaskCfg := { core := 1 }
def cteS (st : Nat) (c : TaskCfg := tcfg) (x : TaskRun := { active := some im, relAt := base.now }) : State :=
  withRegs [(Reg.CTE_CTRL_RUN, 1), (Reg.CTE_TSTAT_STATE.ix 5, st), (Reg.CORE_STAT_ONLINE.inst 1, 1)]
    { withConf { tasks := [(5, c)] } with cte := { tasks := [(5, x)] } }
def ev : TaskCfg := { core := 1, event := true, evtSrc := 2 }
def imO : TaskImage := { im with outputs := [{ index := 4 }] }
def batU : Update := { src := mkSrc 5 5, target := .idx 4, kind := .value 1 .valid, batch := 1, path := .task 5 }
def batched : State :=
  { cteS 6 with pt := { recs := [(4, { typ := 2, addr := 5 * 2 ^ 45 + 5 })], queues := [(5, [batU])], nextClass := 5 } }
def mtr : State := withRegs [(Reg.MTR_STAT_RUNNING, 1), (Reg.TBASE_STAT_SET, 1)]
  { withConf { meter := { circuits := [(3, { volts := [0], amps := [1] })] } } with mtr := { interval := some {} } }
def pe : EntryCfg := { kind := 1, point := 4, lo := 10, hi := 20, embyp := true }
def prp (c : EntryCfg := pe) : State :=
  { base with sheets := { base.sheets with parapet := some { entries := [(3, c)] } }, prpt := { out := .drive }, pt := { recs := [(4, { typ := 2, cmd := true, pv := 33, actlvl := 1, qual := 1 })] } }

/-- The hypotheses of each clause of LoopCycleAndWindow can be met together. -/
theorem witness_LoopCycleAndWindow :
    (∃ (s : State) (n : Nat) (ms : Nat) (c : LoopCfg), loopSlots s = [n] ∧ loopCfg s n = some c ∧ s.bit Reg.CLE_STAT_HALTED
      = false ∧ ms = nextSample s ((taiNs s + 999999) / 1000000) n ∧ ms ≤ (taiNs s + 999999) / 1000000 + 3600000 ∧ loopDue s
      ms n = true) ∧
    (∃ (s : State) (n : BitVec 13) (c : LoopCfg) (g : Gather), cleRuns s = true ∧ loopCfg s n.toNat = some c ∧ c.group =
      none ∧ (s.loop n.toNat).gather = some g ∧ taiNs s ≤ deadlineNs c g) ∧
    (∃ (s : State) (n : BitVec 13) (c : LoopCfg) (v : Nat) (ms : Nat), loopCfg s n.toNat = some c ∧ (s.loop n.toNat).held =
      some (v, ms) ∧ cleRuns s = true ∧ c.outcmd = false ∧ (s.point c.out).typ = 8 ∧ queueOpen s 4) ∧
    (∃ (s : State) (n : BitVec 13) (c : LoopCfg) (g : Gather), cleRuns s = true ∧ loopCfg s n.toNat = some c ∧ c.group =
      none ∧ (s.loop n.toNat).gather = some g) ∧
    (∃ (s : State) (r : Fin 16) (i : BitVec 20) (c : LoopCfg), undisturbed s 0x050 ∧ winBusy s 0x051 r.val = false ∧ i.toNat
      < 0x10000 ∧ loopCfg s i.toNat = some c ∧ (requesterLanes s r.val).getLsbD (loopLane s i.toNat) = true) :=
  ⟨⟨cleS, 3, 5000, lc, by decide +kernel⟩,
   ⟨withLoop { gather := some gth, init := false } cleS, 3, lc, gth, by decide +kernel⟩,
   ⟨withLoop { held := some (0x3FF0000000000000, 5100) } cleS, 3, lc, 0x3FF0000000000000, 5100,
     by unfold queueOpen; decide +kernel⟩,
   ⟨withLoop { gather := some gth } cleS, 3, lc, gth, by decide +kernel⟩,
   ⟨withLoop { ovrcnt := 8 } cleS, 2, 3, lc, by unfold undisturbed; decide +kernel⟩⟩

/-- The hypotheses of each clause of TimeAndUplinks can be met together. -/
theorem witness_TimeAndUplinks :
    (∃ (s : State) (p : Fin 2) (o : Int), s.get Reg.TBASE_CFG_SRC = 0 ∧ uplinkUp s p.val = true ∧ s.get (ptpField p.val) = 2
      ∧ o.natAbs ≤ 1000 ∧ s.time.syncing = false) ∧
    (∃ (s : State) (a : Nat), s.time.lastSync = some a) ∧
    (∃ (s : State) (p : Fin 2) (v : BitVec 12) (a : PtpAnnounce), uplinkUp s p.val = true ∧ vidOk s p.val v.toNat = true ∧
      a.domain.toNat = s.get Reg.UPL_CFG_PTPDOM) ∧
    (∃ (s : State) (p : Fin 2) (a : PtpAnnounce), (s.uplink p.val).announce = some a) ∧
    (∃ (s : State) (k : Nat), nextWakeMs s = some k ∧ s.get Reg.CSN_STAT_CSTATE ≠ 6 ∧ s.get Reg.MODE_PWRST_DOZE = 1) ∧
    (∃ (s : State) (p : Fin 2) (up : Bool) (v : Fin 4), (up = true → mediaCarries s p.val v.val = true) ∧ s.bit
      Reg.CLK_STAT_FALLBACK = false ∧ (s.uplink 0).lost = false ∧ (s.uplink 1).lost = false ∧ (s.get
      Reg.MODE_STAT_SHORT).testBit 2 = false) ∧
    (∃ (s : State) (p : Fin 2) (a : Nat), (s.uplink p.val).downSince = some a ∧ s.get (Reg.UPL_PCFG_MEDIA.ix p.val) ≠ 0 ∧
      uplinkUp s p.val = false ∧ (s.uplink p.val).lost = false ∧ (s.get Reg.MODE_STAT_SHORT).testBit 2 = true) ∧
    (∃ (s : State) (a : Nat), s.via.linksUp = some a ∧ s.get Reg.VIA_STAT_ROLE = 2 ∧ s.get (Reg.UPL_PCFG_FWD.ix 0) = 1 ∧
      s.get (Reg.UPL_PCFG_FWD.ix 1) = 1) ∧
    (∃ (s : State) (p : Fin 2) (v : BitVec 12) (m : IcmpMessage), uplinkUp s p.val = true ∧ vidOk s p.val v.toNat = true ∧
      icmpFits m = true) :=
  ⟨⟨tb, 0, 500, by decide +kernel⟩,
   ⟨{ tb with time := { tb.time with lastSync := some 4000000000 } }, 4000000000, by decide +kernel⟩,
   ⟨base, 0, 0, ann, by decide +kernel⟩,
   ⟨{ base with uplinks := [(0, { announce := some ann, announceAt := 4000000000 })] }, 0, ann, by decide +kernel⟩,
   ⟨withRegs [(Reg.MODE_PWRST_DOZE, 1)] cleS, 5100, by decide +kernel⟩,
   ⟨upl, 1, true, 2, by decide +kernel⟩,
   ⟨withRegs [(Reg.MODE_STAT_SHORT, 4)] { upl with uplinks := [(1, { downSince := some 4500000000 })] }, 1, 4500000000,
     by decide +kernel⟩,
   ⟨withRegs [(Reg.VIA_STAT_ROLE, 2), (Reg.UPL_PCFG_FWD.ix 0, 1), (Reg.UPL_PCFG_FWD.ix 1, 1)]
     { upl with via := { upl.via with linksUp := some 1000 } }, 1000, by decide +kernel⟩,
   ⟨withConf { uplinks := [{ addr := 99 }, {}] }, 0, 0, .echoRequest 99 1 2 [3], by decide +kernel⟩⟩

/-- The hypotheses of each clause of TaskReleases can be met together. -/
theorem witness_TaskReleases :
    (∃ (s : State) (k : Fin 16) (c : TaskCfg) (ms : Nat), taskCfg s k.val = some c ∧ c.event = false ∧ mayRelease k.val s =
      true ∧ inCycle (taskState s k.val) = false ∧ (s.task k.val).swap = false ∧ ms = nextRelease c (s.task k.val) s) ∧
    (∃ (s : State) (k : Fin 16) (c : TaskCfg), taskCfg s k.val = some c ∧ c.event = false ∧ mayRelease k.val s = true ∧
      inCycle (taskState s k.val) = true ∧ (s.task k.val).late = false) ∧
    (∃ (s : State) (k : Fin 16) (c : TaskCfg) (a : Nat), taskCfg s k.val = some c ∧ c.event = true ∧ (s.task k.val).evtAt =
      some a ∧ mayRelease k.val s = true ∧ inCycle (taskState s k.val) = false ∧ taskState s k.val ≠ 6 ∧ (s.task k.val).swap
      = false) ∧
    (∃ (s : State) (k : Fin 16) (c : TaskCfg) (u : Nat), taskCfg s k.val = some c ∧ taskState s k.val = 3 ∧ topTask s
      (taskCore s k.val) = some u) ∧
    (∃ (s : State) (k : Fin 16) (c : TaskCfg), taskCfg s k.val = some c ∧ c.event = true ∧ inCycle (taskState s k.val) =
      true ∧ (s.task k.val).late = false) ∧
    (∃ (s : State) (k : Fin 16) (c : TaskCfg), taskCfg s k.val = some c ∧ inCycle (taskState s k.val) = true) ∧
    (∃ (s : State) (k : Fin 16) (im : TaskImage), (s.task k.val).active = some im ∧ s.bit Reg.CTE_STAT_HALTED = false) ∧
    (∃ (s : State) (l : Fin 128) (rise : Bool), latchTaken s l.val = true ∧ (latchOf s l.val).level ≠ rise) :=
  ⟨⟨cteS 2, 5, tcfg, 5000, by decide +kernel⟩,
   ⟨cteS 4, 5, tcfg, by decide +kernel⟩,
   ⟨cteS 2 ev { active := some im, evtAt := some base.now }, 5, ev, base.now, by decide +kernel⟩,
   ⟨cteS 3, 5, tcfg, 5, by decide +kernel⟩,
   ⟨cteS 4 ev, 5, ev, by decide +kernel⟩,
   ⟨cteS 4, 5, tcfg, by decide +kernel⟩,
   ⟨cteS 4 tcfg { active := some im, vars := [(1, 3), (2, 4)] }, 5, im, by decide +kernel⟩,
   ⟨cteS 2, 7, true, by decide +kernel⟩⟩

/-- The hypotheses of each clause of TaskCycleAndWindow can be met together. -/
theorem witness_TaskCycleAndWindow :
    (∃ (s : State) (k : Fin 16) (c : TaskCfg) (im : TaskImage), taskCfg s k.val = some c ∧ taskState s k.val = 4 ∧ s.now <
      (s.task k.val).relAt + 4 * taskLimitNs c ∧ c.event = true ∧ s.now ≤ (s.task k.val).relAt + taskLimitNs c ∧ (s.task
      k.val).late = false ∧ (s.task k.val).active = some im) ∧
    (∃ (s : State) (k : Fin 16), batchNext s k.val = true) ∧
    (∃ (s : State) (k : Fin 16) (u : Update) (us : List Update) (as : List (Nat × Update)), batchNext s k.val = true ∧
      admits s = true ∧ (queueOf s 5).head? = some u ∧ us = headBatch s u.batch ∧ as = batchPasses s us ∧ as.length =
      us.length ∧ (∀ a ∈ as, (s.point a.1).oos = false) ∧ s.pt.capUsed + batchCost s as ≤ 20000 ∧ batchQuota s as = true ∧
      batchBlocked s as = false ∧ tabGet [] s.pt.held 5 = [] ∧ s.pt.results = [] ∧ (∀ p < 32, (s.segPort p).rxq = [])) ∧
    (∃ (s : State) (r : Fin 16) (k : Fin 16) (i : BitVec 20) (c : TaskCfg), i.toNat = k.val ∧ undisturbed s 0x058 ∧ winBusy
      s 0x059 r.val = false ∧ taskCfg s k.val = some c ∧ (requesterLanes s r.val).getLsbD (taskLane s k.val) = true ∧ s.bit
      Reg.CTE_CTRL_RUN = true ∧ s.bit Reg.CTE_STAT_HALTED = false) ∧
    (∃ (s : State) (k : Fin 16) (im : TaskImage), (s.task k.val).swap = true ∧ (s.task k.val).staged = some im ∧ inCycle
      (taskState s k.val) = false ∧ taskState s k.val ≠ 6) :=
  ⟨⟨cteS 4 ev, 5, ev, im, by decide +kernel⟩,
   ⟨batched, 5, by decide +kernel⟩,
   ⟨batched, 5, batU, [batU], [(4, batU)], by decide +kernel⟩,
   ⟨cteS 1, 2, 5, 5, tcfg, by unfold undisturbed; decide +kernel⟩,
   ⟨cteS 2 tcfg { active := some im, staged := some imO, swap := true }, 5, imO, by decide +kernel⟩⟩

/-- The hypotheses of each clause of Metering can be met together. -/
theorem witness_Metering :
    (∃ (s : State) (e : Nat), s.bit Reg.MTR_STAT_RUNNING = true ∧ s.bit Reg.MTR_STAT_HALTED = false ∧ meterMode s = true ∧
      s.mtr.stopAt = none ∧ e = instantFrom 200 0 (max (msUp s) (s.mtr.windowMs + 1))) ∧
    (∃ (s : State) (o : OpenInterval) (e : Nat), s.mtr.interval = some o ∧ s.bit Reg.MTR_STAT_RUNNING = true ∧ s.bit
      Reg.TBASE_STAT_SET = true ∧ s.mtr.waiting = false ∧ justClosed s = false ∧ e = intervalEndMs o s) ∧
    (∃ (s : State) (a : Nat) (b : Nat), a = get64 s Reg.MTR_TSTARTLO_US Reg.MTR_TSTARTHI_US ∧ b = get64 s Reg.MTR_TSTOPLO_US
      Reg.MTR_TSTOPHI_US ∧ taiUs s < a ∧ a + 1000000 ≤ b ∧ b ≤ a + 86400000000 ∧ undisturbed s 0x060) ∧
    (∃ (s : State) (a : Nat) (b : Nat), s.mtr.gate = some (a, b) ∧ s.bit Reg.MTR_STAT_TESTARMED = true ∧ s.bit
      Reg.MTR_STAT_TESTACT = false ∧ s.bit Reg.MTR_STAT_RUNNING = true) ∧
    (∃ (s : State) (r : Fin 16) (i : BitVec 20), undisturbed s 0x060 ∧ winBusy s 0x061 r.val = false ∧ i.toNat < 48) ∧
    (∃ (s : State), undisturbed s 0x060) ∧
    (∃ (s : State), frozen s = true ∧ s.get Reg.CSN_STAT_CSTATE ≠ 5 ∧ s.get Reg.CSN_STAT_CSTATE ≠ 6 ∧ s.bit
      Reg.MTR_STAT_RUNNING = true ∧ s.pwr.planned = false) ∧
    (∃ (s : State) (w : MeterWindow) (ch : Fin 48) (bits : List (BitVec 128)), w.channels = [(ch.val, bits)] ∧ s.bit
      Reg.MTR_STAT_RUNNING = true ∧ s.bit Reg.MTR_STAT_HALTED = false ∧ meterMode s = true ∧ s.mtr.stopAt = none ∧
      s.mtr.applying = false) :=
  ⟨⟨mtr, 5000, by decide +kernel⟩,
   ⟨mtr, {}, 3600000, by decide +kernel⟩,
   ⟨withRegs [(Reg.MTR_TSTARTLO_US, 6000000), (Reg.MTR_TSTOPLO_US, 8000000)] mtr, 6000000, 8000000,
     by unfold undisturbed; decide +kernel⟩,
   ⟨withRegs [(Reg.MTR_STAT_TESTARMED, 1)] { mtr with mtr := { mtr.mtr with gate := some (6000000, 8000000) } }, 6000000,
     8000000, by decide +kernel⟩,
   ⟨withRegs [(Reg.MODE_STAT_MODE, 5)] mtr, 9, 4, by unfold undisturbed; decide +kernel⟩,
   ⟨withRegs [(Reg.MODE_STAT_MODE, 5)] { mtr with mtr := { mtr.mtr with staged := [(3, (1, 2))] } },
     by unfold undisturbed; decide +kernel⟩,
   ⟨withRegs [(Reg.MODE_STAT_PFREEZE, 1)] mtr, by decide +kernel⟩,
   ⟨mtr, { channels := [(4, [3])] }, 4, [3], by decide +kernel⟩⟩

/-- The hypotheses of each clause of ParapetControl can be met together. -/
theorem witness_ParapetControl :
    (∃ (s : State) (e : Nat), s.prpt.out = .drive ∧ entriesInUse s = [e] ∧ e < 64 ∧ (entryCfg s e).kind ≠ 2 ∧ ((entryCfg s
      e).kind = 3 ∨ bypass (entryCfg s e) (s.point (entryCfg s e).point) = true) ∧ (s.point (entryCfg s e).point).typ ≠ 0 ∧
      (s.point (entryCfg s e).point).oos = false ∧ s.prpt.releases = [] ∧ s.lift.calls = []) ∧
    (∃ (s : State), s.prpt.out ≠ .drive ∧ s.prpt.releases = [] ∧ s.lift.calls = []) ∧
    (∃ (s : State), s.prpt.permission = true ∧ paired s = true) ∧
    (∃ (s : State) (r : Fin 16), hostReaches s r 0x049) :=
  ⟨⟨prp, 3, by decide +kernel⟩,
   ⟨base, by decide +kernel⟩,
   ⟨withRegs [(Reg.PRPT_AO_PAIRED, 1)]
     { base with prpt := { permission := true, out := .drive }, pair := { leaseEnd := 7000000000 } }, by decide +kernel⟩,
   ⟨(prp).set (Reg.PRPT_EIDX_INDEX.by 2) 3, 2, by unfold hostReaches; decide +kernel⟩⟩

end Sys2Proof.Tests.Engines

/-! #### Viaduct, pair and BACnet -/

namespace Sys2Proof.Tests.Peers

def withPeer (k : Nat) (p : Peer) (s : State := base) : State :=
  { s with via := { s.via with peers := [(k, p)], enrolled := [(k, 77), (4, ownDigest s)] } }
def pr : Peer := { session := true, enrolled := true, digest := 77, up := true, lastHb := 4900000000, flags := 1, pepoch := 3 }
def via : State :=
  withRegs [(Reg.VIA_IDENT_VIAID, 0x1234), (Reg.VIA_IDENT_SLOT, 2), (Reg.VIA_IDENT_RANK, 9), (Reg.VIA_STAT_ROLE, 1)] (withPeer
    10 pr)
def hd (t l : Nat) : ViaHeader :=
  { port := 0, vid := 0, typ := BitVec.ofNat 8 t, len := BitVec.ofNat 16 l, viaid := 0x1234, src := 5, memb := false, seq := 8, pepoch := 3 }
def g5 : Nat := 0x1234 * 2 ^ 32 + 5 * 2 ^ 26 + 9
def mir : State := { via with pt := { recs := [(4, { typ := 2, mirror := true })], directory := [(g5, 4)] } }
def cl : Claim := { epoch := 4, rank := 9, slot := 2 }
def ks (r : Nat) : State :=
  withRegs [(Reg.VIA_STAT_ROLE, r), (Reg.VIA_KEPOCHLO_EPOCH, 4)] { via with via := { via.via with mine := some cl } }
def pairS (r : Nat) : State :=
  withRegs [(Reg.PRPT_AO_PAIRED, 1), (Reg.PAIR_STAT_ROLE, r), (Reg.PAIR_PEPOCH_EPOCH, 3), (Reg.PAIR_CFG_MEMB, 0)]
    { via with prpt := { out := .drive, permission := true }, pair := { leaseEnd := 6000000000 } }
def abC : ConfigSheet := { via := { abutments := [(5, 0)] } }
def abS (x : AbutPair) : State := { via with sheets := { via.sheets with config := some abC }, abut := [(5, x)] }
def ab0 : AbutPair := { epoch := 3, holder := some 0, grantEnd := 5000000000 }
def prq : State := { pairS 1 with pair := { leaseEnd := 6000000000, reqs := [{ seq := 8, kind := 0, sent := 5900000000 }] } }
def ab1 : AbutPair := { epoch := 3, firstAsk := some 4000000000, asked := [(0, (3, 4500000000))] }
def mate (s : State) : State := { s with via := { s.via with peers := [(5, pr), (4, pr), (10, pr)] } }
def hp (t l : Nat) : ViaHeader := { hd t l with src := 2, memb := true }
def bscS : State :=
  withRegs [(Reg.BSC_STAT_HUB, 2)]
    { base with sheets := { base.sheets with config := some { bsc := { objects := [{ otype := 4, inst := 1, index := 4 }] } } }, sessions := [(8, sess)], pt := { recs := [(4, { typ := 1, cmd := true })] } }

/-- The hypotheses of each clause of ViaductPeers can be met together. -/
theorem witness_ViaductPeers :
    (∃ (s : State) (k : Nat), peerList s = [k] ∧ k < 508 ∧ canSend s k 1 = true) ∧
    (∃ (s : State) (h : ViaHeader), viaArrives s h 1 12) ∧
    (∃ (s : State) (j : Fin 64) (m : Bool), (s.peer (peerKey j.val (if m then 1 else 0))).up = true) ∧
    (∃ (s : State) (p : Fin 2) (u : BitVec 16) (o : DtlsOffer) (a : Byte) (m : Bool) (root : Nat), viaRuns s = true ∧
      uplinkUp s p.val = true ∧ u.toNat = (sheet s).via.port ∧ dtlsOk o = true ∧ (charter s).roots.contains root = true ∧
      a.toNat < 64 ∧ s.get Reg.ENC_STAT_ENTOK = 1 ∧ peerKey a.toNat (if m then 1 else 0) ≠ ownKey s ∧ ((s.peer (peerKey
      a.toNat (if m then 1 else 0))).session = true ∨ (peerList s).length < 65)) ∧
    (∃ (s : State) (h : ViaHeader) (it : PubItem) (i : Nat), viaArrives s h 2 44 ∧ publisherOk (s.setPeer (viaKey h)
      { s.peer (viaKey h) with port := h.port.val, pepoch := h.pepoch.toNat }) (viaKey h) = true ∧ resolve s (.gpr
      it.gpr.toNat) = some i ∧ (s.point i).mirror = true ∧ gprOfSlot s (viaKey h / 2) it.gpr.toNat = true ∧ (s.point i).typ
      = it.info.toNat / 2 ^ 20 % 16 ∧ queueOpen s 7) ∧
    (∃ (s : State) (h : ViaHeader) (is : List Word), viaArrives s h 3 (3 + 4 * is.length) ∧ (s.peer (viaKey h)).enrolled =
      true) :=
  ⟨⟨via, 10, by decide +kernel⟩,
   ⟨via, hd 1 12, by unfold viaArrives; decide +kernel⟩,
   ⟨via, 5, false, by decide +kernel⟩,
   ⟨via, 0, BitVec.ofNat 16 (sheet via).via.port, {}, 5, false, 7, by decide +kernel⟩,
   ⟨mir, hd 2 44, { gpr := BitVec.ofNat 48 g5, rseq := 3, pv := 4, ts := 5, info := 0x200000 }, 4,
     by unfold queueOpen viaArrives; decide +kernel⟩,
   ⟨{ via with via := { via.via with subs := [(3, 10), (4, 10), (3, 12)] } }, hd 3 7, [3],
     by unfold viaArrives; decide +kernel⟩⟩

/-- The hypotheses of each clause of Keystone can be met together. -/
theorem witness_Keystone :
    (∃ (s : State), viaRuns s = true ∧ s.get Reg.VIA_IDENT_RANK ≠ 0 ∧ s.via.mine = none ∧ pairRole s ≠ 2) ∧
    (∃ (s : State) (c : Claim), s.get Reg.VIA_STAT_ROLE = 3 ∧ s.via.mine = some c) ∧
    (∃ (s : State) (h : ViaHeader) (e : BitVec 64) (r : Byte) (c : Claim), viaArrives s h 4 9 ∧ c =
      { epoch := e.toNat, rank := r.toNat, slot := viaKey h / 2 }) ∧
    (∃ (s : State), s.get Reg.VIA_STAT_ROLE = 2) ∧
    (∃ (s : State) (h : ViaHeader) (j : Byte) (m : Byte), viaArrives s h 5 43 ∧ s.get Reg.VIA_KVIEW_KSLOT = viaKey h / 2 ∧
      s.get Reg.VIA_STAT_ROLE ≠ 2 ∧ j.toNat < 64 ∧ m.toNat < 2) ∧
    (∃ (s : State) (h : ViaHeader) (r : Byte) (c : Claim) (e : BitVec 64), viaArrives s h 6 9 ∧ s.via.mine = some c ∧ s.get
      Reg.VIA_STAT_ROLE = 2 ∧ e.toNat = c.epoch ∧ r.toNat = 1) ∧
    (∃ (s : State) (c : Claim) (k : Nat), s.via.mine = some c ∧ s.get Reg.VIA_STAT_ROLE = 2 ∧ k = peerKey (s.get
      Reg.VIA_ENRSLOT_SLOT) (s.get Reg.VIA_ENRSLOT_MEMB) ∧ undisturbed s 0x180) ∧
    (∃ (s : State) (c : Claim), s.via.mine = some c ∧ undisturbed s 0x180) :=
  ⟨⟨via, by decide +kernel⟩,
   ⟨ks 3, cl, by decide +kernel⟩,
   ⟨ks 2, hd 4 9, 5, 1, { epoch := 5, rank := 1, slot := 5 }, by unfold viaArrives; decide +kernel⟩,
   ⟨ks 2, by decide +kernel⟩,
   ⟨via.set Reg.VIA_KVIEW_KSLOT 5, hd 5 43, 7, 1, by unfold viaArrives; decide +kernel⟩,
   ⟨ks 2, hd 6 9, 1, cl, 4, by unfold viaArrives; decide +kernel⟩,
   ⟨withRegs [(Reg.VIA_ENRSLOT_SLOT, 7), (Reg.VIA_ENRSLOT_MEMB, 1)] (ks 2), cl, 15, by unfold undisturbed; decide +kernel⟩,
   ⟨ks 2, cl, by unfold undisturbed; decide +kernel⟩⟩

/-- The hypotheses of each clause of PairLeasesAndCheckpoints can be met together. -/
theorem witness_PairLeasesAndCheckpoints :
    (∃ (s : State), pairRole s = 1 ∧ s.prpt.permission = true ∧ mayAsk s = true) ∧
    (∃ (s : State) (h : ViaHeader) (x : AbutPair), viaArrives s h 9 11 ∧ paired s = false ∧ (s.peer (viaKey h)).enrolled =
      true ∧ (tabFind (viaKey h / 2) (sheet s).via.abutments).isSome = true ∧ x = s.pairOf (viaKey h / 2)) ∧
    (∃ (s : State) (h : ViaHeader) (q : Word) (e : Word) (r : LeaseReq), viaArrives s h 10 9 ∧ paired s = true ∧
      s.pair.reqs.find? (fun r => decide (r.seq = q.toNat)) = some r ∧ e.toNat ≤ pairEpoch s ∧ h.pepoch.toNat ≤ pairEpoch s
      ∧ mayAsk s = true) ∧
    (∃ (s : State) (j : Fin 64) (a : Nat) (m : Nat) (q : Nat) (r : Nat), (s.pairOf j.val).firstAsk = some a ∧ tabFind j.val
      (sheet s).via.abutments = some m ∧ m < 2 ∧ tabFind m (s.pairOf j.val).asked = some (q, r) ∧ (s.pairOf j.val).holder =
      none) ∧
    (∃ (s : State), pairRole s = 2 ∧ s.pair.granting = true ∧ mayAsk s = true) ∧
    (∃ (s : State), pairRole s = 3 ∧ mayAsk s = true) ∧
    (∃ (s : State), pairRole s = 1) ∧
    (∃ (s : State), pairRole s = 1 ∧ s.prpt.permission = true ∧ s.pair.sentCk = none ∧ canSend s (partnerKey s) 7 = true) ∧
    (∃ (s : State) (h : ViaHeader) (es : List CkEntry), viaArrives s h 7 (ckLen es) ∧ paired s = true ∧ viaKey h =
      partnerKey s ∧ (s.peer (viaKey h)).enrolled = true ∧ pairRole s = 2 ∧ h.pepoch.toNat ≤ pairEpoch s) ∧
    (∃ (s : State) (q : Nat) (l : Bool) (g : CkStage), s.pair.home = some (q, l) ∧ s.pair.stage = some g) ∧
    (∃ (s : State) (h : ViaHeader) (q : Word) (i : CkImage), viaArrives s h 8 5 ∧ s.pair.sentCk = some (q.toNat, i) ∧ viaKey
      h = partnerKey s ∧ h.pepoch.toNat ≤ pairEpoch s) :=
  ⟨⟨pairS 1, by decide +kernel⟩,
   ⟨abS ab0, hd 9 11, ab0, by unfold viaArrives; decide +kernel⟩,
   ⟨prq, hd 10 9, 8, 3, { seq := 8, kind := 0, sent := 5900000000 }, by unfold viaArrives; decide +kernel⟩,
   ⟨abS ab1, 5, 4000000000, 0, 3, 4500000000, by decide +kernel⟩,
   ⟨pairS 2, by decide +kernel⟩,
   ⟨pairS 3, by decide +kernel⟩,
   ⟨pairS 1, by decide +kernel⟩,
   ⟨mate (pairS 1), by decide +kernel⟩,
   ⟨mate (pairS 2), hp 7 20, [], by unfold viaArrives; decide +kernel⟩,
   ⟨mate
     { pairS 2 with pair := { home := some (8, true), stage := some { seq := 8, tick := 9, nparts := 2, full := true } } },
     8, true, { seq := 8, tick := 9, nparts := 2, full := true }, by decide +kernel⟩,
   ⟨mate { pairS 1 with pair := { sentCk := some (8, {}) } }, hp 8 5, 8, {}, by unfold viaArrives; decide +kernel⟩⟩

/-- The hypotheses of each clause of Bacnet can be met together. -/
theorem witness_Bacnet :
    (∃ (s : State), 2 ≤ s.get Reg.BSC_STAT_HUB ∧ 1000000 ≤ tokensOf s 8) ∧
    (∃ (s : State), viaRuns s = true ∧ anyLink s = true ∧ s.get Reg.BSC_STAT_HUB < 2 ∧ s.get Reg.ENC_STAT_ENTOK = 1) ∧
    (∃ (s : State), viaRuns s = true ∧ anyLink s = true ∧ s.get Reg.BSC_STAT_HUB < 2 ∧ s.get Reg.ENC_STAT_ENTOK = 1) ∧
    (∃ (s : State), 2 ≤ s.get Reg.BSC_STAT_HUB) :=
  ⟨⟨bscS, by decide +kernel⟩,
   ⟨bscS.set Reg.BSC_STAT_HUB 1, by decide +kernel⟩,
   ⟨bscS.set Reg.BSC_STAT_HUB 0, by decide +kernel⟩,
   ⟨bscS, by decide +kernel⟩⟩

end Sys2Proof.Tests.Peers

/-! #### Mode, power, clocks, cores and memory -/

namespace Sys2Proof.Tests.System

def off : State := { base with pwr := { base.pwr with powered := false, booting := false } }
def srst : State := { base with pwr := { base.pwr with srstAt := some 4999000000 } }
def boot : State := { base with pwr := { base.pwr with booting := true } }
def bootU : State :=
  ((boot.set Reg.PWR_VIN_V10M 4800).setBit Reg.PWR_STAT_INOK (inputOk 4800)).setBit Reg.TAMP_FAULT_TAMPER (boot.bit
    Reg.TAMP_STAT_LATCH)
def goU : State := match loadComponents [] bootU with | .go u => u | _ => {}
def jh : JournalHalf := { cmtseq := 8, instant := 9 }
def com (j : JournalHalf) : State :=
  withRegs [(Reg.CSN_STAT_CSTATE, 5), (Reg.MODE_STAT_PFREEZE, 1), (Reg.PNT_STAT_HALTED, 1), (Reg.PWR_STAT_PFW, 1)]
    { base with pwr := { base.pwr with journal := [(0, j)], warnAt := 5000000000, planned := true } }
def stby : State := withRegs [(Reg.MODE_STAT_MODE, 2), (Reg.LANE_STAT_CHVALID, 1), (Reg.PRPT_STAT_NOSHEET, 0)] base
def svc (m : Nat) : State := withRegs [(Reg.MODE_STAT_MODE, m), (Reg.SVC_STAT_SVCEN, 1)] base
def prov : State :=
  { svc 1 with enc := { root := some 3, chain := true, authorities := 7 }, sheets := { charter := some chart, parapet := some {}, config := some {} } }
def cf : ClkFail2 := { element := 1, wasFallback := false, nextAt := 5000100000 }
def core1 : State := withRegs [(Reg.CORE_STAT_ONLINE.inst 1, 1)] base
def im : TaskImage := { task := 5, vars := [(1, { name := 1, typ := 2, retained := true })], outputs := [] }
def cteS (st : Nat) : State :=
  withRegs [(Reg.CTE_CTRL_RUN, 1), (Reg.CTE_TSTAT_STATE.ix 5, st), (Reg.CORE_STAT_ONLINE.inst 1, 1)]
    { base with sheets := { base.sheets with config := some { tasks := [(5, { core := 1 })] } }, cte := { tasks := [(5, { active := some im, relAt := base.now })] } }
def dsc : List Nat := [0,0x10,0,0,0,0,0,0, 0,0x20,0,0,0,0,0,0, 5,0,0,0, 0,1,0,0, 0,0,0,0,0,0,0,0]
def dma (st : Nat) : State := withRegs [(dmaField Reg.DMA_CSTATE_STATE 5, st)] { base with fab := { desc := [(5, dsc)] } }
def mbx : State :=
  withRegs [(Reg.MBX_MCFG_VALID.ix 4, 1), (Reg.MBX_MCFG_SRC.ix 4, 5), (Reg.MBX_MCFG_DST.ix 4, 6), (Reg.MBX_MCFG_TMO.ix 4,
    100)] base
def offer : DtlsOffer := {}

/-- The hypotheses of each clause of StartsAndResets can be met together. -/
theorem witness_StartsAndResets :
    (∃ (s : State), s.pwr.powered = false) ∧
    (∃ (s : State) (u : State) (v : BitVec 16) (x : Bool) (i : Bool) (f : List (Nat × Nat)), s.pwr.booting = true ∧
      s.pwr.powered = true ∧ s.clk.cf2 = none ∧ (x = true ∨ i = true) ∧ s.enc.tripped = false ∧ armLost s = false ∧
      loadComponents f (((s.set Reg.PWR_VIN_V10M v.toNat).setBit Reg.PWR_STAT_INOK (inputOk v.toNat)).setBit
      Reg.TAMP_FAULT_TAMPER (s.bit Reg.TAMP_STAT_LATCH)) = .go u) ∧
    (∃ (s : State), s.pwr.powered = true) ∧
    (∃ (s : State), watchdogRuns s = true ∧ trialComp s = none) ∧
    (∃ (s : State), s.pwr.powered = true ∧ frozen s = false) ∧
    (∃ (s : State) (a : Nat), s.pwr.srstAt = some a ∧ frozen s = false) ∧
    (∃ (s : State), s.pwr.powered = true) :=
  ⟨⟨off, by decide +kernel⟩,
   ⟨boot, goU, 4800, true, true, [], by decide +kernel⟩,
   ⟨base, by decide +kernel⟩,
   ⟨base, by decide +kernel⟩,
   ⟨base, by decide +kernel⟩,
   ⟨srst, 4999000000, by decide +kernel⟩,
   ⟨base, by decide +kernel⟩⟩

/-- The hypotheses of each clause of PowerFailAndHoldup can be met together. -/
theorem witness_PowerFailAndHoldup :
    (∃ (s : State), s.get Reg.PWR_STAT_PFW = 0 ∧ s.pwr.powered = true) ∧
    (∃ (s : State) (j : JournalHalf), tabFind s.pwr.half s.pwr.journal = some j ∧ s.get Reg.CSN_STAT_CSTATE = 5 ∧
      s.pwr.stopped = false ∧ s.pwr.restartWaits = false ∧ j.sealed2 = false) ∧
    (∃ (s : State), s.get Reg.CSN_STAT_CSTATE = 5 ∧ s.pwr.stopped = false ∧ s.pwr.restartWaits = false) ∧
    (∃ (s : State), frozen s = true ∧ s.pwr.powered = true ∧ s.clk.cf2 = none) ∧
    (∃ (s : State), s.get Reg.PWR_STAT_OV = 0 ∧ s.pwr.powered = true) ∧
    (∃ (s : State), s.get Reg.PWR_STAT_OV = 1) ∧
    (∃ (s : State), frozen s = false ∧ s.pwr.powered = true ∧ s.pwr.booting = false ∧ checkMode s = true ∧ (s.get
      Reg.CSN_STAT_CSTATE = 1 ∨ (s.get Reg.CSN_STAT_CSTATE = 4 ∧ s.pwr.lastCheck ≤ s.pwr.chargeAt))) ∧
    (∃ (s : State), s.get Reg.CSN_STAT_CSTATE = 1 ∧ (s.get Reg.MODE_STAT_SHORT).testBit 0 = true) ∧
    (∃ (s : State), checkMode s = true ∧ frozen s = false ∧ (s.get Reg.CSN_STAT_CSTATE = 0 ∨ s.get Reg.CSN_STAT_CSTATE = 3 ∨
      s.get Reg.CSN_STAT_CSTATE = 4)) ∧
    (∃ (s : State), s.get Reg.CSN_STAT_CSTATE = 2) :=
  ⟨⟨base, by decide +kernel⟩,
   ⟨com jh, jh, by decide +kernel⟩,
   ⟨com jh, by decide +kernel⟩,
   ⟨com jh, by decide +kernel⟩,
   ⟨withRegs [(Reg.SEG_STAT_FSTATE.inst 3, 3), (Reg.SEG_STAT_FSTATE.inst 4, 6), (Reg.SEG_STAT_FSTATE.inst 5, 7)] base,
     by decide +kernel⟩,
   ⟨withRegs [(Reg.PWR_STAT_OV, 1)] base, by decide +kernel⟩,
   ⟨withRegs [(Reg.CSN_STAT_CSTATE, 1)] base, by decide +kernel⟩,
   ⟨withRegs [(Reg.CSN_STAT_CSTATE, 1), (Reg.MODE_STAT_SHORT, 1)] base, by decide +kernel⟩,
   ⟨base, by decide +kernel⟩,
   ⟨withRegs [(Reg.CSN_STAT_CSTATE, 2)] base, by decide +kernel⟩⟩

/-- The hypotheses of each clause of ModeTransitions can be met together. -/
theorem witness_ModeTransitions :
    (∃ (s : State), mode s = 2 ∧ frozen s = false ∧ startConditions s = true) ∧
    (∃ (s : State), frozen s = false) ∧
    (∃ (s : State), s.get Reg.MODE_CTRL_FATAL = 0) ∧
    (∃ (s : State), mayDoze s = true) ∧
    (∃ (s : State), s.get Reg.CSN_STAT_CSTATE ≠ 6 ∧ s.get Reg.MODE_PWRST_DOZE = 1) :=
  ⟨⟨stby, by decide +kernel⟩,
   ⟨base, by decide +kernel⟩,
   ⟨base, by decide +kernel⟩,
   ⟨base, by decide +kernel⟩,
   ⟨withRegs [(Reg.MODE_PWRST_DOZE, 1)] base, by decide +kernel⟩⟩

/-- The hypotheses of each clause of ServiceAndProvisioning can be met together. -/
theorem witness_ServiceAndProvisioning :
    (∃ (s : State), sessionOpen s 9 = true ∧ s.get Reg.SVC_STAT_SVCEN = 1 ∧ (mode s = 2 ∨ mode s = 3 ∨ mode s = 4 ∨ mode s =
      6) ∧ frozen s = false) ∧
    (∃ (s : State), sessionOpen s 9 = true ∧ mode s = 5 ∧ frozen s = false) ∧
    (∃ (s : State) (d : BitVec 16) (o : DtlsOffer), serviceUp s = true ∧ sessionOpen s 9 = false ∧ (mode s = 0 ∨ mode s = 1
      ∨ s.bit Reg.SVC_STAT_SVCEN = true) ∧ d.toNat = s.get Reg.SVC_CFG_PORT ∧ dtlsOk o = true ∧ s.get Reg.ENC_STAT_ENTOK =
      1) ∧
    (∃ (s : State), sessionOpen s 9 = true ∧ frozen s = false ∧ s.get Reg.ENC_STAT_READY = 1 ∧ s.get Reg.ENC_STAT_ENTOK = 1
      ∧ ((mode s = 0 ∧ s.get Reg.ENC_STAT_PROV = 0) ∨ mode s = 7)) ∧
    (∃ (s : State), mode s = 1 ∧ sessionOpen s 9 = true ∧ frozen s = false ∧ provisioned s = true ∧ s.get
      Reg.MODE_STAT_HCAUSE = 0) ∧
    (∃ (s : State), mode s = 1 ∧ sessionOpen s 9 = true ∧ frozen s = false ∧ (s.enc.provFrom = 0 ∨ s.enc.provFrom = 7)) ∧
    (∃ (s : State), s.get Reg.CLK_STAT_FALLBACK = 0 ∧ s.pwr.powered = true ∧ s.clk.cf2 = none) :=
  ⟨⟨svc 3, by decide +kernel⟩,
   ⟨svc 5, by decide +kernel⟩,
   ⟨{ svc 3 with sessions := [] }, BitVec.ofNat 16 (base.get Reg.SVC_CFG_PORT), offer, by decide +kernel⟩,
   ⟨withRegs [(Reg.ENC_STAT_READY, 1), (Reg.ENC_STAT_ENTOK, 1)] (svc 0), by decide +kernel⟩,
   ⟨prov, by decide +kernel⟩,
   ⟨{ prov with enc := { prov.enc with provFrom := 7 } }, by decide +kernel⟩,
   ⟨base, by decide +kernel⟩⟩

/-- The hypotheses of each clause of Clocks can be met together. -/
theorem witness_Clocks :
    (∃ (s : State), s.clk.cf2 = none ∧ s.get Reg.MODE_PWRST_DOZE = 0 ∧ s.pwr.powered = true) ∧
    (∃ (s : State), s.get Reg.CLK_STAT_FALLBACK = 0 ∧ s.clk.tripped = false ∧ s.clk.cf2 = none ∧ s.pwr.powered = true) ∧
    (∃ (s : State), s.get Reg.CLK_STAT_AOSRC = 0) ∧
    (∃ (s : State) (a : Nat), s.clk.cf2 = none ∧ s.clk.ircFrom = some a) ∧
    (∃ (s : State) (a : Nat), s.clk.tripped = true ∧ s.clk.cf2 = none ∧ s.clk.ircFrom = some a) ∧
    (∃ (s : State) (a : Nat), s.clk.refAt = some a ∧ s.clk.cf2 = none) ∧
    (∃ (s : State) (x : ClkFail2), s.clk.cf2 = some x) ∧
    (∃ (s : State), s.get Reg.CLK_STAT_FALLBACK = 1 ∧ s.get Reg.CLK_STAT_XTGOOD = 1) :=
  ⟨⟨base, by decide +kernel⟩,
   ⟨withRegs [(Reg.CLK_IRCSTAT_READY, 1)] base, by decide +kernel⟩,
   ⟨base, by decide +kernel⟩,
   ⟨{ base with clk := { ircFrom := some 4999990000 } }, 4999990000, by decide +kernel⟩,
   ⟨{ base with clk := { ircFrom := some 4999990000, tripped := true } }, 4999990000, by decide +kernel⟩,
   ⟨{ base with clk := { refAt := some 4999990000 } }, 4999990000, by decide +kernel⟩,
   ⟨{ base with clk := { cf2 := some cf } }, cf, by decide +kernel⟩,
   ⟨withRegs [(Reg.CLK_STAT_FALLBACK, 1), (Reg.CLK_STAT_XTGOOD, 1)] base, by decide +kernel⟩⟩

/-- The hypotheses of each clause of CoresAndMemory can be met together. -/
theorem witness_CoresAndMemory :
    (∃ (s : State) (n : Fin 4), s.get (Reg.CORE_STAT_ONLINE.inst n.val) = 1 ∧ s.get (Reg.CORE_STAT_HALTED.inst n.val) = 0) ∧
    (∃ (s : State) (n : Fin 4) (k : Fin 16) (c : TaskCfg) (d : Fin 17), d.val = k.val + 1 ∧ s.get (Reg.CORE_STAT_ONLINE.inst
      n.val) = 1 ∧ s.get (Reg.CORE_STAT_HALTED.inst n.val) = 0 ∧ taskCfg s k.val = some c ∧ taskState s k.val = 4 ∧ taskCore
      s k.val = n.val) ∧
    (∃ (s : State) (n : Fin 4), n.val ≠ 0 ∧ (∀ k ∈ taskSlots s, taskCore s k = n.val → taskState s k = 0)) ∧
    (∃ (s : State) (n : Fin 4), s.get (Reg.CORE_STAT_ONLINE.inst n.val) = 1 ∧ s.get (Reg.CORE_STAT_HALTED.inst n.val) = 0) ∧
    (∃ (s : State), s.get Reg.MODE_PWRST_DOZE = 0 ∧ s.get Reg.CSN_STAT_CSTATE ≠ 5) ∧
    (∃ (s : State), s.get Reg.MMU_INVAL_BUSY = 0) ∧
    (∃ (s : State), s.get Reg.MMU_INVAL_BUSY = 1) :=
  ⟨⟨core1, 1, by decide +kernel⟩,
   ⟨cteS 4, 1, 5, { core := 1 }, 6, by decide +kernel⟩,
   ⟨cteS 0, 1, by decide +kernel⟩,
   ⟨core1, 1, by decide +kernel⟩,
   ⟨base, by decide +kernel⟩,
   ⟨base, by decide +kernel⟩,
   ⟨withRegs [(Reg.MMU_INVAL_BUSY, 1)] base, by decide +kernel⟩⟩

/-- The hypotheses of each clause of DmaChannels can be met together. -/
theorem witness_DmaChannels :
    (∃ (s : State) (r : Fin 16) (c : Fin 32), 14 ≤ r.val ∧ dmaState s c.val ≠ 1 ∧ dmaState s c.val ≠ 2 ∧ ofLeBytes
      (((s.getBytes (s.get (dmaField Reg.DMA_COWN_ASID c.val)) (dmaDescAddr s c.val) 32).drop 0x14).take 4) % 4 = 0) ∧
    (∃ (r : Fin 16), 10 ≤ r.val ∧ r.val < 14) ∧
    (∃ (s : State) (c : Fin 32), dmaState s c.val = 1 ∧ dmaGood s c.val = true ∧ dmaKind s c.val = 0 ∧ dmaProgress s c.val =
      0 ∧ (dmaDesc s c.val 0x14 4).testBit 8 = true) ∧
    (∃ (s : State) (c : Fin 32), dmaState s c.val = 1 ∧ dmaKind s c.val = 0 ∧ dmaOwner s c.val = 0) ∧
    (∃ (r : Fin 16), 14 ≤ r.val) :=
  ⟨⟨base, 14, 5, by decide +kernel⟩,
   ⟨10, by decide +kernel⟩,
   ⟨dma 1, 5, by decide +kernel⟩,
   ⟨dma 1, 5, by decide +kernel⟩,
   ⟨14, by decide +kernel⟩⟩

/-- The hypotheses of each clause of MailboxesAndLocks can be met together. -/
theorem witness_MailboxesAndLocks :
    (∃ (s : State) (w : Master), masterMid w ≠ 7 ∧ reachesLane w (pageLane s 0x008) s = true) ∧
    (∃ (s : State) (w : Master) (m : Fin 64), masterMid w ≠ 7 ∧ reachesLane w (pageLane s 0x008) s = true ∧ s.get
      (Reg.MBX_MCFG_VALID.ix m.val) = 1 ∧ s.get (Reg.MBX_MCFG_DST.ix m.val) = mailEndpoint w s) ∧
    (∃ (s : State) (m : Fin 64), s.get (Reg.MBX_MST_FULL.ix m.val) = 1 ∧ s.get (Reg.MBX_MCFG_TMO.ix m.val) ≠ 0 ∧ s.get
      (Reg.MBX_MST_TIMEOUT.ix m.val) = 0) ∧
    (∃ (s : State) (w : Master), masterMid w ≠ 7 ∧ reachesLane w (pageLane s 0x009) s = true) ∧
    (∃ (d : Fin 32) (m : Fin 64) (l : Fin 128) (v : Word) (c : Instr), (c = .mailboxWrite (.dma d) m v ∨ c = .mailboxRead
      (.dma d) m ∨ c = .lockAcquire (.dma d) l)) :=
  ⟨⟨mbx, .req 12, by decide +kernel⟩,
   ⟨mbx, .req 13, 4, by decide +kernel⟩,
   ⟨mbx.set (Reg.MBX_MST_FULL.ix 4) 1, 4, by decide +kernel⟩,
   ⟨base, .req 2, by decide +kernel⟩,
   ⟨3, 4, 5, 77, .mailboxWrite (.dma 3) 4 77, by decide +kernel⟩⟩

end Sys2Proof.Tests.System

/-! #### Enclave, update, calendar, recorder and local channels -/

namespace Sys2Proof.Tests.Services

def ks : KeySlot := { typ := 1, usage := 0xFF, key := 9 }
def enc : State :=
  withRegs [(Reg.ENC_STAT_READY, 1), (Reg.ENC_STAT_ENTOK, 1), (Reg.ENC_STAT_ROOTOK, 1)]
    { base with enc := { root := some 3, slots := [(8, ks)], regenerating := false } }
def op (o k : Nat) : EncOp := { copy := 14, op := o, slot := k, dst := 0, arg0 := 0, arg1 := 0, input := [], lanes := allLanes }
def regen (n : Nat) : State :=
  withRegs [(Reg.ENC_ROOTTRY_COUNT, n)] { base with enc := { regenerating := true, nonce := some 5 } }
def armed : State := withRegs [(Reg.TAMP_ARM_BITS, 7)] enc
def upd (n : Nat) : State := withRegs [(Reg.UPD_STAT_USTATE, n), (Reg.MODE_STAT_MODE, 5)] base
def rtc (fs : List (RegField × Nat)) : State :=
  withRegs fs { base with rtc := { cycles := 800000000 * 32768, cyclesAt := base.now } }
def staged : State :=
  rtc [(Reg.RTC_SSEC.by 2, 0x30), (Reg.RTC_SMIN.by 2, 0x15), (Reg.RTC_SHOUR.by 2, 0x12), (Reg.RTC_SDAY.by 2, 0x29),
    (Reg.RTC_SMON.by 2, 2), (Reg.RTC_SYEAR_YR.by 2, 0x24)]
def cmp : State := { rtc [(Reg.RTC_CFG_PTPSET, 1), (Reg.TBASE_STAT_LOCK, 1)] with time := { tai := 1900000000000000000 } }
def rec1 : LogRecord := { typ := 1, sev := 1, seq := 1, optime := 1, pcc := 1, items := [3] }
def uio (m : Nat) : State := withRegs [(Reg.UIO_UCFG_UMODE.ix 3, m), (Reg.UIO_UCFG_DEB.ix 3, 20)] base
def outS (n : Nat) (s : State) : State :=
  { s with sheets := { s.sheets with parapet := some { entries := [(n, { kind := 1, point := 4 })] } }, prpt := { out := .drive, entries := [(n, { rel := 1 })] } }
def rd : ReaderCfg := { port := 3, addr := 1, slot := 2 }
def door : DoorCfg := { reader := 6, floor := 0, release := 4, dlevel := 8, drelt := 5 }
def accS : State :=
  withRegs [(Reg.SEG_PCFG_PERS.inst 3, 2), (Reg.LINK_LCFG_FRAMING.inst 3, 1), (Reg.SEG_STAT_PSTATE.inst 3, 4),
    (Reg.ACC_RSECURE_BITS, 64)]
  { base with sheets := { base.sheets with config := some { readers := [(6, rd)], doors := [(2, door)] } }, pt := { recs := [(4, { typ := 1, cmd := true })] } }
def pol : OsdpPoll := { reader := 6, sentAt := 4950000000 }
def polled (s : State) : State := { s with acc := { s.acc with polls := [(3, pol)] } }
def cd : Credential :=
  { digest := cardDigest 26 [1,2,3,4], doors := 4, since := 0, until' := 0, pinchk := 0, home := 3, flags := 1, tag := 8 }
def pw : PinWait := { index := 9, cred := cd, readAt := 4900000000, since := 4900000000 }
def pinS : State := { accS with acc := { polls := [(3, pol)], cache := [(9, cd)], pins := [(2, pw)] } }
def lift : State :=
  withRegs [(Reg.SEG_PCFG_PERS.inst 5, 0), (Reg.SEG_STAT_PSTATE.inst 5, 4), (Reg.LINK_STAT_LINKUP.inst 5, 1),
    (Reg.LIFT_CFG_MINFL, 0xFE), (Reg.LIFT_CFG_MAXFL, 9), (Reg.LIFT_STAT_LINKUP, 1)]
  { base with sheets := { base.sheets with config := some { lift := some { port := 5, minfl := 0xFE, maxfl := 9, ncars := 2 } }, parapet := some { lcrate := 60, lcburst := 5 } }, prpt := { out := .drive } }
def call : LiftCall := { id := 77, copy := some 2, fromFl := 0, toFl := 3, acc := false, sentAt := some 4900000000 }
def calling : State := { lift with lift := { lift.lift with calls := [call] } }

/-- The hypotheses of each clause of EnclaveOperations can be met together. -/
theorem witness_EnclaveOperations :
    (∃ (s : State) (r : Fin 16) (c : Instr) (op : Nat) (k : Nat), ((∃ x y m u g l b, c = .encDerive r x y m u g l b ∧ op = 1
      ∧ k = x.toNat) ∨ (∃ x, c = .encDestroy r x ∧ op = 2 ∧ k = x.toNat) ∨ (∃ x a i, c = .encEncrypt r x a i ∧ op = 3 ∧ k =
      x.toNat) ∨ (∃ x a i, c = .encDecrypt r x a i ∧ op = 4 ∧ k = x.toNat) ∨ (∃ x i, c = .encMac r x i ∧ op = 5 ∧ k =
      x.toNat) ∨ (∃ x i, c = .encSign r x i ∧ op = 6 ∧ k = x.toNat) ∨ (∃ x, c = .encPubkey r x ∧ op = 7 ∧ k = x.toNat) ∨ (∃
      x y i, c = .encAgree r x y i ∧ op = 8 ∧ k = x.toNat) ∨ (∃ l, c = .encRandom r l ∧ op = 9 ∧ k = 0) ∨ (∃ i, c =
      .encAttest r i ∧ op = 10 ∧ k = 0)) ∧ undisturbed s 0x020 ∧ copyLive r.val s = true ∧ s.get (Reg.ENC_ERES_BUSY.by
      r.val) = 0 ∧ s.enc.running = none ∧ s.enc.queue = [] ∧ frozen s = false) ∧
    (∃ (s : State) (o : EncOp), s.enc.running = some o ∧ o.copy < 16 ∧ o.dropped = false ∧ s.enc.queue = []) :=
  ⟨⟨enc, 14, .encDestroy 14 8, 2, 8, Or.inr (Or.inl ⟨8, rfl, rfl, rfl⟩), by unfold undisturbed; decide +kernel⟩,
   ⟨{ enc with enc := { enc.enc with running := some (op 2 8) } }, op 2 8, by decide +kernel⟩⟩

/-- The hypotheses of each clause of EntropyAndTamper can be met together. -/
theorem witness_EntropyAndTamper :
    (∃ (s : State) (x : Nat) (k : Nat), s.enc.regenerating = true ∧ s.enc.nonce = some x ∧ k = max 1 (s.get
      Reg.ENC_ROOTTRY_COUNT) + 1) ∧
    (∃ (s : State), s.get Reg.ENC_STAT_ENTOK = 0) ∧
    (∃ (s : State) (v : BitVec 6), v.toNat &&& s.get Reg.TAMP_ARM_BITS ≠ 0) ∧
    (∃ (s : State), sessionOpen s 9 = true ∧ mode s = 5 ∧ s.pwr.powered = true ∧ s.clk.cf2 = none ∧ undisturbed s 0x020) :=
  ⟨⟨regen 1, 5, 2, by decide +kernel⟩,
   ⟨base.set Reg.ENC_STAT_ENTOK 0, by decide +kernel⟩,
   ⟨armed, 12, by decide +kernel⟩,
   ⟨armed.set Reg.MODE_STAT_MODE 5, by unfold undisturbed; decide +kernel⟩⟩

/-- The hypotheses of each clause of ImageUpdate can be met together. -/
theorem witness_ImageUpdate :
    (∃ (s : State), sessionOpen s 9 = true ∧ s.get Reg.UPD_STAT_USTATE = 2) ∧
    (∃ (s : State), s.get Reg.UPD_STAT_USTATE = 3) ∧
    (∃ (s : State) (b : Bool) (n : Nat) (x : Nat), sessionOpen s 9 = true ∧ s.get Reg.UPD_ARES_BUSY = 0 ∧ stepCheck b
      (newBank s) (s.get Reg.UPD_ASEL_COMP) s = (n, x)) ∧
    (∃ (s : State), sessionOpen s 9 = true ∧ s.get Reg.UPD_STAT_USTATE = 5 ∧ s.get Reg.UPD_ARES_BUSY = 0) ∧
    (∃ (s : State) (c : Nat), sessionOpen s 9 = true ∧ s.get Reg.UPD_ARES_BUSY = 0 ∧ trialComp s = some c) ∧
    (∃ (s : State), sessionOpen s 9 = true ∧ s.get Reg.UPD_STAT_USTATE ≠ 5 ∧ s.get Reg.UPD_STAT_MIXED = 0) ∧
    (∃ (s : State) (c : Nat), trialComp s = some c ∧ s.pwr.powered = true) ∧
    (∃ (r : Fin 16), r.val ≠ 9) :=
  ⟨⟨upd 2, by decide +kernel⟩,
   ⟨upd 3, by decide +kernel⟩,
   ⟨upd 2, true, 1, 0, by decide +kernel⟩,
   ⟨withRegs [(Reg.UPD_SEL_BANK, 31), (Reg.UPD_SEL_TRIAL, 4)] (upd 5), by decide +kernel⟩,
   ⟨withRegs [(Reg.UPD_SEL_BANK, 4), (Reg.UPD_SEL_TRIAL, 4)] (upd 5), 2, by decide +kernel⟩,
   ⟨upd 4, by decide +kernel⟩,
   ⟨withRegs [(Reg.UPD_SEL_BANK, 4), (Reg.UPD_SEL_TRIAL, 4)] (upd 5), 2, by decide +kernel⟩,
   ⟨3, by decide +kernel⟩⟩

/-- The hypotheses of each clause of RealTimeClock can be met together. -/
theorem witness_RealTimeClock :
    (∃ (s : State), s.get Reg.RTC_STAT_DSTPEND = 1 ∧ (rtcSeconds s + 3601) * rtcHz < rtcEnd) ∧
    (∃ (s : State), s.get Reg.RTC_CFG_PTPSET = 0) ∧
    (∃ (s : State) (u : State), u = s.reach (instantOfCycles s ((rtcSeconds s + 1) * rtcHz)) ∧ s.get Reg.RTC_CFG_PTPSET = 1
      ∧ s.get Reg.TBASE_STAT_LOCK = 1 ∧ 1 < (taiMs u : Int) - 1000 * (u.get Reg.TBASE_CFG_UTCOFF : Int) - rtcUtcMs u) ∧
    (∃ (s : State) (a : Nat), s.rtc.trimAt = some a ∧ s.get Reg.RTC_CFG_TSRC = 2 ∧ s.get Reg.TBASE_STAT_LOCK = 1) :=
  ⟨⟨{ rtc [(Reg.RTC_STAT_VALID, 1), (Reg.RTC_STAT_DSTPEND, 1)] with rtc := { cycles := 800000000 * 32768, cyclesAt := base.now, dstForward := true } },
     by decide +kernel⟩,
   ⟨rtc [(Reg.RTC_CFG_PTPSET, 0)], by decide +kernel⟩,
   ⟨cmp, cmp.reach (instantOfCycles cmp ((rtcSeconds cmp + 1) * rtcHz)), by decide +kernel⟩,
   ⟨{ rtc [(Reg.RTC_CFG_TSRC, 2), (Reg.TBASE_STAT_LOCK, 1)] with rtc := { trimAt := some 4000000000 } }, 4000000000,
     by decide +kernel⟩⟩

/-- The hypotheses of each clause of EventLog can be met together. -/
theorem witness_EventLog :
    (∃ (s : State), s.log.drops = []) ∧
    (∃ (s : State) (r : Fin 16) (k : Nat), k = s.get (Reg.LOG_RSEL_READER.by r.val)) ∧
    (∃ (s : State), s.get Reg.TBASE_STAT_SET = 1 ∧ s.log.lastMark = none) :=
  ⟨⟨{ base with log := { base.log with buffer := [rec1], bufSince := 4950000000 } }, by decide +kernel⟩,
   ⟨base, 2, 0, by decide +kernel⟩,
   ⟨withRegs [(Reg.TBASE_STAT_SET, 1)] base, by decide +kernel⟩⟩

/-- The hypotheses of each clause of LocalChannels can be met together. -/
theorem witness_LocalChannels :
    (∃ (s : State) (n : Fin 24), uioRuns s = true ∧ 1 ≤ uioMode s n.val ∧ uioMode s n.val ≤ 6) ∧
    (∃ (s : State) (n : Fin 24) (b : Bool), uioRuns s = true ∧ (uioMode s n.val = 5 ∨ uioMode s n.val = 6) ∧ s.bit
      (Reg.UIO_USTAT_LEVEL.ix n.val) ≠ b) ∧
    (∃ (s : State) (n : Fin 24), (uioMode s n.val = 7 ∨ uioMode s n.val = 8) ∧ (localOutput s n.val).isSome = true ∧ s.get
      (Reg.UIO_USTAT_OUTFLT.ix n.val) = 0) ∧
    (∃ (s : State) (n : Fin 24), s.get (Reg.UIO_USTAT_OUTFLT.ix n.val) = 1) ∧
    (∃ (s : State) (k : Fin 8), boOn s k.val = true) ∧
    (∃ (s : State) (k : Fin 8), (s.get Reg.UIO_BOSTAT_SHORT).testBit k.val = true ∧ boAsked s k.val = true) ∧
    (∃ (s : State) (k : Fin 8) (b : Bool), (b = true ∨ boOn s k.val = false)) :=
  ⟨⟨uio 2, 3, by decide +kernel⟩,
   ⟨uio 5, 3, true, by decide +kernel⟩,
   ⟨outS 3 (uio 7), 3, by decide +kernel⟩,
   ⟨(uio 7).set (Reg.UIO_USTAT_OUTFLT.ix 3) 1, 3, by decide +kernel⟩,
   ⟨outS 29 base, 5, by decide +kernel⟩,
   ⟨(outS 29 base).set Reg.UIO_BOSTAT_SHORT 32, 5, by decide +kernel⟩,
   ⟨base, 5, false, by decide +kernel⟩⟩

/-- The hypotheses of each clause of ReadersAndDoors can be met together. -/
theorem witness_ReadersAndDoors :
    (∃ (s : State) (p : Fin 32) (r : Nat) (c : ReaderCfg), osdpRuns s p.val = true ∧ tabFind p.val s.acc.polls = none ∧
      nextReader s p.val = some (r, c) ∧ (s.get Reg.ACC_RSECURE_BITS).testBit r = true) ∧
    (∃ (s : State) (p : Fin 32) (x : OsdpPoll) (c : ReaderCfg), tabFind p.val s.acc.polls = some x ∧ tabFind x.reader (sheet
      s).readers = some c ∧ osdpRuns s p.val = true) ∧
    (∃ (s : State) (r : Fin 32), 3 ≤ (secureOf s r.val).fails) ∧
    (∃ (s : State) (p : Fin 32) (x : OsdpPoll) (c : ReaderCfg), tabFind p.val s.acc.polls = some x ∧ tabFind x.reader (sheet
      s).readers = some c ∧ osdpRuns s p.val = true) ∧
    (∃ (s : State) (p : Fin 32) (x : OsdpPoll) (c : ReaderCfg) (j : Nat) (d : DoorCfg) (n : BitVec 16) (k : List Byte),
      tabFind p.val s.acc.polls = some x ∧ tabFind x.reader (sheet s).readers = some c ∧ osdpRuns s p.val = true ∧ pstate s
      p.val = 4 ∧ (secureOf s x.reader).exchange = none ∧ doorOf s x.reader = some (j, d) ∧ (mode s = 3 ∨ mode s = 4) ∧
      s.acc.cache.find? (fun e => decide (e.2.digest = cardDigest n.toNat (k.map (fun b => b.toNat)))) = none) ∧
    (∃ (s : State) (p : Fin 32) (x : OsdpPoll) (c : ReaderCfg) (j : Nat) (i : Nat) (d : DoorCfg) (e : Credential) (n :
      BitVec 16) (k : List Byte), tabFind p.val s.acc.polls = some x ∧ tabFind x.reader (sheet s).readers = some c ∧
      osdpRuns s p.val = true ∧ pstate s p.val = 4 ∧ (secureOf s x.reader).exchange = none ∧ doorOf s x.reader = some (j, d)
      ∧ (mode s = 3 ∨ mode s = 4) ∧ s.acc.cache.find? (fun e => decide (e.2.digest = cardDigest n.toNat (k.map (fun b =>
      b.toNat)))) = some (i, e) ∧ e.doors.testBit j = true ∧ timeOk s e = true ∧ e.flags.testBit 1 = false ∧ e.flags.testBit
      2 = false ∧ d.lockdown = none) ∧
    (∃ (s : State) (p : Fin 32) (x : OsdpPoll) (c : ReaderCfg) (j : Nat) (d : DoorCfg) (w : PinWait), tabFind p.val
      s.acc.polls = some x ∧ tabFind x.reader (sheet s).readers = some c ∧ osdpRuns s p.val = true ∧ pstate s p.val = 4 ∧
      (secureOf s x.reader).exchange = none ∧ doorOf s x.reader = some (j, d) ∧ tabFind j s.acc.pins = some w) ∧
    (∃ (s : State) (j : Fin 32) (w : PinWait) (d : DoorCfg), tabFind j.val s.acc.pins = some w ∧ tabFind j.val (sheet
      s).doors = some d) ∧
    (∃ (s : State) (j : Fin 32) (a : Nat) (d : DoorCfg), tabFind j.val s.acc.grants = some a ∧ tabFind j.val (sheet s).doors
      = some d) ∧
    (∃ (s : State) (r : Fin 16) (i : BitVec 20), winBusy s 0x078 r.val = false ∧ 0x10000 ≤ i.toNat ∧ i.toNat < 0x40D40) :=
  ⟨⟨accS, 3, 6, rd, by decide +kernel⟩,
   ⟨polled accS, 3, pol, rd, by decide +kernel⟩,
   ⟨{ accS with acc := { secure := [(6, { fails := 3, retryAt := 7000000000 })] } }, 6, by decide +kernel⟩,
   ⟨polled accS, 3, pol, rd, by decide +kernel⟩,
   ⟨polled accS, 3, pol, rd, 2, door, 26, [1, 2, 3, 4], by decide +kernel⟩,
   ⟨{ accS with acc := { polls := [(3, pol)], cache := [(9, cd)] } }, 3, pol, rd, 2, 9, door, cd, 26, [1, 2, 3, 4],
     by and_intros <;> first | rfl | exact List.find?_cons_of_pos (decide_eq_true rfl) | decide +kernel⟩,
   ⟨pinS, 3, pol, rd, 2, door, pw, by and_intros <;> rfl⟩,
   ⟨pinS, 2, pw, door, by and_intros <;> rfl⟩,
   ⟨{ accS with acc := { grants := [(2, 6000000000)] } }, 2, 6000000000, door, by decide +kernel⟩,
   ⟨accS, 2, 0x10003, by decide +kernel⟩⟩

/-- The hypotheses of each clause of LiftInterface can be met together. -/
theorem witness_LiftInterface :
    (∃ (s : State) (r : Fin 16), hostReaches s r 0x079 ∧ s.get (Reg.LIFT_CALLRES_BUSY.by r.val) = 0) ∧
    (∃ (s : State) (i : Word) (k : Byte) (c : LiftCall) (r : Nat), liftRuns s = true ∧ k.toNat < 16 ∧ s.lift.calls.find?
      (fun c => decide (c.id = i.toNat) && c.sentAt.isSome) = some c ∧ c.copy = some r) ∧
    (∃ (s : State) (i : Word) (c : LiftCall) (a : Nat) (r : Nat), s.lift.calls.find? (fun c => decide (c.id = i.toNat)) =
      some c ∧ c.sentAt = some a ∧ c.copy = some r) ∧
    (∃ (s : State), liftRuns s = true) ∧
    (∃ (s : State), liftRuns s = true) ∧
    (∃ (s : State), liftRuns s = true) ∧
    (∃ (s : State), s.get Reg.LIFT_STAT_LINKUP = 1) :=
  ⟨⟨lift, 2, by unfold hostReaches; decide +kernel⟩,
   ⟨calling, 77, 3, call, 2, by decide +kernel⟩,
   ⟨calling, 77, call, 4900000000, 2, by decide +kernel⟩,
   ⟨lift, by decide +kernel⟩,
   ⟨lift, by decide +kernel⟩,
   ⟨lift, by decide +kernel⟩,
   ⟨lift, by decide +kernel⟩⟩

end Sys2Proof.Tests.Services

/-! #### Transfers of the service port -/

namespace Sys2Proof.Tests.Transfers

/-- Words followed by their CRC-32C. -/
def withCrc (d : List Word) : List Word := d ++ [BitVec.ofNat 32 (crc32c (bytesOfWords (d.map (fun w => w.toNat))))]

/-- The word after `n` words made so is their CRC. -/
theorem withCrc_agrees (q : PapRequest) (d : List Word) (n : Nat) (hn : d.length = n) (h : q.data = withCrc d) :
    crc32c (bytesOfWords ((q.data.take n).map (fun w => w.toNat))) = papWord q n := by
  subst hn
  simp only [h, withCrc, papWord, List.take_left, List.getElem?_concat_length, BitVec.toNat_ofNat]
  exact (Nat.mod_eq_of_lt (crc32c_lt _)).symm

def zeros : List Word := List.replicate 16384 0
def qBlk : PapRequest := { tag := 7, page := 0x021, offset := 0, count := 0, arg := 0, data := withCrc zeros, length := 16 + 65540 }
def part : List Word := [100] ++ List.replicate 255 0
def qSh : PapRequest := { tag := 7, page := 0, offset := 0, count := 0, arg := 0x10000000, data := withCrc part, length := 16 + 1028 }
def updS (n : Nat) : State := withRegs [(Reg.UPD_STAT_USTATE, n), (Reg.MODE_STAT_MODE, 5)] base
def wr : BlockWrite := { index := 0, bytes := [1, 2], manifest := none, tag := 9, arg := 0, since := 4000000000 }
def wrS : State :=
  { updS 1 with upd := { writing := some wr }, sessions := [(9, { sess with waits := [{ tag := 9, page := 0x021, arg := 0 }] })] }
def prv : State :=
  withRegs [(Reg.MODE_STAT_MODE, 1)]
    { base with sheets := {}, enc := { authorities := 7, root := some 3 },
                upd := { staging := [(9, { kind := 1, task := 0, length := 100, parts := [[1]] })] } }
def qIn (k : Nat) : PapRequest := { tag := 7, page := 0, offset := 0, count := 0, arg := BitVec.ofNat 32 (k * 2 ^ 28), length := 16 }

theorem block_form : formStatus 9 0x10 qBlk = 0 := by
  have h : qBlk.data.length = 16385 := List.length_append.trans (congrArg (· + 1) List.length_replicate)
  unfold formStatus
  rw [h]
  decide +kernel

/-- The hypotheses of each clause of UpdateTransfers can be met together. -/
theorem witness_UpdateTransfers :
    (∃ (s : State) (q : PapRequest), papReady s none 0x10 q ∧ q.page = 0x021 ∧ q.arg.toNat < 2048 ∧ mayWriteLane
      (requesterLanes s 9) (pageLane s 0x021) = true ∧ crc32c (bytesOfWords ((q.data.take 16384).map (fun w => w.toNat))) =
      papWord q 16384 ∧ blockTaken s q.arg.toNat = true) ∧
    (∃ (s : State) (w : BlockWrite), s.upd.writing = some w ∧ (tabGet {} s.sessions 9 : Session).held = []) ∧
    (∃ (s : State) (q : PapRequest), papReady s none 0x11 q ∧ q.page = 0 ∧ argOk q.arg.toNat = true ∧ q.arg.toNat % 2 ^ 20 =
      0 ∧ kindAccepted s 9 (argKind q.arg.toNat) = true ∧ kindDenied s 9 (argKind q.arg.toNat) (argTask q.arg.toNat) = false
      ∧ crc32c (bytesOfWords ((q.data.take 256).map (fun w => w.toNat))) = papWord q 256 ∧ 0 < papWord q 0 ∧ papWord q 0 ≤
      16777212) ∧
    (∃ (s : State) (q : PapRequest) (o : SignedObject), papReady s none 0x12 q ∧ q.page = 0 ∧ argOk q.arg.toNat = true ∧
      q.arg.toNat % 2 ^ 20 = 0 ∧ mode s = 1 ∧ kindDenied (heard 9 s) 9 (argKind q.arg.toNat) (argTask q.arg.toNat) = false ∧
      installReason 9 (argKind q.arg.toNat) (argTask q.arg.toNat) o true (heard 9 s) = 0) :=
  ⟨⟨updS 0, qBlk, by
    unfold papReady
    exact ⟨⟨by decide +kernel, by decide +kernel, by decide +kernel, by decide +kernel, by decide +kernel, block_form⟩, rfl, by decide,
      by decide +kernel, withCrc_agrees qBlk zeros _ List.length_replicate rfl, by decide +kernel⟩⟩,
   ⟨wrS, wr, by decide +kernel⟩,
   ⟨updS 0, qSh, by
    unfold papReady
    exact ⟨by decide +kernel, rfl, by decide, by decide, by decide +kernel, by decide +kernel,
      withCrc_agrees qSh part _ (by decide +kernel) rfl, by decide, by decide⟩⟩,
   ⟨prv, qIn 1, .charter {}, by unfold papReady; decide +kernel⟩⟩

end Sys2Proof.Tests.Transfers
end

/-! ### The state after a power-on reset (R9, R10, R462) -/

namespace Sys2Proof.Machine

/-- With no takeover under way, none is left open past its completion (R420). -/
theorem takeoverClosed_of_none {s : State} (h : s.pair.takeoverFrom = none) : takeoverClosed s = true := by
  simp [takeoverClosed, h]

/-- The two parts of a safe state. -/
theorem safe_of_wf_of_takeoverClosed {s : State} (hmem : Memory.wf s.mem = true) (hpair : takeoverClosed s = true) :
    safe s = true := by
  simp [safe, hmem, hpair]

/-- After reset DRAM lists no byte, and the pair has no takeover under way. -/
theorem safe_reset : safe State.reset = true :=
  safe_of_wf_of_takeoverClosed Memory.wf_nil (takeoverClosed_of_none rfl)

/-- The mode after reset is UNPROVISIONED. -/
theorem mode_reset : mode State.reset = 0 := State.get_reset Reg.MODE_STAT_MODE

/-- STARTING is 1 until the start sequence ends. -/
theorem get_reset_starting : State.reset.get Reg.MODE_STAT_STARTING = 1 := State.get_reset Reg.MODE_STAT_STARTING

/-- The reset is recorded as a P reset. -/
theorem get_reset_lastCause : State.reset.get Reg.MODE_RCAUSE_LAST = 1 := State.get_reset Reg.MODE_RCAUSE_LAST

/-- Settles O4: the register fields by `State.get_reset`, safety by the empty DRAM and the absent takeover; queue, output,
sessions and sheets are empty in the reset record itself. -/
theorem resetState : Obligations.ResetState := by
  refine ⟨safe_reset, ?pending, ?out, State.get_reset, mode_reset, get_reset_starting, get_reset_lastCause, ?sessions, ?sheets⟩
  case pending => rfl
  case out => rfl
  case sessions => rfl
  case sheets => rfl

end Sys2Proof.Machine

/-! ### The view of the SYS and MODE pages, and what leaves it (R429)

A mode change makes parapet, ports, engines and the viaduct follow. None of them stores a field of the pages 0x000 to 0x002
but PWRST.DOZE, which a wake event clears: the view of those pages that leaves DOZE out is the same before and after each of
them. One lemma per operation says so, in the order of the model; together they are one simp set, in which an operation's
lemma rests on those of the operations that it calls, and `decide` settles on which page a named field stands. -/

namespace Sys2Proof.Machine

/-- A field of the SYS and MODE pages (0x000 to 0x002) other than PWRST.DOZE. -/
abbrev InModeView (f : RegField) : Prop := f.key < wordKey 3 0 ∧ f.key ≠ Reg.MODE_PWRST_DOZE.key

/-- What is read of a register store in the view: the SYS and MODE pages without PWRST.DOZE. -/
def modeView (t : Table Nat) (f : RegField) : Option Nat := if InModeView f then some (regRead t f) else none

theorem RegField.wordKey_page_le_key (f : RegField) : wordKey f.page 0 ≤ f.key := by
  unfold wordKey RegField.key; omega

theorem modeView_regWrite {g : RegField} (h : wordKey 3 0 ≤ g.key ∨ g.key = Reg.MODE_PWRST_DOZE.key) (t : Table Nat)
    (v : Nat) : modeView (regWrite t g v) = modeView t := by
  funext f
  unfold modeView
  split
  · next hf => rw [regRead_set_ne (by obtain ⟨hlt, hne⟩ := hf; omega)]
  · rfl

@[simp] theorem modeView_regWrite_of_page {g : RegField} (h : 3 ≤ g.page) (t : Table Nat) (v : Nat) :
    modeView (regWrite t g v) = modeView t :=
  modeView_regWrite (.inl (le_trans (by unfold wordKey; omega) g.wordKey_page_le_key)) t v

@[simp] theorem RegField.le_page_ix (f : RegField) (b i : Nat) : b ≤ (f.ix i).page ↔ b ≤ f.page := Iff.rfl
@[simp] theorem RegField.le_page_ix2 (f : RegField) (b i j : Nat) : b ≤ (f.ix2 i j).page ↔ b ≤ f.page := Iff.rfl
@[simp] theorem RegField.le_page_inst {f : RegField} {b : Nat} (h : b ≤ f.page) (n : Nat) : b ≤ (f.inst n).page :=
  Nat.le_add_right_of_le h
@[simp] theorem le_page_dmaField {f : RegField} {b : Nat} (h : b ≤ f.page) (c : Nat) : b ≤ (dmaField f c).page :=
  RegField.le_page_inst h _

@[simp] theorem three_le_page_laneFaultOf (k : Nat) : 3 ≤ (laneFaultOf k).page := by
  unfold laneFaultOf
  split
  · decide
  · split
    · decide
    · split <;> decide

@[simp] theorem three_le_page_shField (p k : Nat) : 3 ≤ (shField p k).page := by
  unfold shField
  split <;> exact RegField.le_page_inst (by decide) p

@[simp] theorem modeView_ite (c : Prop) [Decidable c] (a b : State) :
    modeView (if c then a else b).regs = if c then modeView a.regs else modeView b.regs := by
  split <;> rfl

@[simp] theorem modeView_foldl {α : Type} {f : State → α → State} (h : ∀ u a, modeView (f u a).regs = modeView u.regs)
    (l : List α) (s : State) : modeView (l.foldl f s).regs = modeView s.regs := by
  induction l generalizing s with
  | nil => rfl
  | cons a l ih => rw [List.foldl_cons, ih, h]

theorem modeView_foldl_fst {α β : Type} {f : State × β → α → State × β}
    (h : ∀ u a, modeView (f u a).1.regs = modeView u.1.regs) (l : List α) (s : State × β) :
    modeView (l.foldl f s).1.regs = modeView s.1.regs := by
  induction l generalizing s with
  | nil => rfl
  | cons a l ih => rw [List.foldl_cons, ih, h]

section
variable (s : State)

/-! #### DOZE, event records and lane violations -/

@[simp] theorem modeView_dozeWake : modeView (dozeWake s).regs = modeView s.regs := by
  unfold dozeWake
  split
  · rfl
  · simp [modeView_regWrite (.inr rfl)]

@[simp] theorem modeView_wakeEvent : modeView (wakeEvent s).regs = modeView s.regs := by
  simp +decide [wakeEvent]

@[simp] theorem modeView_logEvent (typ sev : Nat) (items : List Nat) :
    modeView (logEvent typ sev items s).regs = modeView s.regs := by
  funext f
  unfold modeView
  split
  · next hf =>
    have hpage : f.key / 32768 ≠ 7 := by
      obtain ⟨hlt, -⟩ := hf
      unfold wordKey at hlt
      omega
    exact congrArg some (logEvent_get typ sev items s hpage)
  · rfl

@[simp] theorem modeView_laneViolation (place src lane idx : Nat) :
    modeView (laneViolation place src lane idx s).regs = modeView s.regs := by
  unfold laneViolation
  extract_lets s₁ s₂ s₃ fresh
  have h : modeView s₃.regs = modeView s.regs := by simp +decide [s₃, s₂, s₁]
  split
  · simpa using h
  · exact h

/-! #### States of tasks -/

@[simp] theorem State.setTask_regs (t : Nat) (x : TaskRun) : (s.setTask t x).regs = s.regs := rfl

@[simp] theorem modeView_setTaskState (t v : Nat) : modeView (setTaskState t v s).regs = modeView s.regs := by
  simp +decide [setTaskState]

/-! #### The point engine and its mirrors -/

@[simp] theorem State.setPoint_regs (i : Nat) (r : PointRec) : (s.setPoint i r).regs = s.regs := rfl

@[simp] theorem modeView_setQueue (c : Nat) (q : List Update) : modeView (setQueue s c q).regs = modeView s.regs := by
  simp +decide [setQueue]

@[simp] theorem modeView_reportAll (rs : List PointReport) : modeView (reportAll rs s).regs = modeView s.regs := by
  simp +decide [reportAll]

@[simp] theorem modeView_enqueue (u : Update) : modeView (enqueue u s).regs = modeView s.regs := by
  simp +decide [enqueue]

@[simp] theorem modeView_submit (u : Update) : modeView (submit u s).regs = modeView s.regs := by
  unfold submit
  dsimp only
  split <;> simp

@[simp] theorem modeView_submitAll (us : List Update) : modeView (submitAll us s).regs = modeView s.regs := by
  simp +decide [submitAll]

@[simp] theorem modeView_showMirrors : modeView (showMirrors s).regs = modeView s.regs := by
  simp +decide [showMirrors]

@[simp] theorem modeView_createMirror (m : MirrorCfg) : modeView (createMirror m s).regs = modeView s.regs := by
  simp +decide [createMirror]

@[simp] theorem modeView_removeMirror (gpr : Nat) : modeView (removeMirror gpr s).regs = modeView s.regs := by
  unfold removeMirror
  split <;> simp

/-! #### The parapet -/

@[simp] theorem setEntry_regs (e : Nat) (x : EntryState) : (setEntry e x s).regs = s.regs := rfl

@[simp] theorem releaseValue_regs (e v : Nat) (safe force : Bool) : (releaseValue e v safe force s).regs = s.regs := by
  unfold releaseValue
  dsimp only
  split <;> rfl

@[simp] theorem modeView_showOut : modeView (showOut s).regs = modeView s.regs := by
  simp +decide [showOut]

@[simp] theorem modeView_latchSafe (cause : Nat) : modeView (latchSafe cause s).regs = modeView s.regs := by
  simp +decide [latchSafe]

@[simp] theorem markShadow_regs (want : EntryCfg → Bool) : (markShadow want s).regs = s.regs := rfl

@[simp] theorem modeView_enterSafe (cause : Nat) : modeView (enterSafe cause s).regs = modeView s.regs := by
  simp +decide [enterSafe]

@[simp] theorem modeView_enterReleased (cause : Nat) : modeView (enterReleased cause s).regs = modeView s.regs := by
  simp +decide [enterReleased]

@[simp] theorem modeView_enterDrive : modeView (enterDrive s).regs = modeView s.regs := by
  simp +decide [enterDrive]

@[simp] theorem modeView_parapetFollow (cause : Nat) : modeView (parapetFollow cause s).regs = modeView s.regs := by
  unfold parapetFollow
  dsimp only
  split <;> simp

/-! #### What the parts of a segment port share -/

@[simp] theorem State.setSegPort_regs (p : Nat) (x : SegPort) : (s.setSegPort p x).regs = s.regs := rfl

@[simp] theorem modeView_set64 {lo hi : RegField} (hlo : 3 ≤ lo.page) (hhi : 3 ≤ hi.page) (v : Nat) :
    modeView (set64 lo hi v s).regs = modeView s.regs := by
  simp [set64, hlo, hhi]

@[simp] theorem modeView_localUpdate (inst qty sub v : Nat) (flag : ValueFlag) :
    modeView (localUpdate inst qty sub v flag s).regs = modeView s.regs := by
  simp +decide [localUpdate]

@[simp] theorem modeView_readerFollow (r : Nat) : modeView (readerFollow r s).regs = modeView s.regs := by
  unfold readerFollow
  extract_lets w x s₁ m on s₂ s₃
  have h₁ : modeView s₁.regs = modeView s.regs := by simp +decide [s₁, w]
  have h₃ : modeView s₃.regs = modeView s.regs := by simp +decide [s₃, s₂, h₁]
  split
  · exact h₁
  · simpa using h₃

@[simp] theorem modeView_readersFollow : modeView (readersFollow s).regs = modeView s.regs := by
  simp +decide [readersFollow]

@[simp] theorem modeView_setNup (p v : Nat) : modeView (setNup p v s).regs = modeView s.regs := by
  simp +decide [setNup]

@[simp] theorem modeView_oosRequest (p : Nat) (node : Option Nat) (v : Bool) :
    modeView (oosRequest p node v s).regs = modeView s.regs := by
  simp +decide [oosRequest]

@[simp] theorem modeView_laneDrop (p src i : Nat) : modeView (laneDrop p src i s).regs = modeView s.regs := by
  simp +decide [laneDrop]

@[simp] theorem modeView_notDelivered (p : Nat) (is : List Nat) : modeView (notDelivered p is s).regs = modeView s.regs := by
  simp +decide [notDelivered]

/-! #### DMA channels -/

@[simp] theorem State.putBytes_regs (asid a : Nat) (bs : List Nat) : (s.putBytes asid a bs).regs = s.regs := by
  induction bs generalizing s a with
  | nil => rfl
  | cons b bs ih => exact ih _ _

@[simp] theorem State.cleanLines_regs (asid a n : Nat) : (s.cleanLines asid a n).regs = s.regs := by
  unfold State.cleanLines
  dsimp only
  split <;> rfl

@[simp] theorem modeView_setDma (c v : Nat) : modeView (setDma c v s).regs = modeView s.regs := by
  simp +decide [setDma]

@[simp] theorem setProgress_regs (c n : Nat) : (setProgress c n s).regs = s.regs := rfl

@[simp] theorem copyBursts_regs (asid k src dst n : Nat) : (copyBursts asid k src dst n s).regs = s.regs := by
  induction k generalizing s src dst n with
  | zero => rfl
  | succ k ih => simp [copyBursts, ih]

@[simp] theorem modeView_dmaMoved (c n bytes : Nat) : modeView (dmaMoved c n bytes s).regs = modeView s.regs := by
  simp +decide [dmaMoved]

@[simp] theorem modeView_dmaAdvance (c o : Nat) : modeView (dmaAdvance c o s).regs = modeView s.regs := by
  simp +decide [dmaAdvance]

@[simp] theorem modeView_dmaRecord (c : Nat) : modeView (dmaRecord c s).regs = modeView s.regs := by
  simp +decide [dmaRecord]

@[simp] theorem modeView_dmaHalt (c v : Nat) : modeView (dmaHalt c v s).regs = modeView s.regs := by
  simp +decide [dmaHalt]

@[simp] theorem modeView_dmaAbort (c : Nat) : modeView (dmaAbort c s).regs = modeView s.regs := by
  unfold dmaAbort
  split <;> simp

@[simp] theorem modeView_abortTaskDma (t : Nat) : modeView (abortTaskDma t s).regs = modeView s.regs := by
  simp +decide [abortTaskDma]

/-! #### The field feed -/

@[simp] theorem setFeed_regs (p : Nat) (f : FeedState) : (setFeed p f s).regs = s.regs := rfl

@[simp] theorem modeView_showSums : modeView (showSums s).regs = modeView s.regs := by
  unfold showSums
  exact modeView_foldl (fun u p => by simp +decide) _ _

@[simp] theorem modeView_setFstate (p v : Nat) : modeView (setFstate p v s).regs = modeView s.regs := by
  simp +decide [setFstate]

@[simp] theorem modeView_feedOpen (p : Nat) : modeView (feedOpen p s).regs = modeView s.regs := by
  simp +decide [feedOpen]

/-! #### The priority bus -/

@[simp] theorem State.setBus_regs (p : Nat) (x : PbusPort) : (s.setBus p x).regs = s.regs := rfl

@[simp] theorem modeView_showCeil (p : Nat) : modeView (showCeil p s).regs = modeView s.regs := by
  simp +decide [showCeil]

@[simp] theorem modeView_clearHeld (p j : Nat) : modeView (clearHeld p j s).regs = modeView s.regs := by
  simp +decide [clearHeld]

@[simp] theorem unholdFrames_regs (p : Nat) (ks : Nat → Bool) : (unholdFrames p ks s).regs = s.regs := by
  unfold unholdFrames
  split <;> rfl

@[simp] theorem modeView_setTx (p j st : Nat) (sent late cancelled missed : Bool) :
    modeView (setTx p j st sent late cancelled missed s).regs = modeView s.regs := by
  simp +decide [setTx]

@[simp] theorem modeView_slotPend (p j : Nat) : modeView (slotPend p j s).regs = modeView s.regs := by
  simp +decide [slotPend]

@[simp] theorem setSlotMsgs_regs (p j : Nat) (ms : List Nat) : (setSlotMsgs p j ms s).regs = s.regs := by
  simp [setSlotMsgs]

@[simp] theorem modeView_msgPend (p m : Nat) : modeView (msgPend p m s).regs = modeView s.regs := by
  simp +decide [msgPend]

@[simp] theorem modeView_slotDone (p j : Nat) (sent late cancelled : Bool) :
    modeView (slotDone p j sent late cancelled s).regs = modeView s.regs := by
  simp +decide [slotDone]

@[simp] theorem modeView_slotGoesOn (p j : Nat) : modeView (slotGoesOn p j s).regs = modeView s.regs := by
  simp +decide [slotGoesOn]

@[simp] theorem modeView_slotDrop (p j : Nat) : modeView (slotDrop p j s).regs = modeView s.regs := by
  simp +decide [slotDrop]

@[simp] theorem setShadow_regs (p k : Nat) (x : Shadow) : (setShadow p k x s).regs = s.regs := by
  simp [setShadow]

@[simp] theorem modeView_shadowClear (p k : Nat) (sent late cancelled : Bool) :
    modeView (shadowClear p k sent late cancelled s).regs = modeView s.regs := by
  simp +decide [shadowClear]

@[simp] theorem modeView_shadowArm (p k : Nat) (f : CanFrame) (m : Option Nat) :
    modeView (shadowArm p k f m s).1.regs = modeView s.regs := by
  unfold shadowArm
  extract_lets x soon
  split <;> simp

@[simp] theorem clearTx_regs (p : Nat) : (clearTx p s).regs = s.regs := rfl

@[simp] theorem modeView_slotCancelled (p j : Nat) : modeView (slotCancelled p j s).regs = modeView s.regs := by
  simp +decide [slotCancelled]

@[simp] theorem modeView_shadowCancelled (p k : Nat) : modeView (shadowCancelled p k s).regs = modeView s.regs := by
  simp +decide [shadowCancelled]

@[simp] theorem modeView_cancelBit (p j : Nat) (v : Bool) : modeView (cancelBit p j v s).regs = modeView s.regs := by
  simp +decide [cancelBit]

@[simp] theorem modeView_unstage (p m : Nat) : modeView (unstage p m s).regs = modeView s.regs := by
  simp +decide [unstage]

@[simp] theorem modeView_lateSettled (p j : Nat) : modeView (lateSettled p j s).regs = modeView s.regs := by
  simp +decide [lateSettled]

@[simp] theorem modeView_lateShadow (p k : Nat) : modeView (lateShadow p k s).regs = modeView s.regs := by
  simp +decide [lateShadow]

@[simp] theorem modeView_txFails (p : Nat) : modeView (txFails p s).regs = modeView s.regs := by
  unfold txFails
  split
  · rfl
  next t _ =>
    dsimp only
    cases t.target with
    | slot j m => cases m <;> simp +decide
    | shadow k => simp
    | reference => simp

@[simp] theorem modeView_busIntegrate (p : Nat) : modeView (busIntegrate p s).regs = modeView s.regs := by
  simp +decide [busIntegrate]

@[simp] theorem modeView_busStart (p : Nat) : modeView (busStart p s).regs = modeView s.regs := by
  simp +decide [busStart]

@[simp] theorem modeView_busCancelPath (p : Nat) : modeView (busCancelPath p s).regs = modeView s.regs := by
  simp +decide [busCancelPath]

@[simp] theorem modeView_beaconCancel (p : Nat) : modeView (beaconCancel p s).regs = modeView s.regs := by
  simp +decide [beaconCancel]

@[simp] theorem modeView_busDropBeacon (p : Nat) : modeView (busDropBeacon p s).regs = modeView s.regs := by
  simp +decide [busDropBeacon]

@[simp] theorem modeView_busCut (p : Nat) : modeView (busCut p s).regs = modeView s.regs := by
  unfold busCut
  split
  · rfl
  next t _ =>
    cases t.target with
    | slot j m => cases m <;> simp +decide
    | shadow k => simp
    | reference => simp

@[simp] theorem modeView_busStop (p : Nat) : modeView (busStop p s).regs = modeView s.regs := by
  simp +decide [busStop]

@[simp] theorem modeView_busBeacon (p : Nat) (bytes : List Nat) : modeView (busBeacon p bytes s).regs = modeView s.regs := by
  simp +decide [busBeacon]

/-! #### Segment ports -/

@[simp] theorem modeView_setHubAddr (p a : Nat) : modeView (setHubAddr p a s).regs = modeView s.regs := by
  unfold setHubAddr
  exact modeView_foldl (fun u k => by simp +decide) _ _

@[simp] theorem modeView_sendFpm (p node : Nat) (bytes : List Nat) :
    modeView (sendFpm p node bytes s).regs = modeView s.regs := by
  unfold sendFpm
  dsimp only
  split <;> simp +decide

@[simp] theorem modeView_beaconOut (p : Nat) (leave : Bool) : modeView (beaconOut p leave s).regs = modeView s.regs := by
  simp +decide [beaconOut]

@[simp] theorem modeView_dropCmds (p : Nat) (node : Option Nat) : modeView (dropCmds p node s).regs = modeView s.regs := by
  simp +decide [dropCmds]

@[simp] theorem modeView_showMonitor (p : Nat) : modeView (showMonitor p s).regs = modeView s.regs := by
  simp +decide [showMonitor]

@[simp] theorem modeView_setPstate (p v : Nat) : modeView (setPstate p v s).regs = modeView s.regs := by
  simp +decide [setPstate]

@[simp] theorem modeView_linkDown (p : Nat) : modeView (linkDown p s).regs = modeView s.regs := by
  simp +decide [linkDown]

@[simp] theorem modeView_waitForEcho (p j : Nat) : modeView (waitForEcho p j s).regs = modeView s.regs := by
  simp +decide [waitForEcho]

@[simp] theorem modeView_leaveOos (p : Nat) : modeView (leaveOos p s).regs = modeView s.regs := by
  simp +decide [leaveOos]

@[simp] theorem modeView_lineStop (p : Nat) : modeView (lineStop p s).regs = modeView s.regs := by
  simp +decide [lineStop]

@[simp] theorem modeView_enterJoining (p : Nat) : modeView (enterJoining p s).regs = modeView s.regs := by
  simp +decide [enterJoining]

@[simp] theorem modeView_enterReady (p : Nat) : modeView (enterReady p s).regs = modeView s.regs := by
  simp +decide [enterReady]

@[simp] theorem modeView_enterOos (p : Nat) : modeView (enterOos p s).regs = modeView s.regs := by
  simp +decide [enterOos]

@[simp] theorem modeView_setSvyQueue (g p : Nat) (q : List Nat) : modeView (setSvyQueue g p q s).regs = modeView s.regs := by
  simp +decide [setSvyQueue]

@[simp] theorem modeView_surveyBegin (p : Nat) : modeView (surveyBegin p s).regs = modeView s.regs := by
  simp +decide [surveyBegin]

@[simp] theorem modeView_surveyAccept (p : Nat) : modeView (surveyAccept p s).regs = modeView s.regs := by
  simp +decide [surveyAccept]

@[simp] theorem modeView_surveyForget (p : Nat) : modeView (surveyForget p s).regs = modeView s.regs := by
  simp +decide [surveyForget]

@[simp] theorem modeView_surveyEnd (p : Nat) : modeView (surveyEnd p s).regs = modeView s.regs := by
  simp +decide [surveyEnd]

@[simp] theorem modeView_surveyAbort (p : Nat) : modeView (surveyAbort p s).regs = modeView s.regs := by
  simp +decide [surveyAbort]

@[simp] theorem modeView_portEnable (p : Nat) : modeView (portEnable p s).regs = modeView s.regs := by
  simp +decide [portEnable]

@[simp] theorem modeView_portOff (p : Nat) (leave : Bool) : modeView (portOff p leave s).regs = modeView s.regs := by
  simp +decide [portOff]

@[simp] theorem modeView_settleOff (p : Nat) : modeView (settleOff p s).regs = modeView s.regs := by
  simp +decide [settleOff]

@[simp] theorem modeView_busLeave (p : Nat) (leave : Bool) : modeView (busLeave p leave s).regs = modeView s.regs := by
  simp +decide [busLeave]

@[simp] theorem modeView_enablePorts : modeView (enablePorts s).regs = modeView s.regs := by
  simp +decide [enablePorts]

@[simp] theorem modeView_portsOff (leave : Bool) : modeView (portsOff leave s).regs = modeView s.regs := by
  simp +decide [portsOff]

@[simp] theorem modeView_portsFollow (ran leave : Bool) : modeView (portsFollow ran leave s).regs = modeView s.regs := by
  simp +decide [portsFollow]

/-! #### Commands and releases on their way to a port -/

@[simp] theorem addCmd_regs (p : Nat) (c : CmdItem) : (addCmd p c s).regs = s.regs := rfl

@[simp] theorem modeView_routeCommand (i v : Nat) (safe resend : Bool) :
    modeView (routeCommand i v safe resend s).regs = modeView s.regs := by
  unfold routeCommand
  split
  · rfl
  next m _ =>
    extract_lets p st b s₁
    have h : modeView s₁.regs = modeView s.regs := by simp [s₁]
    split
    · exact h
    · split
      · split
        · split <;> simp [h]
        · simp [h]
      · simp [h]

@[simp] theorem modeView_armMessage (p m : Nat) : modeView (armMessage p m s).1.regs = modeView s.regs := by
  unfold armMessage
  split
  · split <;> simp
  · rfl

@[simp] theorem modeView_routeReleases : modeView (routeReleases s).regs = modeView s.regs := by
  unfold routeReleases
  dsimp only
  rw [modeView_foldl (fun u r => ?route), modeView_foldl_fst (fun acc pm => ?arm), modeView_foldl (fun u r => ?value)]
  case value => split <;> rfl
  case arm =>
    split
    · rfl
    · split <;> simp
  case route =>
    split
    · split <;> simp
    · simp

/-! #### Loops and tasks -/

@[simp] theorem modeView_showCle : modeView (showCle s).regs = modeView s.regs := by
  simp +decide [showCle]

@[simp] theorem initLoops_regs : (initLoops s).regs = s.regs := rfl

@[simp] theorem modeView_showCte : modeView (showCte s).regs = modeView s.regs := by
  simp +decide [showCte]

@[simp] theorem modeView_resetTimers (im : TaskImage) (keep : List Nat) :
    modeView (resetTimers im keep s).regs = modeView s.regs := by
  simp +decide [resetTimers]

@[simp] theorem setLatch_regs (l : Nat) (x : LatchState) : (setLatch l x s).regs = s.regs := rfl

@[simp] theorem modeView_startLatch (l : Nat) (src : LatchSrc) : modeView (startLatch l src s).regs = modeView s.regs := by
  simp +decide [startLatch]

@[simp] theorem modeView_showCore (core : Nat) : modeView (showCore core s).regs = modeView s.regs := by
  unfold showCore
  dsimp only
  split
  · split <;> simp +decide
  · rfl

@[simp] theorem modeView_cycleEnd (t : Nat) : modeView (cycleEnd t s).regs = modeView s.regs := by
  simp +decide [cycleEnd]

@[simp] theorem modeView_abandonCycle (t : Nat) : modeView (abandonCycle t s).regs = modeView s.regs := by
  simp +decide [abandonCycle]

@[simp] theorem modeView_freshTask (t : Nat) : modeView (freshTask t s).regs = modeView s.regs := by
  simp +decide [freshTask]

@[simp] theorem modeView_abandonCycles : modeView (abandonCycles s).regs = modeView s.regs := by
  simp +decide [abandonCycles]

@[simp] theorem modeView_cteReload (bad : List Nat) : modeView (cteReload bad s).regs = modeView s.regs := by
  simp +decide [cteReload]

/-! #### Metering -/

@[simp] theorem openInterval_regs (t flags : Nat) (base : Table Nat) : (openInterval t flags base s).regs = s.regs := rfl

@[simp] theorem flagInterval_regs (f : Nat) : (flagInterval f s).regs = s.regs := by
  unfold flagInterval
  split <;> rfl

@[simp] theorem modeView_closeIntervalAt (regs : Table Nat) : modeView (closeIntervalAt regs s).regs = modeView s.regs := by
  unfold closeIntervalAt
  split
  · rfl
  · dsimp only
    exact modeView_foldl (fun u c => by rfl) _ _

@[simp] theorem modeView_takeInterval (ms held fresh len : Nat) :
    modeView (takeInterval ms held fresh len s).regs = modeView s.regs := by
  unfold takeInterval
  extract_lets start put
  have hput : ∀ u, modeView (put u).regs = modeView u.regs := by intro u; dsimp only [put]; split <;> rfl
  split
  · split <;> simp [hput]
  · simp [hput]

@[simp] theorem putSlot_regs (n : Nat) (i : Option SaveImage) : (putSlot n i s).regs = s.regs := by
  unfold putSlot
  split <;> rfl

@[simp] theorem modeView_meterResume (start ms : Nat) (pf known : Bool) :
    modeView (meterResume start ms pf known s).regs = modeView s.regs := by
  simp +decide [meterResume]

@[simp] theorem modeView_meterRestore (bad : List Nat) : modeView (meterRestore bad s).regs = modeView s.regs := by
  unfold meterRestore
  extract_lets s₁ s₂ cfg mask s₃ s₄ x s₅ s₆ ms s₇ y s₈ s₉ s₁₀
  have h : modeView s₇.regs = modeView s.regs := by simp +decide [s₇, s₆, s₅, s₄, s₃, s₂, s₁]
  split
  · exact h
  · split
    · simp +decide [h]
    · simp +decide [s₁₀, s₉, s₈, h]

@[simp] theorem modeView_periodicOnly : modeView (periodicOnly s).regs = modeView s.regs := by
  simp +decide [periodicOnly]

/-! #### The viaduct -/

@[simp] theorem State.setPeer_regs (k : Nat) (x : Peer) : (s.setPeer k x).regs = s.regs := rfl

@[simp] theorem modeView_showPair : modeView (showPair s).regs = modeView s.regs := by
  simp +decide [showPair]

@[simp] theorem modeView_showPeers : modeView (showPeers s).regs = modeView s.regs := by
  simp +decide [showPeers]

@[simp] theorem modeView_viaCount (k : Nat) : modeView (viaCount k s).regs = modeView s.regs := by
  simp +decide [viaCount]

@[simp] theorem modeView_viaSend (k typ : Nat) (body : List Nat) : modeView (viaSend k typ body s).regs = modeView s.regs := by
  simp +decide [viaSend]

@[simp] theorem modeView_sendSubscribe (j op : Nat) (is : List Nat) :
    modeView (sendSubscribe j op is s).regs = modeView s.regs := by
  simp +decide [sendSubscribe]

@[simp] theorem modeView_subscribeTo (j : Nat) : modeView (subscribeTo j s).regs = modeView s.regs := by
  simp +decide [subscribeTo]

@[simp] theorem modeView_keystoneSubscribe : modeView (keystoneSubscribe s).regs = modeView s.regs := by
  simp +decide [keystoneSubscribe]

@[simp] theorem modeView_keystoneUnsubscribe : modeView (keystoneUnsubscribe s).regs = modeView s.regs := by
  simp +decide [keystoneUnsubscribe]

@[simp] theorem modeView_keystoneFollow : modeView (keystoneFollow s).regs = modeView s.regs := by
  simp +decide [keystoneFollow]

@[simp] theorem modeView_setView (v : Option Claim) : modeView (setView v s).regs = modeView s.regs := by
  simp +decide [setView]

@[simp] theorem modeView_showEnrolled : modeView (showEnrolled s).regs = modeView s.regs := by
  simp +decide [showEnrolled]

@[simp] theorem modeView_noteUnenrolled (k : Nat) : modeView (noteUnenrolled k s).regs = modeView s.regs := by
  simp +decide [noteUnenrolled]

@[simp] theorem modeView_judgePeer (k : Nat) : modeView (judgePeer k s).regs = modeView s.regs := by
  simp +decide [judgePeer]

@[simp] theorem modeView_setEnrolment (place : Nat) (v : Option Nat) :
    modeView (setEnrolment place v s).regs = modeView s.regs := by
  simp +decide [setEnrolment]

@[simp] theorem modeView_stepDown : modeView (stepDown s).regs = modeView s.regs := by
  unfold stepDown
  dsimp only
  simp +decide [-List.foldl_reverse]

@[simp] theorem modeView_dropViaSessions : modeView (dropViaSessions s).regs = modeView s.regs := by
  simp +decide [dropViaSessions]

/-! #### Pairs -/

@[simp] theorem modeView_sendLreq (kind stbleft : Nat) (dests : List Nat) :
    modeView (sendLreq kind stbleft dests s).regs = modeView s.regs := by
  simp +decide [sendLreq]

@[simp] theorem modeView_setPermission (v : Bool) : modeView (setPermission v s).regs = modeView s.regs := by
  simp +decide [setPermission]

@[simp] theorem modeView_withdraw (cause : Nat) : modeView (withdraw cause s).regs = modeView s.regs := by
  simp +decide [withdraw]

@[simp] theorem modeView_pairRelease (cause : Nat) : modeView (pairRelease cause s).regs = modeView s.regs := by
  simp +decide [pairRelease]

/-! #### What follows a mode change -/

@[simp] theorem modeView_holdLoops : modeView (holdLoops s).regs = modeView s.regs := by
  simp +decide [holdLoops]

@[simp] theorem modeView_showMonitors : modeView (showMonitors s).regs = modeView s.regs := by
  simp +decide [showMonitors]

@[simp] theorem modeView_clearSlot (k : Nat) : modeView (clearSlot k s).regs = modeView s.regs := by
  simp +decide [clearSlot]

@[simp] theorem modeView_dropSessions : modeView (dropSessions s).regs = modeView s.regs := by
  simp +decide [dropSessions]

@[simp] theorem modeView_viaFollow : modeView (viaFollow s).regs = modeView s.regs := by
  simp +decide [viaFollow]

@[simp] theorem modeView_enginesFollow (from' : Nat) : modeView (enginesFollow from' s).regs = modeView s.regs := by
  simp +decide [enginesFollow]

@[simp] theorem modeView_beginCheck : modeView (beginCheck s).regs = modeView s.regs := by
  simp +decide [beginCheck]

@[simp] theorem modeView_checkIfNone : modeView (checkIfNone s).regs = modeView s.regs := by
  simp +decide [checkIfNone]

@[simp] theorem modeView_clkoFollow (from' : Nat) : modeView (clkoFollow from' s).regs = modeView s.regs := by
  simp +decide [clkoFollow]

@[simp] theorem degradedFollow_regs : (degradedFollow s).regs = s.regs := by
  unfold degradedFollow
  split <;> rfl

end

end Sys2Proof.Machine

/-! ### The mode change (R429) -/

namespace Sys2Proof.Machine

section
variable (s : State)

/-- What a mode change itself stores: the mode, LASTTR and TRCNT (R429). -/
def enterMode (new cause : Nat) (s : State) : State :=
  ((((s.set Reg.MODE_STAT_MODE new).set Reg.MODE_LASTTR_FROM (mode s)).set Reg.MODE_LASTTR_TO new).set
    Reg.MODE_LASTTR_CAUSE cause).countWrap Reg.MODE_TRCNT_COUNT 1

/-- Two states that agree in the view read alike there. -/
theorem get_of_modeView {u : State} (h : modeView u.regs = modeView s.regs) {f : RegField}
    (hf : InModeView f) : u.get f = s.get f := by
  have hv := congrFun h f
  rwa [modeView, if_pos hf, modeView, if_pos hf, Option.some_inj] at hv

/-- A store makes of two register stores that agree in the view two that agree in it. -/
theorem modeView_regWrite_congr {t t' : Table Nat} (h : modeView t = modeView t') (f : RegField) (v : Nat) :
    modeView (regWrite t f v) = modeView (regWrite t' f v) := by
  funext g
  by_cases hg : InModeView g
  · have hread := congrFun h g
    simp only [modeView, if_pos hg, Option.some_inj] at hread ⊢
    by_cases hk : g.key = f.key
    · unfold regRead regWrite tabPut
      split <;> simp [hk]
    · rw [regRead_set_ne hk, regRead_set_ne hk, hread]
  · simp only [modeView, if_neg hg]

theorem modeView_enterMode_congr {u : State} (h : modeView u.regs = modeView s.regs) (new cause : Nat) :
    modeView (enterMode new cause u).regs = modeView (enterMode new cause s).regs := by
  have hm : mode u = mode s := get_of_modeView s h (by decide)
  have hset {a b : State} (h : modeView a.regs = modeView b.regs) (f : RegField) (v : Nat) :
      modeView (a.set f v).regs = modeView (b.set f v).regs := modeView_regWrite_congr h f v
  have h₄ := hset (hset (hset (hset h Reg.MODE_STAT_MODE new) Reg.MODE_LASTTR_FROM (mode s)) Reg.MODE_LASTTR_TO new)
    Reg.MODE_LASTTR_CAUSE cause
  rw [enterMode, enterMode, hm, State.countWrap_eq, State.countWrap_eq, get_of_modeView _ h₄ (by decide)]
  exact hset h₄ _ _

/-- A mode change stores the mode, LASTTR and TRCNT in the view, whatever parapet, ports and engines then do (R429). -/
theorem modeView_changeMode {new : Nat} (h : new ≠ mode s) (cause : Nat) :
    modeView (changeMode new cause s).regs = modeView (enterMode new cause s).regs := by
  unfold changeMode
  rw [if_neg h]
  extract_lets drives ran u leave stored s₁ s₂ s₃ s₄ s₅ s₆
  have hu : modeView u.regs = modeView s.regs := by simp [u]
  have hm : mode u = mode s := get_of_modeView s hu (by decide)
  have h₃ : s₃.regs = (enterMode new cause u).regs := by rw [enterMode, hm]; rfl
  calc modeView (clkoFollow (mode s) (checkIfNone (showMonitors (enginesFollow (mode s) s₆)))).regs
      = modeView s₃.regs := by simp +decide [s₆, s₅, s₄]
    _ = modeView (enterMode new cause s).regs := by rw [h₃, modeView_enterMode_congr s hu]

theorem mode_set_other {f : RegField} (hf : Reg.MODE_STAT_MODE.key ≠ f.key) (v : Nat) : mode (s.set f v) = mode s :=
  State.get_set_ne hf s v

theorem frozen_set_other {f : RegField} (hf : Reg.MODE_STAT_PFREEZE.key ≠ f.key) (v : Nat) :
    frozen (s.set f v) = frozen s := congrArg (decide <| · = 1) (State.get_set_ne hf s v)

/-- A field of the SYS and MODE pages that no mode change stores. -/
abbrev KeptByModes (f : RegField) : Prop :=
  InModeView f ∧ f.key ≠ Reg.MODE_STAT_MODE.key ∧ f.key ≠ Reg.MODE_LASTTR_FROM.key ∧ f.key ≠ Reg.MODE_LASTTR_TO.key ∧
    f.key ≠ Reg.MODE_LASTTR_CAUSE.key ∧ f.key ≠ Reg.MODE_TRCNT_COUNT.key

/-! #### What a mode change leaves in the fields -/

section
variable {s} {new : Nat} (h : new ≠ mode s) (cause : Nat)
include h

theorem mode_changeMode : mode (changeMode new cause s) = new % 8 := by
  have hm := get_of_modeView _ (modeView_changeMode s h cause) (f := Reg.MODE_STAT_MODE) (by decide)
  rw [mode, hm, enterMode, State.countWrap_eq]
  iterate 4 rw [State.get_set_ne (by decide)]
  exact State.get_set_same _ _ _

theorem changeMode_lastFrom : (changeMode new cause s).get Reg.MODE_LASTTR_FROM = mode s := by
  rw [get_of_modeView _ (modeView_changeMode s h cause) (by decide), enterMode, State.countWrap_eq]
  iterate 3 rw [State.get_set_ne (by decide)]
  rw [State.get_set_same]
  exact Nat.mod_eq_of_lt (s.get_lt Reg.MODE_STAT_MODE)

theorem changeMode_lastCause : (changeMode new cause s).get Reg.MODE_LASTTR_CAUSE = cause % 256 := by
  rw [get_of_modeView _ (modeView_changeMode s h cause) (by decide), enterMode, State.countWrap_eq]
  rw [State.get_set_ne (by decide)]
  exact State.get_set_same _ _ _

theorem changeMode_count : (changeMode new cause s).get Reg.MODE_TRCNT_COUNT =
    (s.get Reg.MODE_TRCNT_COUNT + 1) % 2 ^ Reg.MODE_TRCNT_COUNT.width := by
  rw [get_of_modeView _ (modeView_changeMode s h cause) (by decide), enterMode, State.countWrap_eq, State.get_set_same]
  iterate 4 rw [State.get_set_ne (by decide)]
end

theorem changeMode_get_kept (new cause : Nat) {f : RegField} (hf : KeptByModes f) :
    (changeMode new cause s).get f = s.get f := by
  obtain ⟨hview, hmode, hfrom, hto, hcause, hcount⟩ := hf
  by_cases h : new = mode s
  · simp [changeMode, h]
  · rw [get_of_modeView _ (modeView_changeMode s h cause) hview, enterMode, State.countWrap_eq, State.get_set_ne hcount,
      State.get_set_ne hcause, State.get_set_ne hto, State.get_set_ne hfrom, State.get_set_ne hmode]

/-- Entering DEGRADED is the mode change to 4; what metering notes of it lies outside the view (R345, R429). -/
theorem modeView_enterDegraded (cause : Nat) :
    modeView (enterDegraded cause s).regs = modeView (changeMode 4 cause s).regs := by
  unfold enterDegraded
  dsimp only
  split <;> simp

theorem enterDegraded_get (cause : Nat) {f : RegField} (hf : InModeView f) :
    (enterDegraded cause s).get f = (changeMode 4 cause s).get f :=
  get_of_modeView _ (modeView_enterDegraded s cause) hf

/-- Entering the mode that one is in changes nothing. -/
theorem changeMode_self (cause : Nat) : changeMode (mode s) cause s = s := by simp [changeMode]

/-! #### The transitions that follow at once (R429, R433) -/

/-- What follows from shortfalls and hold causes is one mode change at most, to the mode that one is in if there is none. -/
theorem modeFollow_change : ∃ new cause, modeView (modeFollow s).regs = modeView (changeMode new cause s).regs := by
  have hself : ∃ new cause, modeView s.regs = modeView (changeMode new cause s).regs :=
    ⟨mode s, 0, by rw [changeMode_self]⟩
  unfold modeFollow
  extract_lets m hold
  split
  · exact hself
  split
  · exact ⟨6, 9, rfl⟩
  split
  · unfold leaveService
    split
    · exact ⟨_, 8, rfl⟩
    · exact hself
  split
  · exact ⟨2, 6, rfl⟩
  split
  · exact ⟨2, 6, rfl⟩
  split
  · exact ⟨4, 4, modeView_enterDegraded s 4⟩
  split
  · exact ⟨3, 5, rfl⟩
  · exact hself

theorem modeFollow_get_kept {f : RegField} (hf : KeptByModes f) : (modeFollow s).get f = s.get f := by
  obtain ⟨new, cause, h⟩ := modeFollow_change s
  rw [get_of_modeView _ h hf.1, changeMode_get_kept s new cause hf]

section
variable {s} (hfr : frozen s = false)
include hfr

/-- A hold cause takes ACTIVE and DEGRADED to SAFE-HOLD. -/
theorem modeFollow_hold (hm : mode s = 3 ∨ mode s = 4) (hc : s.get Reg.MODE_STAT_HCAUSE ≠ 0) :
    modeFollow s = changeMode 6 9 s := by
  have hrun : mode s = 2 ∧ s.get Reg.PNT_STAT_READY = 1 ∨ mode s = 3 ∨ mode s = 4 := .inr hm
  unfold modeFollow
  simp [hfr, hc, or_assoc, hrun]

/-- Without a hold cause SAFE-HOLD ends in STANDBY. -/
theorem modeFollow_release (hm : mode s = 6) (hc : s.get Reg.MODE_STAT_HCAUSE = 0) : modeFollow s = changeMode 2 6 s := by
  simp [modeFollow, hfr, hc, hm]

/-- STBY takes ACTIVE and DEGRADED to STANDBY. -/
theorem modeFollow_standby (hm : mode s = 3 ∨ mode s = 4) (hc : s.get Reg.MODE_STAT_HCAUSE = 0)
    (hs : s.get Reg.MODE_CTRL_STBY = 1) : modeFollow s = changeMode 2 6 s := by
  rcases hm with hm | hm <;> simp [modeFollow, hfr, hc, hm, hs]
end

end

end Sys2Proof.Machine

/-! ### The commands of MODE -/

namespace Sys2Proof.Machine

section
variable (s : State)

/-- At the start conditions STANDBY ends in ACTIVE, or in DEGRADED with a shortfall (R430). -/
theorem modeView_startFollow {s : State} (hm : mode s = 2) (hfr : frozen s = false) (hs : startConditions s = true) :
    modeView (startFollow s).regs =
      modeView (changeMode (if s.get Reg.MODE_STAT_SHORT = 0 then 3 else 4) 3 s).regs := by
  rw [startFollow, if_pos (by simp [hm, hfr, hs])]
  split
  · rfl
  · exact modeView_enterDegraded s 3

/-- The hold causes of a state: after a cause is set or cleared, and before anything follows from it. -/
def holdCause (k : Nat) (v : Bool) (s : State) : State :=
  s.set Reg.MODE_STAT_HCAUSE (if v then maskSet (s.get Reg.MODE_STAT_HCAUSE) k else maskClear (s.get Reg.MODE_STAT_HCAUSE) k)

theorem mode_holdCause (k : Nat) (v : Bool) : mode (holdCause k v s) = mode s := mode_set_other s (by decide) _

theorem frozen_holdCause (k : Nat) (v : Bool) : frozen (holdCause k v s) = frozen s := frozen_set_other s (by decide) _

/-- Outside SERVICE, where a new cause ends the mode at once, what follows from a hold cause is what follows from the fields. -/
theorem setHold_eq (k : Nat) (v : Bool) (h : mode s ≠ 5) : setHold k v s = modeFollow (holdCause k v s) := by
  have hm := mode_holdCause s k v
  unfold setHold
  exact if_neg (by simp [← holdCause.eq_1, hm, h])

theorem setHold_get_kept (k : Nat) (v : Bool) {f : RegField} (hf : KeptByModes f) :
    (setHold k v s).get f = (holdCause k v s).get f := by
  unfold setHold
  extract_lets m u
  split
  · exact changeMode_get_kept _ _ _ hf
  · exact modeFollow_get_kept _ hf

/-- A hold cause that is set shows in HCAUSE (R432). -/
theorem holdCause_testBit {k : Nat} (hk : k < 3) : ((holdCause k true s).get Reg.MODE_STAT_HCAUSE).testBit k = true := by
  have hbits : ∀ m < 8, ∀ k < 3, (maskSet m k % 8).testBit k = true := by decide
  exact (congrArg (Nat.testBit · k) (State.get_set_same _ _ _)).trans (hbits _ (s.get_lt Reg.MODE_STAT_HCAUSE) k hk)

theorem setHold_testBit {k : Nat} (hk : k < 3) : ((setHold k true s).get Reg.MODE_STAT_HCAUSE).testBit k = true := by
  rw [setHold_get_kept s k true (by decide), holdCause_testBit s hk]

/-- A hold cause that is set takes ACTIVE and DEGRADED to SAFE-HOLD (R432). -/
theorem mode_setHold {s : State} {k : Nat} (hk : k < 3) (hfr : frozen s = false) (hm : mode s = 3 ∨ mode s = 4) :
    mode (setHold k true s) = 6 := by
  have hcause : (holdCause k true s).get Reg.MODE_STAT_HCAUSE ≠ 0 := by
    intro h
    have hbit := holdCause_testBit s hk
    rw [h, Nat.zero_testBit] at hbit
    exact Bool.noConfusion hbit
  rw [setHold_eq s k true (by omega), modeFollow_hold ((frozen_holdCause s k true).trans hfr) (by rwa [mode_holdCause]) hcause,
    mode_changeMode (by rw [mode_holdCause]; omega)]

section
variable {s}

/-- START_CONDITIONS_MET (R430). -/
theorem startConditionsMet_effect (hm : mode s = 2) (hfr : frozen s = false) (hs : startConditions s = true) :
    ∃ t, exec .startConditionsMet s = .next t ∧ mode t = (if s.get Reg.MODE_STAT_SHORT = 0 then 3 else 4) ∧
      t.get Reg.MODE_LASTTR_FROM = 2 ∧ t.get Reg.MODE_LASTTR_CAUSE = 3 ∧
      t.get Reg.MODE_TRCNT_COUNT = (s.get Reg.MODE_TRCNT_COUNT + 1) % 2 ^ Reg.MODE_TRCNT_COUNT.width := by
  refine done_completes fun t ht => ?_
  have hview := modeView_startFollow hm hfr hs
  have hnew : (if s.get Reg.MODE_STAT_SHORT = 0 then 3 else 4) ≠ mode s := by split <;> omega
  refine ⟨?mode, ?from', ?cause, ?count⟩
  case mode =>
    rw [mode, done_get ht (by decide) (by decide), get_of_modeView _ hview (by decide), ← mode, mode_changeMode hnew]
    split <;> rfl
  case from' =>
    rw [done_get ht (by decide) (by decide), get_of_modeView _ hview (by decide), changeMode_lastFrom hnew, hm]
  case cause =>
    rw [done_get ht (by decide) (by decide), get_of_modeView _ hview (by decide), changeMode_lastCause hnew]
  case count =>
    rw [done_get ht (by decide) (by decide), get_of_modeView _ hview (by decide), changeMode_count hnew]

/-- While the mode is frozen a write that would change STBY is refused (R433). -/
theorem writeStby_frozen {v : Bool} (hfr : frozen s = true) (hv : s.bit Reg.MODE_CTRL_STBY ≠ v) :
    writeStby v s = s.raise Reg.MODE_FAULT_TRANSREF := by
  rw [writeStby, if_pos hfr, frozenWrite, if_neg hv]

/-- STBY takes ACTIVE and DEGRADED to STANDBY (R429). -/
theorem writeStby_enters (hfr : frozen s = false) (hm : mode s = 3 ∨ mode s = 4) (hc : s.get Reg.MODE_STAT_HCAUSE = 0) :
    writeStby true s = changeMode 2 6 (s.set Reg.MODE_CTRL_STBY 1) := by
  have hmode : mode (s.set Reg.MODE_CTRL_STBY 1) = mode s := mode_set_other s (by decide) _
  rw [writeStby, hfr, State.setBit_eq]
  exact modeFollow_standby ((frozen_set_other s (by decide) _).trans hfr) (hmode ▸ hm)
    ((State.get_set_ne (by decide) _ _).trans hc) (State.get_set_same _ _ _)

/-- MODE_STANDBY_WRITE (R429, R433). -/
theorem modeStandbyWrite_effect (v : Bool) :
    ∃ t, exec (.modeStandbyWrite v) s = .next t ∧
      (frozen s = true → s.bit Reg.MODE_CTRL_STBY ≠ v → t.get Reg.MODE_FAULT_TRANSREF = 1 ∧ mode t = mode s ∧
        t.get Reg.MODE_CTRL_STBY = s.get Reg.MODE_CTRL_STBY) ∧
      (frozen s = false → v = true → mode s = 3 ∨ mode s = 4 → s.get Reg.MODE_STAT_HCAUSE = 0 → mode t = 2 ∧
        t.get Reg.MODE_CTRL_STBY = 1 ∧ t.get Reg.MODE_LASTTR_CAUSE = 6) := by
  refine done_completes fun t ht => ⟨fun hfr hv => ?_, ?_⟩
  · rw [writeStby_frozen hfr hv, State.raise_eq] at ht
    refine ⟨?_, ?_, ?_⟩
    · rw [done_get ht (by decide) (by decide), State.get_set_same]; rfl
    · rw [mode, done_get ht (by decide) (by decide), State.get_set_ne (by decide), mode]
    · rw [done_get ht (by decide) (by decide), State.get_set_ne (by decide)]
  · rintro hfr rfl hm hc
    have hnew : 2 ≠ mode (s.set Reg.MODE_CTRL_STBY 1) := by rw [mode_set_other s (by decide)]; omega
    rw [writeStby_enters hfr hm hc] at ht
    refine ⟨?_, ?_, ?_⟩
    · rw [mode, done_get ht (by decide) (by decide), ← mode, mode_changeMode hnew]
    · rw [done_get ht (by decide) (by decide), changeMode_get_kept _ _ _ (by decide), State.get_set_same]; rfl
    · rw [done_get ht (by decide) (by decide), changeMode_lastCause hnew]

/-- MODE_HOLD_WRITE (R432). -/
theorem modeHoldWrite_effect (v : Bool) (hfr : frozen s = false) :
    ∃ t, exec (.modeHoldWrite v) s = .next t ∧ t.get Reg.MODE_CTRL_HOLD = (if v then 1 else 0) ∧
      (v = true → mode s = 3 ∨ mode s = 4 → mode t = 6 ∧ (t.get Reg.MODE_STAT_HCAUSE).testBit 0 = true) ∧
      (v = false → s.get Reg.MODE_STAT_HCAUSE = 1 → mode s = 6 → mode t = 2 ∧ t.get Reg.MODE_STAT_HCAUSE = 0) := by
  have hmode : mode (s.setBit Reg.MODE_CTRL_HOLD v) = mode s := mode_set_other s (by decide) _
  have hfrozen : frozen (s.setBit Reg.MODE_CTRL_HOLD v) = false := (frozen_set_other s (by decide) _).trans hfr
  have hwrite : writeHold v s = setHold 0 v (s.setBit Reg.MODE_CTRL_HOLD v) := if_neg (by simp [hfr])
  refine done_completes fun t ht => ?_
  rw [hwrite] at ht
  refine ⟨?ctrl, ?set, ?clear⟩
  case ctrl =>
    rw [done_get ht (by decide) (by decide), setHold_get_kept _ _ _ (by decide), holdCause, State.get_set_ne (by decide),
      State.setBit_eq, State.get_set_same]
    cases v <;> rfl
  case set =>
    rintro rfl hm
    constructor
    · rw [mode, done_get ht (by decide) (by decide), ← mode, mode_setHold (by decide) hfrozen (hmode ▸ hm)]
    · rw [done_get ht (by decide) (by decide), setHold_testBit _ (by decide)]
  case clear =>
    rintro rfl hc hm
    have hcause : (holdCause 0 false (s.setBit Reg.MODE_CTRL_HOLD false)).get Reg.MODE_STAT_HCAUSE = 0 := by
      rw [holdCause, State.get_set_same, State.setBit_eq, State.get_set_ne (by decide), hc]; rfl
    have hmode' : mode (holdCause 0 false (s.setBit Reg.MODE_CTRL_HOLD false)) = 6 := by rw [mode_holdCause, hmode, hm]
    have hfrozen' := (frozen_holdCause _ 0 false).trans hfrozen
    rw [setHold_eq _ 0 false (by omega), modeFollow_release hfrozen' hmode' hcause] at ht
    constructor
    · rw [mode, done_get ht (by decide) (by decide), ← mode, mode_changeMode (by omega)]
    · rw [done_get ht (by decide) (by decide), changeMode_get_kept _ _ _ (by decide), hcause]

/-- MODE_FATAL_WRITE (R432, R433). -/
theorem modeFatalWrite_effect (hfatal : s.get Reg.MODE_CTRL_FATAL = 0) :
    ∃ t, exec .modeFatalWrite s = .next t ∧ t.get Reg.MODE_CTRL_FATAL = 1 ∧ t.get Reg.MODE_FAULT_FATAL = 1 ∧
      (t.get Reg.MODE_STAT_HCAUSE).testBit 2 = true ∧ (frozen s = false → mode s = 3 ∨ mode s = 4 → mode t = 6) := by
  have hwrite : writeFatal s = setHold 2 true ((s.set Reg.MODE_CTRL_FATAL 1).set Reg.MODE_FAULT_FATAL 1) :=
    if_neg (by simp [hfatal])
  refine done_completes fun t ht => ?_
  rw [hwrite] at ht
  refine ⟨?ctrl, ?fault, ?cause, ?safeHold⟩
  case ctrl =>
    rw [done_get ht (by decide) (by decide), setHold_get_kept _ _ _ (by decide), holdCause, State.get_set_ne (by decide),
      State.get_set_ne (by decide), State.get_set_same]
    rfl
  case fault =>
    rw [done_get ht (by decide) (by decide), setHold_get_kept _ _ _ (by decide), holdCause, State.get_set_ne (by decide),
      State.get_set_same]
    rfl
  case cause => rw [done_get ht (by decide) (by decide), setHold_testBit _ (by decide)]
  case safeHold =>
    intro hfr hm
    have hmode : mode ((s.set Reg.MODE_CTRL_FATAL 1).set Reg.MODE_FAULT_FATAL 1) = mode s := by
      rw [mode_set_other _ (by decide), mode_set_other _ (by decide)]
    have hfrozen : frozen ((s.set Reg.MODE_CTRL_FATAL 1).set Reg.MODE_FAULT_FATAL 1) = false := by
      rw [frozen_set_other _ (by decide), frozen_set_other _ (by decide), hfr]
    rw [mode, done_get ht (by decide) (by decide), ← mode, mode_setHold (by decide) hfrozen (hmode ▸ hm)]

/-! #### DOZE (R30, R435) -/

/-- DOZE_ENTRY (R435). -/
theorem dozeEntry_effect (h : mayDoze s = true) :
    ∃ t, exec .dozeEntry s = .next t ∧ t.get Reg.MODE_PWRST_DOZE = 1 ∧ t.pwr.dozeAt = s.now ∧ t.clk.ircFrom = none := by
  refine done_completes fun t ht => ?_
  rw [if_pos h] at ht
  refine ⟨?_, by rw [done_pwr ht]; rfl, by rw [done_clk ht]; rfl⟩
  rw [done_get ht (by decide) (by decide)]
  show (((s.set Reg.MODE_PWRST_DOZE 1).set Reg.MODE_DOZECNT_COUNT _).set Reg.CLK_IRCSTAT_READY 0).get _ = 1
  rw [State.get_set_ne (by decide), State.get_set_ne (by decide), State.get_set_same]
  rfl

/-- Outside the state after a sealed commit a wake event ends DOZE (R30, R455). -/
theorem wakeEvent_wakes (hc : s.get Reg.CSN_STAT_CSTATE ≠ 6) (hd : s.get Reg.MODE_PWRST_DOZE = 1) :
    (wakeEvent s).get Reg.MODE_PWRST_DOZE = 0 ∧ (wakeEvent s).now = s.now ∧ (wakeEvent s).pwr.wdAt = s.now ∧
      (wakeEvent s).clk.ircFrom = some s.now := by
  have hwake : ¬ (!s.bit Reg.MODE_PWRST_DOZE) = true := by simp [hd]
  rw [wakeEvent, if_neg hc, dozeWake, if_neg hwake]
  exact ⟨State.get_set_same s Reg.MODE_PWRST_DOZE 0, rfl, rfl, rfl⟩

/-- DOZE_WAKE (R30). -/
theorem dozeWake_effect (hc : s.get Reg.CSN_STAT_CSTATE ≠ 6) (hd : s.get Reg.MODE_PWRST_DOZE = 1) :
    ∃ t, exec .dozeWake s = .next t ∧ t.get Reg.MODE_PWRST_DOZE = 0 ∧ t.pwr.wdAt = s.now ∧
      t.clk.ircFrom = some s.now := by
  obtain ⟨hdoze, -, hwd, hirc⟩ := wakeEvent_wakes hc hd
  exact done_completes fun t ht =>
    ⟨(done_get ht (by decide) (by decide)).trans hdoze, (done_pwr ht ▸ hwd), (done_clk ht ▸ hirc)⟩
end

end

/-- Settles O47: each clause is the effect of one command; a mode change shows in the MODE page as `enterMode` stores it
(`modeView_changeMode`), whatever the engines that follow it do. -/
theorem modeTransitions : Obligations.ModeTransitions :=
  ⟨fun _ => startConditionsMet_effect, fun _ v => modeStandbyWrite_effect v, fun _ v => modeHoldWrite_effect v,
    fun _ => modeFatalWrite_effect, fun _ => dozeEntry_effect, fun _ => dozeWake_effect⟩

end Sys2Proof.Machine

/-! ### What commands of the time base and the uplinks store -/

namespace Sys2Proof.Machine

/-- `s'` reads as `s` in every field that stands at none of the fields `gs`. -/
def StoresOnly (gs : List RegField) (s s' : State) : Prop :=
  ∀ f : RegField, (∀ g ∈ gs, f.key ≠ g.key) → s'.get f = s.get f

theorem StoresOnly.of_regs {gs : List RegField} {s s' : State} (h : s'.regs = s.regs) : StoresOnly gs s s' :=
  fun f _ => congrArg (regRead · f) h

theorem StoresOnly.refl (gs : List RegField) (s : State) : StoresOnly gs s s := .of_regs rfl

theorem StoresOnly.trans {gs : List RegField} {s s' s'' : State} (h : StoresOnly gs s s') (h' : StoresOnly gs s' s'') :
    StoresOnly gs s s'' := fun f hf => (h' f hf).trans (h f hf)

theorem StoresOnly.set {gs : List RegField} {s s' : State} (h : StoresOnly gs s s') {g : RegField} (hg : g ∈ gs) (v : Nat) :
    StoresOnly gs s (s'.set g v) := h.trans fun _ hf => State.get_set_ne (hf g hg) s' v

/-- A command whose effect reaches its deadline ends at it, or at once when it is past. -/
theorem done_now_of_reach {s s' t : State} {d : Nat} (h : done s s' = .next t) (hd : s'.now = max s.now d) :
    t.now = max s.now d := by
  rw [done_now h, hd, ← Nat.max_assoc, Nat.max_self]

/-! #### The lock of the time base (R285) -/

/-- The fields that follow LOCK: the trim window, the record of a loss, and ALIGN of the control engine. -/
def lockFields : List RegField :=
  [Reg.RTC_STAT_TRIMRUN, Reg.TBASE_LOCKLOSS_COUNT, Reg.TBASE_FAULT_LOCKLOST, Reg.CLE_FAULT_ALIGNLOST, Reg.CLE_STAT_ALIGN]

/-- `s'` differs from `s` in what may follow LOCK: fields of `lockFields` and the calendar clock. -/
def LockFollows (s s' : State) : Prop := (∃ r x, s' = { s with regs := r, rtc := x }) ∧ StoresOnly lockFields s s'

theorem LockFollows.refl (s : State) : LockFollows s s := ⟨⟨_, _, rfl⟩, .refl _ s⟩

theorem LockFollows.set {s s' : State} (h : LockFollows s s') {g : RegField} (hg : g ∈ lockFields) (v : Nat) :
    LockFollows s (s'.set g v) := by
  obtain ⟨⟨r, x, rfl⟩, hs⟩ := h
  exact ⟨⟨_, x, rfl⟩, hs.set hg v⟩

/-- A trim window that restarts changes the calendar clock and TRIMRUN (R595). -/
theorem trimReference_follows (src : Nat) (changed : Bool) (s : State) : LockFollows s (trimReference src changed s) := by
  unfold trimReference trimRestart
  split
  · dsimp only
    split
    · exact ⟨⟨_, _, rfl⟩, .set (.of_regs rfl) (by simp [lockFields]) _⟩
    · exact ⟨⟨_, _, rfl⟩, .set (.of_regs rfl) (by simp [lockFields]) _⟩
  · exact .refl s

theorem setLock_follows (v : Bool) (s : State) : LockFollows (s.setBit Reg.TBASE_STAT_LOCK v) (setLock v s) := by
  unfold setLock
  extract_lets lost changed s₁ s₂ s₃
  have h₁ : LockFollows (s.setBit Reg.TBASE_STAT_LOCK v) s₁ := trimReference_follows 2 changed _
  have h₂ : LockFollows (s.setBit Reg.TBASE_STAT_LOCK v) s₂ := by
    dsimp only [s₂]
    split
    · exact (h₁.set (by simp [lockFields]) _).set (by simp [lockFields]) 1
    · exact h₁
  have h₃ : LockFollows (s.setBit Reg.TBASE_STAT_LOCK v) s₃ := by
    dsimp only [s₃]
    split
    · exact h₂.set (by simp [lockFields]) 1
    · exact h₂
  exact h₃.set (by simp [lockFields]) _

/-- LOCK takes the value. -/
theorem setLock_lock (v : Bool) (s : State) : (setLock v s).get Reg.TBASE_STAT_LOCK = if v then 1 else 0 := by
  rw [(setLock_follows v s).2 _ (by decide), State.setBit_eq, State.get_set_same]
  cases v <;> rfl

/-- Without synchronisation the time base is in holdover and not locked (R285, R476). -/
theorem syncLost_effect (s : State) : (syncLost s).time.lastSync = none ∧ (syncLost s).time.syncing = false ∧
    (syncLost s).get Reg.TBASE_STAT_HOLDOVER = 1 ∧ (syncLost s).get Reg.TBASE_STAT_LOCK = 0 ∧ (syncLost s).now = s.now := by
  unfold syncLost
  extract_lets u x
  have hlock := setLock_lock false { u with time := { x with lastSync := none } }
  obtain ⟨⟨r, y, hframe⟩, -⟩ := setLock_follows false { u with time := { x with lastSync := none } }
  rw [hframe] at hlock ⊢
  exact ⟨rfl, rfl, State.get_set_same _ Reg.TBASE_STAT_HOLDOVER 1, (State.get_set_ne (by decide) _ _).trans hlock, rfl⟩

/-- PTP_SYNC_LOSS (R285). -/
theorem ptpSyncLoss_effect {s : State} {a : Nat} (ha : s.time.lastSync = some a) :
    ∃ t, exec .ptpSyncLoss s = .next t ∧ t.time.lastSync = none ∧ t.time.syncing = false ∧
      t.get Reg.TBASE_STAT_HOLDOVER = 1 ∧ t.get Reg.TBASE_STAT_LOCK = 0 ∧ t.now = max s.now (a + 3000000000) := by
  obtain ⟨hlast, hsyncing, hholdover, hlock, hnow⟩ := syncLost_effect (s.reach (a + 3 * second))
  refine done_completes fun t ht => ?_
  rw [ha] at ht
  exact ⟨done_time ht ▸ hlast, done_time ht ▸ hsyncing, (done_get ht (by decide) (by decide)).trans hholdover,
    (done_get ht (by decide) (by decide)).trans hlock, done_now_of_reach ht hnow⟩

/-! #### A synchronisation (R285) -/

/-- What a synchronisation with a small offset stores when the port becomes slave: its state, delay, offset, the time base's
status. -/
def syncStores (p : Nat) (off : Int) (delay : Nat) (s : State) : State :=
  (((((s.set (ptpField p) 3).set Reg.UPL_MDELAY_NS delay).set Reg.TBASE_OFFSET_NS (toField 32 off)).set
    Reg.TBASE_STAT_HOLDOVER 0).set Reg.TBASE_FREQ_PPB (Config.freeNat s.freeCtr)).set Reg.TBASE_STAT_SET 1

theorem satSigned_of_small {x : Int} (h : x.natAbs ≤ 1000) : satSigned 32 x = x := by
  unfold satSigned
  norm_num
  omega

/-- Two's complement in `w` bits lies below two to `w`. -/
theorem toField_lt (w : Nat) (x : Int) : toField w x < 2 ^ w := by
  have h := Int.emod_lt_of_pos x (show (0 : Int) < 2 ^ w by positivity)
  unfold toField
  exact (Int.toNat_lt' (by positivity)).2 (by exact_mod_cast h)

/-- The first synchronisation, with an offset of 1,000 ns at most: the offset is slewed, and no interval counts yet (R285). -/
theorem ptpSync_first {s : State} {p : Nat} {o : Int} (d : Nat) (hsrc : s.get Reg.TBASE_CFG_SRC = 0) (hup : uplinkUp s p = true)
    (hst : s.get (ptpField p) = 2) (ho : o.natAbs ≤ 1000) (hsync : s.time.syncing = false) :
    (ptpSync p o d s).regs = (syncStores p o d s).regs ∧ (ptpSync p o d s).time.lastSync = some s.now ∧
      (ptpSync p o d s).time.slew = o ∧ (ptpSync p o d s).time.syncing = true := by
  have hbig : ¬ o.natAbs > 1000 := by omega
  have hstep : ¬ o.natAbs > msec := by unfold msec; omega
  unfold ptpSync
  extract_lets st s₁ s₂ s₃ n x s₄ s₅ s₆ y z s₇
  have hn : n = 0 := if_neg (by simp [s₃, s₂, s₁, hsync])
  have h₆ : s₆ = s₅ := if_neg (by simp [hbig])
  have h₇ : s₇ = { timeRebase s₆ with time := { (timeRebase s₆).time with slew := o } } := if_neg hstep
  rw [if_neg (by simp [State.bit, hsrc, hup, st, hst]), if_neg (by simp [hn]), h₇, h₆]
  refine ⟨?_, rfl, rfl, rfl⟩
  rw [syncStores, ← satSigned_of_small ho]
  rfl

/-- The PTP state of either port takes three bits. -/
theorem ptpField_width (p : Nat) : (ptpField p).width = 3 := by
  unfold ptpField
  split <;> rfl

/-- PTP_SYNC_RECEIVE at the first synchronisation of a slave port (R285). -/
theorem ptpSyncReceive_effect {s : State} {p : Fin 2} {o : Int} {d : Word} (hsrc : s.get Reg.TBASE_CFG_SRC = 0)
    (hup : uplinkUp s p.val = true) (hst : s.get (ptpField p.val) = 2) (ho : o.natAbs ≤ 1000)
    (hsync : s.time.syncing = false) :
    ∃ t, exec (.ptpSyncReceive p o d) s = .next t ∧ t.get (ptpField p.val) = 3 ∧ t.get Reg.UPL_MDELAY_NS = d.toNat ∧
      t.get Reg.TBASE_OFFSET_NS = toField 32 o ∧ t.get Reg.TBASE_STAT_SET = 1 ∧ t.get Reg.TBASE_STAT_HOLDOVER = 0 ∧
      t.time.lastSync = some s.now ∧ t.time.slew = o ∧ t.time.syncing = true := by
  obtain ⟨hregs, hlast, hslew, hsyncing⟩ := ptpSync_first d.toNat hsrc hup hst ho hsync
  refine done_completes fun t ht => ?_
  have hread {f : RegField} (hw : f.wordOf ≠ 7) (hk : f.key ≠ Reg.PAIR_LASTTKO_MS.key) :
      t.get f = (syncStores p.val o d.toNat s).get f := (done_get ht hw hk).trans (congrArg (regRead · f) hregs)
  have hport : ∀ q : Fin 2, (ptpField q.val).wordOf ≠ 7 ∧ (ptpField q.val).key ≠ Reg.PAIR_LASTTKO_MS.key ∧
      ∀ g ∈ [Reg.TBASE_STAT_SET, Reg.TBASE_FREQ_PPB, Reg.TBASE_STAT_HOLDOVER, Reg.TBASE_OFFSET_NS, Reg.UPL_MDELAY_NS],
        (ptpField q.val).key ≠ g.key := by decide
  obtain ⟨hword, hlasttko, hother⟩ := hport p
  refine ⟨?port, ?delay, ?offset, ?set, ?holdover, (done_time ht ▸ hlast), (done_time ht ▸ hslew), (done_time ht ▸ hsyncing)⟩
  case port =>
    rw [hread hword hlasttko, syncStores]
    iterate 5 rw [State.get_set_ne (hother _ (by simp))]
    rw [State.get_set_same, ptpField_width]
    rfl
  case delay =>
    rw [hread (by decide) (by decide), syncStores]
    iterate 4 rw [State.get_set_ne (by decide)]
    rw [State.get_set_same]
    exact Nat.mod_eq_of_lt d.isLt
  case offset =>
    rw [hread (by decide) (by decide), syncStores]
    iterate 3 rw [State.get_set_ne (by decide)]
    rw [State.get_set_same]
    exact Nat.mod_eq_of_lt (toField_lt 32 o)
  case set => rw [hread (by decide) (by decide), syncStores, State.get_set_same]; rfl
  case holdover =>
    rw [hread (by decide) (by decide), syncStores, State.get_set_ne (by decide), State.get_set_ne (by decide),
      State.get_set_same]
    rfl

/-! #### Announces (R394) -/

/-- The fields that the choice of the best master stores. -/
def ptpFields : List RegField :=
  [ptpField 0, ptpField 1, Reg.UPL_FAULT_GMCHG, Reg.UPL_GMIDLO_ID, Reg.UPL_GMIDHI_ID, Reg.TBASE_CFG_UTCOFF]

/-- `s'` differs from `s` in what the choice of the best master may change: fields of `ptpFields` and the time base. -/
def PtpOnly (s s' : State) : Prop := (∃ r x, s' = { s with regs := r, time := x }) ∧ StoresOnly ptpFields s s'

theorem PtpOnly.refl (s : State) : PtpOnly s s := ⟨⟨_, _, rfl⟩, .refl _ s⟩

theorem PtpOnly.trans {s s' s'' : State} (h : PtpOnly s s') (h' : PtpOnly s' s'') : PtpOnly s s'' := by
  obtain ⟨⟨r, x, rfl⟩, hs⟩ := h
  obtain ⟨⟨r', x', rfl⟩, hs'⟩ := h'
  exact ⟨⟨r', x', rfl⟩, hs.trans hs'⟩

theorem PtpOnly.set (s : State) {g : RegField} (hg : g ∈ ptpFields) (v : Nat) : PtpOnly s (s.set g v) :=
  ⟨⟨_, s.time, rfl⟩, .set (.refl _ s) hg v⟩

theorem syncStop_only (s : State) : PtpOnly s (syncStop s) := ⟨⟨s.regs, _, rfl⟩, .of_regs rfl⟩

/-- Noting the grandmaster stores its identity and GMCHG. -/
theorem setMaster_only (gm : Nat) (s : State) : PtpOnly s (setMaster gm s) := by
  have hid (u : State) : PtpOnly u (set64 Reg.UPL_GMIDLO_ID Reg.UPL_GMIDHI_ID gm u) :=
    (PtpOnly.set u (by simp [ptpFields]) _).trans (.set _ (by simp [ptpFields]) _)
  unfold setMaster
  dsimp only
  split
  · exact (PtpOnly.set s (by simp [ptpFields]) 1).trans (hid _)
  · exact hid s

theorem ptpChoose_only (s : State) : PtpOnly s (ptpChoose s) := by
  unfold ptpChoose
  extract_lets best own st0 st1 slave before s₁ s₂
  have h₁ : PtpOnly s s₁ := (PtpOnly.set s (by simp [ptpFields]) _).trans (.set _ (by simp [ptpFields]) _)
  have h₂ : PtpOnly s s₂ := by
    dsimp only [s₂]
    split
    · exact h₁.trans (syncStop_only s₁)
    · exact h₁
  have hmaster (gm : Nat) : PtpOnly s (setMaster gm s₂) := h₂.trans (setMaster_only gm s₂)
  split
  · exact hmaster _
  clear_value best
  split
  · dsimp only
    split
    · split
      · exact hmaster _
      · exact (hmaster _).trans (.set _ (by simp [ptpFields]) _)
    · exact hmaster _
  · exact h₂

theorem ptpChoose_uplinks (s : State) : (ptpChoose s).uplinks = s.uplinks := by
  obtain ⟨⟨r, x, h⟩, -⟩ := ptpChoose_only s
  rw [h]

theorem ptpChoose_now (s : State) : (ptpChoose s).now = s.now := by
  obtain ⟨⟨r, x, h⟩, -⟩ := ptpChoose_only s
  rw [h]

/-- An uplink reads as it was stored. -/
@[simp] theorem uplink_setUplink_same (s : State) (p : Nat) (x : UplinkState) : (s.setUplink p x).uplink p = x :=
  tabGet_put_same ({} : UplinkState) p x s.uplinks

theorem uplink_setUplink_ne {p q : Nat} (h : q ≠ p) (s : State) (x : UplinkState) : (s.setUplink p x).uplink q = s.uplink q :=
  tabGet_put_ne h ({} : UplinkState) {} x s.uplinks

/-- A command leaves of an uplink what its effect makes of it. -/
theorem done_uplink {s s' t : State} (h : done s s' = .next t) (p : Nat) : t.uplink p = s'.uplink p :=
  congrArg (tabGet ({} : UplinkState) · p) (done_uplinks h)

/-- PTP_ANNOUNCE_RECEIVE (R394). -/
theorem ptpAnnounceReceive_effect {s : State} {p : Fin 2} {v : BitVec 12} {a : PtpAnnounce} (hup : uplinkUp s p.val = true)
    (hvid : vidOk s p.val v.toNat = true) (hdom : a.domain.toNat = s.get Reg.UPL_CFG_PTPDOM) :
    ∃ t, exec (.ptpAnnounceReceive p v a) s = .next t ∧ (t.uplink p.val).announce = some a ∧
      (t.uplink p.val).announceAt = s.now := by
  have htaken : ptpAnnounce p.val a s =
      ptpChoose (s.setUplink p.val { s.uplink p.val with announce := some a, announceAt := s.now }) :=
    if_neg (by simp [hup, hdom])
  refine done_completes fun t ht => ?_
  rw [if_pos hvid, htaken] at ht
  have hport : t.uplink p.val = { s.uplink p.val with announce := some a, announceAt := s.now } := by
    rw [done_uplink ht, State.uplink, ptpChoose_uplinks, ← State.uplink, uplink_setUplink_same]
  rw [hport]
  exact ⟨rfl, rfl⟩

/-- PTP_ANNOUNCE_TIMEOUT (R394). -/
theorem ptpAnnounceTimeout_effect {s : State} {p : Fin 2} {a : PtpAnnounce} (ha : (s.uplink p.val).announce = some a) :
    ∃ t, exec (.ptpAnnounceTimeout p) s = .next t ∧ (t.uplink p.val).announce = none ∧
      t.now = max s.now ((s.uplink p.val).announceAt + 3000000000) := by
  have htimeout : announceTimeout p.val s = ptpChoose
      ((s.reach ((s.uplink p.val).announceAt + 3 * second)).setUplink p.val { s.uplink p.val with announce := none }) := by
    rw [announceTimeout, ha]
    rfl
  refine done_completes fun t ht => ?_
  rw [htimeout] at ht
  constructor
  · rw [done_uplink ht, State.uplink, ptpChoose_uplinks, ← State.uplink, uplink_setUplink_same]
  · exact done_now_of_reach ht (ptpChoose_now _)

/-! #### The wake from DOZE (R31) -/

/-- WAKE_TIMER (R31). -/
theorem wakeTimer_effect {s : State} {k : Nat} (hk : nextWakeMs s = some k) (hc : s.get Reg.CSN_STAT_CSTATE ≠ 6)
    (hd : s.get Reg.MODE_PWRST_DOZE = 1) :
    ∃ t, exec .wakeTimer s = .next t ∧ t.get Reg.MODE_PWRST_DOZE = 0 ∧
      t.now = max s.now (instantOfTai s (k * 1000000 - 60000)) := by
  obtain ⟨hdoze, hnow, -, -⟩ := wakeEvent_wakes (s := s.reach (instantOfTai s (k * 1000000 - 60000))) hc hd
  refine done_completes fun t ht => ?_
  rw [hk] at ht
  dsimp only at ht
  rw [if_neg hc] at ht
  constructor
  · rw [done_get ht (by decide) (by decide)]
    exact hdoze
  · exact done_now_of_reach ht hnow

/-! #### The ring block (R391) -/

/-- RING_BLOCK_SET (R391). -/
theorem ringBlockSet_effect {s : State} {a : Nat} (ha : s.via.linksUp = some a) (hrole : s.get Reg.VIA_STAT_ROLE = 2)
    (h0 : s.get (Reg.UPL_PCFG_FWD.ix 0) = 1) (h1 : s.get (Reg.UPL_PCFG_FWD.ix 1) = 1) :
    ∃ t, exec .ringBlockSet s = .next t ∧ t.get (Reg.UPL_PCFG_RINGBLK.ix 1) = 1 ∧ t.now = max s.now (a + 5000000000) := by
  refine done_completes fun t ht => ?_
  rw [ringBlockSet, ha] at ht
  dsimp only at ht
  rw [if_pos ⟨hrole, h0, h1⟩, State.raise_eq] at ht
  constructor
  · rw [done_get ht (by decide) (by decide), State.get_set_same]
    rfl
  · exact done_now_of_reach ht rfl

/-! #### Uplink ports (R389 to R392) -/

/-- The field that shows the link of a port. -/
def linkField (p : Nat) : RegField := if p = 0 then Reg.UPL_STAT_LINK0 else Reg.UPL_STAT_LINK1

/-- The fields that show a port's link, its speed and how often the link went down. -/
def uplinkFields (p : Nat) : List RegField := [linkField p, Reg.UPL_PSPD_SPEED.ix p, Reg.UPL_PLNKDN_COUNT.ix p]

/-- The fields that follow the link of a port: those of the pair, ISOL and the ring block. -/
def linkFollowFields : List RegField :=
  [Reg.PAIR_FAULT_PLINKLOST, Reg.PAIR_FAULT_ABUTLOST, Reg.PAIR_STAT_PLINK, Reg.PAIR_STAT_ABUT, Reg.VIA_STAT_ISOL,
    Reg.UPL_PCFG_RINGBLK.ix 1]

/-- What the choice of the master and the ring store is none of a port's own fields, nor do these change at a command's end. -/
theorem uplinkFields_apart : ∀ p : Fin 2, ∀ f ∈ uplinkFields p.val, f.wordOf ≠ 7 ∧ f.key ≠ Reg.PAIR_LASTTKO_MS.key ∧
    (∀ g ∈ ptpFields, f.key ≠ g.key) ∧ ∀ g ∈ linkFollowFields, f.key ≠ g.key := by decide

/-- `s'` differs from `s` in fields of `linkFollowFields` among the registers, and keeps the uplinks. -/
def LinkFollows (s s' : State) : Prop := s'.uplinks = s.uplinks ∧ StoresOnly linkFollowFields s s'

theorem LinkFollows.trans {s s' s'' : State} (h : LinkFollows s s') (h' : LinkFollows s' s'') : LinkFollows s s'' :=
  ⟨h'.1.trans h.1, h.2.trans h'.2⟩

theorem LinkFollows.set {s s' : State} (h : LinkFollows s s') {g : RegField} (hg : g ∈ linkFollowFields) (v : Nat) :
    LinkFollows s (s'.set g v) := ⟨h.1, h.2.set hg v⟩

theorem LinkFollows.refl (s : State) : LinkFollows s s := ⟨rfl, .refl _ s⟩

theorem showPair_follows (s : State) : LinkFollows s (showPair s) := by
  unfold showPair
  split
  · exact .refl s
  extract_lets pl ab s₁ s₂
  have h₁ : LinkFollows s s₁ := by
    dsimp only [s₁]
    split
    · exact (LinkFollows.refl s).set (by simp [linkFollowFields]) 1
    · exact .refl s
  have h₂ : LinkFollows s s₂ := by
    dsimp only [s₂]
    split
    · exact h₁.set (by simp [linkFollowFields]) 1
    · exact h₁
  exact (h₂.set (by simp [linkFollowFields]) _).set (by simp [linkFollowFields]) _

theorem ringFollow_follows (s : State) : LinkFollows s (ringFollow s) := by
  unfold ringFollow
  split
  · exact .refl s
  split
  · exact ⟨rfl, .of_regs rfl⟩
  · exact ⟨rfl, .set (.of_regs rfl) (by simp [linkFollowFields]) 0⟩

/-- With no port lost and no shortfall of the uplinks, only ISOL follows them (R392). -/
theorem lostUplinks_sound {s : State} (h0 : (s.uplink 0).lost = false) (h1 : (s.uplink 1).lost = false)
    (hs : (s.get Reg.MODE_STAT_SHORT).testBit 2 = false) : ∃ b, lostUplinks s = s.setBit Reg.VIA_STAT_ISOL b := by
  unfold lostUplinks
  extract_lets cfg lost u
  have hnone : cfg.any lost = false := by
    refine List.any_eq_false.2 fun p hp => ?_
    have hp' : p = 0 ∨ p = 1 := by simpa using (List.mem_filter.1 hp).1
    rcases hp' with rfl | rfl
    · exact Bool.eq_false_iff.1 h0
    · exact Bool.eq_false_iff.1 h1
  have hshort : (u.get Reg.MODE_STAT_SHORT).testBit 2 = false := by
    rw [← hs]; exact congrArg (Nat.testBit · 2) (State.get_set_ne (by decide) _ _)
  have hend : endShort 2 u = u := if_neg (by simp [hshort])
  rw [if_neg (by simp [hnone]), hend, ite_self]
  exact ⟨_, rfl⟩

/-- The fields of a port that a change of its link stores at once. -/
def linkShown (p : Nat) (up : Bool) (speed : Nat) (s : State) : State :=
  (s.setBit (linkField p) up).set (Reg.UPL_PSPD_SPEED.ix p) (if up then speed else 0)

/-- A change of the link of a port, before the best master is chosen anew. -/
def linkStored (p : Nat) (up : Bool) (speed : Nat) (s : State) : State :=
  let u := linkShown p up speed s
  if s.bit (linkField p) && !up then
    (u.countSat (Reg.UPL_PLNKDN_COUNT.ix p) 1).setUplink p { u.uplink p with downSince := some u.now, announce := none }
  else if up then u.setUplink p { u.uplink p with downSince := none, lost := false } else u

theorem setUplinkLink_eq (p : Nat) (up : Bool) (speed : Nat) (s : State) :
    setUplinkLink p up speed s = ptpChoose (linkStored p up speed s) := rfl

/-- Beside what it shows of the link, a change stores only the count of losses. -/
theorem linkStored_only (p : Nat) (up : Bool) (speed : Nat) (s : State) :
    StoresOnly [Reg.UPL_PLNKDN_COUNT.ix p] (linkShown p up speed s) (linkStored p up speed s) := by
  unfold linkStored
  dsimp only
  split
  · exact (StoresOnly.set (.refl _ _) (by simp) _).trans (.of_regs rfl)
  · split <;> exact .of_regs rfl

/-- A link that goes down is counted, and is down from now on (R392). -/
theorem linkStored_down {s : State} {p : Nat} (hup : uplinkUp s p = true) (speed : Nat) :
    linkStored p false speed s = ((linkShown p false speed s).countSat (Reg.UPL_PLNKDN_COUNT.ix p) 1).setUplink p
      { s.uplink p with downSince := some s.now, announce := none } :=
  if_pos (by rw [show s.bit (linkField p) = true from hup]; rfl)

/-- A change of a link loses no port. -/
theorem linkStored_sound {s : State} {q : Nat} (h : (s.uplink q).lost = false) (p : Nat) (up : Bool) (speed : Nat) :
    ((linkStored p up speed s).uplink q).lost = false := by
  unfold linkStored
  extract_lets u
  have hu : (u.uplink q).lost = false := h
  by_cases hq : q = p
  · subst hq
    split
    · rw [uplink_setUplink_same]; exact hu
    · split
      · rw [uplink_setUplink_same]
      · exact hu
  · split
    · rw [uplink_setUplink_ne hq]; exact hu
    · split
      · rw [uplink_setUplink_ne hq]; exact hu
      · exact hu

theorem uplinkFields_distinct : ∀ p : Fin 2, (linkField p.val).key ≠ (Reg.UPL_PSPD_SPEED.ix p.val).key ∧
    (linkField p.val).key ≠ (Reg.UPL_PLNKDN_COUNT.ix p.val).key ∧
    (Reg.UPL_PSPD_SPEED.ix p.val).key ≠ (Reg.UPL_PLNKDN_COUNT.ix p.val).key ∧ (linkField p.val).width = 1 := by decide

theorem linkStored_link (p : Fin 2) (up : Bool) (speed : Nat) (s : State) :
    (linkStored p.val up speed s).get (linkField p.val) = if up then 1 else 0 := by
  obtain ⟨hspeed, hcount, -, hwidth⟩ := uplinkFields_distinct p
  rw [linkStored_only p.val up speed s _ (by simpa using hcount), linkShown, State.get_set_ne hspeed, State.setBit_eq,
    State.get_set_same, hwidth]
  cases up <;> rfl

theorem linkStored_speed (p : Fin 2) (up : Bool) (v : Fin 4) (s : State) :
    (linkStored p.val up v.val s).get (Reg.UPL_PSPD_SPEED.ix p.val) = if up then v.val else 0 := by
  obtain ⟨-, -, hcount, -⟩ := uplinkFields_distinct p
  rw [linkStored_only p.val up v.val s _ (by simpa using hcount), linkShown, State.get_set_same]
  refine Nat.mod_eq_of_lt ?_
  show _ < 2 ^ 3
  split <;> omega

theorem linkStored_count {s : State} {p : Fin 2} (hup : uplinkUp s p.val = true) (speed : Nat) :
    (linkStored p.val false speed s).get (Reg.UPL_PLNKDN_COUNT.ix p.val) =
      min (s.get (Reg.UPL_PLNKDN_COUNT.ix p.val) + 1) (2 ^ (Reg.UPL_PLNKDN_COUNT.ix p.val).width - 1) := by
  obtain ⟨-, hlink, hspeed, -⟩ := uplinkFields_distinct p
  have hshown : (linkShown p.val false speed s).get (Reg.UPL_PLNKDN_COUNT.ix p.val) =
      s.get (Reg.UPL_PLNKDN_COUNT.ix p.val) := by
    rw [linkShown, State.get_set_ne hspeed.symm, State.setBit_eq, State.get_set_ne hlink.symm]
  have hread : (linkStored p.val false speed s).get (Reg.UPL_PLNKDN_COUNT.ix p.val) =
      ((linkShown p.val false speed s).countSat (Reg.UPL_PLNKDN_COUNT.ix p.val) 1).get (Reg.UPL_PLNKDN_COUNT.ix p.val) := by
    rw [linkStored_down hup]; rfl
  rw [hread, State.countSat_eq, State.get_set_same, hshown]
  exact Nat.mod_eq_of_lt (lt_of_le_of_lt (Nat.min_le_right _ _) (Nat.sub_lt (Nat.two_pow_pos _) Nat.one_pos))

/-- A change of the link reaches the end of the command as it was stored: with no port lost and no shortfall of the uplinks,
what follows it leaves the port's fields and the uplinks (R389, R391, R392). -/
theorem uplinkLinkChange_stored {s t : State} {p : Fin 2} {up : Bool} {v : Fin 4}
    (hmedia : up = true → mediaCarries s p.val v.val = true) (hfall : s.bit Reg.CLK_STAT_FALLBACK = false)
    (h0 : (s.uplink 0).lost = false) (h1 : (s.uplink 1).lost = false)
    (hs : (s.get Reg.MODE_STAT_SHORT).testBit 2 = false) (ht : exec (.uplinkLinkChange p up v) s = .next t) :
    t.uplinks = (linkStored p.val up v.val s).uplinks ∧
      ∀ f ∈ uplinkFields p.val, t.get f = (linkStored p.val up v.val s).get f := by
  have husable : (up && (mediaCarries s p.val v.val && !s.bit Reg.CLK_STAT_FALLBACK)) = up := by
    cases up
    · rfl
    · simp [hmedia rfl, hfall]
  replace ht : done s (ringFollow (lostUplinks (showPair (ptpChoose (linkStored p.val up v.val s))))) = .next t := by
    rw [← setUplinkLink_eq, ← husable]
    exact ht
  have hpair := showPair_follows (ptpChoose (linkStored p.val up v.val s))
  have huplinks := hpair.1.trans (ptpChoose_uplinks _)
  have hsound (q : Nat) (hq : (s.uplink q).lost = false) :
      ((showPair (ptpChoose (linkStored p.val up v.val s))).uplink q).lost = false := by
    rw [State.uplink, huplinks]
    exact linkStored_sound hq p.val up v.val
  have hshort : (showPair (ptpChoose (linkStored p.val up v.val s))).get Reg.MODE_STAT_SHORT = s.get Reg.MODE_STAT_SHORT := by
    have hfields : ∀ q : Fin 2, Reg.MODE_STAT_SHORT.key ≠ (Reg.UPL_PLNKDN_COUNT.ix q.val).key ∧
        Reg.MODE_STAT_SHORT.key ≠ (Reg.UPL_PSPD_SPEED.ix q.val).key ∧ Reg.MODE_STAT_SHORT.key ≠ (linkField q.val).key := by
      decide
    obtain ⟨hcount, hspeed, hlink⟩ := hfields p
    rw [hpair.2 _ (by decide), (ptpChoose_only _).2 _ (by decide), linkStored_only p.val up v.val s _ (by simpa using hcount),
      linkShown, State.get_set_ne hspeed, State.setBit_eq, State.get_set_ne hlink]
  obtain ⟨b, hb⟩ := lostUplinks_sound (hsound 0 h0) (hsound 1 h1) (hshort ▸ hs)
  rw [hb] at ht
  have hisol := hpair.set (g := Reg.VIA_STAT_ISOL) (by simp [linkFollowFields]) (if b then 1 else 0)
  have hfollow := hisol.trans (ringFollow_follows _)
  refine ⟨(done_uplinks ht).trans (hfollow.1.trans (ptpChoose_uplinks _)), fun f hf => ?_⟩
  obtain ⟨hword, hlasttko, hptp, hlinkFollow⟩ := uplinkFields_apart p f hf
  rw [done_get ht hword hlasttko]
  exact (hfollow.2 f hlinkFollow).trans ((ptpChoose_only _).2 f hptp)

/-- UPLINK_LINK_CHANGE (R389, R391, R392). -/
theorem uplinkLinkChange_effect {s : State} {p : Fin 2} {up : Bool} {v : Fin 4}
    (hmedia : up = true → mediaCarries s p.val v.val = true) (hfall : s.bit Reg.CLK_STAT_FALLBACK = false)
    (h0 : (s.uplink 0).lost = false) (h1 : (s.uplink 1).lost = false)
    (hs : (s.get Reg.MODE_STAT_SHORT).testBit 2 = false) :
    ∃ t, exec (.uplinkLinkChange p up v) s = .next t ∧ uplinkUp t p.val = up ∧
      t.get (Reg.UPL_PSPD_SPEED.ix p.val) = (if up then v.val else 0) ∧
      (uplinkUp s p.val = true → up = false → (t.uplink p.val).downSince = some s.now ∧
        t.get (Reg.UPL_PLNKDN_COUNT.ix p.val) = min (s.get (Reg.UPL_PLNKDN_COUNT.ix p.val) + 1)
          (2 ^ (Reg.UPL_PLNKDN_COUNT.ix p.val).width - 1)) := by
  refine done_completes fun t ht => ?_
  obtain ⟨huplinks, hfields⟩ := uplinkLinkChange_stored hmedia hfall h0 h1 hs ht
  refine ⟨?link, ?speed, ?down⟩
  case link =>
    show decide (t.get (linkField p.val) = 1) = up
    rw [hfields _ (by simp [uplinkFields]), linkStored_link]
    cases up <;> rfl
  case speed => rw [hfields _ (by simp [uplinkFields]), linkStored_speed]
  case down =>
    rintro hup rfl
    constructor
    · rw [State.uplink, huplinks, ← State.uplink, linkStored_down hup, uplink_setUplink_same]
    · rw [hfields _ (by simp [uplinkFields]), linkStored_count hup]

/-! #### A lost port (R392) -/

theorem degradedFollow_frame (s : State) : ∃ x, degradedFollow s = { s with seg := x } := by
  unfold degradedFollow
  split
  · exact ⟨_, rfl⟩
  · exact ⟨s.seg, rfl⟩

/-- With a configured port lost and the shortfall of the uplinks there already, only ISOL follows, and the feeds that wait. -/
theorem lostUplinks_short {s : State} {p : Fin 2} (hmedia : s.get (Reg.UPL_PCFG_MEDIA.ix p.val) ≠ 0)
    (hlost : (s.uplink p.val).lost = true) (hs : (s.get Reg.MODE_STAT_SHORT).testBit 2 = true) :
    ∃ b, lostUplinks s = degradedFollow (s.setBit Reg.VIA_STAT_ISOL b) := by
  unfold lostUplinks
  extract_lets cfg lost u
  have hport : p.val ∈ [0, 1] := by have := p.isLt; simp; omega
  have hany : cfg.any lost = true :=
    List.any_eq_true.2 ⟨p.val, List.mem_filter.2 ⟨hport, decide_eq_true hmedia⟩, hlost⟩
  have hshort : (u.get Reg.MODE_STAT_SHORT).testBit 2 = true := by
    rw [← hs]; exact congrArg (Nat.testBit · 2) (State.get_set_ne (by decide) _ _)
  rw [if_pos hany]
  exact ⟨_, if_pos hshort⟩

/-- The fault of a lost port. -/
def linkDownFault (p : Nat) : RegField := if p = 0 then Reg.UPL_FAULT_LINKDN0 else Reg.UPL_FAULT_LINKDN1

theorem linkDownFault_apart : ∀ p : Fin 2, (linkDownFault p.val).wordOf ≠ 7 ∧
    (linkDownFault p.val).key ≠ Reg.PAIR_LASTTKO_MS.key ∧ (linkDownFault p.val).key ≠ Reg.VIA_STAT_ISOL.key ∧
    Reg.MODE_STAT_SHORT.key ≠ (linkDownFault p.val).key ∧
    (Reg.UPL_PCFG_MEDIA.ix p.val).key ≠ (linkDownFault p.val).key ∧ (linkDownFault p.val).width = 1 := by decide

/-- What the loss of a port stores, 1 s after its link went down at `a`, before the shortfall follows it. -/
def lostStored (p a : Nat) (s : State) : State :=
  ((s.reach (a + second)).setUplink p { s.uplink p with lost := true }).raise (linkDownFault p)

theorem uplinkPortLost_eq {s : State} {p a : Nat} (ha : (s.uplink p).downSince = some a)
    (hmedia : s.get (Reg.UPL_PCFG_MEDIA.ix p) ≠ 0) (hup : uplinkUp s p = false) (hlost : (s.uplink p).lost = false) :
    uplinkPortLost p s = lostUplinks (lostStored p a s) := by
  unfold uplinkPortLost
  extract_lets x
  split
  · next hnone => exact absurd (ha.symm.trans hnone) (by simp)
  · next c hc =>
    obtain rfl : a = c := Option.some_inj.1 (ha.symm.trans hc)
    rw [if_neg (by simp [hmedia, hup, x, hlost])]
    rfl

/-- UPLINK_PORT_LOST (R392). -/
theorem uplinkPortLost_effect {s : State} {p : Fin 2} {a : Nat} (ha : (s.uplink p.val).downSince = some a)
    (hmedia : s.get (Reg.UPL_PCFG_MEDIA.ix p.val) ≠ 0) (hup : uplinkUp s p.val = false)
    (hlost : (s.uplink p.val).lost = false) (hs : (s.get Reg.MODE_STAT_SHORT).testBit 2 = true) :
    ∃ t, exec (.uplinkPortLost p) s = .next t ∧ (t.uplink p.val).lost = true ∧ t.now = max s.now (a + 1000000000) ∧
      t.get (linkDownFault p.val) = 1 := by
  obtain ⟨hword, hlasttko, hisol, hshortKey, hmediaKey, hwidth⟩ := linkDownFault_apart p
  have hport : (lostStored p.val a s).uplink p.val = { s.uplink p.val with lost := true } := uplink_setUplink_same _ _ _
  have hget {f : RegField} (hf : f.key ≠ (linkDownFault p.val).key) : (lostStored p.val a s).get f = s.get f :=
    State.get_set_ne hf _ _
  obtain ⟨b, hb⟩ := lostUplinks_short (by rwa [hget hmediaKey]) (congrArg UplinkState.lost hport) (by rwa [hget hshortKey])
  obtain ⟨x, hx⟩ := degradedFollow_frame ((lostStored p.val a s).setBit Reg.VIA_STAT_ISOL b)
  refine done_completes fun t ht => ?_
  rw [uplinkPortLost_eq ha hmedia hup hlost, hb, hx] at ht
  refine ⟨?lost, ?now, ?fault⟩
  case lost =>
    rw [done_uplink ht]
    exact congrArg UplinkState.lost hport
  case now => exact done_now_of_reach ht rfl
  case fault =>
    rw [done_get ht hword hlasttko]
    refine (State.get_set_ne hisol (lostStored p.val a s) _).trans ?_
    rw [lostStored, State.raise_eq, State.get_set_same, hwidth]
    rfl

/-! #### ICMPv6 (R390) -/

theorem portCounters_apart : ∀ p : Fin 2, (Reg.UPL_PRXOK_COUNT.ix p.val).wordOf ≠ 7 ∧
    (Reg.UPL_PRXOK_COUNT.ix p.val).key ≠ Reg.PAIR_LASTTKO_MS.key ∧
    (Reg.UPL_PRXOK_COUNT.ix p.val).key ≠ (Reg.UPL_PTXOK_COUNT.ix p.val).key := by decide

/-- A message that the port takes is counted; only an answer stores more, and counts itself. -/
theorem icmpReceive_counts {s : State} {p vid : Nat} {m : IcmpMessage} (hup : uplinkUp s p = true)
    (hvid : vidOk s p vid = true) (hfits : icmpFits m = true) :
    StoresOnly [Reg.UPL_PTXOK_COUNT.ix p] (s.countWrap (Reg.UPL_PRXOK_COUNT.ix p) 1) (icmpReceive p vid m s) := by
  unfold icmpReceive
  rw [if_neg (by simp [hup, hvid, hfits])]
  cases m with
  | echoRequest g i q d =>
    dsimp only
    split
    · exact .set (.of_regs rfl) (by simp) _
    · exact .refl _ _
  | neighbourSolicitation g =>
    dsimp only
    split
    · exact .set (.of_regs rfl) (by simp) _
    · exact .refl _ _
  | routerAdvertisement => exact .refl _ _
  | other k => exact .refl _ _

/-- The addresses of a port do not depend on its counters. -/
theorem icmpTarget_countWrap (s : State) {f : RegField} (hf : Reg.MODE_STAT_MODE.key ≠ f.key) (p g : Nat) :
    icmpTarget (s.countWrap f 1) p g = icmpTarget s p g := by
  have hsheet : sheet (s.countWrap f 1) = sheet s := by
    unfold sheet
    rw [State.countWrap_eq, State.get_set_ne hf]
    rfl
  rw [icmpTarget, hsheet]
  rfl

/-- An echo request to an address of the port is answered on the same VLAN. -/
theorem icmpReceive_echo {s : State} {p : Fin 2} {vid g i q : Nat} {d : List Byte}
    (hup : uplinkUp s p.val = true) (hvid : vidOk s p.val vid = true) (hfits : icmpFits (.echoRequest g i q d) = true)
    (hg : icmpTarget s p.val g = true) :
    (icmpReceive p.val vid (.echoRequest g i q d) s).out = s.out ++ [.echoReply p.val vid i q d] := by
  have hmode : ∀ k : Fin 2, Reg.MODE_STAT_MODE.key ≠ (Reg.UPL_PRXOK_COUNT.ix k.val).key := by decide
  unfold icmpReceive
  rw [if_neg (by simp [hup, hvid, hfits])]
  dsimp only
  rw [if_pos ((icmpTarget_countWrap s (hmode p) p.val g).trans hg)]
  rfl

/-- A message of another kind is not answered. -/
theorem icmpReceive_other (s : State) (p vid : Nat) (k : Byte) : (icmpReceive p vid (.other k) s).out = s.out := by
  unfold icmpReceive
  split <;> rfl

/-- ICMPV6_MESSAGE_RECEIVE (R390). -/
theorem icmpv6MessageReceive_effect {s : State} {p : Fin 2} {v : BitVec 12} {m : IcmpMessage}
    (hup : uplinkUp s p.val = true) (hvid : vidOk s p.val v.toNat = true) (hfits : icmpFits m = true) :
    ∃ t, exec (.icmpv6MessageReceive p v m) s = .next t ∧
      t.get (Reg.UPL_PRXOK_COUNT.ix p.val) = (s.get (Reg.UPL_PRXOK_COUNT.ix p.val) + 1) % 2 ^ 32 ∧
      (∀ g i q d, m = .echoRequest g i q d → icmpTarget s p.val g = true →
        t.out = s.out ++ [.echoReply p.val v.toNat i q d]) ∧
      (∀ k, m = .other k → t.out = s.out) := by
  obtain ⟨hword, hlasttko, hsent⟩ := portCounters_apart p
  refine done_completes fun t ht => ⟨?count, ?echo, ?other⟩
  case count =>
    rw [done_get ht hword hlasttko, icmpReceive_counts hup hvid hfits _ (by simpa using hsent), State.countWrap_eq,
      State.get_set_same]
    rfl
  case echo =>
    rintro g i q d rfl hg
    rw [done_out ht, icmpReceive_echo hup hvid hfits hg]
  case other =>
    rintro k rfl
    rw [done_out ht, icmpReceive_other]

/-- Settles O36: each clause is the effect of one command. -/
theorem timeAndUplinks : Obligations.TimeAndUplinks :=
  ⟨fun _ _ _ _ => ptpSyncReceive_effect, fun _ _ => ptpSyncLoss_effect, fun _ _ _ _ => ptpAnnounceReceive_effect,
    fun _ _ _ => ptpAnnounceTimeout_effect, fun _ _ => wakeTimer_effect, fun _ _ _ _ => uplinkLinkChange_effect,
    fun _ _ _ => uplinkPortLost_effect, fun _ _ => ringBlockSet_effect, fun _ _ _ _ => icmpv6MessageReceive_effect⟩

end Sys2Proof.Machine

/-! ### The feed sums of R182 leave the pages of a port

Where a switch that was closed opens, the sums of its group and of the module follow on the SEG pages of every port (R182). A frame
of `fieldFrame` names the pages of one port only, also for commands by which a port may go to OFF and its switch open with it. -/

namespace Sys2Proof.Machine

/-- STANDBY, with PBUS port 3 still ACTIVE: its last frame is on the line, and its switch is closed at 500 mA, which the page of port 0
shows as the module's sum (R182, R189). -/
def leavingBus : State :=
  let x : PbusPort := { tx := some { target := .reference, frame := { id := 0x123, dlc := 0 }, win := .reference, startedAt := 0 } }
  [(Reg.MODE_STAT_MODE, 2), (Reg.SEG_PCFG_PERS.inst 3, 1), (Reg.SEG_STAT_PSTATE.inst 3, 4), (Reg.SEG_STAT_FSTATE.inst 3, 3),
    (Reg.SEG_FMEAS_FCUR.inst 3, 500), (Reg.SEG_MCUR_MA.inst 0, 500)].foldl (fun s e => s.set e.1 e.2)
    { State.reset with pbus := [(3, x)] }

/-- With its last frame sent the port goes to OFF, its switch opens, and the module's sum falls to 0 on the page of port 0 too. -/
theorem leavingBus_txComplete :
    (settleOff 3 (txComplete 3 leavingBus)).get (Reg.SEG_MCUR_MA.inst 0) = 0 ∧ leavingBus.get (Reg.SEG_MCUR_MA.inst 0) = 500 := by
  decide +kernel

/-- Refutes O6: PBUS_TX_COMPLETE of a port that may not run any more opens its switch, and the sum that the page of another port
shows is not as before. -/
theorem not_fieldFrames : ¬ Obligations.FieldFrames := by
  intro h
  obtain ⟨t, ht⟩ := done_next leavingBus (settleOff 3 (txComplete 3 leavingBus))
  obtain ⟨-, hfields⟩ := h (.pbusTxComplete 3) leavingBus t _ rfl ht
  obtain ⟨hafter, hbefore⟩ := leavingBus_txComplete
  have hkept := hfields (Reg.SEG_MCUR_MA.inst 0) (by unfold Frame.leaves; decide)
  rw [done_get ht (by decide) (by decide), hafter, hbefore] at hkept
  exact absurd hkept (by decide)

end Sys2Proof.Machine

/-! ### DMA elements of the energy window leave the pages of the frame (R507)

A window element names its page in its descriptor, and 0x062 is a window page. The frame of DMA_ELEMENT_COMPLETE lists the pages of
the other windows only. -/

namespace Sys2Proof.Machine

/-- STANDBY, with circuit 5 metered in the lane of DMA: channel 0 runs an element that loads record 5 of the energy window (KIND 1,
page 0x062, one record, LAST). -/
def loadingEnergy : State :=
  let desc : List Nat := [5, 0, 0, 0, 0, 0, 0x20, 0x06] ++ List.replicate 8 0 ++ [1, 0, 0, 0, 1, 1, 0, 0] ++ List.replicate 8 0
  [(Reg.MODE_STAT_MODE, 2), (dmaField Reg.DMA_CSTATE_STATE 0, 1)].foldl (fun s e => s.set e.1 e.2)
    { State.reset with
      sheets := { charter := some { fwSets := [(4, 1)] }, config := some { meter := { circuits := [(5, {})] } } },
      fab := { State.reset.fab with desc := [(0, desc)] } }

/-- The element leaves its index in INDEX of the energy window, in the copy of DMA. -/
theorem loadingEnergy_elementComplete :
    (dmaElementComplete 0 loadingEnergy).get ((Reg.WIN_INDEX.onPage 0x062).by 16) = 5 ∧
      loadingEnergy.get ((Reg.WIN_INDEX.onPage 0x062).by 16) = 0 := by
  decide +kernel

/-- Refutes O9: DMA_ELEMENT_COMPLETE of an element of the energy window writes INDEX of page 0x062, which its frame does not name. -/
theorem not_systemFrames : ¬ Obligations.SystemFrames := by
  intro h
  obtain ⟨t, ht⟩ := done_next loadingEnergy (dmaElementComplete 0 loadingEnergy)
  obtain ⟨-, hfields⟩ := h (.dmaElementComplete 0) loadingEnergy t _ rfl ht
  obtain ⟨hafter, hbefore⟩ := loadingEnergy_elementComplete
  have hkept := hfields ((Reg.WIN_INDEX.onPage 0x062).by 16) (by unfold Frame.leaves; decide)
  rw [done_get ht (by decide) (by decide), hafter, hbefore] at hkept
  exact absurd hkept (by decide)

end Sys2Proof.Machine

/-! ### Frames as a relation between states

`Frame.holds` is an equivalence of states, so that a step within a frame may be dropped from a chain of steps. Of every operation
that the frames of commands rest on, one lemma says within which frame it stays (its footprint); a store stays within a frame that
has its field (`inFrame`). -/

namespace Sys2Proof.Machine

/-- The pages of the range `g` lie in one of the ranges `gs`. -/
def covers (gs : List (Nat × Nat)) (g : Nat × Nat) : Bool := gs.any fun h => h.1 ≤ g.1 && g.2 ≤ h.2

/-- A field stands on one of these pages, is one of these fields, or is one of those that stand outside every frame. -/
def inFrame (gs : List (Nat × Nat)) (fs : List RegField) (f : RegField) : Bool :=
  f.wordOf = 7 || f.key = Reg.PAIR_LASTTKO_MS.key || covers gs (f.pageOf, f.pageOf) || fs.any fun g => f.key = g.key

/-- All of these parts are among those. -/
def partsWithin (ps qs : List Part) : Bool := ps.all fun q => decide (q ∈ qs)

/-- What the frame `a` names lies within the frame `b`. -/
def Frame.Within (a b : Frame) : Prop :=
  partsWithin a.parts b.parts = true ∧ a.pages.all (covers b.pages) = true ∧ ∀ f ∈ a.fields, inFrame b.pages b.fields f

section
variable {F a b : Frame} {s t u : State} {q : Part}

theorem covers_iff {gs : List (Nat × Nat)} {g : Nat × Nat} : covers gs g = true ↔ ∃ h ∈ gs, h.1 ≤ g.1 ∧ g.2 ≤ h.2 := by
  simp [covers]

@[simp] theorem covers_cons_self (g : Nat × Nat) (gs : List (Nat × Nat)) : covers (g :: gs) g = true := by simp [covers]

theorem inFrame_iff {gs : List (Nat × Nat)} {fs : List RegField} {f : RegField} : inFrame gs fs f ↔
    f.wordOf = 7 ∨ f.key = Reg.PAIR_LASTTKO_MS.key ∨ covers gs (f.pageOf, f.pageOf) = true ∨ ∃ g ∈ fs, f.key = g.key := by
  simp [inFrame, or_assoc]

@[simp] theorem inFrame_cons_self (gs : List (Nat × Nat)) (f : RegField) (fs : List RegField) : inFrame gs (f :: fs) f := by
  simp [inFrame]

theorem Part.same_refl (q : Part) (s : State) : q.same s s := by cases q <;> rfl
theorem Part.same_symm (h : q.same s t) : q.same t s := by cases q <;> exact Eq.symm h
theorem Part.same_trans (h : q.same s t) (h' : q.same t u) : q.same s u := by cases q <;> exact h'.trans h

@[simp] theorem Frame.holds_refl : F.holds s s := ⟨fun q _ => q.same_refl s, fun _ _ => rfl⟩

theorem Frame.holds_symm (h : F.holds s t) : F.holds t s :=
  ⟨fun q hq => Part.same_symm (h.1 q hq), fun f hf => (h.2 f hf).symm⟩

theorem Frame.holds_trans (h : F.holds s t) (h' : F.holds t u) : F.holds s u :=
  ⟨fun q hq => Part.same_trans (h.1 q hq) (h'.1 q hq), fun f hf => (h'.2 f hf).trans (h.2 f hf)⟩

/-- A step within the frame may be dropped. -/
theorem Frame.holds_step (h : F.holds t u) : F.holds s u ↔ F.holds s t :=
  ⟨fun hu => F.holds_trans hu (F.holds_symm h), fun ht => F.holds_trans ht h⟩

/-- A field that the frame leaves is no field within it. -/
theorem Frame.key_ne_of_leaves {f g : RegField} (hg : inFrame F.pages F.fields g) (hf : F.leaves f) : f.key ≠ g.key := by
  intro e
  obtain ⟨hword, hlasttko, hpages, hfields⟩ := hf
  have hpage : f.pageOf = g.pageOf := by unfold RegField.pageOf; rw [e]
  rcases inFrame_iff.1 hg with h | h | h | ⟨x, hx, h⟩
  · exact hword (by unfold RegField.wordOf at h ⊢; rw [e]; exact h)
  · exact hlasttko (e.trans h)
  · obtain ⟨r, hr, hlo, hhi⟩ := covers_iff.1 h
    have := hpages r hr
    simp only at hlo hhi
    omega
  · exact hfields x hx (e.trans h)

theorem Frame.Within.leaves (h : a.Within b) {f : RegField} (hf : b.leaves f) : a.leaves f := by
  obtain ⟨-, hpages, hfields⟩ := h
  refine ⟨hf.1, hf.2.1, fun g hg => ?_, fun g hg => b.key_ne_of_leaves (hfields g hg) hf⟩
  obtain ⟨r, hr, hlo, hhi⟩ := covers_iff.1 (List.all_eq_true.1 hpages g hg)
  have := hf.2.2.1 r hr
  omega

/-- A larger frame names no less. -/
theorem Frame.Within.holds (h : a.Within b) (hs : a.holds s t) : b.holds s t :=
  ⟨fun q hq => hs.1 q fun ha => hq (of_decide_eq_true (List.all_eq_true.1 h.1 q ha)), fun f hf => hs.2 f (h.leaves hf)⟩

/-- A step within its footprint may be dropped from a chain within a frame that has the footprint. -/
theorem Frame.Within.step (h : a.Within F) (hs : a.holds t u) : F.holds s u ↔ F.holds s t := Frame.holds_step (h.holds hs)

/-- A command keeps what its effect keeps. -/
theorem Frame.holds_done {s' : State} (h : done s s' = .next t) (hs : F.holds s s') : F.holds s t := by
  refine ⟨fun q hq => ?_, fun f hf => (done_get h hf.1 hf.2.1).trans (hs.2 f hf)⟩
  have hpart := hs.1 q hq
  obtain ⟨r, x, rfl⟩ := done_frame h
  cases q <;> exact hpart

@[simp] theorem Frame.within_mk (ps : List Part) (gs : List (Nat × Nat)) (fs : List RegField) :
    Frame.Within ⟨ps, gs, fs⟩ F ↔ partsWithin ps F.parts = true ∧ gs.all (covers F.pages) = true ∧
      ∀ f ∈ fs, inFrame F.pages F.fields f := Iff.rfl

end

/-! #### The fields of a frame -/

section
variable {gs : List (Nat × Nat)} {fs : List RegField} {f : RegField}

/-- The field's repeats stay within its page. -/
def RegField.inPage (f : RegField) : Bool :=
  0 < f.n1 && 0 < f.n2 && f.word + f.n1 * f.s1 + f.n2 * f.s2 < 1024 && f.lo < 32

/-- The field's repeats stay within its page, and all its pages are among the ranges `gs`. -/
def onPages (gs : List (Nat × Nat)) (f : RegField) : Bool :=
  f.inPage && 0 < f.npages && f.page + f.npages ≤ 4096 && covers gs (f.page, f.page + f.npages - 1)

theorem RegField.pageOf_of_word_lt {f : RegField} (hw : f.word < 1024) (hlo : f.lo < 32) : f.pageOf = f.page % 4096 := by
  simp only [RegField.pageOf, RegField.key]
  omega

theorem RegField.inPage_iff : f.inPage = true ↔ 0 < f.n1 ∧ 0 < f.n2 ∧ f.word + f.n1 * f.s1 + f.n2 * f.s2 < 1024 ∧ f.lo < 32 := by
  simp [RegField.inPage, and_assoc]

theorem RegField.pageOf_eq (h : f.inPage = true) : f.pageOf = f.page % 4096 := by
  obtain ⟨-, -, hword, hlo⟩ := inPage_iff.1 h
  exact pageOf_of_word_lt (by omega) hlo

theorem RegField.pageOf_ix2 (h : f.inPage = true) (i j : Nat) : (f.ix2 i j).pageOf = f.page % 4096 := by
  obtain ⟨h1, h2, hword, hlo⟩ := inPage_iff.1 h
  have hi := Nat.mul_le_mul_right f.s1 (Nat.mod_lt i h1).le
  have hj := Nat.mul_le_mul_right f.s2 (Nat.mod_lt j h2).le
  exact pageOf_of_word_lt (by show f.word + i % f.n1 * f.s1 + j % f.n2 * f.s2 < 1024; omega) hlo

theorem RegField.pageOf_ix (h : f.inPage = true) (i : Nat) : (f.ix i).pageOf = f.page % 4096 := by
  obtain ⟨h1, -, hword, hlo⟩ := inPage_iff.1 h
  have hi := Nat.mul_le_mul_right f.s1 (Nat.mod_lt i h1).le
  exact pageOf_of_word_lt (by show f.word + i % f.n1 * f.s1 < 1024; omega) hlo

theorem covers_inst (h : onPages gs f = true) (n : Nat) :
    covers gs ((f.page + n % f.npages) % 4096, (f.page + n % f.npages) % 4096) = true := by
  simp only [onPages, Bool.and_eq_true, decide_eq_true_eq] at h
  obtain ⟨⟨⟨-, hpos⟩, hmap⟩, hcov⟩ := h
  obtain ⟨r, hr, hlo, hhi⟩ := covers_iff.1 hcov
  have := Nat.mod_lt n hpos
  exact covers_iff.2 ⟨r, hr, by simp only at *; omega, by simp only at *; omega⟩

theorem inPage_of_onPages (h : onPages gs f = true) : f.inPage = true := by
  simp only [onPages, Bool.and_eq_true] at h
  exact h.1.1.1

/-- A field that reads as standing on a page of the frame is within it. -/
theorem inFrame_of_pageOf {p : Nat} (h : f.pageOf = p % 4096) (hc : covers gs (p % 4096, p % 4096) = true) : inFrame gs fs f :=
  inFrame_iff.2 (.inr (.inr (.inl (by rwa [h]))))

@[simp] theorem inFrame_of_mem (h : f ∈ fs) : inFrame gs fs f := inFrame_iff.2 (.inr (.inr (.inr ⟨f, h, rfl⟩)))

/-- Where the frame has every page, every field is within it. -/
theorem inFrame_whole (h : covers gs (0, 0xFFF) = true) (f : RegField) : inFrame gs fs f := by
  obtain ⟨r, hr, hlo, hhi⟩ := covers_iff.1 h
  refine inFrame_iff.2 (.inr (.inr (.inl (covers_iff.2 ⟨r, hr, ?_, ?_⟩)))) <;> simp only [RegField.pageOf] at * <;> omega

@[simp] theorem inFrame_cons_whole (gs : List (Nat × Nat)) (fs : List RegField) (f : RegField) : inFrame ((0, 0xFFF) :: gs) fs f :=
  inFrame_whole (covers_cons_self _ _) f

section
variable (h : onPages gs f = true)
include h

@[simp] theorem inFrame_of_onPages : inFrame gs fs f :=
  inFrame_of_pageOf (RegField.pageOf_eq (inPage_of_onPages h)) (covers_inst h 0)

@[simp] theorem inFrame_inst (n : Nat) : inFrame gs fs (f.inst n) :=
  inFrame_of_pageOf (RegField.pageOf_eq (f := f.inst n) (show f.inPage = true from inPage_of_onPages h)) (covers_inst h n)

@[simp] theorem inFrame_ix (i : Nat) : inFrame gs fs (f.ix i) :=
  inFrame_of_pageOf (RegField.pageOf_ix (inPage_of_onPages h) i) (covers_inst h 0)

@[simp] theorem inFrame_ix2 (i j : Nat) : inFrame gs fs (f.ix2 i j) :=
  inFrame_of_pageOf (RegField.pageOf_ix2 (inPage_of_onPages h) i j) (covers_inst h 0)

@[simp] theorem inFrame_inst_ix (n i : Nat) : inFrame gs fs ((f.inst n).ix i) :=
  inFrame_of_pageOf (RegField.pageOf_ix (f := f.inst n) (show f.inPage = true from inPage_of_onPages h) i) (covers_inst h n)

@[simp] theorem inFrame_by (r : Nat) : inFrame gs fs (f.by r) :=
  inFrame_of_pageOf (RegField.pageOf_eq (f := f.by r) (inPage_of_onPages h)) (covers_inst h 0)

@[simp] theorem inFrame_by_ix (r i : Nat) : inFrame gs fs ((f.by r).ix i) :=
  inFrame_of_pageOf (RegField.pageOf_ix (f := f.by r) (inPage_of_onPages h) i) (covers_inst h 0)

@[simp] theorem inFrame_inst_by (n r : Nat) : inFrame gs fs ((f.inst n).by r) :=
  inFrame_of_pageOf (RegField.pageOf_eq (f := (f.inst n).by r) (show f.inPage = true from inPage_of_onPages h)) (covers_inst h n)
end

section
variable (h : f.inPage = true) {p : Nat} (hp : covers gs (p % 4096, p % 4096) = true)
include h hp

@[simp] theorem inFrame_onPage : inFrame gs fs (f.onPage p) := inFrame_of_pageOf (RegField.pageOf_eq (f := f.onPage p) h) hp

@[simp] theorem inFrame_onPage_by (r : Nat) : inFrame gs fs ((f.onPage p).by r) :=
  inFrame_of_pageOf (RegField.pageOf_eq (f := (f.onPage p).by r) h) hp

@[simp] theorem inFrame_onPage_by_ix (r i : Nat) : inFrame gs fs (((f.onPage p).by r).ix i) :=
  inFrame_of_pageOf (RegField.pageOf_ix (f := (f.onPage p).by r) h i) hp
end
end

/-! #### The steps of which operations are made -/

section
variable {F : Frame} {s u : State}

/-- The choice may be decided in any way: a rewritten condition keeps the decision procedure of the one that stood before. -/
@[simp] theorem holds_ite {c : Prop} {d : Decidable c} (a b : State) :
    F.holds s (if c then a else b) ↔ (c → F.holds s a) ∧ (¬ c → F.holds s b) := by split <;> simp [*]

@[simp] theorem holds_foldl {α : Type} {f : State → α → State} (h : ∀ u a, F.holds u (f u a)) (l : List α) :
    F.holds s (l.foldl f u) ↔ F.holds s u := by
  induction l generalizing u with
  | nil => rfl
  | cons a l ih => rw [List.foldl_cons, ih, Frame.holds_step (h u a)]

@[simp] theorem holds_set {f : RegField} (h : inFrame F.pages F.fields f) (v : Nat) : F.holds s (u.set f v) ↔ F.holds s u :=
  Frame.holds_step ⟨fun q _ => by cases q <;> rfl, fun _ hg => State.get_set_ne (F.key_ne_of_leaves h hg) u v⟩

@[simp] theorem holds_raise {f : RegField} (h : inFrame F.pages F.fields f) : F.holds s (u.raise f) ↔ F.holds s u := holds_set h 1
@[simp] theorem holds_setBit {f : RegField} (h : inFrame F.pages F.fields f) (b : Bool) :
    F.holds s (u.setBit f b) ↔ F.holds s u := holds_set h _
@[simp] theorem holds_countSat {f : RegField} (h : inFrame F.pages F.fields f) (n : Nat) :
    F.holds s (u.countSat f n) ↔ F.holds s u := holds_set h _
@[simp] theorem holds_countWrap {f : RegField} (h : inFrame F.pages F.fields f) (n : Nat) :
    F.holds s (u.countWrap f n) ↔ F.holds s u := holds_set h _

/-- A step that changes parts of the frame only. -/
theorem holds_of_parts {t : State} (hregs : t.regs = u.regs) (h : ∀ q, q ∉ F.parts → q.same u t) : F.holds s t ↔ F.holds s u :=
  Frame.holds_step ⟨h, fun f _ => congrArg (regRead · f) hregs⟩

@[simp] theorem holds_reach (n : Nat) : F.holds s (u.reach n) ↔ F.holds s u := holds_of_parts rfl fun q _ => by cases q <;> rfl
@[simp] theorem holds_drawn : F.holds s u.drawn ↔ F.holds s u := holds_of_parts rfl fun q _ => by cases q <;> rfl

@[simp] theorem holds_emit (h : .out ∈ F.parts) (o : Out) : F.holds s (u.emit o) ↔ F.holds s u :=
  holds_of_parts rfl fun q hq => by cases q <;> simp_all [Part.same]
@[simp] theorem holds_emitAll (h : .out ∈ F.parts) (os : List Out) : F.holds s (u.emitAll os) ↔ F.holds s u :=
  holds_of_parts rfl fun q hq => by cases q <;> simp_all [Part.same]

/-! A store to a placed field, by the pages of the field that is placed. -/

section
variable {f : RegField} (h : onPages F.pages f = true)
include h

@[simp] theorem holds_set_of_onPages (v : Nat) : F.holds s (u.set f v) ↔ F.holds s u := holds_set (inFrame_of_onPages h) v
@[simp] theorem holds_set_inst (n v : Nat) : F.holds s (u.set (f.inst n) v) ↔ F.holds s u := holds_set (inFrame_inst h n) v
@[simp] theorem holds_set_ix (i v : Nat) : F.holds s (u.set (f.ix i) v) ↔ F.holds s u := holds_set (inFrame_ix h i) v
@[simp] theorem holds_set_ix2 (i j v : Nat) : F.holds s (u.set (f.ix2 i j) v) ↔ F.holds s u := holds_set (inFrame_ix2 h i j) v
@[simp] theorem holds_set_inst_ix (n i v : Nat) : F.holds s (u.set ((f.inst n).ix i) v) ↔ F.holds s u :=
  holds_set (inFrame_inst_ix h n i) v
@[simp] theorem holds_set_by (r v : Nat) : F.holds s (u.set (f.by r) v) ↔ F.holds s u := holds_set (inFrame_by h r) v
@[simp] theorem holds_set_by_ix (r i v : Nat) : F.holds s (u.set ((f.by r).ix i) v) ↔ F.holds s u :=
  holds_set (inFrame_by_ix h r i) v
@[simp] theorem holds_set_inst_by (n r v : Nat) : F.holds s (u.set ((f.inst n).by r) v) ↔ F.holds s u :=
  holds_set (inFrame_inst_by h n r) v
end

section
variable {f : RegField} (h : f.inPage = true) {p : Nat} (hp : covers F.pages (p % 4096, p % 4096) = true)
include h hp

@[simp] theorem holds_set_onPage (v : Nat) : F.holds s (u.set (f.onPage p) v) ↔ F.holds s u := holds_set (inFrame_onPage h hp) v
@[simp] theorem holds_set_onPage_by (r v : Nat) : F.holds s (u.set ((f.onPage p).by r) v) ↔ F.holds s u :=
  holds_set (inFrame_onPage_by h hp r) v
@[simp] theorem holds_set_onPage_by_ix (r i v : Nat) : F.holds s (u.set (((f.onPage p).by r).ix i) v) ↔ F.holds s u :=
  holds_set (inFrame_onPage_by_ix h hp r i) v
end

/-- Where the frame has every page, every store is within it. -/
@[simp] theorem holds_set_whole (h : covers F.pages (0, 0xFFF) = true) (f : RegField) (v : Nat) :
    F.holds s (u.set f v) ↔ F.holds s u := holds_set (inFrame_whole h f) v

/-! One rule per part of the state that is replaced. -/

@[simp] theorem holds_with_out (h : .out ∈ F.parts) (x : List Out) : F.holds s { u with out := x } ↔ F.holds s u :=
  holds_of_parts rfl fun q hq => by cases q <;> simp_all [Part.same]
@[simp] theorem holds_with_keys (h : .keys ∈ F.parts) (x : Table KeyState) : F.holds s { u with keys := x } ↔ F.holds s u :=
  holds_of_parts rfl fun q hq => by cases q <;> simp_all [Part.same]
@[simp] theorem holds_with_sessions (h : .sessions ∈ F.parts) (x : Table Session) : F.holds s { u with sessions := x } ↔ F.holds s u :=
  holds_of_parts rfl fun q hq => by cases q <;> simp_all [Part.same]
@[simp] theorem holds_with_log (h : .log ∈ F.parts) (x : LogState) : F.holds s { u with log := x } ↔ F.holds s u :=
  holds_of_parts rfl fun q hq => by cases q <;> simp_all [Part.same]
@[simp] theorem holds_with_rtc (h : .rtc ∈ F.parts) (x : RtcState) : F.holds s { u with rtc := x } ↔ F.holds s u :=
  holds_of_parts rfl fun q hq => by cases q <;> simp_all [Part.same]
@[simp] theorem holds_with_time (h : .time ∈ F.parts) (x : TimeBase) : F.holds s { u with time := x } ↔ F.holds s u :=
  holds_of_parts rfl fun q hq => by cases q <;> simp_all [Part.same]
@[simp] theorem holds_with_sheets (h : .sheets ∈ F.parts) (x : SheetState) : F.holds s { u with sheets := x } ↔ F.holds s u :=
  holds_of_parts rfl fun q hq => by cases q <;> simp_all [Part.same]
@[simp] theorem holds_with_lane (h : .lane ∈ F.parts) (x : LaneState) : F.holds s { u with lane := x } ↔ F.holds s u :=
  holds_of_parts rfl fun q hq => by cases q <;> simp_all [Part.same]
@[simp] theorem holds_with_pt (h : .pt ∈ F.parts) (x : PointState) : F.holds s { u with pt := x } ↔ F.holds s u :=
  holds_of_parts rfl fun q hq => by cases q <;> simp_all [Part.same]
@[simp] theorem holds_with_prpt (h : .prpt ∈ F.parts) (x : ParapetState) : F.holds s { u with prpt := x } ↔ F.holds s u :=
  holds_of_parts rfl fun q hq => by cases q <;> simp_all [Part.same]
@[simp] theorem holds_with_seg (h : .seg ∈ F.parts) (x : SegState) : F.holds s { u with seg := x } ↔ F.holds s u :=
  holds_of_parts rfl fun q hq => by cases q <;> simp_all [Part.same]
@[simp] theorem holds_with_pbus (h : .pbus ∈ F.parts) (x : Table PbusPort) : F.holds s { u with pbus := x } ↔ F.holds s u :=
  holds_of_parts rfl fun q hq => by cases q <;> simp_all [Part.same]
@[simp] theorem holds_with_mem (h : .mem ∈ F.parts) (x : List Host.Cell) : F.holds s { u with mem := x } ↔ F.holds s u :=
  holds_of_parts rfl fun q hq => by cases q <;> simp_all [Part.same]
@[simp] theorem holds_with_cle (h : .cle ∈ F.parts) (x : ControlState) : F.holds s { u with cle := x } ↔ F.holds s u :=
  holds_of_parts rfl fun q hq => by cases q <;> simp_all [Part.same]
@[simp] theorem holds_with_cte (h : .cte ∈ F.parts) (x : CteState) : F.holds s { u with cte := x } ↔ F.holds s u :=
  holds_of_parts rfl fun q hq => by cases q <;> simp_all [Part.same]
@[simp] theorem holds_with_mtr (h : .mtr ∈ F.parts) (x : MeterState) : F.holds s { u with mtr := x } ↔ F.holds s u :=
  holds_of_parts rfl fun q hq => by cases q <;> simp_all [Part.same]
@[simp] theorem holds_with_via (h : .via ∈ F.parts) (x : ViaState) : F.holds s { u with via := x } ↔ F.holds s u :=
  holds_of_parts rfl fun q hq => by cases q <;> simp_all [Part.same]
@[simp] theorem holds_with_uplinks (h : .uplinks ∈ F.parts) (x : Table UplinkState) : F.holds s { u with uplinks := x } ↔ F.holds s u :=
  holds_of_parts rfl fun q hq => by cases q <;> simp_all [Part.same]
@[simp] theorem holds_with_pair (h : .pair ∈ F.parts) (x : PairState) : F.holds s { u with pair := x } ↔ F.holds s u :=
  holds_of_parts rfl fun q hq => by cases q <;> simp_all [Part.same]
@[simp] theorem holds_with_abut (h : .abut ∈ F.parts) (x : Table AbutPair) : F.holds s { u with abut := x } ↔ F.holds s u :=
  holds_of_parts rfl fun q hq => by cases q <;> simp_all [Part.same]
@[simp] theorem holds_with_pwr (h : .pwr ∈ F.parts) (x : PowerState) : F.holds s { u with pwr := x } ↔ F.holds s u :=
  holds_of_parts rfl fun q hq => by cases q <;> simp_all [Part.same]
@[simp] theorem holds_with_clk (h : .clk ∈ F.parts) (x : ClockState) : F.holds s { u with clk := x } ↔ F.holds s u :=
  holds_of_parts rfl fun q hq => by cases q <;> simp_all [Part.same]
@[simp] theorem holds_with_fab (h : .fab ∈ F.parts) (x : FabricState) : F.holds s { u with fab := x } ↔ F.holds s u :=
  holds_of_parts rfl fun q hq => by cases q <;> simp_all [Part.same]
@[simp] theorem holds_with_enc (h : .enc ∈ F.parts) (x : EnclaveState) : F.holds s { u with enc := x } ↔ F.holds s u :=
  holds_of_parts rfl fun q hq => by cases q <;> simp_all [Part.same]
@[simp] theorem holds_with_upd (h : .upd ∈ F.parts) (x : UpdateState) : F.holds s { u with upd := x } ↔ F.holds s u :=
  holds_of_parts rfl fun q hq => by cases q <;> simp_all [Part.same]
@[simp] theorem holds_with_uio (h : .uio ∈ F.parts) (x : UioState) : F.holds s { u with uio := x } ↔ F.holds s u :=
  holds_of_parts rfl fun q hq => by cases q <;> simp_all [Part.same]
@[simp] theorem holds_with_acc (h : .acc ∈ F.parts) (x : AccessState) : F.holds s { u with acc := x } ↔ F.holds s u :=
  holds_of_parts rfl fun q hq => by cases q <;> simp_all [Part.same]
@[simp] theorem holds_with_lift (h : .lift ∈ F.parts) (x : LiftState) : F.holds s { u with lift := x } ↔ F.holds s u :=
  holds_of_parts rfl fun q hq => by cases q <;> simp_all [Part.same]
@[simp] theorem holds_with_pwr_clk (ha : .pwr ∈ F.parts) (hb : .clk ∈ F.parts) (x : PowerState) (y : ClockState) :
    F.holds s { u with pwr := x, clk := y } ↔ F.holds s u :=
  holds_of_parts rfl fun q hq => by cases q <;> simp_all [Part.same]
@[simp] theorem holds_with_pt_via (ha : .pt ∈ F.parts) (hb : .via ∈ F.parts) (x : PointState) (y : ViaState) :
    F.holds s { u with pt := x, via := y } ↔ F.holds s u :=
  holds_of_parts rfl fun q hq => by cases q <;> simp_all [Part.same]
@[simp] theorem holds_with_seg_pwr (ha : .seg ∈ F.parts) (hb : .pwr ∈ F.parts) (x : SegState) (y : PowerState) :
    F.holds s { u with seg := x, pwr := y } ↔ F.holds s u :=
  holds_of_parts rfl fun q hq => by cases q <;> simp_all [Part.same]
@[simp] theorem holds_with_sessions_upd (ha : .sessions ∈ F.parts) (hb : .upd ∈ F.parts) (x : Table Session) (y : UpdateState) :
    F.holds s { u with sessions := x, upd := y } ↔ F.holds s u :=
  holds_of_parts rfl fun q hq => by cases q <;> simp_all [Part.same]
@[simp] theorem holds_with_log_pt (ha : .log ∈ F.parts) (hb : .pt ∈ F.parts) (x : LogState) (y : PointState) :
    F.holds s { u with log := x, pt := y } ↔ F.holds s u :=
  holds_of_parts rfl fun q hq => by cases q <;> simp_all [Part.same]

/-! The same steps in a state that is written out field by field, as a step that replaces several parts at once leaves it. -/

section
variable {r : Table Nat} {n c : Nat} {x₁ : List Instr} {x₂ : List Out} {x₃ : Table KeyState} {x₄ : Table Session} {x₅ : LogState}
  {x₆ : RtcState} {x₇ : TimeBase} {x₈ : SheetState} {x₉ : LaneState} {y₁ : PointState} {y₂ : ParapetState} {y₃ : SegState}
  {y₄ : Table PbusPort} {y₅ : List Host.Cell} {y₆ : ControlState} {y₇ : CteState} {y₈ : MeterState} {y₉ : ViaState}
  {z₁ : Table UplinkState} {z₂ : PairState} {z₃ : Table AbutPair} {z₄ : PowerState} {z₅ : ClockState} {z₆ : FabricState}
  {z₇ : EnclaveState} {z₈ : UpdateState} {z₉ : UioState} {w₁ : AccessState} {w₂ : LiftState}

@[simp] theorem holds_mk_regWrite {f : RegField} (h : inFrame F.pages F.fields f) (v : Nat) :
    F.holds s ⟨regWrite r f v, n, c, x₁, x₂, x₃, x₄, x₅, x₆, x₇, x₈, x₉, y₁, y₂, y₃, y₄, y₅, y₆, y₇, y₈, y₉, z₁, z₂, z₃, z₄, z₅, z₆,
      z₇, z₈, z₉, w₁, w₂⟩ ↔
    F.holds s ⟨r, n, c, x₁, x₂, x₃, x₄, x₅, x₆, x₇, x₈, x₉, y₁, y₂, y₃, y₄, y₅, y₆, y₇, y₈, y₉, z₁, z₂, z₃, z₄, z₅, z₆, z₇, z₈, z₉,
      w₁, w₂⟩ :=
  holds_set (u := ⟨r, n, c, x₁, x₂, x₃, x₄, x₅, x₆, x₇, x₈, x₉, y₁, y₂, y₃, y₄, y₅, y₆, y₇, y₈, y₉, z₁, z₂, z₃, z₄, z₅, z₆, z₇, z₈, z₉,
    w₁, w₂⟩) h v

@[simp] theorem holds_mk_max (d : Nat) :
    F.holds s ⟨r, max n d, c, x₁, x₂, x₃, x₄, x₅, x₆, x₇, x₈, x₉, y₁, y₂, y₃, y₄, y₅, y₆, y₇, y₈, y₉, z₁, z₂, z₃, z₄, z₅, z₆,
      z₇, z₈, z₉, w₁, w₂⟩ ↔
    F.holds s ⟨r, n, c, x₁, x₂, x₃, x₄, x₅, x₆, x₇, x₈, x₉, y₁, y₂, y₃, y₄, y₅, y₆, y₇, y₈, y₉, z₁, z₂, z₃, z₄, z₅, z₆, z₇, z₈, z₉,
      w₁, w₂⟩ :=
  holds_reach (u := ⟨r, n, c, x₁, x₂, x₃, x₄, x₅, x₆, x₇, x₈, x₉, y₁, y₂, y₃, y₄, y₅, y₆, y₇, y₈, y₉, z₁, z₂, z₃, z₄, z₅, z₆, z₇, z₈, z₉,
    w₁, w₂⟩) d

@[simp] theorem holds_mk_drawn (k : Nat) :
    F.holds s ⟨r, n, c + k, x₁, x₂, x₃, x₄, x₅, x₆, x₇, x₈, x₉, y₁, y₂, y₃, y₄, y₅, y₆, y₇, y₈, y₉, z₁, z₂, z₃, z₄, z₅, z₆,
      z₇, z₈, z₉, w₁, w₂⟩ ↔
    F.holds s ⟨r, n, c, x₁, x₂, x₃, x₄, x₅, x₆, x₇, x₈, x₉, y₁, y₂, y₃, y₄, y₅, y₆, y₇, y₈, y₉, z₁, z₂, z₃, z₄, z₅, z₆, z₇, z₈, z₉,
      w₁, w₂⟩ := holds_of_parts rfl fun q _ => by cases q <;> rfl
end

end
end Sys2Proof.Machine

/-! ### Sessions (R65 to R68)

What opens and closes a session, and which requests it answers: the page PAP shows the eight slots, and the record of a session is
erased whole when it closes. -/

namespace Sys2Proof.Machine

/-- What every step keeps, a fold of the steps keeps. -/
theorem foldl_keeps {α β : Type} {f : State → α → State} (g : State → β) (h : ∀ u a, g (f u a) = g u) (l : List α) (s : State) :
    g (l.foldl f s) = g s := by
  induction l generalizing s with
  | nil => rfl
  | cons a l ih => rw [List.foldl_cons, ih, h]

@[simp] theorem foldl_set_now {α : Type} (f : α → RegField) (v : α → Nat) (l : List α) (s : State) :
    (l.foldl (fun s a => s.set (f a) (v a)) s).now = s.now := foldl_keeps State.now (fun u a => State.set_now u (f a) (v a)) l s

@[simp] theorem foldl_set_sessions {α : Type} (f : α → RegField) (v : α → Nat) (l : List α) (s : State) :
    (l.foldl (fun s a => s.set (f a) (v a)) s).sessions = s.sessions := foldl_keeps State.sessions (fun u a => State.set_sessions u (f a) (v a)) l s

section
variable {F : Frame} {s u : State}

@[simp] theorem holds_encDropCopy (h : Frame.Within ⟨[.enc], [], []⟩ F) (k : Nat) : F.holds s (encDropCopy k u) ↔ F.holds s u :=
  h.step (by simp +decide [encDropCopy])

@[simp] theorem holds_breakLocks (h : Frame.Within ⟨[], [(9, 9)], []⟩ F) (owned : Nat → Nat → Bool) :
    F.holds s (breakLocks owned u) ↔ F.holds s u :=
  h.step (by simp +decide [breakLocks])

@[simp] theorem holds_clearSlot (h : Frame.Within ⟨[], [(0x183, 0x183)], []⟩ F) (k : Nat) :
    F.holds s (clearSlot k u) ↔ F.holds s u :=
  h.step (by simp +decide [clearSlot])

@[simp] theorem holds_closeSession (h : Frame.Within ⟨[.sessions, .upd, .enc], [(0x009, 0x009), (0x183, 0x183), (0x184, 0x184), (0x190, 0x190)], []⟩ F) (k : Nat) :
    F.holds s (closeSession k u) ↔ F.holds s u :=
  h.step (by
    unfold closeSession
    simp +decide)
end
section
variable (s : State) (k : Nat)

theorem breakLocks_keeps {β : Type} (g : State → β) (h : ∀ u f v, g (State.set u f v) = g u) (owned : Nat → Nat → Bool) :
    g (breakLocks owned s) = g s :=
  foldl_keeps g (fun u n => by split <;> simp [h]) _ s

@[simp] theorem breakLocks_now (owned : Nat → Nat → Bool) : (breakLocks owned s).now = s.now :=
  breakLocks_keeps s (·.now) (fun _ _ _ => rfl) owned

@[simp] theorem breakLocks_sessions (owned : Nat → Nat → Bool) : (breakLocks owned s).sessions = s.sessions :=
  breakLocks_keeps s (·.sessions) (fun _ _ _ => rfl) owned

@[simp] theorem encDropCopy_now : (encDropCopy k s).now = s.now := rfl
@[simp] theorem encDropCopy_sessions : (encDropCopy k s).sessions = s.sessions := rfl
@[simp] theorem clearSlot_now : (clearSlot k s).now = s.now := rfl
@[simp] theorem clearSlot_sessions : (clearSlot k s).sessions = s.sessions := rfl

@[simp] theorem closeSession_now : (closeSession k s).now = s.now := by
  unfold closeSession
  split
  · rfl
  · extract_lets upd s₁ s₂
    have h : s₂.now = s.now := by simp [s₂, s₁]
    split
    · rw [clearSlot_now, h]
    · split
      · simp [h]
      · rw [State.set_now, h]

/-- A session that closes leaves no record. -/
theorem closeSession_sessions (h : sessionOpen s k = true) : (closeSession k s).sessions = tabErase k s.sessions := by
  unfold closeSession
  rw [if_neg (by simp [h])]
  extract_lets upd s₁ s₂
  have h₂ : s₂.sessions = tabErase k s.sessions := by simp [s₂, s₁]
  split
  · rw [clearSlot_sessions, h₂]
  · split
    · simp [h₂]
    · rw [State.set_sessions, h₂]

theorem sessionOpen_closeSession : sessionOpen (closeSession k s) k = false := by
  by_cases h : sessionOpen s k = true
  · simp [sessionOpen, closeSession_sessions s k h]
  · rw [closeSession, if_pos (by simpa using h)]
    simpa using h

end

end Sys2Proof.Machine

/-! ### Requests of a connection that are served at once (R63, R70 to R76) -/

namespace Sys2Proof.Machine

/-- A second store at a key replaces the first. -/
theorem tabInsert_insert {α : Type} (k : Nat) (v w : α) (t : Table α) : tabInsert k v (tabInsert k w t) = tabInsert k v t := by
  induction t with
  | nil => simp [tabInsert]
  | cons e t ih =>
    by_cases h1 : k < e.1
    · simp [tabInsert, h1]
    · by_cases h2 : e.1 = k
      · simp [tabInsert, h2]
      · simp [tabInsert, h1, h2, ih]

theorem setSession_setSession (k : Nat) (x y : Session) (s : State) : setSession k x (setSession k y s) = setSession k x s := by
  simp [setSession, tabInsert_insert]

/-- The record of a connection whose request is served: it has been heard (R68), and a PAP session has paid a token (R63). -/
def servedSession (k : Nat) (s : State) : Session :=
  let x : Session := tabGet {} s.sessions k
  { x with lastRequest := s.now, tokens := if k < 8 then tokensOf s k - 1000000 else x.tokens,
           tokensAt := if k < 8 then s.now else x.tokensAt }

/-- The machine as a request that is served finds it. -/
def served (k : Nat) (s : State) : State := setSession k (servedSession k s) s

section
variable {s u : State} {conn : Option (Fin 8)} {op : Nat} {q : PapRequest} {k : Nat}

theorem connCopy_lt_iff : connCopy conn < 8 ↔ conn.isSome = true := by
  cases conn with
  | none => decide
  | some k => exact ⟨fun _ => rfl, fun _ => k.isLt⟩

@[simp] theorem session_heard : (tabGet {} (heard k s).sessions k : Session) = { (tabGet {} s.sessions k : Session) with lastRequest := s.now } := by
  simp [heard, setSession]

@[simp] theorem session_served : (tabGet {} (served k s).sessions k : Session) = servedSession k s := by simp [served, setSession]

@[simp] theorem tokensOf_heard : tokensOf (heard k s) k = tokensOf s k := by
  unfold tokensOf
  rw [session_heard]
  rfl

theorem heard_eq_served (h : ¬ k < 8) : heard k s = served k s := by
  simp [heard, served, servedSession, h]

theorem takeToken_heard (hk : k < 8) (h : 1000000 ≤ tokensOf s k) : takeToken k (heard k s) = some (served k s) := by
  unfold takeToken
  simp only [tokensOf_heard, session_heard]
  rw [if_neg (by omega)]
  exact congrArg some ((setSession_setSession k _ _ s).trans (by simp [served, servedSession, hk]; rfl))

theorem keptResponse_served (tag : Nat) : keptResponse (served k s) k tag = keptResponse s k tag := by
  unfold keptResponse
  rw [session_served]
  rfl

theorem dozeWake_of_not_doze (h : s.bit Reg.MODE_PWRST_DOZE = false) : dozeWake s = s := by simp [dozeWake, h]

/-- A request whose form is right carries the byte of its operation. -/
theorem papOp_of_formStatus (h : formStatus k op q = 0) : papOp op q = op := by
  unfold papOp
  split
  · next o ho =>
    rw [formStatus, ho] at h
    split at h <;> simp at h
  · rfl

/-- A request that is ready is served at once, and answered with what its operation gives. -/
theorem papRequest_served {i : Instr} {body : State → Option (Nat × List Nat) × State} {st : Nat} {d : List Nat}
    (h : papReady s conn op q)
    (hrun : ∀ v, papRun s (connCopy conn) i v = papServe s (connCopy conn) op q body v)
    (hbody : body (served (connCopy conn) s) = (some (st, d), u)) (hopen : sessionOpen u (connCopy conn) = true) :
    papRequest (connCopy conn) i s = papAnswer s (connCopy conn) op q.tag.toNat q.arg.toNat st d u := by
  obtain ⟨hup, hdoze, hwaits, hkept, htokens, hform⟩ := h
  have htoken : (if connCopy conn < 8 then takeToken (connCopy conn) (heard (connCopy conn) s)
      else some (heard (connCopy conn) s)) = some (served (connCopy conn) s) := by
    split
    · next hk => exact takeToken_heard hk (htokens (connCopy_lt_iff.1 hk))
    · next hk => rw [heard_eq_served hk]
  have hheard : (tabGet {} (heard (connCopy conn) s).sessions (connCopy conn) : Session).waits = [] := by
    rw [session_heard]; exact hwaits
  rw [papRequest, papArrive, if_neg (by simp [hup]), dozeWake_of_not_doze hdoze]
  dsimp only
  rw [hheard, if_pos List.isEmpty_nil, hrun, papServe, htoken]
  dsimp only
  rw [keptResponse_served, hkept]
  dsimp only
  rw [if_neg (by simp [hform]), hbody]
  dsimp only
  rw [if_pos hopen, papOp_of_formStatus hform]

/-- What the count of a response keeps: everything but registers. -/
theorem countResponse_regs (st : Nat) : ∃ r, countResponse k st u = { u with regs := r } := by
  unfold countResponse
  split
  · exact ⟨u.regs, rfl⟩
  · extract_lets w
    have hw : ∃ r, w = { u with regs := r } := by unfold w; split <;> exact ⟨_, rfl⟩
    obtain ⟨r, hr⟩ := hw
    rw [hr]
    split
    · exact ⟨r, rfl⟩
    · split <;> exact ⟨_, rfl⟩

/-- An answer leaves the module last. -/
theorem papAnswer_out (s₀ : State) (tag arg st : Nat) (d : List Nat) : ∃ r : PapResponse,
    (papAnswer s₀ k op tag arg st d u).out = u.out ++ [.papResponse k r] ∧ r.op = op ||| 0x80 ∧ r.tag = tag ∧ r.arg = arg ∧
      r.status = st ∧ r.data = d := by
  obtain ⟨x, hx⟩ := countResponse_regs (u := u) (k := k) st
  unfold papAnswer
  rw [hx]
  dsimp only
  split <;> exact ⟨_, rfl, rfl, rfl, rfl, rfl, rfl⟩

/-- An answer changes in the record of its connection the responses kept only. -/
theorem papAnswer_session (s₀ : State) (tag arg st : Nat) (d : List Nat) : ∃ rs,
    (tabGet {} (papAnswer s₀ k op tag arg st d u).sessions k : Session) = { (tabGet {} u.sessions k : Session) with kept := rs } := by
  obtain ⟨x, hx⟩ := countResponse_regs (u := u) (k := k) st
  unfold papAnswer
  rw [hx]
  dsimp only
  split
  · exact ⟨_, rfl⟩
  · exact ⟨_, tabGet_insert_same _ _ _ _⟩

/-- The response to a request, by the answer that ends its command. -/
theorem papResponded_of_answer {t : State} {st : Nat} {d : List Nat}
    (ht : done s (papAnswer s (connCopy conn) op q.tag.toNat q.arg.toNat st d u) = .next t) (hout : u.out = s.out) :
    papResponded s t conn op q st d := by
  obtain ⟨r, hr, hfields⟩ := papAnswer_out (u := u) (k := connCopy conn) (op := op) s q.tag.toNat q.arg.toNat st d
  exact ⟨r, by rw [done_out ht, hr, hout], hfields⟩

theorem sessionOpen_served (h : papReady s conn op q) : sessionOpen (served (connCopy conn) s) (connCopy conn) = true := by
  obtain ⟨hup, -⟩ := h
  rw [sessionOpen, session_served]
  simp only [papUp, Bool.and_eq_true] at hup
  exact hup.1.1.1.1

end

/-! #### Frames -/

section
variable {F : Frame} {s u : State} (h : Frame.Within ⟨[.sessions], [], []⟩ F) (k : Nat)
include h

@[simp] theorem holds_setSession (x : Session) : F.holds s (setSession k x u) ↔ F.holds s u := h.step (by simp +decide [setSession])

@[simp] theorem holds_served : F.holds s (served k u) ↔ F.holds s u := h.step (by simp +decide [served])
end

section
variable {F : Frame} {s u : State} (k : Nat)

@[simp] theorem holds_countResponse (h : Frame.Within ⟨[], [(0x183, 0x183)], []⟩ F) (st : Nat) :
    F.holds s (countResponse k st u) ↔ F.holds s u := h.step (by simp +decide [countResponse])

@[simp] theorem holds_papAnswer (h : Frame.Within ⟨[.out, .sessions], [(0x183, 0x183)], []⟩ F) (s₀ : State)
    (op tag arg st : Nat) (d : List Nat) : F.holds s (papAnswer s₀ k op tag arg st d u) ↔ F.holds s u :=
  h.step (by simp +decide [papAnswer])
end

end Sys2Proof.Machine
namespace Sys2Proof.Machine

/-! ### What opens and closes sessions -/

/-- Settles O13: a session that closes leaves no record, and the answer to a NOP keeps the record in which it was just heard. -/
theorem sessionIdleClose : Obligations.SessionIdleClose := by
  unfold Obligations.SessionIdleClose
  refine ⟨fun s k hopen => done_completes fun t ht => ?idle, fun s k q hready => ?nop⟩
  case idle =>
    rw [if_pos hopen] at ht
    refine ⟨?_, done_now_of_reach ht (closeSession_now _ _)⟩
    rw [sessionOpen, done_sessions ht]
    exact sessionOpen_closeSession _ k.val
  case nop =>
    have hopen := sessionOpen_served hready
    have hrequest := papRequest_served (i := .papNop (some k) q) hready (fun _ => rfl) rfl hopen
    show ∃ t, done s (papRequest k.val (.papNop (some k) q) s) = .next t ∧ _
    rw [show papRequest k.val (.papNop (some k) q) s = _ from hrequest]
    refine done_completes fun t ht => ?_
    obtain ⟨rs, hsession⟩ := papAnswer_session (u := served k.val s) (k := k.val) (op := 6) s q.tag.toNat q.arg.toNat 0 []
    refine ⟨papResponded_of_answer ht rfl, ?_, ?_⟩
    · rw [sessionOpen, done_sessions ht]
      exact (congrArg Session.opened hsession).trans hopen
    · rw [done_sessions ht]
      exact (congrArg Session.lastRequest hsession).trans (by rw [session_served]; rfl)

/-! #### The fields of a slot -/

/-- A fold of stores changes no field of another key. -/
theorem get_foldl_set_ne {α : Type} {f : α → RegField} {v : α → Nat} {g : RegField} {l : List α}
    (h : ∀ a ∈ l, g.key ≠ (f a).key) (s : State) : (l.foldl (fun s a => s.set (f a) (v a)) s).get g = s.get g := by
  induction l generalizing s with
  | nil => rfl
  | cons a l ih =>
    rw [List.foldl_cons, ih fun b hb => h b (List.mem_cons_of_mem _ hb), State.get_set_ne (h a List.mem_cons_self)]

/-- A field that is stored neither among the lanes of a slot nor as the mask of open slots. -/
theorem get_slotLanes {g : RegField} {k : Nat} (hlanes : ∀ j ∈ List.range 8, g.key ≠ (Reg.PAP_SLANES_BITS.ix2 k j).key)
    (hmask : g.key ≠ Reg.PAP_SESS_OPEN.key) (v : Nat → Nat) (m : Nat) (s : State) :
    (((List.range 8).foldl (fun s j => s.set (Reg.PAP_SLANES_BITS.ix2 k j) (v j)) s).set Reg.PAP_SESS_OPEN m).get g = s.get g := by
  rw [State.get_set_ne hmask, get_foldl_set_ne hlanes]

theorem sinfoOpen_apart : ∀ k < 8, ∀ j ∈ List.range 8,
    (Reg.PAP_SINFO_OPEN.ix k).key ≠ (Reg.PAP_SLANES_BITS.ix2 k j).key := by decide

theorem sinfoUplink_apart : ∀ k < 8, ∀ j ∈ List.range 8,
    (Reg.PAP_SINFO_UPLINK.ix k).key ≠ (Reg.PAP_SLANES_BITS.ix2 k j).key := by decide

theorem slotFields_apart : ∀ k < 8, (Reg.PAP_SINFO_OPEN.ix k).key ≠ (Reg.PAP_SINFO_UPLINK.ix k).key ∧
    (Reg.PAP_SINFO_OPEN.ix k).key ≠ Reg.PAP_SESS_OPEN.key ∧ (Reg.PAP_SINFO_UPLINK.ix k).key ≠ Reg.PAP_SESS_OPEN.key := by decide

theorem clearSlot_open {k : Nat} (hk : k < 8) (s : State) : (clearSlot k s).get (Reg.PAP_SINFO_OPEN.ix k) = 0 := by
  obtain ⟨huplink, hmask, -⟩ := slotFields_apart k hk
  rw [clearSlot, get_slotLanes (sinfoOpen_apart k hk) hmask (fun _ => 0), State.get_set_ne huplink, State.get_set_same,
    Nat.zero_mod]

theorem closeSession_slot {s : State} {k : Nat} (hk : k < 8) (h : sessionOpen s k = true) :
    (closeSession k s).get (Reg.PAP_SINFO_OPEN.ix k) = 0 := by
  rw [closeSession, if_neg (by simp [h])]
  dsimp only
  rw [if_pos hk, clearSlot_open hk]

theorem closeSession_service {s : State} (h : sessionOpen s 9 = true) : (closeSession 9 s).get Reg.SVC_STAT_CONN = 0 := by
  rw [closeSession, if_neg (by simp [h])]
  dsimp only
  rw [if_neg (by decide), if_pos rfl, get_foldl_set_ne (by decide), State.get_set_same, Nat.zero_mod]

/-! #### The handshake -/

/-- A client that comes to the port of PAP by an uplink that takes it, offers an option of R64, and finds entropy. -/
abbrev papKnocks (p : Fin 2) (udp : BitVec 16) (o : DtlsOffer) (s : State) : Prop :=
  papAccepts s = true ∧ udp.toNat = s.get Reg.PAP_CFG_PORT ∧ dtlsOk o = true ∧ s.get Reg.ENC_STAT_ENTOK = 1 ∧
    s.bit (if p.val = 0 then Reg.PAP_CFG_V0EN else Reg.PAP_CFG_V1EN) = true ∧ uplinkUp s p.val = true

section
variable {p : Fin 2} {udp : BitVec 16} {o : DtlsOffer} {s : State} (h : papKnocks p udp o s)
include h

/-- Such a handshake goes past the port. -/
theorem papHandshake_guard : ¬ (!papAccepts s || udp.toNat ≠ s.get Reg.PAP_CFG_PORT || !dtlsOk o || !s.bit Reg.ENC_STAT_ENTOK ||
    !s.bit (if p.val = 0 then Reg.PAP_CFG_V0EN else Reg.PAP_CFG_V1EN) || !uplinkUp s p.val) = true := by
  obtain ⟨haccepts, hport, hoffer, hentropy, huplink, hup⟩ := h
  simp_all

theorem papHandshake_full (hfull : ∀ j < 8, sessionOpen s j = true) (root cert : Nat) (valid : Bool) :
    papHandshake p.val udp.toNat o root cert valid s = papRefuse Reg.PAP_FAULT_REFUSED s := by
  rw [papHandshake, if_neg (papHandshake_guard h)]
  have : (List.range 8).find? (fun k => !sessionOpen s k) = none := by simpa using hfull
  rw [this]

/-- The slot of a session that a certified client opens (R66, R67). -/
def slotOpened (k p : Nat) (lanes : BitVec 256) (s : State) : State :=
  let s := ((openSession k lanes s).raise (Reg.PAP_SINFO_OPEN.ix k)).set (Reg.PAP_SINFO_UPLINK.ix k) p
  let s := (List.range 8).foldl (fun s j => s.set (Reg.PAP_SLANES_BITS.ix2 k j) (lanes.toNat / 2 ^ (32 * j))) s
  s.set Reg.PAP_SESS_OPEN (maskSet (s.get Reg.PAP_SESS_OPEN) k)

theorem papHandshake_opens {k root : Nat} (hk : k < 8) (hfree : sessionOpen s k = false) (hlow : ∀ j < k, sessionOpen s j = true)
    (hroot : (charter s).roots.contains root = true) (cert : Nat) :
    papHandshake p.val udp.toNat o root cert true s = slotOpened k p.val (certLanes s cert) s := by
  have hfirst : (List.range 8).find? (fun k => !sessionOpen s k) = some k := by
    rw [List.find?_range_eq_some]
    exact ⟨by simp [hfree], by simpa using hk, fun j hj => by simp [hlow j hj]⟩
  rw [papHandshake, if_neg (papHandshake_guard h), hfirst]
  dsimp only
  rw [if_neg (by simpa using hroot)]
  rfl
end

section
variable {k : Nat} (hk : k < 8) (p : Nat) (lanes : BitVec 256) (s : State)

theorem slotOpened_session : (tabGet {} (slotOpened k p lanes s).sessions k : Session) =
    { opened := true, since := s.now, lastRequest := s.now, tokens := 100000000, tokensAt := s.now, lanes := lanes } := by
  simp only [slotOpened, State.set_sessions, foldl_set_sessions, State.raise_eq]
  exact tabGet_insert_same _ _ _ _

include hk

theorem slotOpened_open : (slotOpened k p lanes s).get (Reg.PAP_SINFO_OPEN.ix k) = 1 := by
  obtain ⟨huplink, hmask, -⟩ := slotFields_apart k hk
  rw [slotOpened, get_slotLanes (sinfoOpen_apart k hk) hmask (fun j => lanes.toNat / 2 ^ (32 * j)), State.get_set_ne huplink,
    State.raise_eq, State.get_set_same]
  rfl

theorem slotOpened_uplink : (slotOpened k p lanes s).get (Reg.PAP_SINFO_UPLINK.ix k) = p % 2 := by
  obtain ⟨-, -, hmask⟩ := slotFields_apart k hk
  rw [slotOpened, get_slotLanes (sinfoUplink_apart k hk) hmask (fun j => lanes.toNat / 2 ^ (32 * j)), State.get_set_same]
  rfl
end

/-- The slots of a session stand outside what the close of a command changes. -/
theorem sinfo_settled : ∀ k < 8, (Reg.PAP_SINFO_OPEN.ix k).wordOf ≠ 7 ∧ (Reg.PAP_SINFO_UPLINK.ix k).wordOf ≠ 7 ∧
    (Reg.PAP_SINFO_OPEN.ix k).key ≠ Reg.PAIR_LASTTKO_MS.key ∧ (Reg.PAP_SINFO_UPLINK.ix k).key ≠ Reg.PAIR_LASTTKO_MS.key := by decide

@[simp] theorem foldl_set_out {α : Type} (f : α → RegField) (v : α → Nat) (l : List α) (s : State) :
    (l.foldl (fun s a => s.set (f a) (v a)) s).out = s.out := foldl_keeps State.out (fun u a => State.set_out u (f a) (v a)) l s

/-- Settles O20. The lowest free slot is assumption 61, the model's choice. -/
theorem papSessions : Obligations.PapSessions := by
  unfold Obligations.PapSessions
  refine ⟨?opens, ?refused, ?closed, ?service⟩
  case opens =>
    intro s p udp o root cert k haccepts hport hoffer hentropy huplink hup hk hfree hlow hroot
    have heffect := papHandshake_opens ⟨haccepts, hport, hoffer, hentropy, huplink, hup⟩ hk hfree hlow hroot cert.toNat
    obtain ⟨hopen, huplink', hopen', huplink''⟩ := sinfo_settled k hk
    refine done_completes fun t ht => ?_
    rw [heffect] at ht
    have hsession := slotOpened_session (k := k) p.val (certLanes s cert.toNat) s
    refine ⟨?_, ?_, ?_, ?_, ?_⟩
    · rw [sessionOpen, done_sessions ht, hsession]
    · rw [done_sessions ht, hsession]
    · rw [done_get ht hopen hopen', slotOpened_open hk]
    · rw [done_get ht huplink' huplink'', slotOpened_uplink hk, Nat.mod_eq_of_lt p.isLt]
    · rw [done_out ht, slotOpened, State.set_out, foldl_set_out]
      rfl
  case refused =>
    intro s p udp o root cert haccepts hport hoffer hentropy huplink hup hfull
    have heffect := papHandshake_full ⟨haccepts, hport, hoffer, hentropy, huplink, hup⟩ hfull root cert.toNat true
    refine done_completes fun t ht => ?_
    rw [heffect] at ht
    refine ⟨?_, done_out ht, (done_sessions ht).trans rfl⟩
    rw [done_get ht (by decide) (by decide), papRefuse, State.get_emit, State.countSat_eq, State.get_set_ne (by decide),
      State.raise_eq, State.get_set_same]
    rfl
  case closed =>
    intro s k hopen
    obtain ⟨hword, -, hkey, -⟩ := sinfo_settled k k.isLt
    refine done_completes fun t ht => ⟨?_, ?_⟩
    · rw [sessionOpen, done_sessions ht]
      exact sessionOpen_closeSession s k.val
    · rw [done_get ht hword hkey, closeSession_slot k.isLt hopen]
  case service =>
    intro s hopen hprov hservice
    have hframe : Frame.holds ⟨[.sessions, .upd, .enc], [(0x009, 0x009), (0x183, 0x183), (0x184, 0x184), (0x190, 0x190)], []⟩ s (closeSession 9 s) := by
      simp +decide
    have hmode : mode (closeSession 9 s) = mode s := hframe.2 Reg.MODE_STAT_MODE (by unfold Frame.leaves; decide)
    have heffect : serviceClose s = closeSession 9 s := by
      simp [serviceClose, hopen, provEnd, leaveService, hmode, hprov, hservice]
    refine done_completes fun t ht => ?_
    rw [heffect] at ht
    refine ⟨?_, ?_⟩
    · rw [sessionOpen, done_sessions ht]
      exact sessionOpen_closeSession s 9
    · rw [done_get ht (by decide) (by decide), closeSession_service hopen]

end Sys2Proof.Machine

/-! ### DMA window elements at the register window (R491)

`viaBridge` is false for the channels of DMA too, but a window element has no access to the register window: every write of it is
rejected with a bus error. Statements over every master that the host bridge does not stand before leave these masters out of sight. -/

namespace Sys2Proof.Machine

theorem fabricWrite_dma (c : Fin 32) (p off v : Nat) (s : State) :
    fabricWrite (.dma c) p off v s = (keyLapse p s).emit (.busError (.dma c)) := by
  simp [fabricWrite, hostClosed, hostCopy, viaBridge, masterMid, rejected]

/-- Refutes O15: a DMA element's write of FAULTEN of the clock page is rejected, and FAULTEN stays as after reset. -/
theorem not_fabricAccess : ¬ Obligations.FabricAccess := by
  intro h
  obtain ⟨hplain, -⟩ := h
  obtain ⟨t, ht, hfaulten, -⟩ := hplain State.reset (.dma 0) 0x005 0 (by decide) (by decide) rfl rfl (by decide)
  have ht : done State.reset (fabricWrite (.dma 0) 0x005 0x014 0 State.reset) = .next t := ht
  rw [fabricWrite_dma] at ht
  rw [done_get ht (by decide) (by decide)] at hfaulten
  exact absurd hfaulten (by decide)

/-- Refutes O16: a DMA element's write of the first KEY word of the clock page is rejected, and KEY stays closed. -/
theorem not_keysAndDomainReset : ¬ Obligations.KeysAndDomainReset := by
  intro h
  obtain ⟨harm, -⟩ := h
  obtain ⟨t, ht, hkey, -⟩ := harm State.reset (.dma 0) 0x005 rfl (by decide) (by decide) rfl
  have ht : done State.reset (fabricWrite (.dma 0) 0x005 0x018 (keyWord 0x005) State.reset) = .next t := ht
  rw [fabricWrite_dma] at ht
  rw [done_keys ht] at hkey
  exact absurd hkey (by decide)

end Sys2Proof.Machine

/-! ### KEY of another master (R49) -/

namespace Sys2Proof.Machine

section
variable {s : State} {m : Master} {p : Nat} {k : KeyState}

theorem keyLapse_of_within (hk : tabFind p s.keys = some k) (h : s.now ≤ k.since + 10000) : keyLapse p s = s := by
  rw [keyLapse, hk]
  exact if_neg (by simp only [keyWindow, usec]; omega)

theorem pageBusy_of_undisturbed (h : undisturbed s p) : pageBusy s p = false := by
  rw [undisturbed] at h
  simp [pageBusy, State.bit, h]

theorem mayWritePage_of_fabric (hm : viaBridge m = false) (w : Nat) : mayWritePage m p w s = true := by
  simp [mayWritePage, hostCopy, hm]

/-- A master that the host bridge does not stand before has its write of KEY judged by the key, or rejected (R491). -/
theorem fabricWrite_key (hm : viaBridge m = false) (hp : pageMapped p = true) (hfree : undisturbed s p)
    (hlapse : keyLapse p s = s) (v : Nat) :
    fabricWrite m p 0x018 v s = if masterMid m = 7 then s.emit (.busError m) else keyWrite m p v s := by
  have hbusy := pageBusy_of_undisturbed hfree
  simp [fabricWrite, hostClosed, hostCopy, hm, hlapse, rejected, mayWritePage_of_fabric hm, hbusy, hp]

/-- KEY of a page that another master holds is not the writer's to write. -/
theorem fabricWrite_key_other (hm : viaBridge m = false) (hp : pageMapped p = true) (hfree : undisturbed s p)
    (hk : tabFind p s.keys = some k) (howner : k.owner ≠ m) (hwithin : s.now ≤ k.since + 10000) (v : Nat) :
    fabricWrite m p 0x018 v s = s.emit (.busError m) := by
  rw [fabricWrite_key hm hp hfree (keyLapse_of_within hk hwithin), keyWrite, hk]
  dsimp only
  rw [if_pos howner, ite_self]
end

/-! #### What a served request leaves for its operation to read -/

section
variable (s : State) (k : Nat)

@[simp] theorem served_get (f : RegField) : (served k s).get f = s.get f := rfl
@[simp] theorem served_bit (f : RegField) : (served k s).bit f = s.bit f := rfl
@[simp] theorem served_keys : (served k s).keys = s.keys := rfl
@[simp] theorem served_now : (served k s).now = s.now := rfl
@[simp] theorem pageLane_served (p : Nat) : pageLane (served k s) p = pageLane s p := rfl
@[simp] theorem accLane_served : accLane (served k s) = accLane s := rfl

theorem session_served_lanes (r : Nat) : (tabGet {} (served k s).sessions r : Session).lanes = (tabGet {} s.sessions r : Session).lanes := by
  by_cases h : r = k
  · subst h; rw [session_served]; rfl
  · rw [served, setSession, tabGet_insert_ne h]

theorem session_served_opened (r : Nat) : (tabGet {} (served k s).sessions r : Session).opened = (tabGet {} s.sessions r : Session).opened := by
  by_cases h : r = k
  · subst h; rw [session_served]; rfl
  · rw [served, setSession, tabGet_insert_ne h]

@[simp] theorem requesterLanes_served (r : Nat) : requesterLanes (served k s) r = requesterLanes s r := by
  unfold requesterLanes
  rw [session_served_lanes]
  rfl

@[simp] theorem mayReadPage_served (m : Master) (p : Nat) : mayReadPage m p (served k s) = mayReadPage m p s := by
  unfold mayReadPage
  simp

@[simp] theorem mayWritePage_served (m : Master) (p w : Nat) : mayWritePage m p w (served k s) = mayWritePage m p w s := by
  unfold mayWritePage
  simp

@[simp] theorem reachesLane_served (m : Master) (l : Nat) : reachesLane m l (served k s) = reachesLane m l s := by
  cases m with
  | req r => simp only [reachesLane, session_served_opened, requesterLanes_served]
  | _ => rfl

@[simp] theorem mailEndpoint_served (m : Master) : mailEndpoint m (served k s) = mailEndpoint m s := by
  cases m with
  | req r => simp only [mailEndpoint, reachesLane_served]
  | _ => rfl

@[simp] theorem accessOf_served (m : Master) (p w : Nat) (f : RegField) : accessOf m (served k s) p w f = accessOf m s p w f := by
  have haccepts : ∀ n, mailAccepts n m (served k s) = mailAccepts n m s := fun n => by simp [mailAccepts]
  unfold accessOf
  simp only [haccepts, mailEndpoint_served]
  rfl

@[simp] theorem wordStatus_served (m : Master) (keyed : Bool) (p w v : Nat) :
    wordStatus m keyed p w v (served k s) = wordStatus m keyed p w v s := by
  unfold wordStatus
  simp only [accessOf_served]
  rfl

@[simp] theorem pageBusy_served (p : Nat) : pageBusy (served k s) p = pageBusy s p := rfl

end
end Sys2Proof.Machine
namespace Sys2Proof.Machine

section
variable {s : State} {k op : Nat} {q : PapRequest}

/-- A request whose form is right names a page of the register window. -/
theorem papPage_of_formStatus (h : formStatus k op q = 0) : papPage q = q.page.toNat := by
  have hreserved : badReserved op q = false := by
    unfold formStatus at h
    split at h
    · simp at h
    split at h
    · simp at h
    split at h
    · simp at h
    split at h
    · simp at h
    · next hn => exact (Bool.or_eq_false_iff.1 (Bool.eq_false_of_not_eq_true hn)).2
  have hpage : q.page.toNat < 4096 := by
    by_contra hge
    simp [badReserved, Nat.le_of_not_lt hge] at hreserved
  exact Nat.mod_eq_of_lt hpage

/-- With one code among zeros the first failing condition is that code. -/
theorem firstStatus_single {l l' : List Nat} {c : Nat} (hc : c ≠ 0) (h : ∀ x ∈ l, x = 0) (h' : ∀ x ∈ l', x = 0) :
    firstStatus (l ++ c :: l') = c := by
  have hl : l.filter (· ≠ 0) = [] := by simpa using h
  have hl' : l'.filter (· ≠ 0) = [] := by simpa using h'
  simp only [firstStatus, List.filter_append, List.filter_cons, hl, hl']
  simp [hc]

/-- Without a failing condition the status is 0. -/
theorem firstStatus_zero {l : List Nat} (h : ∀ x ∈ l, x = 0) : firstStatus l = 0 := by
  have hl : l.filter (· ≠ 0) = [] := by simpa using h
  simp only [firstStatus, hl]
  rfl

@[simp] theorem holds_frozenRule {F : Frame} {s u : State} (h : Frame.Within ⟨[], [(2, 2)], []⟩ F) (m : Master) (p w v : Nat) :
    F.holds s (frozenRule m p w v u) ↔ F.holds s u := h.step (by simp +decide [frozenRule])

theorem writeStatus_keyHeld {m : KeyState} (hp : papPage q = q.page.toNat) (hk : tabFind q.page.toNat s.keys = some m)
    (howner : m.owner ≠ connMaster k) (hfree : undisturbed s q.page.toNat)
    (hwrite : ∀ w ∈ rangeWords q, mayWritePage (connMaster k) q.page.toNat w s = true)
    (hstatus : ∀ e ∈ rangeData q, wordStatus (connMaster k) true q.page.toNat e.1 e.2 s = 0) : writeStatus k true q s = 9 := by
  have hheld : keyHeld q.page.toNat (connMaster k) s = true := by simp [keyHeld, hk, howner]
  have hall : (rangeWords q).all (fun w => mayWritePage (connMaster k) q.page.toNat w s) = true := List.all_eq_true.2 hwrite
  unfold writeStatus
  dsimp only
  rw [hp, hheld, pageBusy_of_undisturbed hfree, hall]
  refine firstStatus_single (l := [0]) (l' := 0 :: _) (by decide) (by simp) ?_
  intro x hx
  rcases List.mem_cons.1 hx with rfl | hx
  · rfl
  · obtain ⟨e, he, rfl⟩ := List.mem_map.1 hx
    simp [writeWordStatus, hp, hstatus e he]

/-- An LWRITE to a page whose KEY another master holds is answered KEY_BUSY, and no word is written. -/
theorem writeBody_keyHeld {m : KeyState} (hp : papPage q = q.page.toNat) (hk : tabFind q.page.toNat s.keys = some m)
    (howner : m.owner ≠ connMaster k) (hwithin : s.now ≤ m.since + 10000) (hfree : undisturbed s q.page.toNat)
    (hwrite : ∀ w ∈ rangeWords q, mayWritePage (connMaster k) q.page.toNat w s = true)
    (hstatus : ∀ e ∈ rangeData q, wordStatus (connMaster k) true q.page.toNat e.1 e.2 s = 0) :
    writeBody k true q s =
      (some (9, []), (rangeData q).foldl (fun s e => frozenRule (connMaster k) q.page.toNat e.1 e.2 s) s) := by
  rw [writeBody, hp]
  dsimp only
  rw [keyLapse_of_within hk hwithin, writeStatus_keyHeld hp hk howner hfree hwrite hstatus]
  rfl
end

/-- Settles O14: the key is not the writer's, so the write is turned away before it reaches the page. -/
theorem keyOwner : Obligations.KeyOwner := by
  unfold Obligations.KeyOwner
  refine ⟨fun s m p v k hm hp hfree hk howner hwithin => done_completes fun t ht => ?fabric,
    fun s conn q k hready hk howner hwithin hfree hwrite hstatus => ?lwrite⟩
  case fabric =>
    rw [if_neg (by simp), show fabricWrite m p.toNat (0x018 : BitVec 12).toNat v.toNat s = _ from
      fabricWrite_key_other hm hp hfree hk howner hwithin v.toNat] at ht
    exact ⟨done_out ht, (done_keys ht).trans rfl⟩
  case lwrite =>
    have hpage := papPage_of_formStatus hready.2.2.2.2.2
    have hbody := writeBody_keyHeld (s := served (connCopy conn) s) (k := connCopy conn) hpage (by simpa using hk) howner
      (by simpa using hwithin) hfree (by simpa using hwrite) (by simpa using hstatus)
    have hframe : ∀ u, Frame.holds ⟨[], [(2, 2)], []⟩ u
        ((rangeData q).foldl (fun s e => frozenRule (connMaster (connCopy conn)) q.page.toNat e.1 e.2 s) u) := by
      simp +decide
    obtain ⟨hparts, -⟩ := hframe (served (connCopy conn) s)
    have hsessions := hparts .sessions (by decide)
    have hopen := sessionOpen_served hready
    rw [sessionOpen, ← hsessions] at hopen
    have hrequest := papRequest_served (i := .papLwrite conn q) hready (fun _ => rfl) hbody hopen
    show ∃ t, done s (papRequest (connCopy conn) (.papLwrite conn q) s) = .next t ∧ _
    rw [hrequest]
    refine done_completes fun t ht => ⟨papResponded_of_answer ht (hparts .out (by decide)), ?_⟩
    have hanswer : Frame.holds ⟨[.out, .sessions], [(0, 0xFFF)], []⟩ s (papAnswer s (connCopy conn) 3 q.tag.toNat q.arg.toNat 9 []
        ((rangeData q).foldl (fun s e => frozenRule (connMaster (connCopy conn)) q.page.toNat e.1 e.2 s)
          (served (connCopy conn) s))) := by
      simp +decide
    exact (done_keys ht).trans (hanswer.1 .keys (by decide))

end Sys2Proof.Machine

/-! ### Requests that wait beside a WWRITE (R99, R138) -/

namespace Sys2Proof.Machine

/-- Session 0 with one WRITE to the credential window waiting for a place in the queue of the point engine (R99). -/
def waitingWrite : State :=
  { State.reset with sessions := [(0, { opened := true, waits := [{ op := 2, tag := 0, page := 0x078, arg := 0 }] })] }

/-- Refutes O18: the request that waits may be a WRITE, and the response of a WWRITE leaves it waiting. -/
theorem not_papRequests : ¬ Obligations.PapRequests := by
  intro h
  obtain ⟨-, -, -, -, -, -, hwwrite⟩ := h
  obtain ⟨t, ht, hwaits, -⟩ := hwwrite waitingWrite (some 0) { op := 2, tag := 0, page := 0x078, arg := 0 } rfl rfl rfl (by decide)
  have ht : done waitingWrite (wwriteResponse 0 waitingWrite) = .next t := ht
  have hnone : wwriteResponse 0 waitingWrite = waitingWrite := rfl
  rw [done_sessions ht, hnone] at hwaits
  exact absurd hwaits (by decide)

end Sys2Proof.Machine

/-! #### Rules that the footprints share -/

namespace Sys2Proof.Machine
section
variable {F : Frame} {s u : State}

@[simp] theorem holds_set_dmaField {f : RegField} (h : onPages F.pages f = true) (c v : Nat) :
    F.holds s (u.set (dmaField f c) v) ↔ F.holds s u := holds_set_inst_ix h _ _ v

theorem foldl_snd_holds {α β : Type} {f : β × State → α → β × State} (h : ∀ r a, F.holds r.2 (f r a).2) (l : List α) (r : β × State) :
    F.holds r.2 (l.foldl f r).2 := by
  induction l generalizing r with
  | nil => exact Frame.holds_refl
  | cons a l ih => exact Frame.holds_trans (h r a) (ih (f r a))

theorem foldl_fst_holds {α β : Type} {f : State × β → α → State × β} (h : ∀ r a, F.holds r.1 (f r a).1) (l : List α) (r : State × β) :
    F.holds r.1 (l.foldl f r).1 := by
  induction l generalizing r with
  | nil => exact Frame.holds_refl
  | cons a l ih => exact Frame.holds_trans (h r a) (ih (f r a))

@[simp] theorem setAll_nil (s : State) : setAll [] s = s := rfl
@[simp] theorem setAll_cons (x : RegField × Nat) (xs : List (RegField × Nat)) (s : State) :
    setAll (x :: xs) s = setAll xs (s.set x.1 x.2) := rfl

@[simp] theorem holds_ite_fst {α : Type} {c : Prop} {d : Decidable c} (a b : State × α) :
    F.holds s (if c then a else b).1 ↔ (c → F.holds s a.1) ∧ (¬ c → F.holds s b.1) := by split <;> simp [*]

@[simp] theorem holds_ite_snd {α : Type} {c : Prop} {d : Decidable c} (a b : α × State) :
    F.holds s (if c then a else b).2 ↔ (c → F.holds s a.2) ∧ (¬ c → F.holds s b.2) := by split <;> simp [*]

/-- Where the frame has every page, a step stays within it by its parts alone. -/
theorem holds_of_parts_whole {t : State} (hpages : covers F.pages (0, 0xFFF) = true) (h : ∀ q, q ∉ F.parts → q.same u t) :
    F.holds s t ↔ F.holds s u :=
  Frame.holds_step ⟨h, fun f hf => absurd rfl (F.key_ne_of_leaves (inFrame_whole hpages f) hf)⟩

@[simp] theorem holds_setAll {xs : List (RegField × Nat)} (h : ∀ x ∈ xs, inFrame F.pages F.fields x.1) :
    F.holds s (setAll xs u) ↔ F.holds s u := by
  induction xs generalizing u with
  | nil => rfl
  | cons x xs ih =>
    rw [setAll_cons, ih fun y hy => h y (List.mem_cons_of_mem x hy), holds_set (h x List.mem_cons_self)]

@[simp] theorem holds_setLaneWords {f : Nat → RegField} (h : ∀ k, inFrame F.pages F.fields (f k)) (l : BitVec 256) :
    F.holds s (setLaneWords f l u) ↔ F.holds s u := by simp [setLaneWords, h]

@[simp] theorem holds_eraseWords (h : Frame.Within ⟨[], [(0x000, 0xFFF)], []⟩ F) (p w₀ w₁ : Nat) :
    F.holds s (eraseWords p w₀ w₁ u) ↔ F.holds s u :=
  h.step ((holds_of_parts_whole (by decide) fun q _ => by cases q <;> rfl).2 Frame.holds_refl)

@[simp] theorem holds_markShadow (h : Frame.Within ⟨[.prpt], [], []⟩ F) (want : EntryCfg → Bool) :
    F.holds s (markShadow want u) ↔ F.holds s u := h.step (by simp +decide [markShadow])

@[simp] theorem srcClass_mkSrc (c i : Nat) : srcClass (mkSrc c i) = c := by unfold srcClass mkSrc; omega

/-- A source of the request path wakes no sleeper. -/
@[simp] theorem wakesDoze_requesterSrc (r : Nat) : wakesDoze (requesterSrc r) = false := by simp [wakesDoze, requesterSrc]

/-- A loop wakes no sleeper. -/
@[simp] theorem wakesDoze_loopSrc (n : Nat) : wakesDoze (mkSrc 4 n) = false := by simp [wakesDoze]

@[simp] theorem holds_setDma (h : Frame.Within ⟨[], [(0x015, 0x016)], []⟩ F) (c v : Nat) : F.holds s (setDma c v u) ↔ F.holds s u :=
  h.step (by simp +decide [setDma])

@[simp] theorem holds_set64 {lo hi : RegField} (hlo : inFrame F.pages F.fields lo) (hhi : inFrame F.pages F.fields hi) (v : Nat) :
    F.holds s (set64 lo hi v u) ↔ F.holds s u := by simp [set64, hlo, hhi]

theorem onPages_of_covers {gs : List (Nat × Nat)} {g : Nat × Nat} {f : RegField} (hf : onPages [g] f = true)
    (h : covers gs g = true) : onPages gs f = true := by
  obtain ⟨r, hr, hlo, hhi⟩ := covers_iff.1 h
  simp only [onPages, Bool.and_eq_true, decide_eq_true_eq] at hf ⊢
  obtain ⟨hmap, hcov⟩ := hf
  simp only [covers_iff, List.mem_singleton, exists_eq_left] at hcov
  exact ⟨hmap, covers_iff.2 ⟨r, hr, by omega, by omega⟩⟩

@[simp] theorem holds_papRefuse {f : RegField} (hf : inFrame F.pages F.fields f) (h : Frame.Within ⟨[.out], [(0x183, 0x183)], []⟩ F) :
    F.holds s (papRefuse f u) ↔ F.holds s u := by
  have hout : .out ∈ F.parts := by simpa [partsWithin] using h.1
  have hcount : inFrame F.pages F.fields Reg.PAP_REFCNT_COUNT := 
    inFrame_of_onPages (onPages_of_covers (g := (0x183, 0x183)) (by decide) (by simpa using h.2.1))
  simp [papRefuse, hf, hout, hcount]

theorem laneFaultOf_mem (place : Nat) :
    laneFaultOf place ∈ [Reg.LANE_FAULT_FABRIC, Reg.LANE_FAULT_PORT, Reg.LANE_FAULT_KEY, Reg.LANE_FAULT_POINT] := by
  unfold laneFaultOf
  repeat' split
  all_goals simp

@[simp] theorem inFrame_laneFaultOf {gs : List (Nat × Nat)} {fs : List RegField} (h : covers gs (0x048, 0x048) = true) (place : Nat) :
    inFrame gs fs (laneFaultOf place) := by
  have hpage : ∀ f ∈ [Reg.LANE_FAULT_FABRIC, Reg.LANE_FAULT_PORT, Reg.LANE_FAULT_KEY, Reg.LANE_FAULT_POINT], f.pageOf = 0x048 % 4096 := by
    decide
  exact inFrame_of_pageOf (hpage _ (laneFaultOf_mem place)) h

@[simp] theorem inFrame_ptpField {gs : List (Nat × Nat)} {fs : List RegField} (h : covers gs (0x182, 0x182) = true) (p : Nat) :
    inFrame gs fs (ptpField p) := by
  unfold ptpField
  split <;> exact inFrame_of_onPages (onPages_of_covers (by decide) h)

@[simp] theorem inFrame_shField {gs : List (Nat × Nat)} {fs : List RegField} (h : covers gs (0x120, 0x13F) = true) (p k : Nat) :
    inFrame gs fs (shField p k) := by
  unfold shField
  split <;> exact inFrame_inst (onPages_of_covers (by decide) h) p

@[simp] theorem holds_setWords {f : RegField} (h : ∀ i, inFrame F.pages F.fields (f.ix i)) (ws : List Nat) (i : Nat) :
    F.holds s (setWords f u ws i) ↔ F.holds s u := by
  induction ws generalizing u i with
  | nil => rfl
  | cons w ws ih => rw [setWords, ih, holds_set (h i)]

@[simp] theorem holds_setBus (h : Frame.Within ⟨[.pbus], [], []⟩ F) (p : Nat) (x : PbusPort) :
    F.holds s (u.setBus p x) ↔ F.holds s u := h.step (by simp +decide [State.setBus])

@[simp] theorem holds_unholdFrames (h : Frame.Within ⟨[.pbus], [], []⟩ F) (p : Nat) (ks : Nat → Bool) :
    F.holds s (unholdFrames p ks u) ↔ F.holds s u := h.step (by simp +decide [unholdFrames])
end
end Sys2Proof.Machine

/-! #### Footprints: the event and pages -/

namespace Sys2Proof.Machine
section
variable {F : Frame} {s u : State}

@[simp] theorem holds_timeRebase (h : Frame.Within ⟨[.time], [], []⟩ F) :
    F.holds s (timeRebase u) ↔ F.holds s u := h.step (by simp +decide [timeRebase])

@[simp] theorem holds_dozeWake (h : Frame.Within ⟨[.pwr, .clk], [], [Reg.MODE_PWRST_DOZE]⟩ F) :
    F.holds s (dozeWake u) ↔ F.holds s u := h.step (by simp +decide [dozeWake])

@[simp] theorem holds_wakeEvent (h : Frame.Within ⟨[.pwr, .clk], [], [Reg.MODE_PWRST_DOZE]⟩ F) :
    F.holds s (wakeEvent u) ↔ F.holds s u := h.step (by simp +decide [wakeEvent])

@[simp] theorem holds_trimRestart (h : Frame.Within ⟨[.rtc], [], [Reg.RTC_STAT_TRIMRUN]⟩ F) :
    F.holds s (trimRestart u) ↔ F.holds s u := h.step (by simp +decide [trimRestart])

@[simp] theorem holds_trimReference (src : Nat) (changed : Bool) (h : Frame.Within ⟨[.rtc], [], [Reg.RTC_STAT_TRIMRUN]⟩ F) :
    F.holds s (trimReference src changed u) ↔ F.holds s u := h.step (by simp +decide [trimReference])

end
end Sys2Proof.Machine

/-! #### Footprints: the event recorder -/

namespace Sys2Proof.Machine
section
variable {F : Frame} {s u : State}

@[simp] theorem holds_countOverwritten (rs : List LogRecord) (h : Frame.Within ⟨[], [(0x007, 0x007)], []⟩ F) :
    F.holds s (countOverwritten u rs) ↔ F.holds s u := h.step (by simp +decide [countOverwritten])

@[simp] theorem holds_openSegment (b : Nat) (r : LogRecord) (h : Frame.Within ⟨[.log], [(0x007, 0x007)], []⟩ F) :
    F.holds s (openSegment u b r) ↔ F.holds s u := h.step (by
    unfold openSegment
    split <;> simp +decide)

@[simp] theorem holds_showSegs (h : Frame.Within ⟨[], [(0x007, 0x007)], []⟩ F) :
    F.holds s (showSegs u) ↔ F.holds s u := h.step (by simp +decide [showSegs])

@[simp] theorem holds_logStore (r : LogRecord) (h : Frame.Within ⟨[.log], [(0x007, 0x007)], []⟩ F) :
    F.holds s (logStore u r) ↔ F.holds s u := h.step (by
    unfold logStore
    dsimp only
    split <;> simp +decide)

@[simp] theorem holds_logEvent (typ sev : Nat) (items : List Nat) (h : Frame.Within ⟨[.log], [(0x007, 0x007)], []⟩ F) :
    F.holds s (logEvent typ sev items u) ↔ F.holds s u := h.step (by simp +decide [logEvent])

end
end Sys2Proof.Machine

/-! #### Footprints: lanes -/

namespace Sys2Proof.Machine
section
variable {F : Frame} {s u : State}

@[simp] theorem holds_laneViolation (place src lane idx : Nat) (h : Frame.Within ⟨[.log, .lane], [(0x007, 0x007), (0x048, 0x048)],
    []⟩ F) :
    F.holds s (laneViolation place src lane idx u) ↔ F.holds s u :=
  h.step (by
    unfold laneViolation
    extract_lets s₁ s₂ s₃ fresh
    split <;> simp +decide [s₃, s₂, s₁])

@[simp] theorem holds_fabricDenial (r lane idx : Nat) (h : Frame.Within ⟨[.log, .lane], [(0x007, 0x007), (0x048, 0x048)], []⟩ F) :
    F.holds s (fabricDenial r lane idx u) ↔ F.holds s u := h.step (by simp +decide [fabricDenial])

end
end Sys2Proof.Machine

/-! #### Footprints: the schedule -/

namespace Sys2Proof.Machine
section
variable {F : Frame} {s u : State}

@[simp] theorem holds_setLoop (n : Nat) (x : LoopState) (h : Frame.Within ⟨[.cle], [], []⟩ F) :
    F.holds s (State.setLoop u n x) ↔ F.holds s u := h.step (by simp +decide [State.setLoop])

@[simp] theorem holds_carryHeld (t1 n : Nat) (h : Frame.Within ⟨[.cle], [], []⟩ F) :
    F.holds s (carryHeld t1 n u) ↔ F.holds s u := h.step (by
    unfold carryHeld
    split <;> simp +decide)

@[simp] theorem holds_skipSamples (t0 t1 : Nat) (h : Frame.Within ⟨[.cle], [(0x050, 0x050)], []⟩ F) :
    F.holds s (skipSamples t0 t1 u) ↔ F.holds s u := h.step (by simp +decide [skipSamples])

@[simp] theorem holds_setTask (t : Nat) (x : TaskRun) (h : Frame.Within ⟨[.cte], [], []⟩ F) :
    F.holds s (State.setTask u t x) ↔ F.holds s u := h.step (by simp +decide [State.setTask])

@[simp] theorem holds_setTaskState (t v : Nat) (h : Frame.Within ⟨[], [(0x058, 0x058)], []⟩ F) :
    F.holds s (setTaskState t v u) ↔ F.holds s u := h.step (by simp +decide [setTaskState])

@[simp] theorem holds_skipReleases (t0 t1 : Nat) (h : Frame.Within ⟨[.cte], [(0x058, 0x058)], []⟩ F) :
    F.holds s (skipReleases t0 t1 u) ↔ F.holds s u := h.step (by simp +decide [skipReleases])

@[simp] theorem holds_unpassReleases (h : Frame.Within ⟨[.cte], [], []⟩ F) :
    F.holds s (unpassReleases u) ↔ F.holds s u := h.step (by simp +decide [unpassReleases])

end
end Sys2Proof.Machine

/-! #### Footprints: the point engine -/

namespace Sys2Proof.Machine
section
variable {F : Frame} {s u : State}

@[simp] theorem holds_setPoint (i : Nat) (r : PointRec) (h : Frame.Within ⟨[.pt], [], []⟩ F) :
    F.holds s (State.setPoint u i r) ↔ F.holds s u := h.step (by simp +decide [State.setPoint])

@[simp] theorem holds_setLevel (paix n v : Nat) (h : Frame.Within ⟨[.pt], [], []⟩ F) :
    F.holds s (setLevel u paix n v) ↔ F.holds s u := h.step (by simp +decide [setLevel])

@[simp] theorem holds_markDirty {w : State} (u t : Nat) (h : Frame.Within ⟨[.pt], [], [Reg.PNT_DIRTY_COUNT]⟩ F) :
    F.holds s (markDirty w u t) ↔ F.holds s w := h.step (by
    unfold markDirty
    split <;> simp +decide)

@[simp] theorem holds_windowDone (p r code : Nat) (h : Frame.Within ⟨[], [(p % 4096, p % 4096)], []⟩ F) :
    F.holds s (windowDone p r code u) ↔ F.holds s u := h.step (by simp +decide [windowDone])

@[simp] theorem holds_cmdDone (r code tick : Nat) (h : Frame.Within ⟨[], [(0x042, 0x042)], []⟩ F) :
    F.holds s (cmdDone r code tick u) ↔ F.holds s u := h.step (by simp +decide [cmdDone])

@[simp] theorem holds_forceDone (r code tick : Nat) (h : Frame.Within ⟨[], [(0x043, 0x043)], []⟩ F) :
    F.holds s (forceDone r code tick u) ↔ F.holds s u := h.step (by simp +decide [forceDone])

@[simp] theorem holds_deliver (p : ResultPath) (code tick : Nat) (h : Frame.Within ⟨[.pt], [(0x041, 0x041), (0x042, 0x042), (0x043,
    0x043)], []⟩ F) :
    F.holds s (deliver p code tick u) ↔ F.holds s u := h.step (by
    unfold deliver
    split <;> simp +decide)

@[simp] theorem holds_setQueue (c : Nat) (q : List Update) (h : Frame.Within ⟨[.pt], [], [Reg.PNT_QIN_DEPTH.ix c]⟩ F) :
    F.holds s (setQueue u c q) ↔ F.holds s u := h.step (by simp +decide [setQueue])

@[simp] theorem holds_reportAll (rs : List PointReport) (h : Frame.Within ⟨[.pt, .pwr, .clk], [], [Reg.MODE_PWRST_DOZE]⟩ F) :
    F.holds s (reportAll rs u) ↔ F.holds s u := h.step (by simp +decide [reportAll])

@[simp] theorem holds_enqueue {t : State} (u : Update) (h : Frame.Within ⟨[.pt], [(0x040, 0x040)], []⟩ F) :
    F.holds s (enqueue u t) ↔ F.holds s t := h.step (by simp +decide [enqueue])

@[simp] theorem holds_submit_of_quiet {t : State} {u : Update} (hq : wakesDoze u.src = false)
    (h : Frame.Within ⟨[.pt], [(0x040, 0x040)], []⟩ F) : F.holds s (submit u t) ↔ F.holds s t :=
  h.step (by
    unfold submit
    extract_lets t₁
    have ht : t₁ = t := if_neg (by simp [hq])
    split <;> simp +decide [ht])

@[simp] theorem holds_submit {t : State} (u : Update) (h : Frame.Within ⟨[.pt, .pwr, .clk], [(0x040, 0x040)], [Reg.MODE_PWRST_DOZE]⟩
    F) : F.holds s (submit u t) ↔ F.holds s t :=
  h.step (by
    unfold submit
    extract_lets t₁
    split <;> simp +decide [t₁])

@[simp] theorem holds_submitAll (us : List Update) (h : Frame.Within ⟨[.pt, .pwr, .clk], [(0x040, 0x040)], [Reg.MODE_PWRST_DOZE]⟩ F)
    :
    F.holds s (submitAll us u) ↔ F.holds s u := h.step (by simp +decide [submitAll])

@[simp] theorem holds_refill (c : Nat) (h : Frame.Within ⟨[.pt], [], [Reg.PNT_QIN_DEPTH.ix c]⟩ F) :
    F.holds s (refill c u) ↔ F.holds s u := h.step (by simp +decide [refill])

@[simp] theorem holds_goClear (p : ResultPath) (h : Frame.Within ⟨[], [(0x042, 0x042), (0x043, 0x043)], []⟩ F) :
    F.holds s (goClear p u) ↔ F.holds s u := h.step (by
    unfold goClear
    split <;> simp +decide)

@[simp] theorem holds_refuseAll (h : Frame.Within ⟨[.pt], [(0x000, 0xFFF)], []⟩ F) :
    F.holds s (refuseAll u) ↔ F.holds s u := h.step (by simp +decide [refuseAll])

@[simp] theorem holds_countRefusal {t : State} (u : Update) (code : Nat) (h : Frame.Within ⟨[.log, .lane], [(0x007, 0x007), (0x040,
    0x040), (0x048, 0x048)], []⟩ F) :
    F.holds s (countRefusal u code t) ↔ F.holds s t := h.step (by simp +decide [countRefusal])

@[simp] theorem holds_takeCapacity (i cost : Nat) (h : Frame.Within ⟨[.pt], [(0x040, 0x040)], []⟩ F) :
    F.holds s (takeCapacity i cost u) ↔ F.holds s u := h.step (by
    unfold takeCapacity
    dsimp only
    split <;> simp +decide)

@[simp] theorem holds_admitOne {t : State} (i cost : Nat) (u : Update) (h : Frame.Within ⟨[.pt], [(0x040, 0x040)], []⟩ F) :
    F.holds s (admitOne i cost u t) ↔ F.holds s t := h.step (by simp +decide [admitOne])

@[simp] theorem holds_refuse {t : State} (u : Update) (code : Nat) (h : Frame.Within ⟨[.log, .lane, .pt], [(0x007, 0x007), (0x040,
    0x040), (0x041, 0x041), (0x042, 0x042), (0x043, 0x043), (0x048, 0x048)], []⟩ F) :
    F.holds s (refuse u code t) ↔ F.holds s t := h.step (by simp +decide [refuse])

@[simp] theorem holds_passOver (c : Nat) (dirty : Bool) (h : Frame.Within ⟨[.pt], [(0x040, 0x040)], []⟩ F) :
    F.holds s (passOver c dirty u) ↔ F.holds s u := h.step (by simp +decide [passOver])

@[simp] theorem holds_popQueue (c : Nat) (h : Frame.Within ⟨[.pt], [(0x042, 0x042), (0x043, 0x043)], [Reg.PNT_QIN_DEPTH.ix c]⟩ F) :
    F.holds s (popQueue c u) ↔ F.holds s u := h.step (by
    unfold popQueue
    split <;> simp +decide)

@[simp] theorem holds_batchOne {t : State} (u : Update) (h : Frame.Within ⟨[.log, .lane, .pt], [(0x007, 0x007), (0x040, 0x040),
    (0x041, 0x041), (0x042, 0x042), (0x043, 0x043), (0x048, 0x048)], []⟩ F) :
    F.holds s (batchOne t u) ↔ F.holds s t := h.step (by
    unfold batchOne
    split <;> simp +decide)

@[simp] theorem holds_batchStep (b : Nat) (h : Frame.Within ⟨[.log, .lane, .pt], [(0x007, 0x007), (0x040, 0x040), (0x041, 0x041),
    (0x042, 0x042), (0x043, 0x043), (0x048, 0x048)], []⟩ F) :
    F.holds s (batchStep b u) ↔ F.holds s u := h.step (by simp +decide [batchStep])

@[simp] theorem holds_advanceClass (c : Nat) (h : Frame.Within ⟨[.pt], [], []⟩ F) :
    F.holds s (advanceClass c u) ↔ F.holds s u := h.step (by simp +decide [advanceClass])

@[simp] theorem holds_admitNext (x0 : Nat) (h : Frame.Within ⟨[.log, .lane, .pt], [(0x007, 0x007), (0x040, 0x040), (0x041, 0x041),
    (0x042, 0x042), (0x043, 0x043), (0x048, 0x048), (0x180, 0x180)], []⟩ F) :
    F.holds s (admitNext x0 u) ↔ F.holds s u :=
  h.step (by
    induction x0 generalizing u with
    | zero => simp [admitNext]
    | succ n ih =>
      unfold admitNext
      split
      · simp
      · split
        · simp
        · split
          · extract_lets s₁
            split
            · exact Frame.holds_trans (by simp +decide [s₁]) ih
            · simp +decide [s₁]
          · split
            · simp +decide
            · simp +decide
            · simp +decide
            · exact Frame.holds_trans (by simp +decide) ih
            · simp +decide)

@[simp] theorem holds_refuseNotReady (h : Frame.Within ⟨[.pt], [(0x040, 0x040), (0x041, 0x041), (0x042, 0x042), (0x043, 0x043)], []⟩
    F) :
    F.holds s (refuseNotReady u) ↔ F.holds s u :=
  h.step (by
    unfold refuseNotReady
    split
    · simp +decide
    · split <;> simp +decide)

@[simp] theorem holds_admission (h : Frame.Within ⟨[.log, .lane, .pt], [(0x007, 0x007), (0x040, 0x040), (0x041, 0x041), (0x042,
    0x042), (0x043, 0x043), (0x048, 0x048), (0x180, 0x180)], []⟩ F) :
    F.holds s (admission u) ↔ F.holds s u := h.step (by simp +decide [admission])

@[simp] theorem holds_publishPoint (i now : Nat) (h : Frame.Within ⟨[.pt], [], []⟩ F) :
    F.holds s (publishPoint i now u) ↔ F.holds s u :=
  h.step (by simp +decide [publishPoint, State.setPoint])

@[simp] theorem holds_evalPublication (i now : Nat) (flags : Bool) (h : Frame.Within ⟨[.pt], [], []⟩ F) :
    F.holds s (evalPublication i now flags u) ↔ F.holds s u := h.step (by simp +decide [evalPublication])

@[simp] theorem holds_supersede (w l : Admitted) (tick : Nat) (h : Frame.Within ⟨[.log, .pt], [(0x007, 0x007), (0x040, 0x040)], []⟩
    F) :
    F.holds s (supersede w l tick u) ↔ F.holds s u := h.step (by
    unfold supersede
    dsimp only
    split <;> simp +decide)

@[simp] theorem holds_dropForce (i : Nat) (h : Frame.Within ⟨[.pt], [(0x040, 0x040), (0x043, 0x043)], []⟩ F) :
    F.holds s (dropForce i u) ↔ F.holds s u := h.step (by simp +decide [dropForce])

@[simp] theorem holds_putForce (i : Nat) (f : Force) (h : Frame.Within ⟨[.pt], [(0x040, 0x040), (0x043, 0x043)], []⟩ F) :
    F.holds s (putForce i f u) ↔ F.holds s u := h.step (by simp +decide [putForce])

@[simp] theorem holds_setOos (i : Nat) (v : Bool) (r : PointRec) (h : Frame.Within ⟨[.pt], [], []⟩ F) :
    F.holds s (setOos i v r u).1 ↔ F.holds s u := h.step (by
    unfold setOos
    split <;> simp +decide)

@[simp] theorem holds_applyUpdate (a : Admitted) (commitUs : Nat) (h : Frame.Within ⟨[.log, .pt, .via], [(0x007, 0x007), (0x040,
    0x040), (0x043, 0x043), (0x180, 0x180)], []⟩ F) :
    F.holds s (applyUpdate a commitUs u).1 ↔ F.holds s u :=
  h.step (by
    simp +decide [applyUpdate]
    repeat' split
    all_goals simp +decide)

@[simp] theorem holds_applyReport (p : PointReport) (h : Frame.Within ⟨[.pt], [], []⟩ F) :
    F.holds s (applyReport p u) ↔ F.holds s u := h.step (by
    unfold applyReport
    split <;> simp +decide)

@[simp] theorem holds_dirtyRecord (i t : Nat) (old new : PointRec) (h : Frame.Within ⟨[.pt], [], [Reg.PNT_DIRTY_COUNT]⟩ F) :
    F.holds s (dirtyRecord i t old new u) ↔ F.holds s u := h.step (by simp +decide [dirtyRecord])

@[simp] theorem holds_dirtyArray (before : State) (r : PointRec) (t : Nat) (h : Frame.Within ⟨[.pt], [], [Reg.PNT_DIRTY_COUNT]⟩ F) :
    F.holds s (dirtyArray before r t u) ↔ F.holds s u := h.step (by simp +decide [dirtyArray])

@[simp] theorem holds_closeRecord (before : State) (tick i : Nat) (h : Frame.Within ⟨[.pt], [], [Reg.PNT_DIRTY_COUNT]⟩ F) :
    F.holds s (closeRecord before tick i u) ↔ F.holds s u := h.step (by simp +decide [closeRecord])

@[simp] theorem holds_overloadRule (h : Frame.Within ⟨[.pt], [(0x040, 0x040)], []⟩ F) :
    F.holds s (overloadRule u) ↔ F.holds s u := h.step (by simp +decide [overloadRule])

@[simp] theorem holds_dirtyFullRule (h : Frame.Within ⟨[.pt], [(0x040, 0x040)], []⟩ F) :
    F.holds s (dirtyFullRule u) ↔ F.holds s u := h.step (by simp +decide [dirtyFullRule])

@[simp] theorem holds_evalPublications (before : State) (first : List Nat) (now : Nat) (h : Frame.Within ⟨[.pt], [], []⟩ F) :
    F.holds s (evalPublications before first now u) ↔ F.holds s u := h.step (by simp +decide [evalPublications])

@[simp] theorem holds_replacedWrites (tick : Nat) (x0 : List Admitted) (h : Frame.Within ⟨[.pt], [(0x041, 0x041), (0x042, 0x042),
    (0x043, 0x043)], []⟩ F) :
    F.holds s (replacedWrites tick x0 u) ↔ F.holds s u :=
  h.step (by
    induction x0 generalizing u with
    | nil => simp [replacedWrites]
    | cons a t ih => rw [replacedWrites]; exact Frame.holds_trans (by simp +decide) ih)

@[simp] theorem holds_applyAdmitted (admitted : List Admitted) (tick : Nat) (h : Frame.Within ⟨[.log, .pt, .via], [(0x007, 0x007),
    (0x040, 0x040), (0x041, 0x041), (0x042, 0x042), (0x043, 0x043), (0x180, 0x180)], []⟩ F) :
    F.holds s (applyAdmitted admitted tick u) ↔ F.holds s u := h.step (by simp +decide [applyAdmitted])

@[simp] theorem holds_openTick (h : Frame.Within ⟨[.pt], [], []⟩ F) :
    F.holds s (openTick u) ↔ F.holds s u := h.step (by simp +decide [openTick])

@[simp] theorem holds_pointCommit (h : Frame.Within ⟨[.log, .pt, .via], [(0x007, 0x007), (0x040, 0x040), (0x041, 0x041), (0x042,
    0x042), (0x043, 0x043), (0x180, 0x180)], []⟩ F) :
    F.holds s (pointCommit u) ↔ F.holds s u := h.step (by simp +decide [pointCommit])

@[simp] theorem holds_staleTimeout (i : Nat) (h : Frame.Within ⟨[.pt, .pwr, .clk], [], [Reg.MODE_PWRST_DOZE, Reg.PNT_DIRTY_COUNT]⟩
    F) :
    F.holds s (staleTimeout i u) ↔ F.holds s u := h.step (by
    unfold staleTimeout
    split <;> simp +decide)

@[simp] theorem holds_publicationTimer (i : Nat) (h : Frame.Within ⟨[.pt, .pwr, .clk], [], [Reg.MODE_PWRST_DOZE]⟩ F) :
    F.holds s (publicationTimer i u) ↔ F.holds s u := h.step (by
    unfold publicationTimer
    split <;> simp +decide)

@[simp] theorem holds_writeUnit {t : State} (u : Nat) (h : Frame.Within ⟨[.pt], [], [Reg.PNT_DIRTY_COUNT, Reg.PNT_PERSW_COUNT]⟩ F) :
    F.holds s (writeUnit u t) ↔ F.holds s t := h.step (by simp +decide [writeUnit])

@[simp] theorem holds_persistenceWrite {t : State} (u : Nat) (h : Frame.Within ⟨[.pt], [], [Reg.PNT_DIRTY_COUNT,
    Reg.PNT_PERSW_COUNT]⟩ F) :
    F.holds s (persistenceWrite u t) ↔ F.holds s t := h.step (by
    unfold persistenceWrite
    split <;> simp +decide)

@[simp] theorem holds_showMirrors (h : Frame.Within ⟨[], [(0x040, 0x040)], []⟩ F) :
    F.holds s (showMirrors u) ↔ F.holds s u := h.step (by simp +decide [showMirrors])

@[simp] theorem holds_createMirror (m : MirrorCfg) (h : Frame.Within ⟨[.pt], [(0x040, 0x040)], []⟩ F) :
    F.holds s (createMirror m u) ↔ F.holds s u :=
  h.step (by simp +decide [createMirror, State.setPoint])

@[simp] theorem holds_removeMirror (gpr : Nat) (h : Frame.Within ⟨[.pt, .via], [(0x040, 0x040)], []⟩ F) :
    F.holds s (removeMirror gpr u) ↔ F.holds s u :=
  h.step (by
    unfold removeMirror
    split
    · simp
    · simp +decide [State.setPoint])

@[simp] theorem holds_storeRebuild (badList : List Nat) (h : Frame.Within ⟨[.log, .pt, .via], [(0x000, 0xFFF)], []⟩ F) :
    F.holds s (storeRebuild badList u) ↔ F.holds s u := h.step (by simp +decide [storeRebuild])

@[simp] theorem holds_storeRestore (badList : List Nat) (h : Frame.Within ⟨[.log, .pt, .via], [(0x000, 0xFFF)], []⟩ F) :
    F.holds s (storeRestore badList u) ↔ F.holds s u := h.step (by simp +decide [storeRestore])

end
end Sys2Proof.Machine

/-! #### Footprints: the pages of the point engine -/

namespace Sys2Proof.Machine
section
variable {F : Frame} {s u : State}

@[simp] theorem holds_pntSubmit (r : Nat) (k : UpdateKind) (h : Frame.Within ⟨[.pt], [(0x040, 0x040), (0x041, 0x041)], []⟩ F) :
    F.holds s (pntSubmit r k u) ↔ F.holds s u := h.step (by simp +decide [pntSubmit])

@[simp] theorem holds_pntCommit (r : Nat) (h : Frame.Within ⟨[.pt], [(0x040, 0x040), (0x041, 0x041)], []⟩ F) :
    F.holds s (pntCommit r u) ↔ F.holds s u := h.step (by
    simp +decide [pntCommit]
    split <;> simp +decide)

@[simp] theorem holds_pntSelect (r i mode : Nat) (h : Frame.Within ⟨[], [(0x041, 0x041)], []⟩ F) :
    F.holds s (pntSelect r i mode u) ↔ F.holds s u := h.step (by simp +decide [pntSelect])

@[simp] theorem holds_pntData (r k v : Nat) (h : Frame.Within ⟨[], [(0x041, 0x041)], []⟩ F) :
    F.holds s (pntData r k v u) ↔ F.holds s u := h.step (by simp +decide [pntData])

@[simp] theorem holds_pntValueWrite (r i v : Nat) (h : Frame.Within ⟨[.pt], [(0x040, 0x040), (0x041, 0x041)], []⟩ F) :
    F.holds s (pntValueWrite r i v u) ↔ F.holds s u := h.step (by simp +decide [pntValueWrite])

@[simp] theorem holds_pntTuningWrite (r i db mn mx st ma : Nat) (h : Frame.Within ⟨[.pt], [(0x040, 0x040), (0x041, 0x041)], []⟩ F) :
    F.holds s (pntTuningWrite r i db mn mx st ma u) ↔ F.holds s u := h.step (by simp +decide [pntTuningWrite])

@[simp] theorem holds_cmdRead (r i : Nat) (h : Frame.Within ⟨[], [(0x042, 0x042)], []⟩ F) :
    F.holds s (cmdRead r i u) ↔ F.holds s u := h.step (by simp +decide [cmdRead])

@[simp] theorem holds_cmdGo (r : Nat) (h : Frame.Within ⟨[.log, .lane, .pt], [(0x007, 0x007), (0x040, 0x040), (0x042, 0x042),
    (0x048, 0x048)], []⟩ F) :
    F.holds s (cmdGo r u) ↔ F.holds s u := h.step (by
    simp +decide [cmdGo]
    split <;> simp +decide)

@[simp] theorem holds_cmdSubmit (r i op lvl v : Nat) (h : Frame.Within ⟨[.log, .lane, .pt], [(0x007, 0x007), (0x040, 0x040), (0x042,
    0x042), (0x048, 0x048)], []⟩ F) :
    F.holds s (cmdSubmit r i op lvl v u) ↔ F.holds s u := h.step (by simp +decide [cmdSubmit])

@[simp] theorem holds_forceInfo (r i : Nat) (h : Frame.Within ⟨[], [(0x043, 0x043)], []⟩ F) :
    F.holds s (forceInfo r i u) ↔ F.holds s u := h.step (by
    unfold forceInfo
    split <;> simp +decide)

@[simp] theorem holds_forceGo (r : Nat) (h : Frame.Within ⟨[.log, .lane, .pt], [(0x007, 0x007), (0x040, 0x040), (0x043, 0x043),
    (0x048, 0x048)], []⟩ F) :
    F.holds s (forceGo r u) ↔ F.holds s u := h.step (by
    simp +decide [forceGo]
    split <;> simp +decide)

@[simp] theorem holds_forceSubmit (r i op v : Nat) (h : Frame.Within ⟨[.log, .lane, .pt], [(0x007, 0x007), (0x040, 0x040), (0x043,
    0x043), (0x048, 0x048)], []⟩ F) :
    F.holds s (forceSubmit r i op v u) ↔ F.holds s u := h.step (by simp +decide [forceSubmit])

end
end Sys2Proof.Machine

/-! #### Footprints: the parapet -/

namespace Sys2Proof.Machine
section
variable {F : Frame} {s u : State}

@[simp] theorem holds_setEntry (e : Nat) (x : EntryState) (h : Frame.Within ⟨[.prpt], [], []⟩ F) :
    F.holds s (setEntry e x u) ↔ F.holds s u := h.step (by simp +decide [setEntry])

@[simp] theorem holds_releaseValue (e v : Nat) (safe force : Bool) (h : Frame.Within ⟨[.prpt], [], []⟩ F) :
    F.holds s (releaseValue e v safe force u) ↔ F.holds s u :=
  h.step (by
    unfold releaseValue
    extract_lets x changed s₁
    split <;> simp +decide [s₁, setEntry])

@[simp] theorem holds_showOut (h : Frame.Within ⟨[], [(0x049, 0x049)], []⟩ F) :
    F.holds s (showOut u) ↔ F.holds s u := h.step (by simp +decide [showOut])

@[simp] theorem holds_latchSafe (cause : Nat) (h : Frame.Within ⟨[], [(0x049, 0x049)], []⟩ F) :
    F.holds s (latchSafe cause u) ↔ F.holds s u := h.step (by simp +decide [latchSafe])

@[simp] theorem holds_enterSafe (cause : Nat) (h : Frame.Within ⟨[.prpt], [(0x000, 0xFFF)], []⟩ F) :
    F.holds s (enterSafe cause u) ↔ F.holds s u :=
  h.step (by
    unfold enterSafe
    extract_lets x s₁ s₂
    have h₂ : Frame.holds ⟨[.prpt], [(0x000, 0xFFF)], []⟩ u s₂ := by simp +decide [s₂, s₁]
    refine (holds_markShadow (by simp +decide) _).2 ((holds_foldl (fun u e => ?_) _).2 h₂)
    simp +decide)

@[simp] theorem holds_enterReleased (cause : Nat) (h : Frame.Within ⟨[.prpt], [(0x049, 0x049)], []⟩ F) :
    F.holds s (enterReleased cause u) ↔ F.holds s u := h.step (by simp +decide [enterReleased])

@[simp] theorem holds_enterDrive (h : Frame.Within ⟨[.prpt], [(0x000, 0xFFF)], []⟩ F) :
    F.holds s (enterDrive u) ↔ F.holds s u :=
  h.step (by
    unfold enterDrive
    extract_lets fromSafe fromReleased x s₁ s₂
    have h₂ : Frame.holds ⟨[.prpt], [(0x000, 0xFFF)], []⟩ u s₂ := by simp +decide [s₂, s₁]
    refine (holds_markShadow (by simp +decide) _).2 ((holds_foldl (fun u e => ?_) _).2 h₂)
    simp +decide)

@[simp] theorem holds_parapetFollow (cause : Nat) (h : Frame.Within ⟨[.prpt], [(0x000, 0xFFF)], []⟩ F) :
    F.holds s (parapetFollow cause u) ↔ F.holds s u := h.step (by
    unfold parapetFollow
    split <;> simp +decide)

@[simp] theorem holds_latchSheet (h : Frame.Within ⟨[.prpt], [(0x000, 0xFFF)], []⟩ F) :
    F.holds s (latchSheet u) ↔ F.holds s u := h.step (by simp +decide [latchSheet])

@[simp] theorem holds_entryLoad (r : Nat) (h : Frame.Within ⟨[], [(0x049, 0x049)], []⟩ F) :
    F.holds s (entryLoad r u) ↔ F.holds s u := h.step (by simp +decide [entryLoad])

end
end Sys2Proof.Machine

/-! #### Footprints: segment ports -/

namespace Sys2Proof.Machine
section
variable {F : Frame} {s u : State}

@[simp] theorem holds_setSegPort (p : Nat) (x : SegPort) (h : Frame.Within ⟨[.seg], [], []⟩ F) :
    F.holds s (State.setSegPort u p x) ↔ F.holds s u := h.step (by simp +decide [State.setSegPort])

@[simp] theorem holds_localUpdate (inst qty sub v : Nat) (flag : ValueFlag) (h : Frame.Within ⟨[.pt, .pwr, .clk], [(0x040, 0x040)],
    [Reg.MODE_PWRST_DOZE]⟩ F) :
    F.holds s (localUpdate inst qty sub v flag u) ↔ F.holds s u := h.step (by simp +decide [localUpdate])

@[simp] theorem holds_readerFollow (r : Nat) (h : Frame.Within ⟨[.pt, .pwr, .clk, .acc], [(0x040, 0x040), (0x078, 0x078)],
    [Reg.MODE_PWRST_DOZE]⟩ F) :
    F.holds s (readerFollow r u) ↔ F.holds s u := h.step (by
    simp +decide [readerFollow]
    split <;> simp +decide)

@[simp] theorem holds_readersFollow (h : Frame.Within ⟨[.pt, .pwr, .clk, .acc], [(0x040, 0x040), (0x078, 0x078)],
    [Reg.MODE_PWRST_DOZE]⟩ F) :
    F.holds s (readersFollow u) ↔ F.holds s u := h.step (by simp +decide [readersFollow])

@[simp] theorem holds_setNup (p v : Nat) (h : Frame.Within ⟨[.pt, .pwr, .clk, .acc], [(0x040, 0x040), (0x078, 0x078), (0x100,
    0x11F)], [Reg.MODE_PWRST_DOZE]⟩ F) :
    F.holds s (setNup p v u) ↔ F.holds s u := h.step (by simp +decide [setNup])

@[simp] theorem holds_oosRequest (p : Nat) (node : Option Nat) (v : Bool) (h : Frame.Within ⟨[.pt, .pwr, .clk], [],
    [Reg.MODE_PWRST_DOZE]⟩ F) :
    F.holds s (oosRequest p node v u) ↔ F.holds s u := h.step (by simp +decide [oosRequest])

@[simp] theorem holds_laneDrop (p src i : Nat) (h : Frame.Within ⟨[.log, .lane], [(0x007, 0x007), (0x048, 0x048), (0x100, 0x11F)],
    []⟩ F) :
    F.holds s (laneDrop p src i u) ↔ F.holds s u := h.step (by simp +decide [laneDrop])

@[simp] theorem holds_notDelivered (p : Nat) (is : List Nat) (h : Frame.Within ⟨[.pt, .pwr, .clk], [(0x140, 0x15F)],
    [Reg.MODE_PWRST_DOZE]⟩ F) :
    F.holds s (notDelivered p is u) ↔ F.holds s u := h.step (by simp +decide [notDelivered])

end
end Sys2Proof.Machine

/-! #### Footprints: DMA transfers -/

namespace Sys2Proof.Machine
section
variable {F : Frame} {s u : State}

@[simp] theorem holds_putBytes (asid x0 : Nat) (x1 : List Nat) (h : Frame.Within ⟨[.mem], [], []⟩ F) :
    F.holds s (State.putBytes u asid x0 x1) ↔ F.holds s u :=
  h.step (by
    induction x1 generalizing u x0 with
    | nil => simp [State.putBytes]
    | cons b bs ih =>
      rw [State.putBytes]
      refine Frame.holds_trans ?_ (ih _)
      simp +decide)

@[simp] theorem holds_cleanLines (asid a n : Nat) (h : Frame.Within ⟨[.fab], [], []⟩ F) :
    F.holds s (State.cleanLines u asid a n) ↔ F.holds s u := h.step (by simp +decide [State.cleanLines])

@[simp] theorem holds_setProgress (c n : Nat) (h : Frame.Within ⟨[.fab], [], []⟩ F) :
    F.holds s (setProgress c n u) ↔ F.holds s u := h.step (by simp +decide [setProgress])

@[simp] theorem holds_copyBursts (asid x0 x1 x2 x3 : Nat) (h : Frame.Within ⟨[.mem, .fab], [], []⟩ F) :
    F.holds s (copyBursts asid x0 x1 x2 x3 u) ↔ F.holds s u :=
  h.step (by
    induction x0 generalizing u x1 x2 x3 with
    | zero => simp [copyBursts]
    | succ k ih =>
      rw [copyBursts]
      refine Frame.holds_trans ?_ (ih _ _ _)
      simp +decide)

@[simp] theorem holds_dmaMoved (c n bytes : Nat) (h : Frame.Within ⟨[.fab], [(0x015, 0x016)], []⟩ F) :
    F.holds s (dmaMoved c n bytes u) ↔ F.holds s u := h.step (by simp +decide [dmaMoved])

@[simp] theorem holds_dmaAdvance (c o : Nat) (h : Frame.Within ⟨[.mem, .fab], [(0x015, 0x016)], []⟩ F) :
    F.holds s (dmaAdvance c o u) ↔ F.holds s u := h.step (by simp +decide [dmaAdvance])

@[simp] theorem holds_dmaRecord (c : Nat) (h : Frame.Within ⟨[], [(0x015, 0x016)], []⟩ F) :
    F.holds s (dmaRecord c u) ↔ F.holds s u := h.step (by simp +decide [dmaRecord])

@[simp] theorem holds_dmaHalt (c v : Nat) (h : Frame.Within ⟨[.mem, .fab], [(0x015, 0x016)], []⟩ F) :
    F.holds s (dmaHalt c v u) ↔ F.holds s u := h.step (by simp +decide [dmaHalt])

@[simp] theorem holds_dmaAbort (c : Nat) (h : Frame.Within ⟨[.mem, .fab], [(0x015, 0x016)], []⟩ F) :
    F.holds s (dmaAbort c u) ↔ F.holds s u := h.step (by
    unfold dmaAbort
    split <;> simp +decide)

@[simp] theorem holds_abortTaskDma (t : Nat) (h : Frame.Within ⟨[.mem, .fab], [(0x015, 0x016)], []⟩ F) :
    F.holds s (abortTaskDma t u) ↔ F.holds s u := h.step (by simp +decide [abortTaskDma])

end
end Sys2Proof.Machine

/-! #### Footprints: feed switches -/

namespace Sys2Proof.Machine
section
variable {F : Frame} {s u : State}

@[simp] theorem holds_setFeed (p : Nat) (f : FeedState) (h : Frame.Within ⟨[.seg], [], []⟩ F) :
    F.holds s (setFeed p f u) ↔ F.holds s u := h.step (by simp +decide [setFeed])

@[simp] theorem holds_showSums (h : Frame.Within ⟨[], [(0x100, 0x11F)], []⟩ F) :
    F.holds s (showSums u) ↔ F.holds s u := h.step (by simp +decide [showSums])

@[simp] theorem holds_setFstate (p v : Nat) (h : Frame.Within ⟨[.seg], [(0x100, 0x11F)], []⟩ F) :
    F.holds s (setFstate p v u) ↔ F.holds s u := h.step (by simp +decide [setFstate])

@[simp] theorem holds_feedOpen (p : Nat) (h : Frame.Within ⟨[.seg], [(0x100, 0x11F)], []⟩ F) :
    F.holds s (feedOpen p u) ↔ F.holds s u := h.step (by simp +decide [feedOpen])

end
end Sys2Proof.Machine

/-! #### Footprints: the priority bus -/

namespace Sys2Proof.Machine
section
variable {F : Frame} {s u : State}

@[simp] theorem holds_showCeil (p : Nat) (h : Frame.Within ⟨[], [(0x120, 0x13F)], []⟩ F) :
    F.holds s (showCeil p u) ↔ F.holds s u := h.step (by simp +decide [showCeil])

@[simp] theorem holds_clearHeld (p j : Nat) (h : Frame.Within ⟨[], [(0x120, 0x13F)], []⟩ F) :
    F.holds s (clearHeld p j u) ↔ F.holds s u := h.step (by simp +decide [clearHeld])

@[simp] theorem holds_setTx (p j st : Nat) (sent late cancelled missed : Bool) (h : Frame.Within ⟨[.pbus], [(0x120, 0x13F)], []⟩ F)
    :
    F.holds s (setTx p j st sent late cancelled missed u) ↔ F.holds s u := h.step (by simp +decide [setTx])

@[simp] theorem holds_slotPend (p j : Nat) (h : Frame.Within ⟨[.pbus], [(0x120, 0x13F)], []⟩ F) :
    F.holds s (slotPend p j u) ↔ F.holds s u := h.step (by simp +decide [slotPend])

@[simp] theorem holds_setSlotMsgs (p j : Nat) (ms : List Nat) (h : Frame.Within ⟨[.pbus], [], []⟩ F) :
    F.holds s (setSlotMsgs p j ms u) ↔ F.holds s u := h.step (by simp +decide [setSlotMsgs])

@[simp] theorem holds_msgPend (p m : Nat) (h : Frame.Within ⟨[.pt, .pbus, .pwr, .clk], [(0x120, 0x13F), (0x140, 0x15F)],
    [Reg.MODE_PWRST_DOZE]⟩ F) :
    F.holds s (msgPend p m u) ↔ F.holds s u := h.step (by simp +decide [msgPend])

@[simp] theorem holds_slotDone (p j : Nat) (sent late cancelled : Bool) (h : Frame.Within ⟨[.pbus], [(0x120, 0x13F)], []⟩ F) :
    F.holds s (slotDone p j sent late cancelled u) ↔ F.holds s u := h.step (by simp +decide [slotDone])

@[simp] theorem holds_slotGoesOn (p j : Nat) (h : Frame.Within ⟨[.pbus], [(0x120, 0x13F)], []⟩ F) :
    F.holds s (slotGoesOn p j u) ↔ F.holds s u := h.step (by simp +decide [slotGoesOn])

@[simp] theorem holds_slotDrop (p j : Nat) (h : Frame.Within ⟨[.pt, .pbus, .pwr, .clk], [(0x140, 0x15F)], [Reg.MODE_PWRST_DOZE]⟩ F)
    :
    F.holds s (slotDrop p j u) ↔ F.holds s u := h.step (by simp +decide [slotDrop])

@[simp] theorem holds_setShadow (p k : Nat) (x : Shadow) (h : Frame.Within ⟨[.pbus], [], []⟩ F) :
    F.holds s (setShadow p k x u) ↔ F.holds s u := h.step (by simp +decide [setShadow])

@[simp] theorem holds_shadowClear (p k : Nat) (sent late cancelled : Bool) (h : Frame.Within ⟨[.pbus], [(0x120, 0x13F)], []⟩ F) :
    F.holds s (shadowClear p k sent late cancelled u) ↔ F.holds s u := h.step (by simp +decide [shadowClear])

@[simp] theorem holds_shadowArm (p k : Nat) (f : CanFrame) (m : Option Nat) (h : Frame.Within ⟨[.pbus], [(0x000, 0xFFF)], []⟩ F) :
    F.holds s (shadowArm p k f m u).1 ↔ F.holds s u :=
  h.step (by simp +decide [shadowArm])

@[simp] theorem holds_clearTx (p : Nat) (h : Frame.Within ⟨[.pbus], [], []⟩ F) :
    F.holds s (clearTx p u) ↔ F.holds s u := h.step (by simp +decide [clearTx])

@[simp] theorem holds_slotCancelled (p j : Nat) (h : Frame.Within ⟨[.pt, .pbus, .pwr, .clk], [(0x120, 0x13F), (0x140, 0x15F)],
    [Reg.MODE_PWRST_DOZE]⟩ F) :
    F.holds s (slotCancelled p j u) ↔ F.holds s u := h.step (by simp +decide [slotCancelled])

@[simp] theorem holds_shadowCancelled (p k : Nat) (h : Frame.Within ⟨[.pt, .pbus, .pwr, .clk], [(0x120, 0x13F), (0x140, 0x15F)],
    [Reg.MODE_PWRST_DOZE]⟩ F) :
    F.holds s (shadowCancelled p k u) ↔ F.holds s u := h.step (by simp +decide [shadowCancelled])

@[simp] theorem holds_cancelBit (p j : Nat) (v : Bool) (h : Frame.Within ⟨[], [(0x120, 0x13F)], []⟩ F) :
    F.holds s (cancelBit p j v u) ↔ F.holds s u := h.step (by simp +decide [cancelBit])

@[simp] theorem holds_unstage (p m : Nat) (h : Frame.Within ⟨[.pt, .pbus, .pwr, .clk], [(0x120, 0x13F), (0x140, 0x15F)],
    [Reg.MODE_PWRST_DOZE]⟩ F) :
    F.holds s (unstage p m u) ↔ F.holds s u := h.step (by simp +decide [unstage])

@[simp] theorem holds_lateSettled (p j : Nat) (h : Frame.Within ⟨[], [(0x120, 0x13F)], []⟩ F) :
    F.holds s (lateSettled p j u) ↔ F.holds s u := h.step (by simp +decide [lateSettled])

@[simp] theorem holds_lateShadow (p k : Nat) (h : Frame.Within ⟨[], [(0x120, 0x13F)], []⟩ F) :
    F.holds s (lateShadow p k u) ↔ F.holds s u := h.step (by simp +decide [lateShadow])

@[simp] theorem holds_txFails (p : Nat) (h : Frame.Within ⟨[.pt, .pbus, .pwr, .clk], [(0x120, 0x13F), (0x140, 0x15F)],
    [Reg.MODE_PWRST_DOZE]⟩ F) :
    F.holds s (txFails p u) ↔ F.holds s u := h.step (by
    simp +decide [txFails]
    repeat' split
    all_goals simp +decide)

@[simp] theorem holds_busIntegrate (p : Nat) (h : Frame.Within ⟨[.pbus], [(0x000, 0xFFF)], []⟩ F) :
    F.holds s (busIntegrate p u) ↔ F.holds s u := h.step (by simp +decide [busIntegrate])

@[simp] theorem holds_busStart (p : Nat) (h : Frame.Within ⟨[.pbus], [(0x000, 0xFFF)], []⟩ F) :
    F.holds s (busStart p u) ↔ F.holds s u := h.step (by simp +decide [busStart])

@[simp] theorem holds_busCancelPath (p : Nat) (h : Frame.Within ⟨[.pt, .pbus, .pwr, .clk], [(0x120, 0x13F), (0x140, 0x15F)],
    [Reg.MODE_PWRST_DOZE]⟩ F) :
    F.holds s (busCancelPath p u) ↔ F.holds s u := h.step (by simp +decide [busCancelPath])

@[simp] theorem holds_beaconCancel (p : Nat) (h : Frame.Within ⟨[.pt, .pbus, .pwr, .clk], [(0x120, 0x13F), (0x140, 0x15F)],
    [Reg.MODE_PWRST_DOZE]⟩ F) :
    F.holds s (beaconCancel p u) ↔ F.holds s u := h.step (by simp +decide [beaconCancel])

@[simp] theorem holds_busDropBeacon (p : Nat) (h : Frame.Within ⟨[.pt, .pbus, .pwr, .clk], [(0x120, 0x13F), (0x140, 0x15F)],
    [Reg.MODE_PWRST_DOZE]⟩ F) :
    F.holds s (busDropBeacon p u) ↔ F.holds s u := h.step (by simp +decide [busDropBeacon])

@[simp] theorem holds_busCut (p : Nat) (h : Frame.Within ⟨[.pt, .pbus, .pwr, .clk], [(0x120, 0x13F), (0x140, 0x15F)],
    [Reg.MODE_PWRST_DOZE]⟩ F) :
    F.holds s (busCut p u) ↔ F.holds s u := h.step (by
    simp +decide [busCut]
    repeat' split
    all_goals simp +decide)

@[simp] theorem holds_busStop (p : Nat) (h : Frame.Within ⟨[.pt, .pbus, .pwr, .clk], [(0x120, 0x13F), (0x140, 0x15F)],
    [Reg.MODE_PWRST_DOZE]⟩ F) :
    F.holds s (busStop p u) ↔ F.holds s u := h.step (by simp +decide [busStop])

@[simp] theorem holds_busBeacon (p : Nat) (bytes : List Nat) (h : Frame.Within ⟨[.pbus], [(0x120, 0x13F)], []⟩ F) :
    F.holds s (busBeacon p bytes u) ↔ F.holds s u := h.step (by simp +decide [busBeacon])

end
end Sys2Proof.Machine

/-! #### Footprints: ports and surveys -/

namespace Sys2Proof.Machine
section
variable {F : Frame} {s u : State}

@[simp] theorem holds_setHubAddr (p a : Nat) (h : Frame.Within ⟨[], [(0x140, 0x15F)], []⟩ F) :
    F.holds s (setHubAddr p a u) ↔ F.holds s u := h.step (by simp +decide [setHubAddr])

@[simp] theorem holds_sendFpm (p node : Nat) (bytes : List Nat) (h : Frame.Within ⟨[.out], [(0x140, 0x15F)], []⟩ F) :
    F.holds s (sendFpm p node bytes u) ↔ F.holds s u := h.step (by
    unfold sendFpm
    dsimp only
    split <;> simp +decide)

@[simp] theorem holds_beaconOut (p : Nat) (leave : Bool) (h : Frame.Within ⟨[.out, .seg, .pbus], [(0x100, 0x11F), (0x120, 0x13F),
    (0x140, 0x15F)], []⟩ F) :
    F.holds s (beaconOut p leave u) ↔ F.holds s u := h.step (by simp +decide [beaconOut])

@[simp] theorem holds_dropCmds (p : Nat) (node : Option Nat) (h : Frame.Within ⟨[.pt, .seg, .pwr, .clk], [(0x140, 0x15F)],
    [Reg.MODE_PWRST_DOZE]⟩ F) :
    F.holds s (dropCmds p node u) ↔ F.holds s u := h.step (by simp +decide [dropCmds])

@[simp] theorem holds_showMonitor (p : Nat) (h : Frame.Within ⟨[], [(0x120, 0x13F)], []⟩ F) :
    F.holds s (showMonitor p u) ↔ F.holds s u := h.step (by simp +decide [showMonitor])

@[simp] theorem holds_setPstate (p v : Nat) (h : Frame.Within ⟨[], [(0x100, 0x11F), (0x120, 0x13F)], []⟩ F) :
    F.holds s (setPstate p v u) ↔ F.holds s u := h.step (by simp +decide [setPstate])

@[simp] theorem holds_linkDown (p : Nat) (h : Frame.Within ⟨[], [(0x140, 0x15F)], []⟩ F) :
    F.holds s (linkDown p u) ↔ F.holds s u := h.step (by simp +decide [linkDown])

@[simp] theorem holds_waitForEcho (p j : Nat) (h : Frame.Within ⟨[.seg], [], []⟩ F) :
    F.holds s (waitForEcho p j u) ↔ F.holds s u := h.step (by simp +decide [waitForEcho])

@[simp] theorem holds_leaveOos (p : Nat) (h : Frame.Within ⟨[.seg], [], []⟩ F) :
    F.holds s (leaveOos p u) ↔ F.holds s u := h.step (by simp +decide [leaveOos])

@[simp] theorem holds_lineStop (p : Nat) (h : Frame.Within ⟨[.pt, .seg, .pbus, .pwr, .clk, .acc], [(0x040, 0x040), (0x078, 0x078),
    (0x100, 0x11F), (0x120, 0x13F), (0x140, 0x15F)], [Reg.MODE_PWRST_DOZE]⟩ F) :
    F.holds s (lineStop p u) ↔ F.holds s u := h.step (by simp +decide [lineStop])

@[simp] theorem holds_enterJoining (p : Nat) (h : Frame.Within ⟨[.pt, .seg, .pwr, .clk, .acc], [(0x000, 0xFFF)], []⟩ F) :
    F.holds s (enterJoining p u) ↔ F.holds s u := h.step (by simp +decide [enterJoining])

@[simp] theorem holds_enterReady (p : Nat) (h : Frame.Within ⟨[.pt, .seg, .pbus, .pwr, .clk, .acc], [(0x000, 0xFFF)], []⟩ F) :
    F.holds s (enterReady p u) ↔ F.holds s u := h.step (by simp +decide [enterReady])

@[simp] theorem holds_enterOos (p : Nat) (h : Frame.Within ⟨[.out, .pt, .seg, .pbus, .pwr, .clk], [(0x000, 0xFFF)], []⟩ F) :
    F.holds s (enterOos p u) ↔ F.holds s u := h.step (by simp +decide [enterOos])

@[simp] theorem holds_setSvyQueue (g p : Nat) (q : List Nat) (h : Frame.Within ⟨[.seg], [(0x100, 0x11F)], []⟩ F) :
    F.holds s (setSvyQueue g p q u) ↔ F.holds s u := h.step (by simp +decide [setSvyQueue])

@[simp] theorem holds_surveyBegin (p : Nat) (h : Frame.Within ⟨[.pt, .seg, .pbus, .pwr, .clk, .acc], [(0x000, 0xFFF)], []⟩ F) :
    F.holds s (surveyBegin p u) ↔ F.holds s u :=
  h.step (by
    unfold surveyBegin
    extract_lets frm s₁ x s₂ y s₃
    simp +decide [s₃, s₂, s₁, State.setSegPort])

@[simp] theorem holds_surveyAccept (p : Nat) (h : Frame.Within ⟨[.pt, .seg, .pbus, .pwr, .clk, .acc], [(0x000, 0xFFF)], []⟩ F) :
    F.holds s (surveyAccept p u) ↔ F.holds s u := h.step (by simp +decide [surveyAccept])

@[simp] theorem holds_surveyForget (p : Nat) (h : Frame.Within ⟨[.seg], [(0x100, 0x11F)], []⟩ F) :
    F.holds s (surveyForget p u) ↔ F.holds s u := h.step (by simp +decide [surveyForget])

@[simp] theorem holds_surveyEnd (p : Nat) (h : Frame.Within ⟨[.seg], [(0x100, 0x11F)], []⟩ F) :
    F.holds s (surveyEnd p u) ↔ F.holds s u := h.step (by simp +decide [surveyEnd])

@[simp] theorem holds_surveyAbort (p : Nat) (h : Frame.Within ⟨[.seg], [(0x100, 0x11F)], []⟩ F) :
    F.holds s (surveyAbort p u) ↔ F.holds s u := h.step (by simp +decide [surveyAbort])

@[simp] theorem holds_portEnable (p : Nat) (h : Frame.Within ⟨[.out, .pt, .seg, .pbus, .pwr, .clk, .acc], [(0x000, 0xFFF)], []⟩ F) :
    F.holds s (portEnable p u) ↔ F.holds s u := h.step (by simp +decide [portEnable])

@[simp] theorem holds_portOff (p : Nat) (leave : Bool) (h : Frame.Within ⟨[.out, .pt, .seg, .pbus, .pwr, .clk, .acc], [(0x040,
    0x040), (0x078, 0x078), (0x100, 0x11F), (0x120, 0x13F), (0x140, 0x15F)], [Reg.MODE_PWRST_DOZE]⟩ F) :
    F.holds s (portOff p leave u) ↔ F.holds s u := h.step (by simp +decide [portOff])

@[simp] theorem holds_settleOff (p : Nat) (h : Frame.Within ⟨[.out, .pt, .seg, .pbus, .pwr, .clk, .acc], [(0x040, 0x040), (0x078,
    0x078), (0x100, 0x11F), (0x120, 0x13F), (0x140, 0x15F)], [Reg.MODE_PWRST_DOZE]⟩ F) :
    F.holds s (settleOff p u) ↔ F.holds s u := h.step (by simp +decide [settleOff])

@[simp] theorem holds_busLeave (p : Nat) (leave : Bool) (h : Frame.Within ⟨[.out, .pt, .seg, .pbus, .pwr, .clk, .acc], [(0x040,
    0x040), (0x078, 0x078), (0x100, 0x11F), (0x120, 0x13F), (0x140, 0x15F)], [Reg.MODE_PWRST_DOZE]⟩ F) :
    F.holds s (busLeave p leave u) ↔ F.holds s u := h.step (by simp +decide [busLeave])

@[simp] theorem holds_enablePorts (h : Frame.Within ⟨[.out, .pt, .seg, .pbus, .pwr, .clk, .acc], [(0x000, 0xFFF)], []⟩ F) :
    F.holds s (enablePorts u) ↔ F.holds s u := h.step (by simp +decide [enablePorts])

@[simp] theorem holds_portsOff (leave : Bool) (h : Frame.Within ⟨[.out, .pt, .seg, .pbus, .pwr, .clk, .acc], [(0x000, 0xFFF)], []⟩
    F) :
    F.holds s (portsOff leave u) ↔ F.holds s u := h.step (by simp +decide [portsOff])

@[simp] theorem holds_portsFollow (ran leave : Bool) (h : Frame.Within ⟨[.out, .pt, .seg, .pbus, .pwr, .clk, .acc], [(0x000,
    0xFFF)], []⟩ F) :
    F.holds s (portsFollow ran leave u) ↔ F.holds s u := h.step (by simp +decide [portsFollow])

end
end Sys2Proof.Machine

/-! #### Footprints: port messages -/

namespace Sys2Proof.Machine
section
variable {F : Frame} {s u : State}

@[simp] theorem holds_showRxq (p : Nat) (h : Frame.Within ⟨[], [(0x140, 0x15F)], []⟩ F) :
    F.holds s (showRxq p u) ↔ F.holds s u := h.step (by simp +decide [showRxq])

@[simp] theorem holds_drainPort (p x0 : Nat) (h : Frame.Within ⟨[.pt, .seg, .pwr, .clk], [(0x040, 0x040), (0x140, 0x15F)],
    [Reg.MODE_PWRST_DOZE]⟩ F) :
    F.holds s (drainPort p x0 u) ↔ F.holds s u :=
  h.step (by
    induction x0 generalizing u with
    | zero => simp [drainPort]
    | succ n ih =>
      unfold drainPort
      extract_lets x
      split
      · simp
      · split
        · simp
        · exact Frame.holds_trans (by simp +decide) ih)

@[simp] theorem holds_drainPorts (h : Frame.Within ⟨[.pt, .seg, .pwr, .clk], [(0x040, 0x040), (0x140, 0x15F)],
    [Reg.MODE_PWRST_DOZE]⟩ F) :
    F.holds s (drainPorts u) ↔ F.holds s u := h.step (by simp +decide [drainPorts])

@[simp] theorem holds_addCmd (p : Nat) (c : CmdItem) (h : Frame.Within ⟨[.seg], [], []⟩ F) :
    F.holds s (addCmd p c u) ↔ F.holds s u := h.step (by simp +decide [addCmd])

@[simp] theorem holds_routeCommand (i v : Nat) (safe resend : Bool) (h : Frame.Within ⟨[.log, .lane, .pt, .seg, .pbus, .pwr, .clk],
    [(0x007, 0x007), (0x048, 0x048), (0x100, 0x11F), (0x120, 0x13F), (0x140, 0x15F)], [Reg.MODE_PWRST_DOZE]⟩ F) :
    F.holds s (routeCommand i v safe resend u) ↔ F.holds s u :=
  h.step (by
    simp +decide [routeCommand]
    repeat' split
    all_goals simp +decide)

@[simp] theorem holds_armMessage (p m : Nat) (h : Frame.Within ⟨[.pbus], [(0x000, 0xFFF)], []⟩ F) :
    F.holds s (armMessage p m u).1 ↔ F.holds s u :=
  h.step (by
    unfold armMessage
    split
    · split <;> simp +decide
    · simp +decide)

@[simp] theorem holds_routeReleases (h : Frame.Within ⟨[.log, .lane, .pt, .prpt, .seg, .pbus, .pwr, .clk], [(0x000, 0xFFF)], []⟩ F)
    :
    F.holds s (routeReleases u) ↔ F.holds s u :=
  h.step (by
    unfold routeReleases
    extract_lets rs x s₁ s₂ wanted armed
    have h₂ : Frame.holds ⟨[.log, .lane, .pt, .prpt, .seg, .pbus, .pwr, .clk], [(0x000, 0xFFF)], []⟩ u s₂ := by
      refine (holds_foldl (fun u r => ?_) _).2 (by simp +decide [s₁])
      split <;> simp +decide
    have harmed : Frame.holds ⟨[.log, .lane, .pt, .prpt, .seg, .pbus, .pwr, .clk], [(0x000, 0xFFF)], []⟩ s₂ armed.1 := by
      refine foldl_fst_holds (fun r pm => ?_) wanted (s₂, [])
      dsimp only
      split
      · simp
      · split <;> simp +decide
    refine (holds_foldl (fun u r => ?_) _).2 (Frame.holds_trans h₂ harmed)
    split
    · split <;> simp +decide
    · simp +decide)

end
end Sys2Proof.Machine

/-! #### Footprints: control loops -/

namespace Sys2Proof.Machine
section
variable {F : Frame} {s u : State}

@[simp] theorem holds_setGroup (g : Nat) (x : GroupState) (h : Frame.Within ⟨[.cle], [], []⟩ F) :
    F.holds s (State.setGroup u g x) ↔ F.holds s u := h.step (by simp +decide [State.setGroup])

@[simp] theorem holds_showCle (h : Frame.Within ⟨[], [(0x050, 0x050)], []⟩ F) :
    F.holds s (showCle u) ↔ F.holds s u := h.step (by simp +decide [showCle])

@[simp] theorem holds_readInput (n ref : Nat) (h : Frame.Within ⟨[.log, .lane], [(0x007, 0x007), (0x048, 0x048), (0x050, 0x050)],
    []⟩ F) :
    F.holds s (readInput n ref u).1 ↔ F.holds s u :=
  h.step (by
    simp +decide [readInput]
    repeat' split
    all_goals simp +decide)

@[simp] theorem holds_gatherSp (c : LoopCfg) (cs : List Nat) (n : Nat) (x : LoopState) (h : Frame.Within ⟨[.log, .lane], [(0x007,
    0x007), (0x048, 0x048), (0x050, 0x050)], []⟩ F) :
    F.holds s (gatherSp c cs n x u).1 ↔ F.holds s u :=
  h.step (by
    simp +decide [gatherSp]
    repeat' split
    all_goals simp +decide)

@[simp] theorem holds_gatherFf (c : LoopCfg) (n : Nat) (x : LoopState) (h : Frame.Within ⟨[.log, .lane], [(0x007, 0x007), (0x048,
    0x048), (0x050, 0x050)], []⟩ F) :
    F.holds s (gatherFf c n x u).1 ↔ F.holds s u :=
  h.step (by
    simp +decide [gatherFf]
    repeat' split
    all_goals simp +decide)

@[simp] theorem holds_sampleLoop (n ms : Nat) (h : Frame.Within ⟨[.log, .lane, .pt, .cle], [(0x007, 0x007), (0x040, 0x040), (0x048,
    0x048), (0x050, 0x050)], []⟩ F) :
    F.holds s (sampleLoop n ms u) ↔ F.holds s u :=
  h.step (by
    unfold sampleLoop
    split
    · simp
    · extract_lets k st x cs pv s₁ pvFail used sp ff x₁ i en tracking tv s₂ m r s₃ returned g entering was x₂ s₄
      refine Frame.holds_trans (t := s₂) ?_ ?_
      · simp +decide [s₂, tv, en, i, ff, sp, s₁, pv]
      · split <;> simp +decide [s₄, s₃])

@[simp] theorem holds_clearSelection (due : List Nat) (h : Frame.Within ⟨[.cle], [], []⟩ F) :
    F.holds s (clearSelection due u) ↔ F.holds s u := h.step (by simp +decide [clearSelection])

@[simp] theorem holds_loopSample (h : Frame.Within ⟨[.log, .lane, .pt, .cle], [(0x007, 0x007), (0x040, 0x040), (0x048, 0x048),
    (0x050, 0x050)], []⟩ F) :
    F.holds s (loopSample u) ↔ F.holds s u := h.step (by simp +decide [loopSample])

@[simp] theorem holds_countEval (c : LoopCfg) (g : Gather) (h : Frame.Within ⟨[.cle], [], [Reg.CLE_EVALS_COUNT,
    Reg.CLE_MINSLACK_US]⟩ F) :
    F.holds s (countEval c g u) ↔ F.holds s u := h.step (by simp +decide [countEval])

@[simp] theorem holds_evalLoop (n : Nat) (c : LoopCfg) (g : Gather) (h : Frame.Within ⟨[.cle], [], [Reg.CLE_EVALS_COUNT,
    Reg.CLE_MINSLACK_US]⟩ F) :
    F.holds s (evalLoop n c g u) ↔ F.holds s u := h.step (by simp +decide [evalLoop])

@[simp] theorem holds_memberFinish (lead : Bool) (out win : Option Nat) (m : Member) (h : Frame.Within ⟨[.cle], [],
    [Reg.CLE_EVALS_COUNT, Reg.CLE_MINSLACK_US]⟩ F) :
    F.holds s (memberFinish lead out win m u) ↔ F.holds s u := h.step (by simp +decide [memberFinish])

@[simp] theorem holds_holdGroup (gi v ms : Nat) (h : Frame.Within ⟨[.cle], [], []⟩ F) :
    F.holds s (holdGroup gi v ms u) ↔ F.holds s u := h.step (by
    unfold holdGroup
    split <;> simp +decide)

@[simp] theorem holds_evalGroup (gi : Nat) (h : Frame.Within ⟨[.cle], [], [Reg.CLE_EVALS_COUNT, Reg.CLE_MINSLACK_US]⟩ F) :
    F.holds s (evalGroup gi u) ↔ F.holds s u := h.step (by
    unfold evalGroup
    dsimp only
    split <;> simp +decide)

@[simp] theorem holds_evaluationComplete (n : Nat) (h : Frame.Within ⟨[.cle], [], [Reg.CLE_EVALS_COUNT, Reg.CLE_MINSLACK_US]⟩ F) :
    F.holds s (evaluationComplete n u) ↔ F.holds s u :=
  h.step (by
    simp +decide [evaluationComplete]
    repeat' split
    all_goals simp +decide)

@[simp] theorem holds_outputPresent (n : Nat) (h : Frame.Within ⟨[.pt, .cle], [(0x040, 0x040)], []⟩ F) :
    F.holds s (outputPresent n u) ↔ F.holds s u :=
  h.step (by
    unfold outputPresent
    split
    · simp +decide
    · dsimp only
      split <;> simp +decide)

@[simp] theorem holds_countLoopOverrun (n : Nat) (h : Frame.Within ⟨[.cle], [(0x050, 0x050)], []⟩ F) :
    F.holds s (countLoopOverrun n u) ↔ F.holds s u := h.step (by simp +decide [countLoopOverrun])

@[simp] theorem holds_latchOverrun (n : Nat) (h : Frame.Within ⟨[.log, .cle], [(0x007, 0x007), (0x050, 0x050)], []⟩ F) :
    F.holds s (latchOverrun n u) ↔ F.holds s u := h.step (by simp +decide [latchOverrun])

@[simp] theorem holds_overrunUnit (ns : List Nat) (h : Frame.Within ⟨[.log, .cle], [(0x007, 0x007), (0x050, 0x050)], []⟩ F) :
    F.holds s (overrunUnit ns u) ↔ F.holds s u := h.step (by simp +decide [overrunUnit])

@[simp] theorem holds_presentAgain (n ms : Nat) (h : Frame.Within ⟨[.cle], [], []⟩ F) :
    F.holds s (presentAgain n ms u) ↔ F.holds s u := h.step (by simp +decide [presentAgain])

@[simp] theorem holds_overrun (n : Nat) (h : Frame.Within ⟨[.log, .cle], [(0x007, 0x007), (0x050, 0x050)], []⟩ F) :
    F.holds s (overrun n u) ↔ F.holds s u := h.step (by
    simp +decide [overrun]
    repeat' split
    all_goals simp +decide)

@[simp] theorem holds_loopCommit (r : Nat) (h : Frame.Within ⟨[.log, .lane, .cle], [(0x007, 0x007), (0x048, 0x048), (0x051, 0x051)],
    []⟩ F) :
    F.holds s (loopCommit r u) ↔ F.holds s u := h.step (by
    simp +decide [loopCommit]
    split <;> simp +decide)

@[simp] theorem holds_loopSelect (r i mode field : Nat) (h : Frame.Within ⟨[], [(0x051, 0x051)], []⟩ F) :
    F.holds s (loopSelect r i mode field u) ↔ F.holds s u := h.step (by simp +decide [loopSelect])

@[simp] theorem holds_winPut (p r k v : Nat) (h : Frame.Within ⟨[], [(p % 4096, p % 4096)], []⟩ F) :
    F.holds s (winPut p r k v u) ↔ F.holds s u := h.step (by simp +decide [winPut])

@[simp] theorem holds_coefficientWrite (r i field v : Nat) (h : Frame.Within ⟨[.log, .lane, .cle], [(0x007, 0x007), (0x048, 0x048),
    (0x051, 0x051)], []⟩ F) :
    F.holds s (coefficientWrite r i field v u) ↔ F.holds s u := h.step (by simp +decide [coefficientWrite])

@[simp] theorem holds_initLoops (h : Frame.Within ⟨[.cle], [], []⟩ F) :
    F.holds s (initLoops u) ↔ F.holds s u := h.step (by simp +decide [initLoops])

end
end Sys2Proof.Machine

/-! #### Footprints: Measure -/

namespace Sys2Proof.Machine
section
variable {F : Frame} {s u : State}

@[simp] theorem holds_setMeas (r v : Nat) (h : Frame.Within ⟨[], [(0x020, 0x020)], []⟩ F) :
    F.holds s (setMeas r v u) ↔ F.holds s u := h.step (by simp +decide [setMeas])

@[simp] theorem holds_measExtend (r digest : Nat) (h : Frame.Within ⟨[], [(0x020, 0x020)], []⟩ F) :
    F.holds s (measExtend r digest u) ↔ F.holds s u := h.step (by simp +decide [measExtend])

end
end Sys2Proof.Machine

/-! #### Footprints: cyclic tasks -/

namespace Sys2Proof.Machine
section
variable {F : Frame} {s u : State}

@[simp] theorem holds_showCte (h : Frame.Within ⟨[], [(0x058, 0x058)], []⟩ F) :
    F.holds s (showCte u) ↔ F.holds s u := h.step (by simp +decide [showCte])

@[simp] theorem holds_setTimers (ts : List (Nat × Bool × Nat)) (m : Nat) (h : Frame.Within ⟨[.cte], [], []⟩ F) :
    F.holds s (setTimers ts m u) ↔ F.holds s u := h.step (by simp +decide [setTimers])

@[simp] theorem holds_resetTimers (im : TaskImage) (keep : List Nat) (h : Frame.Within ⟨[.cte], [], []⟩ F) :
    F.holds s (resetTimers im keep u) ↔ F.holds s u := h.step (by simp +decide [resetTimers])

@[simp] theorem holds_taskEvent (t : Nat) (h : Frame.Within ⟨[.cte, .pwr, .clk], [(0x058, 0x058)], [Reg.MODE_PWRST_DOZE]⟩ F) :
    F.holds s (taskEvent t u) ↔ F.holds s u := h.step (by simp +decide [taskEvent])

@[simp] theorem holds_pointEvent (i : Nat) (h : Frame.Within ⟨[.cte, .pwr, .clk], [(0x058, 0x058)], [Reg.MODE_PWRST_DOZE]⟩ F) :
    F.holds s (pointEvent i u) ↔ F.holds s u := h.step (by simp +decide [pointEvent])

@[simp] theorem holds_setLatch (l : Nat) (x : LatchState) (h : Frame.Within ⟨[.cte], [], []⟩ F) :
    F.holds s (setLatch l x u) ↔ F.holds s u := h.step (by simp +decide [setLatch])

@[simp] theorem holds_startLatch (l : Nat) (src : LatchSrc) (h : Frame.Within ⟨[.cte], [], []⟩ F) :
    F.holds s (startLatch l src u) ↔ F.holds s u := h.step (by simp +decide [startLatch])

@[simp] theorem holds_latchesFollow (h : Frame.Within ⟨[.cte], [], []⟩ F) :
    F.holds s (latchesFollow u) ↔ F.holds s u :=
  h.step (by
    unfold latchesFollow
    exact (holds_foldl (fun u t => (holds_foldl (fun u e => by simp +decide) _).2 Frame.holds_refl) _).2 Frame.holds_refl)

@[simp] theorem holds_latchEdge (l : Nat) (rise : Bool) (h : Frame.Within ⟨[.cte, .pwr, .clk], [(0x058, 0x058)],
    [Reg.MODE_PWRST_DOZE]⟩ F) :
    F.holds s (latchEdge l rise u) ↔ F.holds s u := h.step (by simp +decide [latchEdge])

@[simp] theorem holds_sourceEdge (src : LatchSrc) (v : Bool) (h : Frame.Within ⟨[.cte, .pwr, .clk], [(0x058, 0x058)],
    [Reg.MODE_PWRST_DOZE]⟩ F) :
    F.holds s (sourceEdge src v u) ↔ F.holds s u := h.step (by simp +decide [sourceEdge])

@[simp] theorem holds_showCore (core : Nat) (h : Frame.Within ⟨[], [(0x010, 0x013)], []⟩ F) :
    F.holds s (showCore core u) ↔ F.holds s u := h.step (by
    unfold showCore
    split <;> simp +decide)

@[simp] theorem holds_preemptOthers (core : Nat) (h : Frame.Within ⟨[.cte], [(0x010, 0x013), (0x058, 0x058)], []⟩ F) :
    F.holds s (preemptOthers core u) ↔ F.holds s u := h.step (by
    unfold preemptOthers
    split <;> simp +decide)

@[simp] theorem holds_cycleEnd (t : Nat) (h : Frame.Within ⟨[.cte], [(0x058, 0x058)], []⟩ F) :
    F.holds s (cycleEnd t u) ↔ F.holds s u := h.step (by simp +decide [cycleEnd])

@[simp] theorem holds_abandonCycle (t : Nat) (h : Frame.Within ⟨[.mem, .cte, .fab], [(0x015, 0x016), (0x058, 0x058)], []⟩ F) :
    F.holds s (abandonCycle t u) ↔ F.holds s u := h.step (by simp +decide [abandonCycle])

@[simp] theorem holds_contextFail (core t : Nat) (h : Frame.Within ⟨[.log, .mem, .cte, .fab], [(0x007, 0x007), (0x010, 0x013),
    (0x015, 0x016), (0x058, 0x058)], []⟩ F) :
    F.holds s (contextFail core t u) ↔ F.holds s u := h.step (by simp +decide [contextFail])

@[simp] theorem holds_dispatchCore (core : Nat) (bad : Bool) (h : Frame.Within ⟨[.log, .mem, .cte, .fab], [(0x007, 0x007), (0x010,
    0x013), (0x015, 0x016), (0x058, 0x058)], []⟩ F) :
    F.holds s (dispatchCore core bad u) ↔ F.holds s u :=
  h.step (by
    simp +decide [dispatchCore]
    repeat' split
    all_goals simp +decide)

@[simp] theorem holds_gatherInput (t : Nat) (g : PointTarget) (h : Frame.Within ⟨[.log, .lane], [(0x007, 0x007), (0x048, 0x048),
    (0x058, 0x058)], []⟩ F) :
    F.holds s (gatherInput t g u).1 ↔ F.holds s u :=
  h.step (by
    unfold gatherInput
    split
    · simp +decide
    · dsimp only
      split <;> simp +decide)

@[simp] theorem holds_gatherTask (t : Nat) (h : Frame.Within ⟨[.log, .lane, .cte], [(0x007, 0x007), (0x048, 0x048), (0x058, 0x058)],
    []⟩ F) :
    F.holds s (gatherTask t u) ↔ F.holds s u :=
  h.step (by
    unfold gatherTask
    extract_lets im g v x cnt img counts
    have hg : Frame.holds ⟨[.log, .lane, .cte], [(0x007, 0x007), (0x048, 0x048), (0x058, 0x058)], []⟩ u g.1 :=
      foldl_fst_holds (fun r e => by simp +decide) im.inputs (u, [])
    simp +decide [v, hg])

@[simp] theorem holds_applyChanges (t k : Nat) (h : Frame.Within ⟨[.cte], [], []⟩ F) :
    F.holds s (applyChanges t k u) ↔ F.holds s u := h.step (by simp +decide [applyChanges])

@[simp] theorem holds_releaseNow (t k : Nat) (h : Frame.Within ⟨[.log, .lane, .cte], [(0x007, 0x007), (0x010, 0x013), (0x048,
    0x048), (0x058, 0x058)], []⟩ F) :
    F.holds s (releaseNow t k u) ↔ F.holds s u := h.step (by simp +decide [releaseNow])

@[simp] theorem holds_countOverrun (t : Nat) (h : Frame.Within ⟨[.cte], [], [Reg.CTE_FAULT_OVERRUN, Reg.CTE_TOVR_COUNT.ix t,
    Reg.CTE_TSTAT_OVR.ix t]⟩ F) :
    F.holds s (countOverrun t u) ↔ F.holds s u := h.step (by simp +decide [countOverrun])

@[simp] theorem holds_orphanRule (t : Nat) (is : List Nat) (h : Frame.Within ⟨[.log, .pt], [(0x007, 0x007), (0x058, 0x058)],
    [Reg.PNT_DIRTY_COUNT]⟩ F) :
    F.holds s (orphanRule t is u) ↔ F.holds s u :=
  h.step (by
    unfold orphanRule
    extract_lets mapped
    refine (holds_foldl (fun u i => ?_) _).2 Frame.holds_refl
    split
    · simp
    · extract_lets v before x s₁
      split
      · simp
      · split <;> simp +decide [s₁, before])

@[simp] theorem holds_swapNow (t : Nat) (h : Frame.Within ⟨[.log, .pt, .cte, .pwr, .clk], [(0x007, 0x007), (0x020, 0x020), (0x040,
    0x040), (0x058, 0x058)], [Reg.MODE_PWRST_DOZE]⟩ F) :
    F.holds s (swapNow t u) ↔ F.holds s u := h.step (by
    unfold swapNow
    dsimp only
    split <;> simp +decide)

@[simp] theorem holds_applySwap (t : Nat) (h : Frame.Within ⟨[.log, .pt, .cte, .pwr, .clk], [(0x007, 0x007), (0x020, 0x020), (0x040,
    0x040), (0x058, 0x058)], [Reg.MODE_PWRST_DOZE]⟩ F) :
    F.holds s (applySwap t u) ↔ F.holds s u := h.step (by simp +decide [applySwap])

@[simp] theorem holds_taskRelease (t : Nat) (h : Frame.Within ⟨[.log, .lane, .pt, .cte, .pwr, .clk], [(0x007, 0x007), (0x010,
    0x013), (0x020, 0x020), (0x040, 0x040), (0x048, 0x048), (0x058, 0x058)], [Reg.MODE_PWRST_DOZE]⟩ F) :
    F.holds s (taskRelease t u) ↔ F.holds s u := h.step (by
    unfold taskRelease
    split <;> simp +decide)

@[simp] theorem holds_taskEventRelease (t : Nat) (h : Frame.Within ⟨[.log, .lane, .pt, .cte, .pwr, .clk], [(0x007, 0x007), (0x010,
    0x013), (0x020, 0x020), (0x040, 0x040), (0x048, 0x048), (0x058, 0x058)], [Reg.MODE_PWRST_DOZE]⟩ F) :
    F.holds s (taskEventRelease t u) ↔ F.holds s u := h.step (by
    unfold taskEventRelease
    split <;> simp +decide)

@[simp] theorem holds_gatherComplete (t : Nat) (h : Frame.Within ⟨[.log, .mem, .cte, .fab], [(0x007, 0x007), (0x010, 0x013), (0x015,
    0x016), (0x058, 0x058)], []⟩ F) :
    F.holds s (gatherComplete t u) ↔ F.holds s u := h.step (by simp +decide [gatherComplete])

@[simp] theorem holds_presentBatch (t : Nat) (us : List Update) (h : Frame.Within ⟨[.pt, .cte, .pwr, .clk], [(0x040, 0x040)],
    [Reg.MODE_PWRST_DOZE]⟩ F) :
    F.holds s (presentBatch t us u) ↔ F.holds s u := h.step (by simp +decide [presentBatch])

@[simp] theorem holds_watchdogStop (t : Nat) (h : Frame.Within ⟨[.log, .pt, .mem, .cte, .pwr, .clk, .fab], [(0x007, 0x007), (0x010,
    0x013), (0x015, 0x016), (0x040, 0x040), (0x058, 0x058)], [Reg.MODE_PWRST_DOZE]⟩ F) :
    F.holds s (watchdogStop t u) ↔ F.holds s u := h.step (by simp +decide [watchdogStop])

@[simp] theorem holds_watchdogNow (t : Nat) (h : Frame.Within ⟨[.log, .pt, .mem, .cte, .pwr, .clk, .fab], [(0x007, 0x007), (0x010,
    0x013), (0x015, 0x016), (0x040, 0x040), (0x058, 0x058)], [Reg.MODE_PWRST_DOZE]⟩ F) :
    F.holds s (watchdogNow t u) ↔ F.holds s u := h.step (by simp +decide [watchdogNow])

@[simp] theorem holds_watchdogExpiry (t : Nat) (h : Frame.Within ⟨[.log, .pt, .mem, .cte, .pwr, .clk, .fab], [(0x007, 0x007),
    (0x010, 0x013), (0x015, 0x016), (0x040, 0x040), (0x058, 0x058)], [Reg.MODE_PWRST_DOZE]⟩ F) :
    F.holds s (watchdogExpiry t u) ↔ F.holds s u := h.step (by
    unfold watchdogExpiry
    split <;> simp +decide)

@[simp] theorem holds_budgetOverrun (t : Nat) (h : Frame.Within ⟨[.cte], [], [Reg.CTE_FAULT_OVERRUN, Reg.CTE_TOVR_COUNT.ix t,
    Reg.CTE_TSTAT_OVR.ix t]⟩ F) :
    F.holds s (budgetOverrun t u) ↔ F.holds s u := h.step (by
    unfold budgetOverrun
    split <;> simp +decide)

@[simp] theorem holds_cycleComplete (t : Nat) (outs : List Nat) (vars : Table Nat) (timers : List (Nat × Bool × Nat)) (bad : Bool)
    (h : Frame.Within ⟨[.log, .pt, .mem, .cte, .pwr, .clk, .fab], [(0x007, 0x007), (0x010, 0x013), (0x015, 0x016), (0x040, 0x040),
    (0x058, 0x058)], [Reg.MODE_PWRST_DOZE]⟩ F) :
    F.holds s (cycleComplete t outs vars timers bad u) ↔ F.holds s u :=
  h.step (by
    unfold cycleComplete
    split <;> simp +decide)

@[simp] theorem holds_batchCommitted (t tick : Nat) (rest : List Nat) (h : Frame.Within ⟨[.cte], [(0x058, 0x058)], []⟩ F) :
    F.holds s (batchCommitted t tick rest u) ↔ F.holds s u := h.step (by simp +decide [batchCommitted])

@[simp] theorem holds_taskResult (t code : Nat) (h : Frame.Within ⟨[], [(0x058, 0x058)], []⟩ F) :
    F.holds s (taskResult t code u) ↔ F.holds s u := h.step (by simp +decide [taskResult])

@[simp] theorem holds_retainSave (t : Nat) (h : Frame.Within ⟨[.cte], [], []⟩ F) :
    F.holds s (retainSave t u) ↔ F.holds s u := h.step (by simp +decide [retainSave])

@[simp] theorem holds_freshTask (t : Nat) (h : Frame.Within ⟨[.cte], [], []⟩ F) :
    F.holds s (freshTask t u) ↔ F.holds s u := h.step (by simp +decide [freshTask])

@[simp] theorem holds_taskReject (r code : Nat) (h : Frame.Within ⟨[], [(0x058, 0x058), (0x059, 0x059)], []⟩ F) :
    F.holds s (taskReject r code u) ↔ F.holds s u := h.step (by simp +decide [taskReject])

@[simp] theorem holds_changeValue (r t item v : Nat) (h : Frame.Within ⟨[.cte], [(0x058, 0x058), (0x059, 0x059)], []⟩ F) :
    F.holds s (changeValue r t item v u) ↔ F.holds s u :=
  h.step (by
    unfold changeValue
    dsimp only
    split <;> simp +decide)

@[simp] theorem holds_taskCommand (r t cmd : Nat) (h : Frame.Within ⟨[.cte], [(0x058, 0x058), (0x059, 0x059)], []⟩ F) :
    F.holds s (taskCommand r t cmd u) ↔ F.holds s u := h.step (by
    unfold taskCommand
    split <;> simp +decide)

@[simp] theorem holds_clearTaskCounters (t : Nat) (h : Frame.Within ⟨[], [(0x058, 0x058)], []⟩ F) :
    F.holds s (clearTaskCounters t u) ↔ F.holds s u := h.step (by simp +decide [clearTaskCounters])

@[simp] theorem holds_taskCommit (r : Nat) (h : Frame.Within ⟨[.log, .lane, .cte], [(0x007, 0x007), (0x048, 0x048), (0x058, 0x058),
    (0x059, 0x059)], []⟩ F) :
    F.holds s (taskCommit r u) ↔ F.holds s u := h.step (by
    simp +decide [taskCommit]
    split <;> simp +decide)

@[simp] theorem holds_taskSelect (r t mode item : Nat) (h : Frame.Within ⟨[], [(0x059, 0x059)], []⟩ F) :
    F.holds s (taskSelect r t mode item u) ↔ F.holds s u := h.step (by simp +decide [taskSelect])

@[simp] theorem holds_abandonCycles (h : Frame.Within ⟨[.mem, .cte, .fab], [(0x000, 0xFFF)], []⟩ F) :
    F.holds s (abandonCycles u) ↔ F.holds s u := h.step (by simp +decide [abandonCycles])

@[simp] theorem holds_cteReload (bad : List Nat) (h : Frame.Within ⟨[.log, .cte], [(0x000, 0xFFF)], []⟩ F) :
    F.holds s (cteReload bad u) ↔ F.holds s u := h.step (by simp +decide [cteReload])

@[simp] theorem holds_commandCommit (r t cmd : Nat) (h : Frame.Within ⟨[.log, .lane, .cte], [(0x007, 0x007), (0x048, 0x048), (0x058,
    0x058), (0x059, 0x059)], []⟩ F) :
    F.holds s (commandCommit r t cmd u) ↔ F.holds s u := h.step (by simp +decide [commandCommit])

end
end Sys2Proof.Machine

/-! #### Footprints: the meter -/

namespace Sys2Proof.Machine
section
variable {F : Frame} {s u : State}

@[simp] theorem holds_setMeterCircuit (c : Nat) (x : MeterCircuit) (h : Frame.Within ⟨[.mtr], [], []⟩ F) :
    F.holds s (setMeterCircuit c x u) ↔ F.holds s u := h.step (by simp +decide [setMeterCircuit])

@[simp] theorem holds_openInterval (t flags : Nat) (base : Table Nat) (h : Frame.Within ⟨[.mtr], [], []⟩ F) :
    F.holds s (openInterval t flags base u) ↔ F.holds s u := h.step (by simp +decide [openInterval])

@[simp] theorem holds_flagInterval (f : Nat) (h : Frame.Within ⟨[.mtr], [], []⟩ F) :
    F.holds s (flagInterval f u) ↔ F.holds s u := h.step (by
    unfold flagInterval
    split <;> simp +decide)

@[simp] theorem holds_flagCircuits (f : Nat) (cs : List Nat) (h : Frame.Within ⟨[.mtr], [], []⟩ F) :
    F.holds s (flagCircuits f cs u) ↔ F.holds s u := h.step (by
    unfold flagCircuits
    split <;> simp +decide)

@[simp] theorem holds_closeIntervalAt (regs : Table Nat) (h : Frame.Within ⟨[.mtr], [], []⟩ F) :
    F.holds s (closeIntervalAt regs u) ↔ F.holds s u := h.step (by
    unfold closeIntervalAt
    split <;> simp +decide)

@[simp] theorem holds_closeInterval (h : Frame.Within ⟨[.mtr], [], []⟩ F) :
    F.holds s (closeInterval u) ↔ F.holds s u := h.step (by simp +decide [closeInterval])

@[simp] theorem holds_nextInterval (ms flags : Nat) (h : Frame.Within ⟨[.mtr], [], []⟩ F) :
    F.holds s (nextInterval ms flags u) ↔ F.holds s u := h.step (by simp +decide [nextInterval])

@[simp] theorem holds_endIntervalAt (ms : Nat) (h : Frame.Within ⟨[.mtr], [], []⟩ F) :
    F.holds s (endIntervalAt ms u) ↔ F.holds s u := h.step (by
    unfold endIntervalAt
    split <;> simp +decide)

@[simp] theorem holds_demandEnd (h : Frame.Within ⟨[.mtr], [], []⟩ F) :
    F.holds s (demandEnd u) ↔ F.holds s u := h.step (by
    unfold demandEnd
    split <;> simp +decide)

@[simp] theorem holds_takeInterval (ms held fresh len : Nat) (h : Frame.Within ⟨[.mtr], [], []⟩ F) :
    F.holds s (takeInterval ms held fresh len u) ↔ F.holds s u :=
  h.step (by
    unfold takeInterval
    extract_lets start put
    have hput : ∀ v, Frame.holds ⟨[.mtr], [], []⟩ u (put v) ↔ Frame.holds ⟨[.mtr], [], []⟩ u v := fun v => by
      unfold put
      split <;> simp +decide
    split
    · split <;> simp +decide [hput]
    · simp +decide [hput])

@[simp] theorem holds_meterTimeStep (d : Int) (h : Frame.Within ⟨[.mtr], [(0x060, 0x060)], []⟩ F) :
    F.holds s (meterTimeStep d u) ↔ F.holds s u := h.step (by
    simp +decide [meterTimeStep]
    split <;> simp +decide)

@[simp] theorem holds_putSlot (n : Nat) (i : Option SaveImage) (h : Frame.Within ⟨[.mtr], [], []⟩ F) :
    F.holds s (putSlot n i u) ↔ F.holds s u := h.step (by simp +decide [putSlot])

@[simp] theorem holds_meterSave (instant : Nat) (fails : Bool) (h : Frame.Within ⟨[.log, .mtr], [(0x007, 0x007), (0x060, 0x060)],
    []⟩ F) :
    F.holds s (meterSave instant fails u) ↔ F.holds s u := h.step (by simp +decide [meterSave])

@[simp] theorem holds_noteOver (ch : Nat) (h : Frame.Within ⟨[], [(0x060, 0x060)], []⟩ F) :
    F.holds s (noteOver ch u) ↔ F.holds s u := h.step (by simp +decide [noteOver])

@[simp] theorem holds_setLfValid (v : Bool) (h : Frame.Within ⟨[.rtc], [(0x060, 0x060)], [Reg.RTC_STAT_TRIMRUN]⟩ F) :
    F.holds s (setLfValid v u) ↔ F.holds s u := h.step (by simp +decide [setLfValid])

@[simp] theorem holds_trackerChange (v : Nat) (valid : Bool) (h : Frame.Within ⟨[.rtc, .mtr], [(0x060, 0x060)],
    [Reg.RTC_STAT_TRIMRUN]⟩ F) :
    F.holds s (trackerChange v valid u) ↔ F.holds s u := h.step (by simp +decide [trackerChange])

@[simp] theorem holds_windowTrackers (w : MeterWindow) (rs : List (Nat × ChannelRun)) (h : Frame.Within ⟨[.rtc, .mtr], [(0x060,
    0x060)], [Reg.RTC_STAT_TRIMRUN]⟩ F) :
    F.holds s (windowTrackers w rs u) ↔ F.holds s u := h.step (by simp +decide [windowTrackers])

@[simp] theorem holds_windowChannels (w : MeterWindow) (rs : List (Nat × ChannelRun)) (h : Frame.Within ⟨[.mtr], [(0x060, 0x060)],
    []⟩ F) :
    F.holds s (windowChannels w rs u) ↔ F.holds s u := h.step (by simp +decide [windowChannels])

@[simp] theorem holds_circuitFlows (c : Nat) (cfg : CircuitCfg) (w : MeterWindow) (rs : List (Nat × ChannelRun)) (w0 : Nat) (h :
    Frame.Within ⟨[.mtr], [], []⟩ F) :
    F.holds s (circuitFlows c cfg w rs w0 u).2 ↔ F.holds s u :=
  h.step (by
    unfold circuitFlows
    exact foldl_snd_holds (fun r e => by simp +decide) _ _)

@[simp] theorem holds_windowQuantities (c : Nat) (cfg : CircuitCfg) (phases : List (List PhaseFlow)) (kept : List Bool) (wend : Nat)
    (h : Frame.Within ⟨[.mtr], [], []⟩ F) :
    F.holds s (windowQuantities c cfg phases kept wend u) ↔ F.holds s u := h.step (by simp +decide [windowQuantities])

@[simp] theorem holds_windowCircuit (c : Nat) (cfg : CircuitCfg) (phases last : List (List PhaseFlow)) (ms w0 wend : Nat) (h :
    Frame.Within ⟨[.mtr], [], []⟩ F) :
    F.holds s (windowCircuit c cfg phases last ms w0 wend u) ↔ F.holds s u :=
  h.step (by
    simp +decide [windowCircuit]
    split <;> simp +decide)

@[simp] theorem holds_secondPeaks (h : Frame.Within ⟨[.mtr], [], []⟩ F) :
    F.holds s (secondPeaks u) ↔ F.holds s u := h.step (by
    unfold secondPeaks
    split <;> simp +decide)

@[simp] theorem holds_mainsReference (h : Frame.Within ⟨[.rtc, .mtr], [(0x060, 0x060)], [Reg.RTC_STAT_TRIMRUN]⟩ F) :
    F.holds s (mainsReference u) ↔ F.holds s u := h.step (by simp +decide [mainsReference])

@[simp] theorem holds_addSums (h : Frame.Within ⟨[.mtr], [], []⟩ F) :
    F.holds s (addSums u) ↔ F.holds s u := h.step (by simp +decide [addSums])

@[simp] theorem holds_meterPoints (h : Frame.Within ⟨[.pt, .mtr, .pwr, .clk], [(0x040, 0x040)], [Reg.MODE_PWRST_DOZE]⟩ F) :
    F.holds s (meterPoints u) ↔ F.holds s u := h.step (by simp +decide [meterPoints])

@[simp] theorem holds_meterResult (c code : Nat) (h : Frame.Within ⟨[.mtr], [(0x060, 0x060)], []⟩ F) :
    F.holds s (meterResult c code u) ↔ F.holds s u := h.step (by simp +decide [meterResult])

@[simp] theorem holds_applyCalibration (h : Frame.Within ⟨[.log, .mtr], [(0x007, 0x007), (0x060, 0x060)], []⟩ F) :
    F.holds s (applyCalibration u) ↔ F.holds s u := h.step (by simp +decide [applyCalibration])

@[simp] theorem holds_endGate (h : Frame.Within ⟨[], [], [Reg.MTR_STAT_TESTACT, Reg.MTR_STAT_TESTARMED]⟩ F) :
    F.holds s (endGate u) ↔ F.holds s u := h.step (by simp +decide [endGate])

@[simp] theorem holds_windowMeasured (w : MeterWindow) (rs : List (Nat × ChannelRun)) (h : Frame.Within ⟨[.rtc, .mtr], [(0x060,
    0x060)], [Reg.RTC_STAT_TRIMRUN]⟩ F) :
    F.holds s (windowMeasured w rs u) ↔ F.holds s u := h.step (by simp +decide [windowMeasured])

@[simp] theorem holds_sampleOnly (w : MeterWindow) (h : Frame.Within ⟨[.rtc, .mtr], [(0x060, 0x060)], [Reg.RTC_STAT_TRIMRUN]⟩ F) :
    F.holds s (sampleOnly w u) ↔ F.holds s u := h.step (by simp +decide [sampleOnly])

@[simp] theorem holds_meteredTime (ms len : Nat) (h : Frame.Within ⟨[.mtr], [], []⟩ F) :
    F.holds s (meteredTime ms len u) ↔ F.holds s u := h.step (by
    simp +decide [meteredTime]
    split <;> simp +decide)

@[simp] theorem holds_wholeSecond (h : Frame.Within ⟨[.mtr], [], []⟩ F) :
    F.holds s (wholeSecond u) ↔ F.holds s u := h.step (by simp +decide [wholeSecond])

@[simp] theorem holds_meterWindow (w : MeterWindow) (saveFails : Bool) (h : Frame.Within ⟨[.log, .rtc, .pt, .mtr, .pwr, .clk],
    [(0x007, 0x007), (0x040, 0x040), (0x060, 0x060)], [Reg.MODE_PWRST_DOZE, Reg.RTC_STAT_TRIMRUN]⟩ F) :
    F.holds s (meterWindow w saveFails u) ↔ F.holds s u :=
  h.step (by
    unfold meterWindow
    split
    · simp
    · split
      · simp +decide
      · split
        · simp
        · extract_lets +onlyGivenNames wend
          clear_value wend
          extract_lets +onlyGivenNames s₁ rs w₀ s₂ s₃ s₄
          refine Frame.holds_trans (t := s₄) (by simp +decide [s₄, s₃, s₂, s₁]) ?_
          simp +decide
          split
          · split <;> simp +decide
          · simp +decide)

@[simp] theorem holds_testArm (h : Frame.Within ⟨[.mtr], [], [Reg.MTR_STAT_TESTARMED]⟩ F) :
    F.holds s (testArm u) ↔ F.holds s u := h.step (by simp +decide [testArm])

@[simp] theorem holds_gateStart (h : Frame.Within ⟨[.mtr], [], [Reg.MTR_STAT_TESTACT]⟩ F) :
    F.holds s (gateStart u) ↔ F.holds s u := h.step (by
    unfold gateStart
    split <;> simp +decide)

@[simp] theorem holds_meterCommit (r : Nat) (h : Frame.Within ⟨[.mtr], [(0x060, 0x060), (0x061, 0x061)], []⟩ F) :
    F.holds s (meterCommit r u) ↔ F.holds s u := h.step (by simp +decide [meterCommit])

@[simp] theorem holds_calApply (r : Nat) (h : Frame.Within ⟨[.mtr], [], []⟩ F) :
    F.holds s (calApply r u) ↔ F.holds s u := h.step (by simp +decide [calApply])

@[simp] theorem holds_meterResume (start ms : Nat) (pf known : Bool) (h : Frame.Within ⟨[.log, .mtr], [(0x000, 0xFFF)], []⟩ F) :
    F.holds s (meterResume start ms pf known u) ↔ F.holds s u :=
  h.step (by
    unfold meterResume
    extract_lets s₁ s₂ s₃ gap extra fresh m s₄
    have h₃ : Frame.holds ⟨[.log, .mtr], [(0x000, 0xFFF)], []⟩ u s₃ := by simp +decide [s₃, s₂, s₁]
    split <;> simp +decide [s₄, h₃])

@[simp] theorem holds_meterRestore (bad : List Nat) (h : Frame.Within ⟨[.log, .mtr], [(0x000, 0xFFF)], []⟩ F) :
    F.holds s (meterRestore bad u) ↔ F.holds s u :=
  h.step (by
    unfold meterRestore
    extract_lets s₁ s₂ cfg mask s₃ s₄ m s₅ s₆ ms s₇ m' s₈ s₉ s₁₀
    refine Frame.holds_trans (t := s₄) (by simp +decide [s₄, s₃, s₂, s₁]) ?_
    refine Frame.holds_trans (t := s₆) (by simp +decide [s₆, s₅]) ?_
    split
    · simp
    · split
      · simp +decide [s₇, m']
      · exact Frame.holds_trans (t := s₈) (by simp +decide [s₈, s₇]) (by simp +decide [s₁₀, s₉]))

@[simp] theorem holds_emptyFilters (c : Nat) (cfg : CircuitCfg) (h : Frame.Within ⟨[.mtr], [], []⟩ F) :
    F.holds s (emptyFilters c cfg u).2 ↔ F.holds s u :=
  h.step (by
    unfold emptyFilters
    exact foldl_snd_holds (fun r e => by simp +decide) _ _)

@[simp] theorem holds_meterStop (w : MeterWindow) (h : Frame.Within ⟨[.rtc, .mtr], [(0x060, 0x060)], [Reg.RTC_STAT_TRIMRUN]⟩ F) :
    F.holds s (meterStop w u) ↔ F.holds s u :=
  h.step (by
    unfold meterStop
    split
    · simp +decide
    · dsimp only
      split <;> simp +decide)

@[simp] theorem holds_periodicOnly (h : Frame.Within ⟨[.log], [(0x000, 0xFFF)], []⟩ F) :
    F.holds s (periodicOnly u) ↔ F.holds s u := h.step (by simp +decide [periodicOnly])

end
end Sys2Proof.Machine

/-! #### Footprints: the viaduct -/

namespace Sys2Proof.Machine
section
variable {F : Frame} {s u : State}

@[simp] theorem holds_setPeer (k : Nat) (x : Peer) (h : Frame.Within ⟨[.via], [], []⟩ F) :
    F.holds s (State.setPeer u k x) ↔ F.holds s u := h.step (by simp +decide [State.setPeer])

@[simp] theorem holds_showPair (h : Frame.Within ⟨[], [], [Reg.PAIR_FAULT_ABUTLOST, Reg.PAIR_FAULT_PLINKLOST, Reg.PAIR_STAT_ABUT,
    Reg.PAIR_STAT_PLINK]⟩ F) :
    F.holds s (showPair u) ↔ F.holds s u := h.step (by simp +decide [showPair])

@[simp] theorem holds_showPeers (h : Frame.Within ⟨[], [(0x180, 0x180)], [Reg.PAIR_FAULT_ABUTLOST, Reg.PAIR_FAULT_PLINKLOST,
    Reg.PAIR_STAT_ABUT, Reg.PAIR_STAT_PLINK]⟩ F) :
    F.holds s (showPeers u) ↔ F.holds s u := h.step (by simp +decide [showPeers])

theorem ptxok_ix_mod (p : Nat) : Reg.UPL_PTXOK_COUNT.ix p = Reg.UPL_PTXOK_COUNT.ix (p % 2) := by
  show _ = { Reg.UPL_PTXOK_COUNT with word := Reg.UPL_PTXOK_COUNT.word + p % 2 % 2 * Reg.UPL_PTXOK_COUNT.s1 }
  rw [Nat.mod_mod]
  rfl

/-- Whatever port a datagram leaves by, its counter is that of port 0 or of port 1. -/
theorem inFrame_ptxok {gs : List (Nat × Nat)} {fs : List RegField} (h₀ : inFrame gs fs (Reg.UPL_PTXOK_COUNT.ix 0))
    (h₁ : inFrame gs fs (Reg.UPL_PTXOK_COUNT.ix 1)) (p : Nat) : inFrame gs fs (Reg.UPL_PTXOK_COUNT.ix p) := by
  rw [ptxok_ix_mod]
  rcases Nat.mod_two_eq_zero_or_one p with hp | hp
  · rw [hp]; exact h₀
  · rw [hp]; exact h₁

@[simp] theorem holds_viaCount (k : Nat) (h : Frame.Within ⟨[.via], [], [Reg.UPL_PTXOK_COUNT.ix 0, Reg.UPL_PTXOK_COUNT.ix 1]⟩ F) :
    F.holds s (viaCount k u) ↔ F.holds s u :=
  h.step ((holds_countWrap (inFrame_ptxok (by decide) (by decide) _) 1).2 (by simp +decide))

@[simp] theorem holds_viaSend (k typ : Nat) (body : List Nat) (h : Frame.Within ⟨[.out, .via], [], [Reg.UPL_PTXOK_COUNT.ix 0,
    Reg.UPL_PTXOK_COUNT.ix 1]⟩ F) :
    F.holds s (viaSend k typ body u) ↔ F.holds s u := h.step (by simp +decide [viaSend])

@[simp] theorem holds_viaSendAll (typ : Nat) (body : List Nat) (h : Frame.Within ⟨[.out, .via], [], [Reg.UPL_PTXOK_COUNT.ix 0,
    Reg.UPL_PTXOK_COUNT.ix 1]⟩ F) :
    F.holds s (viaSendAll typ body u) ↔ F.holds s u := h.step (by simp +decide [viaSendAll])

@[simp] theorem holds_badMsg (n : Nat) (h : Frame.Within ⟨[], [(0x180, 0x180)], []⟩ F) :
    F.holds s (badMsg n u) ↔ F.holds s u := h.step (by simp +decide [badMsg])

@[simp] theorem holds_sendSubscribe (j op : Nat) (is : List Nat) (h : Frame.Within ⟨[.out, .via], [], [Reg.UPL_PTXOK_COUNT.ix 0,
    Reg.UPL_PTXOK_COUNT.ix 1]⟩ F) :
    F.holds s (sendSubscribe j op is u) ↔ F.holds s u := h.step (by simp +decide [sendSubscribe])

@[simp] theorem holds_subscribeTo (j : Nat) (h : Frame.Within ⟨[.out, .via], [], [Reg.UPL_PTXOK_COUNT.ix 0, Reg.UPL_PTXOK_COUNT.ix
    1]⟩ F) :
    F.holds s (subscribeTo j u) ↔ F.holds s u := h.step (by simp +decide [subscribeTo])

@[simp] theorem holds_publishTo (k : Nat) (is : List Nat) (h : Frame.Within ⟨[.out, .via], [(0x180, 0x180)], [Reg.UPL_PTXOK_COUNT.ix
    0, Reg.UPL_PTXOK_COUNT.ix 1]⟩ F) :
    F.holds s (publishTo k is u) ↔ F.holds s u := h.step (by simp +decide [publishTo])

@[simp] theorem holds_publishOut (is : List Nat) (h : Frame.Within ⟨[.out, .via], [(0x180, 0x180)], [Reg.UPL_PTXOK_COUNT.ix 0,
    Reg.UPL_PTXOK_COUNT.ix 1]⟩ F) :
    F.holds s (publishOut is u) ↔ F.holds s u := h.step (by simp +decide [publishOut])

@[simp] theorem holds_noteEpoch (e : Nat) (h : Frame.Within ⟨[], [(0x180, 0x180)], []⟩ F) :
    F.holds s (noteEpoch e u) ↔ F.holds s u := h.step (by simp +decide [noteEpoch])

@[simp] theorem holds_keystoneSubscribe (h : Frame.Within ⟨[.out, .pt, .via], [(0x040, 0x040)], [Reg.UPL_PTXOK_COUNT.ix 0,
    Reg.UPL_PTXOK_COUNT.ix 1]⟩ F) :
    F.holds s (keystoneSubscribe u) ↔ F.holds s u := h.step (by simp +decide [keystoneSubscribe])

@[simp] theorem holds_keystoneUnsubscribe (h : Frame.Within ⟨[.out, .pt, .via], [(0x040, 0x040)], [Reg.UPL_PTXOK_COUNT.ix 0,
    Reg.UPL_PTXOK_COUNT.ix 1]⟩ F) :
    F.holds s (keystoneUnsubscribe u) ↔ F.holds s u := h.step (by simp +decide [keystoneUnsubscribe])

@[simp] theorem holds_keystoneFollow (h : Frame.Within ⟨[.out, .pt, .via], [(0x040, 0x040)], [Reg.UPL_PTXOK_COUNT.ix 0,
    Reg.UPL_PTXOK_COUNT.ix 1]⟩ F) :
    F.holds s (keystoneFollow u) ↔ F.holds s u := h.step (by simp +decide [keystoneFollow])

@[simp] theorem holds_setView (v : Option Claim) (h : Frame.Within ⟨[.out, .pt, .via], [(0x040, 0x040), (0x180, 0x180)],
    [Reg.UPL_PTXOK_COUNT.ix 0, Reg.UPL_PTXOK_COUNT.ix 1]⟩ F) :
    F.holds s (setView v u) ↔ F.holds s u := h.step (by simp +decide [setView])

@[simp] theorem holds_showEnrolled (h : Frame.Within ⟨[], [(0x180, 0x180)], []⟩ F) :
    F.holds s (showEnrolled u) ↔ F.holds s u := h.step (by simp +decide [showEnrolled])

@[simp] theorem holds_noteUnenrolled (k : Nat) (h : Frame.Within ⟨[.log], [(0x007, 0x007), (0x180, 0x180)], []⟩ F) :
    F.holds s (noteUnenrolled k u) ↔ F.holds s u := h.step (by simp +decide [noteUnenrolled])

@[simp] theorem holds_judgePeer (k : Nat) (h : Frame.Within ⟨[.out, .log, .via], [(0x007, 0x007), (0x180, 0x180)],
    [Reg.UPL_PTXOK_COUNT.ix 0, Reg.UPL_PTXOK_COUNT.ix 1]⟩ F) :
    F.holds s (judgePeer k u) ↔ F.holds s u := h.step (by simp +decide [judgePeer])

@[simp] theorem holds_setEnrolment (place : Nat) (v : Option Nat) (h : Frame.Within ⟨[.out, .log, .via], [(0x007, 0x007), (0x180,
    0x180)], [Reg.PAIR_FAULT_ABUTLOST, Reg.PAIR_FAULT_PLINKLOST, Reg.PAIR_STAT_ABUT, Reg.PAIR_STAT_PLINK, Reg.UPL_PTXOK_COUNT.ix 0,
    Reg.UPL_PTXOK_COUNT.ix 1]⟩ F) :
    F.holds s (setEnrolment place v u) ↔ F.holds s u := h.step (by simp +decide [setEnrolment])

/-- What a change of enrolment changes where this module is no keystone: it logs nothing then. -/
def enrolmentFrame : Frame :=
  ⟨[.out, .via], [], [Reg.PAIR_FAULT_ABUTLOST, Reg.PAIR_FAULT_PLINKLOST, Reg.PAIR_STAT_ABUT, Reg.PAIR_STAT_PLINK,
    Reg.UPL_PTXOK_COUNT.ix 0, Reg.UPL_PTXOK_COUNT.ix 1, Reg.VIA_UNENRLO_BITS, Reg.VIA_UNENRHI_BITS, Reg.VIA_PEERUPLO_BITS,
    Reg.VIA_PEERUPHI_BITS, Reg.VIA_ENRLO_BITS, Reg.VIA_ENRHI_BITS]⟩

theorem enrolmentFrame_role {t : State} (h : enrolmentFrame.holds u t) : t.get Reg.VIA_STAT_ROLE = u.get Reg.VIA_STAT_ROLE :=
  h.2 _ (by unfold Frame.leaves; decide)

theorem enrolmentFrame_holds_setEnrolment (h : u.get Reg.VIA_STAT_ROLE ≠ 2) (place : Nat) (v : Option Nat) :
    enrolmentFrame.holds u (setEnrolment place v u) := by
  have hjudge {w : State} (hw : w.get Reg.VIA_STAT_ROLE ≠ 2) : enrolmentFrame.holds w (judgePeer place w) := by
    unfold judgePeer
    simp +decide [hw, enrolmentFrame]
  unfold setEnrolment
  extract_lets list x s₁
  refine Frame.holds_trans (t := s₁) (by simp +decide [s₁, enrolmentFrame]) (Frame.holds_trans (hjudge h) ?_)
  simp +decide [enrolmentFrame, showEnrolled, showPeers]

theorem enrolmentFrame_holds_foldl (l : List ViaAction) (h : u.get Reg.VIA_STAT_ROLE ≠ 2) :
    enrolmentFrame.holds u (l.foldl (fun s a => setEnrolment a.place a.before s) u) := by
  induction l generalizing u with
  | nil => exact Frame.holds_refl
  | cons a l ih =>
    have ha := enrolmentFrame_holds_setEnrolment h a.place a.before
    exact Frame.holds_trans ha (ih (by rwa [enrolmentFrame_role ha]))

@[simp] theorem holds_stepDown (h : Frame.Within ⟨[.out, .pt, .via], [(0x040, 0x040), (0x180, 0x180)], [Reg.PAIR_FAULT_ABUTLOST,
    Reg.PAIR_FAULT_PLINKLOST, Reg.PAIR_STAT_ABUT, Reg.PAIR_STAT_PLINK, Reg.UPL_PCFG_RINGBLK.ix 1, Reg.UPL_PTXOK_COUNT.ix 0,
    Reg.UPL_PTXOK_COUNT.ix 1]⟩ F) :
    F.holds s (stepDown u) ↔ F.holds s u :=
  h.step (by
    unfold stepDown
    extract_lets was s₁ undo v s₂ s₃
    have hrole : s₁.get Reg.VIA_STAT_ROLE ≠ 2 := by
      unfold s₁
      split
      · rw [State.get_set_same]; decide
      · next h => exact fun e => h (.inl e)
    have h₂ : s₂.get Reg.VIA_STAT_ROLE ≠ 2 := hrole
    refine Frame.holds_trans (t := s₁) (by simp +decide [s₁]) (Frame.holds_trans (t := s₂) (by simp +decide [s₂]) ?_)
    refine Frame.holds_trans (Frame.Within.holds ?_ (enrolmentFrame_holds_foldl undo.reverse h₂)) (by simp +decide [s₃])
    simp +decide [enrolmentFrame])

@[simp] theorem holds_hearClaim (c : Claim) (direct : Bool) (h : Frame.Within ⟨[.out, .pt, .via], [(0x040, 0x040), (0x180, 0x180)],
    [Reg.PAIR_FAULT_ABUTLOST, Reg.PAIR_FAULT_PLINKLOST, Reg.PAIR_STAT_ABUT, Reg.PAIR_STAT_PLINK, Reg.UPL_PCFG_RINGBLK.ix 1,
    Reg.UPL_PTXOK_COUNT.ix 0, Reg.UPL_PTXOK_COUNT.ix 1]⟩ F) :
    F.holds s (hearClaim c direct u) ↔ F.holds s u := h.step (by
    unfold hearClaim
    dsimp only
    split <;> simp +decide)

@[simp] theorem holds_changeEnrolment (code place digest : Nat) (h : Frame.Within ⟨[.out, .log, .via], [(0x007, 0x007), (0x180,
    0x180)], [Reg.PAIR_FAULT_ABUTLOST, Reg.PAIR_FAULT_PLINKLOST, Reg.PAIR_STAT_ABUT, Reg.PAIR_STAT_PLINK, Reg.UPL_PTXOK_COUNT.ix 0,
    Reg.UPL_PTXOK_COUNT.ix 1]⟩ F) :
    F.holds s (changeEnrolment code place digest u) ↔ F.holds s u := h.step (by simp +decide [changeEnrolment])

@[simp] theorem holds_losePeer (k : Nat) (h : Frame.Within ⟨[.out, .pt, .via, .pwr, .clk], [(0x040, 0x040), (0x180, 0x180)],
    [Reg.MODE_PWRST_DOZE, Reg.PAIR_FAULT_ABUTLOST, Reg.PAIR_FAULT_PLINKLOST, Reg.PAIR_STAT_ABUT, Reg.PAIR_STAT_PLINK,
    Reg.UPL_PTXOK_COUNT.ix 0, Reg.UPL_PTXOK_COUNT.ix 1]⟩ F) :
    F.holds s (losePeer k u) ↔ F.holds s u := h.step (by simp +decide [losePeer])

@[simp] theorem holds_actionAnswered (k : Nat) (h : Frame.Within ⟨[.via], [(0x180, 0x180)], []⟩ F) :
    F.holds s (actionAnswered k u) ↔ F.holds s u := h.step (by simp +decide [actionAnswered])

@[simp] theorem holds_actionsLost (k : Nat) (h : Frame.Within ⟨[.via], [(0x180, 0x180)], []⟩ F) :
    F.holds s (actionsLost k u) ↔ F.holds s u := h.step (by simp +decide [actionsLost])

@[simp] theorem holds_dropViaSessions (h : Frame.Within ⟨[.via], [(0x000, 0xFFF)], []⟩ F) :
    F.holds s (dropViaSessions u) ↔ F.holds s u := h.step (by simp +decide [dropViaSessions])

end
end Sys2Proof.Machine

/-! #### Footprints: pairs -/

namespace Sys2Proof.Machine
section
variable {F : Frame} {s u : State}

@[simp] theorem holds_sendLreq (kind stbleft : Nat) (dests : List Nat) (h : Frame.Within ⟨[.out, .via, .pair], [],
    [Reg.UPL_PTXOK_COUNT.ix 0, Reg.UPL_PTXOK_COUNT.ix 1]⟩ F) :
    F.holds s (sendLreq kind stbleft dests u) ↔ F.holds s u := h.step (by simp +decide [sendLreq])

@[simp] theorem holds_setPermission (v : Bool) (h : Frame.Within ⟨[.prpt], [(0x181, 0x181)], []⟩ F) :
    F.holds s (setPermission v u) ↔ F.holds s u := h.step (by simp +decide [setPermission])

@[simp] theorem holds_withdraw (cause : Nat) (h : Frame.Within ⟨[.out, .pt, .prpt, .seg, .pbus, .pwr, .clk, .acc], [(0x040, 0x040),
    (0x049, 0x049), (0x078, 0x078), (0x100, 0x11F), (0x120, 0x13F), (0x140, 0x15F), (0x181, 0x181)], [Reg.MODE_PWRST_DOZE]⟩ F) :
    F.holds s (withdraw cause u) ↔ F.holds s u := h.step (by simp +decide [withdraw])

@[simp] theorem holds_pairRelease (cause : Nat) (h : Frame.Within ⟨[.out, .pt, .prpt, .seg, .pbus, .via, .pair, .pwr, .clk, .acc],
    [(0x040, 0x040), (0x049, 0x049), (0x078, 0x078), (0x100, 0x11F), (0x120, 0x13F), (0x140, 0x15F), (0x181, 0x181)],
    [Reg.MODE_PWRST_DOZE, Reg.UPL_PTXOK_COUNT.ix 0, Reg.UPL_PTXOK_COUNT.ix 1]⟩ F) :
    F.holds s (pairRelease cause u) ↔ F.holds s u := h.step (by simp +decide [pairRelease])

end
end Sys2Proof.Machine

/-! #### Footprints: modes -/

namespace Sys2Proof.Machine
section
variable {F : Frame} {s u : State}

@[simp] theorem holds_holdLoops (h : Frame.Within ⟨[.cle], [(0x000, 0xFFF)], []⟩ F) :
    F.holds s (holdLoops u) ↔ F.holds s u := h.step (by simp +decide [holdLoops])

@[simp] theorem holds_showMonitors (h : Frame.Within ⟨[], [(0x000, 0xFFF)], []⟩ F) :
    F.holds s (showMonitors u) ↔ F.holds s u := h.step (by simp +decide [showMonitors])

@[simp] theorem holds_dropSessions (h : Frame.Within ⟨[.sessions, .via], [(0x000, 0xFFF)], []⟩ F) :
    F.holds s (dropSessions u) ↔ F.holds s u := h.step (by simp +decide [dropSessions])

@[simp] theorem holds_viaFollow (h : Frame.Within ⟨[.out, .pt, .via], [(0x000, 0xFFF)], []⟩ F) :
    F.holds s (viaFollow u) ↔ F.holds s u := h.step (by simp +decide [viaFollow])

@[simp] theorem holds_enginesFollow (from' : Nat) (h : Frame.Within ⟨[.out, .sessions, .log, .pt, .mem, .cle, .cte, .mtr, .via,
    .fab], [(0x000, 0xFFF)], []⟩ F) :
    F.holds s (enginesFollow from' u) ↔ F.holds s u := h.step (by simp +decide [enginesFollow])

@[simp] theorem holds_beginCheck (h : Frame.Within ⟨[.pwr], [(0x000, 0xFFF)], []⟩ F) :
    F.holds s (beginCheck u) ↔ F.holds s u := h.step (by simp +decide [beginCheck])

@[simp] theorem holds_checkIfNone (h : Frame.Within ⟨[.pwr], [(0x000, 0xFFF)], []⟩ F) :
    F.holds s (checkIfNone u) ↔ F.holds s u := h.step (by simp +decide [checkIfNone])

@[simp] theorem holds_clkoFollow (from' : Nat) (h : Frame.Within ⟨[], [(0x000, 0xFFF)], []⟩ F) :
    F.holds s (clkoFollow from' u) ↔ F.holds s u := h.step (by simp +decide [clkoFollow])

@[simp] theorem holds_degradedFollow (h : Frame.Within ⟨[.seg], [], []⟩ F) :
    F.holds s (degradedFollow u) ↔ F.holds s u := h.step (by simp +decide [degradedFollow])

@[simp] theorem holds_changeMode (new cause : Nat) (h : Frame.Within ⟨[.out, .keys, .sessions, .log, .lane, .pt, .prpt, .seg, .pbus,
    .mem, .cle, .cte, .mtr, .via, .pair, .pwr, .clk, .fab, .acc], [(0x000, 0xFFF)], []⟩ F) :
    F.holds s (changeMode new cause u) ↔ F.holds s u := h.step (by simp +decide [changeMode])

@[simp] theorem holds_leaveService (h : Frame.Within ⟨[.out, .keys, .sessions, .log, .lane, .pt, .prpt, .seg, .pbus, .mem, .cle,
    .cte, .mtr, .via, .pair, .pwr, .clk, .fab, .acc], [(0x000, 0xFFF)], []⟩ F) :
    F.holds s (leaveService u) ↔ F.holds s u := h.step (by simp +decide [leaveService])

@[simp] theorem holds_enterDegraded (cause : Nat) (h : Frame.Within ⟨[.out, .keys, .sessions, .log, .lane, .pt, .prpt, .seg, .pbus,
    .mem, .cle, .cte, .mtr, .via, .pair, .pwr, .clk, .fab, .acc], [(0x000, 0xFFF)], []⟩ F) :
    F.holds s (enterDegraded cause u) ↔ F.holds s u := h.step (by simp +decide [enterDegraded])

@[simp] theorem holds_modeFollow (h : Frame.Within ⟨[.out, .keys, .sessions, .log, .lane, .pt, .prpt, .seg, .pbus, .mem, .cle, .cte,
    .mtr, .via, .pair, .pwr, .clk, .fab, .acc], [(0x000, 0xFFF)], []⟩ F) :
    F.holds s (modeFollow u) ↔ F.holds s u := h.step (by simp +decide [modeFollow])

@[simp] theorem holds_lowHoldupFollow (k : Nat) (h : Frame.Within ⟨[.log, .seg], [(0x000, 0xFFF)], []⟩ F) :
    F.holds s (lowHoldupFollow k u) ↔ F.holds s u := h.step (by simp +decide [lowHoldupFollow])

@[simp] theorem holds_beginShort (k : Nat) (h : Frame.Within ⟨[.out, .keys, .sessions, .log, .lane, .pt, .prpt, .seg, .pbus, .mem,
    .cle, .cte, .mtr, .via, .pair, .pwr, .clk, .fab, .acc], [(0x000, 0xFFF)], []⟩ F) :
    F.holds s (beginShort k u) ↔ F.holds s u := h.step (by
    simp +decide [beginShort]
    split <;> simp +decide)

@[simp] theorem holds_endShort (k : Nat) (h : Frame.Within ⟨[.out, .keys, .sessions, .log, .lane, .pt, .prpt, .seg, .pbus, .mem,
    .cle, .cte, .mtr, .via, .pair, .pwr, .clk, .fab, .acc], [(0x000, 0xFFF)], []⟩ F) :
    F.holds s (endShort k u) ↔ F.holds s u := h.step (by simp +decide [endShort])

@[simp] theorem holds_lostUplinks (h : Frame.Within ⟨[.out, .keys, .sessions, .log, .lane, .pt, .prpt, .seg, .pbus, .mem, .cle,
    .cte, .mtr, .via, .pair, .pwr, .clk, .fab, .acc], [(0x000, 0xFFF)], []⟩ F) :
    F.holds s (lostUplinks u) ↔ F.holds s u := h.step (by simp +decide [lostUplinks])

@[simp] theorem holds_startFollow (h : Frame.Within ⟨[.out, .keys, .sessions, .log, .lane, .pt, .prpt, .seg, .pbus, .mem, .cle,
    .cte, .mtr, .via, .pair, .pwr, .clk, .fab, .acc], [(0x000, 0xFFF)], []⟩ F) :
    F.holds s (startFollow u) ↔ F.holds s u := h.step (by simp +decide [startFollow])

end
end Sys2Proof.Machine

/-! #### Footprints: the caisson -/

namespace Sys2Proof.Machine
section
variable {F : Frame} {s u : State}

@[simp] theorem holds_setHalf (h v : Nat) (hw : Frame.Within ⟨[], [(0x004, 0x004)], []⟩ F) :
    F.holds s (setHalf h v u) ↔ F.holds s u := hw.step (by simp +decide [setHalf])

@[simp] theorem holds_meterPowerFail (w : MeterWindow) (h : Frame.Within ⟨[.rtc, .mtr, .pwr], [(0x004, 0x004), (0x060, 0x060)],
    [Reg.RTC_STAT_TRIMRUN]⟩ F) :
    F.holds s (meterPowerFail w u) ↔ F.holds s u := h.step (by simp +decide [meterPowerFail])

end
end Sys2Proof.Machine

/-! #### Footprints: the time base -/

namespace Sys2Proof.Machine
section
variable {F : Frame} {s u : State}

@[simp] theorem holds_taiStep (d : Int) (h : Frame.Within ⟨[.time, .cle, .cte, .mtr], [(0x00A, 0x00A), (0x050, 0x050), (0x058,
    0x058), (0x060, 0x060)], []⟩ F) :
    F.holds s (taiStep d u) ↔ F.holds s u := h.step (by simp +decide [taiStep])

end
end Sys2Proof.Machine

/-! #### Footprints: PTP and uplinks -/

namespace Sys2Proof.Machine
section
variable {F : Frame} {s u : State}

@[simp] theorem holds_setUplink (p : Nat) (x : UplinkState) (h : Frame.Within ⟨[.uplinks], [], []⟩ F) :
    F.holds s (State.setUplink u p x) ↔ F.holds s u := h.step (by simp +decide [State.setUplink])

@[simp] theorem holds_setLock (v : Bool) (h : Frame.Within ⟨[.rtc], [], [Reg.CLE_FAULT_ALIGNLOST, Reg.CLE_STAT_ALIGN,
    Reg.RTC_STAT_TRIMRUN, Reg.TBASE_FAULT_LOCKLOST, Reg.TBASE_LOCKLOSS_COUNT, Reg.TBASE_STAT_LOCK]⟩ F) :
    F.holds s (setLock v u) ↔ F.holds s u := h.step (by simp +decide [setLock])

@[simp] theorem holds_syncStop (h : Frame.Within ⟨[.time], [], []⟩ F) :
    F.holds s (syncStop u) ↔ F.holds s u := h.step (by simp +decide [syncStop])

@[simp] theorem holds_syncLost (h : Frame.Within ⟨[.rtc, .time], [], [Reg.CLE_FAULT_ALIGNLOST, Reg.CLE_STAT_ALIGN,
    Reg.RTC_STAT_TRIMRUN, Reg.TBASE_FAULT_LOCKLOST, Reg.TBASE_LOCKLOSS_COUNT, Reg.TBASE_STAT_HOLDOVER, Reg.TBASE_STAT_LOCK]⟩ F) :
    F.holds s (syncLost u) ↔ F.holds s u := h.step (by simp +decide [syncLost])

@[simp] theorem holds_ptpSync (p : Nat) (off : Int) (delay : Nat) (h : Frame.Within ⟨[.rtc, .time, .cle, .cte, .mtr], [(0x00A,
    0x00A), (0x050, 0x050), (0x058, 0x058), (0x060, 0x060), (0x182, 0x182)], [Reg.RTC_STAT_TRIMRUN]⟩ F) :
    F.holds s (ptpSync p off delay u) ↔ F.holds s u :=
  h.step (by
    unfold ptpSync
    extract_lets st s₁ s₂ s₃ n x s₄ s₅ s₆ s₇ y s₈
    split
    · simp
    · refine Frame.holds_trans (t := s₁) (by simp +decide [s₁]) ?_
      refine Frame.holds_trans (t := s₄) (by simp +decide [s₄, s₃, s₂]) ?_
      refine Frame.holds_trans (t := s₆) (by simp +decide [s₆, s₅]) ?_
      refine Frame.holds_trans (t := s₈) (by simp +decide [s₈, s₇, y, timeRebase]) ?_
      split <;> simp +decide)

@[simp] theorem holds_setMaster (gm : Nat) (h : Frame.Within ⟨[], [(0x182, 0x182)], []⟩ F) :
    F.holds s (setMaster gm u) ↔ F.holds s u := h.step (by simp +decide [setMaster])

@[simp] theorem holds_ptpChoose (h : Frame.Within ⟨[.time], [(0x00A, 0x00A), (0x182, 0x182)], []⟩ F) :
    F.holds s (ptpChoose u) ↔ F.holds s u := h.step (by
    simp +decide [ptpChoose]
    repeat' split
    all_goals simp +decide)

@[simp] theorem holds_ptpAnnounce (p : Nat) (a : PtpAnnounce) (h : Frame.Within ⟨[.time, .uplinks], [(0x00A, 0x00A), (0x182,
    0x182)], []⟩ F) :
    F.holds s (ptpAnnounce p a u) ↔ F.holds s u := h.step (by simp +decide [ptpAnnounce])

@[simp] theorem holds_announceTimeout (p : Nat) (h : Frame.Within ⟨[.time, .uplinks], [(0x00A, 0x00A), (0x182, 0x182)], []⟩ F) :
    F.holds s (announceTimeout p u) ↔ F.holds s u := h.step (by
    unfold announceTimeout
    split <;> simp +decide)

@[simp] theorem holds_setUplinkLink (p : Nat) (up : Bool) (speed : Nat) (h : Frame.Within ⟨[.time, .uplinks], [(0x000, 0xFFF)], []⟩
    F) :
    F.holds s (setUplinkLink p up speed u) ↔ F.holds s u := h.step (by simp +decide [setUplinkLink])

@[simp] theorem holds_icmpReceive (p vid : Nat) (m : IcmpMessage) (h : Frame.Within ⟨[.out], [], [Reg.UPL_PRXOK_COUNT.ix p,
    Reg.UPL_PTXOK_COUNT.ix p]⟩ F) :
    F.holds s (icmpReceive p vid m u) ↔ F.holds s u :=
  h.step (by
    unfold icmpReceive
    split
    · simp
    · dsimp only
      split
      · split <;> simp +decide
      · split <;> simp +decide
      · simp +decide
      · simp +decide)

end
end Sys2Proof.Machine

/-! #### Footprints: viaduct datagrams -/

namespace Sys2Proof.Machine
section
variable {F : Frame} {s u : State}

@[simp] theorem holds_higherEpoch (e : Nat) (h : Frame.Within ⟨[.out, .keys, .sessions, .log, .lane, .pt, .prpt, .seg, .pbus, .mem,
    .cle, .cte, .mtr, .via, .pair, .pwr, .clk, .fab, .acc], [(0x000, 0xFFF)], []⟩ F) :
    F.holds s (higherEpoch e u) ↔ F.holds s u :=
  h.step (by
    unfold higherEpoch
    split
    · simp +decide
    · dsimp only
      split <;> simp +decide)

@[simp] theorem holds_partnerEpoch (k e : Nat) (h : Frame.Within ⟨[.out, .keys, .sessions, .log, .lane, .pt, .prpt, .seg, .pbus,
    .mem, .cle, .cte, .mtr, .via, .pair, .pwr, .clk, .fab, .acc], [(0x000, 0xFFF)], []⟩ F) :
    F.holds s (partnerEpoch k e u) ↔ F.holds s u := h.step (by
    unfold partnerEpoch
    split <;> simp +decide)

@[simp] theorem holds_ringFollow (h : Frame.Within ⟨[.via], [], [Reg.UPL_PCFG_RINGBLK.ix 1]⟩ F) :
    F.holds s (ringFollow u) ↔ F.holds s u := h.step (by simp +decide [ringFollow])

@[simp] theorem holds_uplinkPortLost (p : Nat) (h : Frame.Within ⟨[.out, .keys, .sessions, .log, .lane, .pt, .prpt, .seg, .pbus,
    .mem, .cle, .cte, .mtr, .via, .uplinks, .pair, .pwr, .clk, .fab, .acc], [(0x000, 0xFFF)], []⟩ F) :
    F.holds s (uplinkPortLost p u) ↔ F.holds s u := h.step (by
    unfold uplinkPortLost
    dsimp only
    split <;> simp +decide)

@[simp] theorem holds_showOverlap (h : Frame.Within ⟨[], [(0x180, 0x180)], []⟩ F) :
    F.holds s (showOverlap u) ↔ F.holds s u := h.step (by simp +decide [showOverlap])

@[simp] theorem holds_heartbeat (k flags kslot krank kepoch pmode : Nat) (h : Frame.Within ⟨[.out, .pt, .via], [(0x040, 0x040),
    (0x180, 0x180)], [Reg.PAIR_FAULT_ABUTLOST, Reg.PAIR_FAULT_PLINKLOST, Reg.PAIR_STAT_ABUT, Reg.PAIR_STAT_PLINK,
    Reg.UPL_PCFG_RINGBLK.ix 1, Reg.UPL_PTXOK_COUNT.ix 0, Reg.UPL_PTXOK_COUNT.ix 1]⟩ F) :
    F.holds s (heartbeat k flags kslot krank kepoch pmode u) ↔ F.holds s u :=
  h.step (by
    simp +decide [heartbeat]
    split <;> simp +decide)

@[simp] theorem holds_ringBlockSet (h : Frame.Within ⟨[], [], [Reg.UPL_PCFG_RINGBLK.ix 1]⟩ F) :
    F.holds s (ringBlockSet u) ↔ F.holds s u := h.step (by
    unfold ringBlockSet
    split <;> simp +decide)

@[simp] theorem holds_peerLost (k : Nat) (h : Frame.Within ⟨[.out, .pt, .via, .pwr, .clk], [(0x040, 0x040), (0x180, 0x180)],
    [Reg.MODE_PWRST_DOZE, Reg.PAIR_FAULT_ABUTLOST, Reg.PAIR_FAULT_PLINKLOST, Reg.PAIR_STAT_ABUT, Reg.PAIR_STAT_PLINK,
    Reg.UPL_PCFG_RINGBLK.ix 1, Reg.UPL_PTXOK_COUNT.ix 0, Reg.UPL_PTXOK_COUNT.ix 1]⟩ F) :
    F.holds s (peerLost k u) ↔ F.holds s u := h.step (by simp +decide [peerLost])

@[simp] theorem holds_viaHandshake (p udp src memb digest root : Nat) (offer : DtlsOffer) (chainOk : Bool) (h : Frame.Within ⟨[.log,
    .via, .pair], [(0x007, 0x007), (0x180, 0x180)], [Reg.PAIR_FAULT_ABUTLOST, Reg.PAIR_FAULT_PLINKLOST, Reg.PAIR_STAT_ABUT,
    Reg.PAIR_STAT_PLINK]⟩ F) :
    F.holds s (viaHandshake p udp src memb digest root offer chainOk u) ↔ F.holds s u := h.step (by simp +decide [viaHandshake])

@[simp] theorem holds_keystoneAction (code : Nat) (h : Frame.Within ⟨[.out, .log, .via], [(0x007, 0x007), (0x180, 0x180)],
    [Reg.PAIR_FAULT_ABUTLOST, Reg.PAIR_FAULT_PLINKLOST, Reg.PAIR_STAT_ABUT, Reg.PAIR_STAT_PLINK, Reg.UPL_PTXOK_COUNT.ix 0,
    Reg.UPL_PTXOK_COUNT.ix 1]⟩ F) :
    F.holds s (keystoneAction code u) ↔ F.holds s u := h.step (by
    unfold keystoneAction
    split <;> simp +decide)

@[simp] theorem holds_kaction (k epoch code slot memb digest : Nat) (h : Frame.Within ⟨[.out, .via], [(0x180, 0x180)],
    [Reg.PAIR_FAULT_ABUTLOST, Reg.PAIR_FAULT_PLINKLOST, Reg.PAIR_STAT_ABUT, Reg.PAIR_STAT_PLINK, Reg.UPL_PTXOK_COUNT.ix 0,
    Reg.UPL_PTXOK_COUNT.ix 1]⟩ F) :
    F.holds s (kaction k epoch code slot memb digest u) ↔ F.holds s u :=
  h.step (by
    unfold kaction
    split
    · simp +decide
    · split
      · next hview =>
        extract_lets s₁
        have h₁ : enrolmentFrame.holds u s₁ := by
          unfold s₁
          split
          · simp
          · unfold changeEnrolment
            split
            · exact enrolmentFrame_holds_setEnrolment hview.2 _ _
            · split
              · exact enrolmentFrame_holds_setEnrolment hview.2 _ _
              · simp
        exact Frame.holds_trans (Frame.Within.holds (by simp +decide [enrolmentFrame]) h₁) (by simp +decide)
      · simp +decide)

@[simp] theorem holds_kack (k epoch result : Nat) (h : Frame.Within ⟨[.log, .via], [(0x007, 0x007), (0x180, 0x180)], []⟩ F) :
    F.holds s (kack k epoch result u) ↔ F.holds s u :=
  h.step (by
    simp +decide [kack]
    repeat' split
    all_goals simp +decide)

@[simp] theorem holds_kclaimSend (h : Frame.Within ⟨[.out, .via], [(0x180, 0x180)], [Reg.UPL_PTXOK_COUNT.ix 0,
    Reg.UPL_PTXOK_COUNT.ix 1]⟩ F) :
    F.holds s (kclaimSend u) ↔ F.holds s u := h.step (by simp +decide [kclaimSend])

@[simp] theorem holds_takeRole (h : Frame.Within ⟨[.out, .log, .pt, .via], [(0x007, 0x007), (0x040, 0x040), (0x180, 0x180)],
    [Reg.UPL_PCFG_RINGBLK.ix 1, Reg.UPL_PTXOK_COUNT.ix 0, Reg.UPL_PTXOK_COUNT.ix 1]⟩ F) :
    F.holds s (takeRole u) ↔ F.holds s u := h.step (by simp +decide [takeRole])

@[simp] theorem holds_stepDownTimeout (h : Frame.Within ⟨[.out, .pt, .via], [(0x040, 0x040), (0x180, 0x180)],
    [Reg.PAIR_FAULT_ABUTLOST, Reg.PAIR_FAULT_PLINKLOST, Reg.PAIR_STAT_ABUT, Reg.PAIR_STAT_PLINK, Reg.UPL_PCFG_RINGBLK.ix 1,
    Reg.UPL_PTXOK_COUNT.ix 0, Reg.UPL_PTXOK_COUNT.ix 1]⟩ F) :
    F.holds s (stepDownTimeout u) ↔ F.holds s u := h.step (by simp +decide [stepDownTimeout])

@[simp] theorem holds_keystoneStep (h : Frame.Within ⟨[.out, .pt, .via], [(0x040, 0x040), (0x180, 0x180)], [Reg.PAIR_FAULT_ABUTLOST,
    Reg.PAIR_FAULT_PLINKLOST, Reg.PAIR_STAT_ABUT, Reg.PAIR_STAT_PLINK, Reg.UPL_PCFG_RINGBLK.ix 1, Reg.UPL_PTXOK_COUNT.ix 0,
    Reg.UPL_PTXOK_COUNT.ix 1]⟩ F) :
    F.holds s (keystoneStep u) ↔ F.holds s u := h.step (by simp +decide [keystoneStep])

@[simp] theorem holds_mirrorPublished (k : Nat) (it : PubItem) (h : Frame.Within ⟨[.pt, .via], [(0x040, 0x040)], []⟩ F) :
    F.holds s (mirrorPublished k it u) ↔ F.holds s u := h.step (by simp +decide [mirrorPublished])

@[simp] theorem holds_publishItem (k : Nat) (it : PubItem) (h : Frame.Within ⟨[.pt, .via, .pwr, .clk], [(0x040, 0x040), (0x180,
    0x180), (0x182, 0x182)], [Reg.MODE_PWRST_DOZE]⟩ F) :
    F.holds s (publishItem k it u) ↔ F.holds s u := h.step (by simp +decide [publishItem])

@[simp] theorem holds_addSub (k i : Nat) (h : Frame.Within ⟨[.via], [(0x180, 0x180)], []⟩ F) :
    F.holds s (addSub k i u) ↔ F.holds s u := h.step (by simp +decide [addSub])

@[simp] theorem holds_subscribe (k op : Nat) (is : List Nat) (h : Frame.Within ⟨[.out, .via], [(0x180, 0x180)],
    [Reg.UPL_PTXOK_COUNT.ix 0, Reg.UPL_PTXOK_COUNT.ix 1]⟩ F) :
    F.holds s (subscribe k op is u) ↔ F.holds s u := h.step (by simp +decide [subscribe])

end
end Sys2Proof.Machine

/-! #### Footprints: leases and checkpoints -/

namespace Sys2Proof.Machine
section
variable {F : Frame} {s u : State}

@[simp] theorem holds_setLeaseEnd (m : Nat) (h : Frame.Within ⟨[.pair], [(0x000, 0xFFF)], []⟩ F) :
    F.holds s (setLeaseEnd m u) ↔ F.holds s u := h.step (by simp +decide [setLeaseEnd])

@[simp] theorem holds_becomeStandby (h : Frame.Within ⟨[.out, .pt, .via, .pair], [(0x000, 0xFFF)], []⟩ F) :
    F.holds s (becomeStandby u) ↔ F.holds s u := h.step (by simp +decide [becomeStandby])

@[simp] theorem holds_publishAll (h : Frame.Within ⟨[.out, .pt, .cte, .via, .pwr, .clk], [(0x000, 0xFFF)], []⟩ F) :
    F.holds s (publishAll u) ↔ F.holds s u := h.step (by simp +decide [publishAll])

@[simp] theorem holds_takeover (h : Frame.Within ⟨[.out, .log, .pt, .cle, .cte, .via, .pair, .pwr, .clk], [(0x000, 0xFFF)], []⟩ F) :
    F.holds s (takeover u) ↔ F.holds s u := h.step (by simp +decide [takeover])

@[simp] theorem holds_takePermission (h : Frame.Within ⟨[.out, .log, .lane, .pt, .prpt, .seg, .pbus, .via, .pair, .pwr, .clk, .acc],
    [(0x000, 0xFFF)], []⟩ F) :
    F.holds s (takePermission u) ↔ F.holds s u := h.step (by simp +decide [takePermission])

@[simp] theorem holds_granted (r : LeaseReq) (epoch : Nat) (h : Frame.Within ⟨[.out, .keys, .sessions, .log, .lane, .pt, .prpt,
    .seg, .pbus, .mem, .cle, .cte, .mtr, .via, .pair, .pwr, .clk, .fab, .acc], [(0x000, 0xFFF)], []⟩ F) :
    F.holds s (granted r epoch u) ↔ F.holds s u :=
  h.step (by
    unfold granted
    extract_lets s₁ s₂ e s₃ wasStandby s₄
    split
    · simp
    · refine Frame.holds_trans (t := s₁) (by simp +decide [s₁]) ?_
      refine Frame.holds_trans (t := s₂) (by simp +decide [s₂]) ?_
      refine Frame.holds_trans (t := s₃) (by simp +decide [s₃]) ?_
      split
      · simp
      · split
        · simp
        · split <;> simp +decide [s₄])

@[simp] theorem holds_denied (r : LeaseReq) (result epoch : Nat) (h : Frame.Within ⟨[.out, .keys, .sessions, .log, .lane, .pt,
    .prpt, .seg, .pbus, .mem, .cle, .cte, .mtr, .via, .pair, .pwr, .clk, .fab, .acc], [(0x000, 0xFFF)], []⟩ F) :
    F.holds s (denied r result epoch u) ↔ F.holds s u :=
  h.step (by
    unfold denied
    extract_lets s₁ s₂
    refine Frame.holds_trans (t := s₂) (by simp +decide [s₂, s₁]) ?_
    split
    · simp +decide
    · split <;> simp +decide)

@[simp] theorem holds_lgrant (k seq result epoch : Nat) (h : Frame.Within ⟨[.out, .keys, .sessions, .log, .lane, .pt, .prpt, .seg,
    .pbus, .mem, .cle, .cte, .mtr, .via, .pair, .pwr, .clk, .fab, .acc], [(0x000, 0xFFF)], []⟩ F) :
    F.holds s (lgrant k seq result epoch u) ↔ F.holds s u := h.step (by
    simp +decide [lgrant]
    split <;> simp +decide)

@[simp] theorem holds_leaseRenewal (h : Frame.Within ⟨[.out, .via, .pair], [], [Reg.UPL_PTXOK_COUNT.ix 0, Reg.UPL_PTXOK_COUNT.ix 1]⟩
    F) :
    F.holds s (leaseRenewal u) ↔ F.holds s u := h.step (by simp +decide [leaseRenewal])

@[simp] theorem holds_leaseWithdrawal (h : Frame.Within ⟨[.out, .pt, .prpt, .seg, .pbus, .pwr, .clk, .acc], [(0x040, 0x040), (0x049,
    0x049), (0x078, 0x078), (0x100, 0x11F), (0x120, 0x13F), (0x140, 0x15F), (0x181, 0x181)], [Reg.MODE_PWRST_DOZE]⟩ F) :
    F.holds s (leaseWithdrawal u) ↔ F.holds s u := h.step (by simp +decide [leaseWithdrawal])

@[simp] theorem holds_askTakeover (h : Frame.Within ⟨[.out, .via, .pair], [], [Reg.UPL_PTXOK_COUNT.ix 0, Reg.UPL_PTXOK_COUNT.ix 1]⟩
    F) :
    F.holds s (askTakeover u) ↔ F.holds s u := h.step (by simp +decide [askTakeover])

@[simp] theorem holds_standbyTimeout (h : Frame.Within ⟨[.out, .via, .pair], [], [Reg.UPL_PTXOK_COUNT.ix 0, Reg.UPL_PTXOK_COUNT.ix
    1]⟩ F) :
    F.holds s (standbyTimeout u) ↔ F.holds s u := h.step (by simp +decide [standbyTimeout])

@[simp] theorem holds_lreqRetry (h : Frame.Within ⟨[.out, .via, .pair], [], [Reg.PAIR_FAULT_ABUTLOST, Reg.PAIR_FAULT_PLINKLOST,
    Reg.PAIR_STAT_ABUT, Reg.PAIR_STAT_PLINK, Reg.UPL_PTXOK_COUNT.ix 0, Reg.UPL_PTXOK_COUNT.ix 1]⟩ F) :
    F.holds s (lreqRetry u) ↔ F.holds s u := h.step (by simp +decide [lreqRetry])

@[simp] theorem holds_sendGrant (k seq result epoch : Nat) (h : Frame.Within ⟨[.out, .via], [], [Reg.UPL_PTXOK_COUNT.ix 0,
    Reg.UPL_PTXOK_COUNT.ix 1]⟩ F) :
    F.holds s (sendGrant k seq result epoch u) ↔ F.holds s u := h.step (by simp +decide [sendGrant])

@[simp] theorem holds_partnerRequest (k epoch seq kind : Nat) (h : Frame.Within ⟨[.out, .keys, .sessions, .log, .lane, .pt, .prpt,
    .seg, .pbus, .mem, .cle, .cte, .mtr, .via, .pair, .pwr, .clk, .fab, .acc], [(0x000, 0xFFF)], []⟩ F) :
    F.holds s (partnerRequest k epoch seq kind u) ↔ F.holds s u := h.step (by simp +decide [partnerRequest])

@[simp] theorem holds_setPairOf (slot : Nat) (x : AbutPair) (h : Frame.Within ⟨[.abut], [], []⟩ F) :
    F.holds s (State.setPairOf u slot x) ↔ F.holds s u := h.step (by simp +decide [State.setPairOf])

@[simp] theorem holds_abutGrant (k seq received epoch : Nat) (h : Frame.Within ⟨[.out, .via, .abut], [], [Reg.UPL_PTXOK_COUNT.ix 0,
    Reg.UPL_PTXOK_COUNT.ix 1]⟩ F) :
    F.holds s (abutGrant k seq received epoch u) ↔ F.holds s u := h.step (by simp +decide [abutGrant])

@[simp] theorem holds_denyTakeover (slot : Nat) (h : Frame.Within ⟨[.out, .via, .abut], [(0x000, 0xFFF)], []⟩ F) :
    F.holds s (denyTakeover slot u) ↔ F.holds s u := h.step (by simp +decide [denyTakeover])

@[simp] theorem holds_abutRenew (k epoch seq : Nat) (h : Frame.Within ⟨[.out, .via, .abut], [(0x000, 0xFFF)], []⟩ F) :
    F.holds s (abutRenew k epoch seq u) ↔ F.holds s u := h.step (by simp +decide [abutRenew])

@[simp] theorem holds_abutTakeover (k epoch seq stbleft : Nat) (eligible : Bool) (h : Frame.Within ⟨[.out, .via, .abut], [(0x000,
    0xFFF)], []⟩ F) :
    F.holds s (abutTakeover k epoch seq stbleft eligible u) ↔ F.holds s u :=
  h.step (by
    simp +decide [abutTakeover]
    split <;> simp +decide)

@[simp] theorem holds_abutRelease (k : Nat) (h : Frame.Within ⟨[.out, .via, .abut], [(0x000, 0xFFF)], []⟩ F) :
    F.holds s (abutRelease k u) ↔ F.holds s u := h.step (by
    simp +decide [abutRelease]
    split <;> simp +decide)

@[simp] theorem holds_abutInitial (k epoch seq : Nat) (h : Frame.Within ⟨[.out, .via, .abut], [(0x000, 0xFFF)], []⟩ F) :
    F.holds s (abutInitial k epoch seq u) ↔ F.holds s u :=
  h.step (by
    unfold abutInitial
    dsimp only
    split <;> simp +decide)

@[simp] theorem holds_lreq (k epoch seq kind stbleft : Nat) (eligible : Bool) (h : Frame.Within ⟨[.out, .keys, .sessions, .log,
    .lane, .pt, .prpt, .seg, .pbus, .mem, .cle, .cte, .mtr, .via, .pair, .abut, .pwr, .clk, .fab, .acc], [(0x000, 0xFFF)], []⟩ F) :
    F.holds s (lreq k epoch seq kind stbleft eligible u) ↔ F.holds s u := h.step (by simp +decide [lreq])

@[simp] theorem holds_initialGrant (slot : Nat) (h : Frame.Within ⟨[.out, .via, .abut], [], [Reg.UPL_PTXOK_COUNT.ix 0,
    Reg.UPL_PTXOK_COUNT.ix 1]⟩ F) :
    F.holds s (initialGrant slot u) ↔ F.holds s u :=
  h.step (by
    simp +decide [initialGrant]
    repeat' split
    all_goals simp +decide)

@[simp] theorem holds_sendParts (seq tick : Nat) (full : Bool) (es : List CkEntry) (h : Frame.Within ⟨[.out, .via], [],
    [Reg.UPL_PTXOK_COUNT.ix 0, Reg.UPL_PTXOK_COUNT.ix 1]⟩ F) :
    F.holds s (sendParts seq tick full es u) ↔ F.holds s u := h.step (by simp +decide [sendParts])

@[simp] theorem holds_checkpointCapture (h : Frame.Within ⟨[.out, .via, .pair], [(0x181, 0x181)], [Reg.UPL_PTXOK_COUNT.ix 0,
    Reg.UPL_PTXOK_COUNT.ix 1]⟩ F) :
    F.holds s (checkpointCapture u) ↔ F.holds s u := h.step (by simp +decide [checkpointCapture])

@[simp] theorem holds_ckack (k seq result : Nat) (h : Frame.Within ⟨[.pair], [], []⟩ F) :
    F.holds s (ckack k seq result u) ↔ F.holds s u := h.step (by
    unfold ckack
    split <;> simp +decide)

@[simp] theorem holds_applyEntry (e : CkEntry) (h : Frame.Within ⟨[.pt, .cte], [(0x000, 0xFFF)], []⟩ F) :
    F.holds s (applyEntry e u) ↔ F.holds s u := h.step (by
    unfold applyEntry
    split <;> simp +decide)

@[simp] theorem holds_clearForFull (h : Frame.Within ⟨[.pt, .cte], [(0x000, 0xFFF)], []⟩ F) :
    F.holds s (clearForFull u) ↔ F.holds s u := h.step (by simp +decide [clearForFull])

@[simp] theorem holds_applyCheckpoint (full : Bool) (es : List CkEntry) (h : Frame.Within ⟨[.pt, .cte], [(0x000, 0xFFF)], []⟩ F) :
    F.holds s (applyCheckpoint full es u) ↔ F.holds s u := h.step (by simp +decide [applyCheckpoint])

@[simp] theorem holds_checkpointWhole (g : CkStage) (h : Frame.Within ⟨[.pt, .cte, .pair], [(0x000, 0xFFF)], []⟩ F) :
    F.holds s (checkpointWhole g u) ↔ F.holds s u := h.step (by simp +decide [checkpointWhole])

@[simp] theorem holds_checkpointPart (k epoch seq tick part nparts : Nat) (full : Bool) (es : List CkEntry) (h : Frame.Within
    ⟨[.out, .keys, .sessions, .log, .lane, .pt, .prpt, .seg, .pbus, .mem, .cle, .cte, .mtr, .via, .pair, .pwr, .clk, .fab, .acc],
    [(0x000, 0xFFF)], []⟩ F) :
    F.holds s (checkpointPart k epoch seq tick part nparts full es u) ↔ F.holds s u := h.step (by simp +decide [checkpointPart])

@[simp] theorem holds_writeHome (e : CkEntry) (h : Frame.Within ⟨[.pt], [], [Reg.PNT_DIRTY_COUNT, Reg.PNT_PERSW_COUNT]⟩ F) :
    F.holds s (writeHome e u) ↔ F.holds s u := h.step (by
    unfold writeHome
    split <;> simp +decide)

@[simp] theorem holds_homeWritten (h : Frame.Within ⟨[.out, .pt, .via, .pair], [(0x181, 0x181)], [Reg.PNT_DIRTY_COUNT,
    Reg.PNT_PERSW_COUNT, Reg.UPL_PTXOK_COUNT.ix 0, Reg.UPL_PTXOK_COUNT.ix 1]⟩ F) :
    F.holds s (homeWritten u) ↔ F.holds s u := h.step (by
    unfold homeWritten
    split <;> simp +decide)

end
end Sys2Proof.Machine

/-! #### Footprints: the enclave -/

namespace Sys2Proof.Machine
section
variable {F : Frame} {s u : State}

@[simp] theorem holds_showIdentity (d : Nat) (h : Frame.Within ⟨[], [(0x000, 0xFFF)], []⟩ F) :
    F.holds s (showIdentity d u) ↔ F.holds s u := h.step (by simp +decide [showIdentity])

end
end Sys2Proof.Machine

/-! #### Footprints: sessions -/

namespace Sys2Proof.Machine
section
variable {F : Frame} {s u : State}

@[simp] theorem holds_openSession (k : Nat) (lanes : BitVec 256) (h : Frame.Within ⟨[.sessions], [], []⟩ F) :
    F.holds s (openSession k lanes u) ↔ F.holds s u := h.step (by simp +decide [openSession])

@[simp] theorem holds_papHandshake (p udp : Nat) (offer : DtlsOffer) (root cert : Nat) (valid : Bool) (h : Frame.Within ⟨[.out,
    .sessions], [(0x183, 0x183)], []⟩ F) :
    F.holds s (papHandshake p udp offer root cert valid u) ↔ F.holds s u :=
  h.step (by
    simp +decide [papHandshake]
    repeat' split
    all_goals simp +decide)

end
end Sys2Proof.Machine

/-! #### Footprints: what a sheet loads -/

namespace Sys2Proof.Machine
section
variable {F : Frame} {s u : State}

@[simp] theorem holds_addTo (f : RegField) (v : Nat) (h : Frame.Within ⟨[], [(0x000, 0xFFF)], []⟩ F) :
    F.holds s (addTo f v u) ↔ F.holds s u := h.step (by simp +decide [addTo])

@[simp] theorem holds_loadLanes (h : Frame.Within ⟨[], [(0x000, 0xFFF)], []⟩ F) :
    F.holds s (loadLanes u) ↔ F.holds s u := h.step (by simp +decide [loadLanes])

@[simp] theorem holds_loadCharter (h : Frame.Within ⟨[], [(0x000, 0xFFF)], []⟩ F) :
    F.holds s (loadCharter u) ↔ F.holds s u :=
  h.step (by
    unfold loadCharter
    extract_lets c s₁ s₂ s₃ s₄ s₅ s₆ s₇
    simp +decide [s₇, s₆, s₅, s₄, s₃, s₂, s₁])

@[simp] theorem holds_loadCeil (p : Nat) (h : Frame.Within ⟨[], [(0x000, 0xFFF)], []⟩ F) :
    F.holds s (loadCeil p u) ↔ F.holds s u := h.step (by simp +decide [loadCeil])

@[simp] theorem holds_loadParapet (h : Frame.Within ⟨[.prpt], [(0x000, 0xFFF)], []⟩ F) :
    F.holds s (loadParapet u) ↔ F.holds s u := h.step (by simp +decide [loadParapet])

end
end Sys2Proof.Machine

/-! #### Footprints: readers and doors -/

namespace Sys2Proof.Machine
section
variable {F : Frame} {s u : State}

@[simp] theorem holds_ringPut (e : AccEvent) (h : Frame.Within ⟨[.acc], [(0x078, 0x078)], []⟩ F) :
    F.holds s (ringPut e u) ↔ F.holds s u := h.step (by simp +decide [ringPut])

@[simp] theorem holds_recordDecision (e : AccEvent) (h : Frame.Within ⟨[.pt, .pwr, .clk, .acc], [(0x040, 0x040), (0x078, 0x078)],
    [Reg.MODE_PWRST_DOZE]⟩ F) :
    F.holds s (recordDecision e u) ↔ F.holds s u := h.step (by
    unfold recordDecision
    split <;> simp +decide)

@[simp] theorem holds_releaseWrite (d : DoorCfg) (v : Option Nat) (h : Frame.Within ⟨[.pt, .pwr, .clk], [(0x040, 0x040)],
    [Reg.MODE_PWRST_DOZE]⟩ F) :
    F.holds s (releaseWrite d v u) ↔ F.holds s u := h.step (by simp +decide [releaseWrite])

@[simp] theorem holds_endGrant (door : Nat) (h : Frame.Within ⟨[.pt, .pwr, .clk, .acc], [(0x040, 0x040)], [Reg.MODE_PWRST_DOZE]⟩ F)
    :
    F.holds s (endGrant door u) ↔ F.holds s u := h.step (by
    unfold endGrant
    split <;> simp +decide)

@[simp] theorem holds_lockdownFollow (h : Frame.Within ⟨[.pt, .pwr, .clk, .acc], [(0x040, 0x040)], [Reg.MODE_PWRST_DOZE]⟩ F) :
    F.holds s (lockdownFollow u) ↔ F.holds s u :=
  h.step (by
    unfold lockdownFollow
    refine (holds_foldl (fun u d => ?_) _).2 Frame.holds_refl
    split
    · split <;> simp +decide
    · simp)

@[simp] theorem holds_grantsDone (h : Frame.Within ⟨[.pt, .pwr, .clk, .acc], [(0x040, 0x040), (0x078, 0x078)],
    [Reg.MODE_PWRST_DOZE]⟩ F) :
    F.holds s (grantsDone u) ↔ F.holds s u := h.step (by simp +decide [grantsDone])

end
end Sys2Proof.Machine

/-! #### Footprints: the host bridge -/

namespace Sys2Proof.Machine
section
variable {F : Frame} {s u : State}

theorem holds_takeToken {t : State} {k : Nat} (h : Frame.Within ⟨[.sessions], [], []⟩ F) (ht : takeToken k u = some t) :
    F.holds s t ↔ F.holds s u := by
  simp only [takeToken, ite_eq_iff, reduceCtorEq, and_false, false_or, Option.some.injEq] at ht
  obtain ⟨-, rfl⟩ := ht
  exact h.step (by simp +decide)

end
end Sys2Proof.Machine

/-! #### Footprints: BACnet/SC -/

namespace Sys2Proof.Machine
section
variable {F : Frame} {s u : State}

@[simp] theorem holds_bacReadCheck (q : BacRef) (h : Frame.Within ⟨[.log, .lane], [(0x007, 0x007), (0x048, 0x048)], []⟩ F) :
    F.holds s (bacReadCheck q u) ↔ F.holds s u := h.step (by
    unfold bacReadCheck
    split <;> simp +decide)

@[simp] theorem holds_bscAnswer (invoke : Nat) (a : BacAnswer) (h : Frame.Within ⟨[.out], [], [Reg.BSC_ERRS_COUNT]⟩ F) :
    F.holds s (bscAnswer invoke a u) ↔ F.holds s u := h.step (by
    unfold bscAnswer
    split <;> simp +decide)

@[simp] theorem holds_bacWrite (invoke : Nat) (q : BacRef) (v : BacScalar) (prio : Nat) (h : Frame.Within ⟨[.out, .pt, .pwr, .clk],
    [(0x040, 0x040)], [Reg.BSC_ERRS_COUNT, Reg.MODE_PWRST_DOZE]⟩ F) :
    F.holds s (bacWrite invoke q v prio u) ↔ F.holds s u :=
  h.step (by
    simp +decide [bacWrite]
    repeat' split
    all_goals simp +decide)

@[simp] theorem holds_hubUp (code : Nat) (h : Frame.Within ⟨[.sessions], [(0x184, 0x184)], []⟩ F) :
    F.holds s (hubUp code u) ↔ F.holds s u := h.step (by simp +decide [hubUp])

@[simp] theorem holds_hubConnect (primary failover tlsFail : Bool) (h : Frame.Within ⟨[.out, .sessions], [(0x184, 0x184)], []⟩ F) :
    F.holds s (hubConnect primary failover tlsFail u) ↔ F.holds s u := h.step (by simp +decide [hubConnect])

@[simp] theorem holds_hubLost (h : Frame.Within ⟨[.sessions], [], [Reg.BSC_FAULT_HUBLOST, Reg.BSC_STAT_HUB]⟩ F) :
    F.holds s (hubLost u) ↔ F.holds s u := h.step (by simp +decide [hubLost])

end
end Sys2Proof.Machine

/-! #### Footprints: cores and memory -/

namespace Sys2Proof.Machine
section
variable {F : Frame} {s u : State}

@[simp] theorem holds_taskFault (t fsyn va cls : Nat) (committed : Bool) (h : Frame.Within ⟨[.log, .pt, .mem, .cte, .pwr, .clk,
    .fab], [(0x007, 0x007), (0x010, 0x013), (0x015, 0x016), (0x040, 0x040), (0x058, 0x058)], [Reg.MODE_PWRST_DOZE]⟩ F) :
    F.holds s (taskFault t fsyn va cls committed u) ↔ F.holds s u := h.step (by simp +decide [taskFault])

@[simp] theorem holds_eccRead (pa mid : Nat) (h : Frame.Within ⟨[.log, .fab], [(0x007, 0x007), (0x014, 0x014)], []⟩ F) :
    F.holds s (eccRead pa mid u) ↔ F.holds s u := h.step (by simp +decide [eccRead])

@[simp] theorem holds_dmaHandle (c fsyn va : Nat) (h : Frame.Within ⟨[.log, .pt, .mem, .cte, .pwr, .clk, .fab], [(0x007, 0x007),
    (0x010, 0x013), (0x015, 0x016), (0x040, 0x040), (0x058, 0x058)], [Reg.MODE_PWRST_DOZE]⟩ F) :
    F.holds s (dmaHandle c fsyn va u) ↔ F.holds s u := h.step (by simp +decide [dmaHandle])

@[simp] theorem holds_dmaFault (c offset fsyn va : Nat) (h : Frame.Within ⟨[.out, .log, .pt, .mem, .cte, .pwr, .clk, .fab], [(0x007,
    0x007), (0x010, 0x013), (0x015, 0x016), (0x040, 0x040), (0x058, 0x058)], [Reg.MODE_PWRST_DOZE]⟩ F) :
    F.holds s (dmaFault c offset fsyn va u) ↔ F.holds s u := h.step (by simp +decide [dmaFault])

end
end Sys2Proof.Machine

/-! #### Footprints: DMA -/

namespace Sys2Proof.Machine
section
variable {F : Frame} {s u : State}

@[simp] theorem holds_dmaWindowFault (c cls code : Nat) (h : Frame.Within ⟨[.out, .log, .pt, .mem, .cte, .pwr, .clk, .fab], [(0x007,
    0x007), (0x010, 0x013), (0x015, 0x016), (0x040, 0x040), (0x058, 0x058)], [Reg.MODE_PWRST_DOZE]⟩ F) :
    F.holds s (dmaWindowFault c cls code u) ↔ F.holds s u := h.step (by simp +decide [dmaWindowFault])

@[simp] theorem holds_dmaRecordDone (c : Nat) (h : Frame.Within ⟨[.fab], [(0x015, 0x016)], []⟩ F) :
    F.holds s (dmaRecordDone c u) ↔ F.holds s u := h.step (by simp +decide [dmaRecordDone])

@[simp] theorem holds_dmaPoisoned (c access offset va pa : Nat) (h : Frame.Within ⟨[.out, .log, .pt, .mem, .cte, .pwr, .clk, .fab],
    [(0x007, 0x007), (0x010, 0x013), (0x014, 0x014), (0x015, 0x016), (0x040, 0x040), (0x058, 0x058)], [Reg.MODE_PWRST_DOZE]⟩ F) :
    F.holds s (dmaPoisoned c access offset va pa u) ↔ F.holds s u := h.step (by simp +decide [dmaPoisoned])

@[simp] theorem holds_dmaBegin (c : Nat) (h : Frame.Within ⟨[.out, .log, .pt, .mem, .cte, .pwr, .clk, .fab], [(0x007, 0x007),
    (0x010, 0x013), (0x014, 0x014), (0x015, 0x016), (0x040, 0x040), (0x058, 0x058)], [Reg.MODE_PWRST_DOZE]⟩ F) :
    F.holds s (dmaBegin c u) ↔ F.holds s u := h.step (by
    simp +decide [dmaBegin]
    split <;> simp +decide)

@[simp] theorem holds_dmaResult (c code : Nat) (h : Frame.Within ⟨[.out, .log, .pt, .mem, .cte, .pwr, .clk, .fab], [(0x007, 0x007),
    (0x010, 0x013), (0x014, 0x014), (0x015, 0x016), (0x040, 0x040), (0x058, 0x058)], [Reg.MODE_PWRST_DOZE]⟩ F) :
    F.holds s (dmaResult c code u) ↔ F.holds s u := h.step (by simp +decide [dmaResult])

end
end Sys2Proof.Machine

/-! #### Footprints: restarts -/

namespace Sys2Proof.Machine
section
variable {F : Frame} {s u : State}

@[simp] theorem holds_provUndo (h : Frame.Within ⟨[.sheets, .prpt, .cte, .enc], [(0x000, 0xFFF)], []⟩ F) :
    F.holds s (provUndo u) ↔ F.holds s u :=
  h.step (by
    unfold provUndo
    extract_lets parapet x y s₁ s₂ s₃
    have h₁ : Frame.holds ⟨[.sheets, .prpt, .cte, .enc], [(0x000, 0xFFF)], []⟩ u s₁ :=
      ⟨fun q hq => by cases q <;> simp_all [Part.same, s₁], fun _ _ => rfl⟩
    simp +decide [s₃, s₂, h₁])

@[simp] theorem holds_provEnd (h : Frame.Within ⟨[.out, .keys, .sessions, .log, .sheets, .lane, .pt, .prpt, .seg, .pbus, .mem, .cle,
    .cte, .mtr, .via, .pair, .pwr, .clk, .fab, .enc, .acc], [(0x000, 0xFFF)], []⟩ F) :
    F.holds s (provEnd u) ↔ F.holds s u := h.step (by simp +decide [provEnd])

@[simp] theorem holds_storeReady (failed : List Nat) (h : Frame.Within ⟨[.out, .keys, .sessions, .log, .lane, .pt, .prpt, .seg,
    .pbus, .mem, .cle, .cte, .mtr, .via, .pair, .pwr, .clk, .fab, .acc], [(0x000, 0xFFF)], []⟩ F) :
    F.holds s (storeReady failed u) ↔ F.holds s u := h.step (by simp +decide [storeReady])

end
end Sys2Proof.Machine

/-! #### Footprints: the service port -/

namespace Sys2Proof.Machine
section
variable {F : Frame} {s u : State}

@[simp] theorem holds_serviceRefuse {f : Option RegField} (h : Frame.Within ⟨[], [(0x190, 0x190)], []⟩ F)
    (hf : ∀ g, f = some g → inFrame F.pages F.fields g) : F.holds s (serviceRefuse f u) ↔ F.holds s u := by
  have hcount : Frame.holds ⟨[], [(0x190, 0x190)], []⟩ u (u.countSat Reg.SVC_REFUSED_COUNT 1) := by simp +decide
  unfold serviceRefuse
  split
  · rw [holds_raise (hf _ rfl), h.step hcount]
  · exact h.step hcount

@[simp] theorem holds_serviceConnect (tcp : Nat) (offer : DtlsOffer) (root : Option Nat) (cert : Nat) (valid : Bool) (peer : Nat) (h
    : Frame.Within ⟨[.out, .sessions], [(0x190, 0x190)], []⟩ F) :
    F.holds s (serviceConnect tcp offer root cert valid peer u) ↔ F.holds s u := h.step (by simp +decide [serviceConnect])

@[simp] theorem holds_serviceClose (h : Frame.Within ⟨[.out, .keys, .sessions, .log, .sheets, .lane, .pt, .prpt, .seg, .pbus, .mem,
    .cle, .cte, .mtr, .via, .pair, .pwr, .clk, .fab, .enc, .upd, .acc], [(0x000, 0xFFF)], []⟩ F) :
    F.holds s (serviceClose u) ↔ F.holds s u := h.step (by simp +decide [serviceClose])

@[simp] theorem holds_serviceRelease (h : Frame.Within ⟨[.out, .keys, .sessions, .log, .sheets, .lane, .pt, .prpt, .seg, .pbus,
    .mem, .cle, .cte, .mtr, .via, .pair, .pwr, .clk, .fab, .enc, .upd, .acc], [(0x000, 0xFFF)], []⟩ F) :
    F.holds s (serviceRelease u) ↔ F.holds s u := h.step (by simp +decide [serviceRelease])

end
end Sys2Proof.Machine

/-! #### Footprints: Commit -/

namespace Sys2Proof.Machine
section
variable {F : Frame} {s u : State}

@[simp] theorem holds_loopResult (n code : Nat) (h : Frame.Within ⟨[.cle], [(0x050, 0x050)], []⟩ F) :
    F.holds s (loopResult n code u) ↔ F.holds s u := h.step (by simp +decide [loopResult])

@[simp] theorem holds_deliverResult (p : ResultPath) (code : Nat) (h : Frame.Within ⟨[.out, .log, .pt, .mem, .cle, .cte, .mtr, .pwr,
    .clk, .fab], [(0x007, 0x007), (0x010, 0x013), (0x014, 0x014), (0x015, 0x016), (0x040, 0x040), (0x050, 0x050), (0x058, 0x058),
    (0x060, 0x060)], [Reg.BSC_ERRS_COUNT, Reg.MODE_PWRST_DOZE]⟩ F) :
    F.holds s (deliverResult p code u) ↔ F.holds s u := h.step (by
    unfold deliverResult
    split <;> simp +decide)

@[simp] theorem holds_deliverResults (h : Frame.Within ⟨[.out, .log, .pt, .mem, .cle, .cte, .mtr, .pwr, .clk, .fab], [(0x007,
    0x007), (0x010, 0x013), (0x014, 0x014), (0x015, 0x016), (0x040, 0x040), (0x050, 0x050), (0x058, 0x058), (0x060, 0x060)],
    [Reg.BSC_ERRS_COUNT, Reg.MODE_PWRST_DOZE]⟩ F) :
    F.holds s (deliverResults u) ↔ F.holds s u := h.step (by simp +decide [deliverResults])

@[simp] theorem holds_lateRule {t : State} (u : Update) (h : Frame.Within ⟨[.cle], [(0x050, 0x050)], []⟩ F) :
    F.holds s (lateRule u t) ↔ F.holds s t := h.step (by
    unfold lateRule
    split <;> simp +decide)

@[simp] theorem holds_admitUpdate (h : Frame.Within ⟨[.out, .log, .lane, .pt, .seg, .mem, .cle, .cte, .mtr, .pwr, .clk, .fab],
    [(0x007, 0x007), (0x010, 0x013), (0x014, 0x014), (0x015, 0x016), (0x040, 0x040), (0x041, 0x041), (0x042, 0x042), (0x043, 0x043),
    (0x048, 0x048), (0x050, 0x050), (0x058, 0x058), (0x060, 0x060), (0x140, 0x15F), (0x180, 0x180)], [Reg.BSC_ERRS_COUNT,
    Reg.MODE_PWRST_DOZE]⟩ F) :
    F.holds s (admitUpdate u) ↔ F.holds s u := h.step (by simp +decide [admitUpdate])

@[simp] theorem holds_freshCommand (i : Nat) (h : Frame.Within ⟨[.log, .lane, .pt, .prpt, .seg, .pbus, .pwr, .clk], [(0x007, 0x007),
    (0x048, 0x048), (0x100, 0x11F), (0x120, 0x13F), (0x140, 0x15F)], [Reg.MODE_PWRST_DOZE]⟩ F) :
    F.holds s (freshCommand i u) ↔ F.holds s u := h.step (by
    unfold freshCommand
    split <;> simp +decide)

@[simp] theorem holds_countUndelivered (t : Nat) (h : Frame.Within ⟨[], [(0x058, 0x058)], []⟩ F) :
    F.holds s (countUndelivered t u) ↔ F.holds s u := h.step (by simp +decide [countUndelivered])

@[simp] theorem holds_resendPoint (i at' : Nat) (h : Frame.Within ⟨[.log, .lane, .pt, .seg, .pbus, .pwr, .clk], [(0x007, 0x007),
    (0x048, 0x048), (0x100, 0x11F), (0x120, 0x13F), (0x140, 0x15F)], [Reg.MODE_PWRST_DOZE]⟩ F) :
    F.holds s (resendPoint i at' u) ↔ F.holds s u := h.step (by simp +decide [resendPoint])

@[simp] theorem holds_flushPublished (mirrors : List Nat) (h : Frame.Within ⟨[.out, .pt, .cte, .via, .pwr, .clk], [(0x058, 0x058),
    (0x180, 0x180)], [Reg.MODE_PWRST_DOZE, Reg.UPL_PTXOK_COUNT.ix 0, Reg.UPL_PTXOK_COUNT.ix 1]⟩ F) :
    F.holds s (flushPublished mirrors u) ↔ F.holds s u := h.step (by simp +decide [flushPublished])

@[simp] theorem holds_commitEdges (before : State) (i : Nat) (h : Frame.Within ⟨[.cte, .pwr, .clk], [(0x058, 0x058)],
    [Reg.MODE_PWRST_DOZE]⟩ F) :
    F.holds s (commitEdges before i u) ↔ F.holds s u := h.step (by simp +decide [commitEdges])

@[simp] theorem holds_commitCommands (before : State) (tasks : List (Nat × Nat)) (h : Frame.Within ⟨[.log, .lane, .pt, .prpt, .seg,
    .pbus, .pwr, .clk], [(0x007, 0x007), (0x048, 0x048), (0x100, 0x11F), (0x120, 0x13F), (0x140, 0x15F)], [Reg.MODE_PWRST_DOZE]⟩ F)
    :
    F.holds s (commitCommands before tasks u) ↔ F.holds s u := h.step (by simp +decide [commitCommands])

@[simp] theorem holds_commitTasks (tick : Nat) (h : Frame.Within ⟨[.cte], [(0x058, 0x058)], []⟩ F) :
    F.holds s (commitTasks tick u) ↔ F.holds s u := h.step (by simp +decide [commitTasks])

@[simp] theorem holds_deckCommit (h : Frame.Within ⟨[.out, .log, .lane, .pt, .prpt, .seg, .pbus, .mem, .cle, .cte, .mtr, .via, .pwr,
    .clk, .fab, .acc], [(0x007, 0x007), (0x010, 0x013), (0x014, 0x014), (0x015, 0x016), (0x040, 0x040), (0x041, 0x041), (0x042,
    0x042), (0x043, 0x043), (0x048, 0x048), (0x050, 0x050), (0x058, 0x058), (0x060, 0x060), (0x078, 0x078), (0x100, 0x11F), (0x120,
    0x13F), (0x140, 0x15F), (0x180, 0x180)], [Reg.BSC_ERRS_COUNT, Reg.MODE_PWRST_DOZE, Reg.UPL_PTXOK_COUNT.ix 0,
    Reg.UPL_PTXOK_COUNT.ix 1]⟩ F) :
    F.holds s (deckCommit u) ↔ F.holds s u := h.step (by simp +decide [deckCommit])

end
end Sys2Proof.Machine

namespace Sys2Proof.Machine

/-! ### O7: the commands of the point engine, loops, tasks, meter and parapet -/

section
variable {s t : State} {c : Instr} {fr : Frame}

theorem holds_setQueue_depth {F : Frame} {u : State} {c : Nat} (hpt : .pt ∈ F.parts)
    (hf : inFrame F.pages F.fields (Reg.PNT_QIN_DEPTH.ix c)) (q : List Update) : F.holds s (setQueue u c q) ↔ F.holds s u := by
  simp [setQueue, hpt, hf]

/-- A submitted update changes the point engine's state, the depth of its own queue, and the sleeper that it wakes. -/
theorem holds_submit_queue (u : Update) (s : State) :
    (Frame.wakes ⟨[.pt], [], [Reg.PNT_QIN_DEPTH.ix (srcClass u.src)]⟩).holds s (submit u s) := by
  unfold submit
  extract_lets s₁
  have h₁ : (Frame.wakes ⟨[.pt], [], [Reg.PNT_QIN_DEPTH.ix (srcClass u.src)]⟩).holds s s₁ := by
    simp +decide [s₁, Frame.wakes]
  split
  · simpa +decide [Frame.wakes] using h₁
  · unfold enqueue
    extract_lets c q h
    split
    · exact (holds_setQueue_depth (by simp [Frame.wakes]) (inFrame_of_mem (by simp [Frame.wakes, c])) _).2 h₁
    · simpa +decide [Frame.wakes] using h₁

/-- Each command of the engines keeps what its frame does not name: its effect is made of operations whose footprints lie within the
frame. -/
theorem engineFrame_holds (hfr : engineFrame c = some fr) (ht : exec c s = .next t) : fr.holds s t := by
  cases c with
  | pointUpdateSubmit update =>
    obtain rfl := Option.some.inj hfr
    exact Frame.holds_done ht (holds_submit_queue update s)
  | taskReservedSelect requester index command =>
    obtain rfl := Option.some.inj hfr
    cases command <;> exact Frame.holds_done ht (by simp +decide [askPage])
  | deckTickCommit | publicationTimer | staleTimeout | persistenceWrite | pointStoreRestore | cmdWriteLevel | cmdRelinquishLevel |
  cmdReadArray | cmdWriteRelinquishDefault | forceApply | forceRelease | forceRead | forceReservedOp | pntwinValueWrite |
  pntwinTuningWrite | pntwinServiceWrite | pntwinReservedSelect | oosServiceRequest | loopSample | loopEvaluationComplete |
  loopOutputPresent | loopOverrun | loopCoefficientWrite | loopModeWrite | loopClearOvrcnt | loopReservedSelect | taskRelease |
  taskEventRelease | taskGatherComplete | taskCycleComplete | taskWatchdogExpiry | taskBudgetOverrun | retainSave | edgeLatchEdge |
  taskValueChange | taskStart | taskStop | taskRestart | taskSwap | taskClearCounters | taskSwapApply | meterWindowEnd |
  demandIntervalEnd | mtrCalibrationApply | freqTrackerChange | mtrTestArm | testGateStart | mtrCalibrationStage |
  meterPowerFailStop | prptEntryLoad | leaseWithdrawal =>
    obtain rfl := Option.some.inj hfr
    exact Frame.holds_done ht (by simp +decide [Frame.wakes, askPage, askHost, unlessBusy])
  | _ => cases hfr

/-! #### The admission -/

theorem admissionFrame_holds_admitUpdate (s : State) : admissionFrame.holds s (admitUpdate s) := by
  simp +decide [admissionFrame, Frame.wakes]

theorem mem_of_tabFind {α : Type} {k : Nat} {v : α} {t : Table α} (h : tabFind k t = some v) : (k, v) ∈ t := by
  induction t with
  | nil => cases h
  | cons e t ih =>
    obtain ⟨j, w⟩ := e
    rw [tabFind] at h
    split at h
    next hk =>
      obtain rfl := Option.some.inj h
      simp [hk]
    next => exact List.mem_cons_of_mem _ (ih h)

/-- Where no write waits, the delayed responses answer nothing (R99). -/
theorem writeResponses_of_noWriteWaits (s₀ : State) (h : noWriteWaits s) : writeResponses s₀ s = s := by
  have hnone (k : Nat) : writeResponse s₀ k s = s := by
    have hwaits : (tabGet ({} : Session) s.sessions k).waits.find? (fun t => t.op = 2 || t.op = 3) = none := by
      rw [tabGet]
      split
      next x hx => 
        have := h _ (mem_of_tabFind hx)
        simpa using this
      next => rfl
    unfold writeResponse
    extract_lets x
    rw [show x.waits.find? _ = none from hwaits]
  simp [writeResponses, hnone]

theorem noWriteWaits_admitUpdate (h : noWriteWaits s) : noWriteWaits (admitUpdate s) := by
  have hs : (admitUpdate s).sessions = s.sessions := (admissionFrame_holds_admitUpdate s).1 .sessions (by decide)
  simpa [noWriteWaits, hs] using h

/-- Settles O7: every effect is made of operations whose footprints lie within the frame; an admission leaves the sessions, so that where no
write waits before it none waits after it. -/
theorem engineFrames : Obligations.EngineFrames := by
  refine ⟨fun c s t fr => engineFrame_holds, fun s t k h => ?_⟩
  have hadmit := admissionFrame_holds_admitUpdate s
  have hchain (ht : done s (writeResponses s (admitUpdate s)) = .next t) :
      (noWriteWaits s → admissionFrame.holds s t) ∧
        ∃ u, admissionFrame.holds s u ∧ (done s u = .next t ∨ done s (writeResponses s u) = .next t) := by
    refine ⟨fun hw => ?_, admitUpdate s, hadmit, .inr ht⟩
    rw [writeResponses_of_noWriteWaits s (noWriteWaits_admitUpdate hw)] at ht
    exact Frame.holds_done ht hadmit
  rcases h with ht | ht
  · exact hchain ht
  · replace ht : done s (if batchNext s k.val then writeResponses s (admitUpdate s) else s) = .next t := ht
    split at ht
    · exact hchain ht
    · exact ⟨fun _ => Frame.holds_done ht Frame.holds_refl, s, Frame.holds_refl, .inl ht⟩

end
end Sys2Proof.Machine

namespace Sys2Proof.Machine

/-! ### O8: the commands of sessions, uplinks, viaduct, pair and BACnet -/

section
variable {F : Frame} {s t u : State} {c : Instr} {fr : Frame} {hd : ViaHeader}

/-- A BACnet/SC request stays within the frame that its service stays within. -/
theorem holds_bscRequest {f : State → State} (h : Frame.Within ⟨[.out, .sessions, .pwr, .clk], [], [Reg.BSC_ERRS_COUNT,
    Reg.BSC_FAULT_RATE, Reg.BSC_RATEDROP_COUNT, Reg.BSC_REQS_COUNT, Reg.MODE_PWRST_DOZE]⟩ F) (hf : ∀ v, F.holds v (f v)) (n : Nat) :
    F.holds u (bscRequest n f u) := by
  unfold bscRequest
  split
  · exact Frame.holds_refl
  · split
    next => exact h.holds (by simp +decide)
    next v hv =>
      refine Frame.holds_trans (h.holds ?_) (hf _)
      rw [holds_countWrap (by decide), holds_takeToken (by simp +decide) hv]
      simp +decide

/-- A viaduct datagram stays within the frame that its meaning stays within. -/
theorem holds_viaReceive {f : Nat → State → State} (h : Frame.Within ⟨[.via], [(0x180, 0x180), (0x182, 0x182)], []⟩ F)
    (hf : ∀ k v, F.holds v (f k v)) (typ len : Nat) : F.holds u (viaReceive typ len hd f u) := by
  unfold viaReceive
  extract_lets s₁ k x
  have h₁ : F.holds u s₁ := h.holds (by simp +decide [s₁])
  split
  · exact Frame.holds_refl
  · split
    · exact h₁
    · split
      · exact Frame.holds_trans h₁ (h.holds (by simp +decide))
      · exact Frame.holds_trans (Frame.holds_trans h₁ (h.holds (by simp +decide))) (hf k _)

/-- The frame of the datagrams that may carry a higher pair epoch. -/
def datagramFrame : Frame :=
  { parts := [.out, .keys, .sessions, .log, .lane, .pt, .prpt, .seg, .pbus, .mem, .cle, .cte, .mtr, .via, .pair, .pwr, .clk, .fab,
      .acc], pages := [(0x000, 0xFFF)], fields := [] }

/-- The header's pair epoch is taken before the datagram's meaning (R416). -/
theorem holds_viaTake {f : Nat → State → State} (h : Frame.Within datagramFrame F)
    (hvia : Frame.Within ⟨[.via], [(0x180, 0x180), (0x182, 0x182)], []⟩ F) (hf : ∀ k v, F.holds v (f k v)) (typ len : Nat) :
    F.holds u (viaTake typ len hd f u) :=
  holds_viaReceive hvia (fun k v => Frame.holds_trans (h.holds (by simp +decide [datagramFrame])) (hf k _)) typ len

theorem partnerEpoch_of_le {k e : Nat} (h : e ≤ pairEpoch u) : partnerEpoch k e u = u := by
  simp [partnerEpoch, higherEpoch, h]

/-- A header that carries no higher pair epoch leaves the pair's epoch rules out. -/
theorem viaTake_of_le (h : hd.pepoch.toNat ≤ pairEpoch u) (typ len : Nat) (f : Nat → State → State) :
    viaTake typ len hd f u = viaReceive typ len hd f u := by
  unfold viaTake viaReceive
  extract_lets s₁ k x
  have hepoch (x : Peer) : hd.pepoch.toNat ≤ pairEpoch (s₁.setPeer k x) := by
    have hkey : Reg.PAIR_PEPOCH_EPOCH.key ≠ (Reg.UPL_PRXOK_COUNT.ix hd.port.val).key := by
      generalize hd.port = p
      revert p
      decide
    exact h.trans_eq (State.get_set_ne hkey u _).symm
  simp only [partnerEpoch_of_le (hepoch _)]

theorem messageFrame_holds (hfr : messageFrame c = some fr) (ht : exec c s = .next t) : fr.holds s t := by
  cases c with
  | papSessionClose slot =>
    obtain rfl := Option.some.inj hfr
    exact Frame.holds_done ht (by simp +decide)
  | ptpSyncLoss =>
    obtain rfl := Option.some.inj hfr
    refine Frame.holds_done ht ?_
    split <;> simp +decide
  | lreqReceive | lgrantReceive | checkpointReceive | heartbeatReceive | publishReceive | subscribeReceive | kclaimReceive
    | kactionReceive | kackReceive | ckackReceive =>
    obtain rfl := Option.some.inj hfr
    exact Frame.holds_done ht (holds_viaTake (by simp +decide [datagramFrame]) (by simp +decide) (fun k v => by simp +decide) _ _)
  | bscReadProperty | bscReadPropertyMultiple | bscWriteProperty =>
    obtain rfl := Option.some.inj hfr
    exact Frame.holds_done ht (holds_bscRequest (by simp +decide [Frame.wakes]) (fun v => by simp +decide [Frame.wakes]) _)
  | papHandshake | papSessionIdleTimeout | svcConnect | svcDisconnect | svcEnRelease | svcEnAssert | svcLinkChange | uplinkLinkChange
    | uplinkPortLost | ringBlockSet | icmpv6MessageReceive | ptpSyncReceive | ptpAnnounceReceive | ptpAnnounceTimeout | heartbeatSend
    | peerLost | viaHandshake | keystoneTakeRole | kclaimSend | keystoneStepDownTimeout | viaKeystoneStep | viaEnroll | viaUnenroll |
    leaseRenewalSend | standbyRenewalTimeout | lreqRetry | abutmentInitialGrant | pairRelease | checkpointCapture |
    checkpointHomeWriteComplete | bscHubConnect | bscHubLost =>
    obtain rfl := Option.some.inj hfr
    exact Frame.holds_done ht (by simp +decide [Frame.wakes, unlessBusy])
  | _ => cases hfr

theorem bodyFrame_holds (hfr : bodyFrame c = some (hd, fr)) (ht : exec c s = .next t) (hle : hd.pepoch.toNat ≤ pairEpoch s) :
    fr.holds s t := by
  cases c with
  | heartbeatReceive | publishReceive | subscribeReceive | kclaimReceive | kactionReceive | kackReceive | ckackReceive =>
    obtain ⟨rfl, rfl⟩ := Prod.mk.inj (Option.some.inj hfr)
    refine Frame.holds_done ht ?_
    rw [viaTake_of_le hle]
    exact holds_viaReceive (by simp +decide [Frame.wakes]) (fun k v => by simp +decide [Frame.wakes]) _ _
  | _ => cases hfr

/-- Settles O8: the effects are made of operations whose footprints lie within the frame; a datagram's meaning lies within the smaller
frame, and only a higher pair epoch of its header leads out of that. -/
theorem messageFrames : Obligations.MessageFrames :=
  ⟨fun _ _ _ _ => messageFrame_holds, fun _ _ _ _ _ => bodyFrame_holds⟩

end
end Sys2Proof.Machine

namespace Sys2Proof.Machine

/-! ### O17: the window commands

A write of WCTRL reaches the page's window with AUTOINC written (`windowReady`). LOAD ends there in `winLoaded` or `winFailed`, COMMIT
in `windowDone`, which say what becomes of the window's fields. -/

/-! #### The fields of a window copy -/

section
variable {s u v : State} {f g : RegField} {p r : Nat}

/-- The word of a field counts neither its page nor its copy. -/
theorem wordOf_onPage_by (f : RegField) (p r : Nat) : ((f.onPage p).by r).wordOf = (f.word + f.lo / 32) % 1024 := by
  simp only [RegField.wordOf, RegField.key, RegField.onPage, RegField.by]
  omega

/-- Fields of one window copy differ where they start at different bits. -/
theorem window_key_ne (h : f.word * 32 + f.lo ≠ g.word * 32 + g.lo) : ((f.onPage p).by r).key ≠ ((g.onPage p).by r).key := by
  simp only [RegField.key, RegField.onPage, RegField.by]
  omega

/-- A store to another field of the copy is not seen. -/
theorem window_get_set_ne (h : f.word * 32 + f.lo ≠ g.word * 32 + g.lo) (s : State) (x : Nat) :
    (s.set ((g.onPage p).by r) x).get ((f.onPage p).by r) = s.get ((f.onPage p).by r) := State.get_set_ne (window_key_ne h) s x

theorem window_pageOf (hw : f.word < 1024) (hlo : f.lo < 32) (hp : p < 4096) : ((f.onPage p).by r).pageOf = p := by
  rw [RegField.pageOf_of_word_lt (f := (f.onPage p).by r) hw hlo]
  exact Nat.mod_eq_of_lt hp

/-- A frame that has neither the page nor a word of the windows among its single fields leaves the window's field. -/
theorem Frame.leaves_window {F : Frame} (hw : f.word < 1024) (hlo : f.lo < 32) (h7 : f.word ≠ 7) (hp : p < 4096) (hpair : p ≠ 0x181)
    (hpages : ∀ g ∈ F.pages, p < g.1 ∨ g.2 < p) (hfields : ∀ g ∈ F.fields, ((f.onPage p).by r).key ≠ g.key) :
    F.leaves ((f.onPage p).by r) := by
  have hpage := window_pageOf (r := r) hw hlo hp
  refine ⟨?_, fun e => hpair ?_, fun g hg => ?_, hfields⟩
  · rw [wordOf_onPage_by]; omega
  · rw [← hpage]; unfold RegField.pageOf; rw [e]; rfl
  · rw [hpage]; exact hpages g hg

/-- What a command shows of a window's field, its effect showed. -/
theorem done_window {s' t : State} (h : done s s' = .next t) (hw : f.word < 1024) (hlo : f.lo < 32) (h7 : f.word ≠ 7) (hp : p < 4096)
    (hpair : p ≠ 0x181) : t.get ((f.onPage p).by r) = s'.get ((f.onPage p).by r) := by
  have := Frame.leaves_window (F := ⟨[], [], []⟩) (r := r) hw hlo h7 hp hpair (by simp) (by simp)
  exact done_get h this.1 this.2.1
end

/-! #### The end of a LOAD and of a COMMIT -/

section
variable {s u v : State} {p r : Nat}

/-- `WINDEX.INDEX`, `WCTRL.AUTOINC`, `WSTAT.VALID` and the 512 words of DATA: what only a window's own commands and writes change. -/
structure KeepsWindow (p r : Nat) (u v : State) : Prop where
  index : winIndex v p r = winIndex u p r
  autoinc : v.get ((Reg.WIN_AUTOINC.onPage p).by r) = u.get ((Reg.WIN_AUTOINC.onPage p).by r)
  valid : v.get ((Reg.WIN_VALID.onPage p).by r) = u.get ((Reg.WIN_VALID.onPage p).by r)
  data : ∀ k, winData v p r k = winData u p r k

theorem KeepsWindow.refl (p r : Nat) (u : State) : KeepsWindow p r u u := ⟨rfl, rfl, rfl, fun _ => rfl⟩

theorem winDataWord (k : Nat) : (Reg.WIN_DATA.ix k).word = 64 + k % 512 := by
  show 64 + k % 512 * 1 = _
  omega

/-- A step within a frame that leaves the window's page out keeps the window. -/
theorem KeepsWindow.of_frame {F : Frame} (h : F.holds u v) (hp : p < 4096) (hpair : p ≠ 0x181)
    (hpages : ∀ g ∈ F.pages, p < g.1 ∨ g.2 < p)
    (hfields : ∀ g ∈ F.fields, (g.wordOf < 64 ∨ 576 ≤ g.wordOf) ∧ g.wordOf ∉ [16, 17, 18]) :
    KeepsWindow p r u v := by
  have key_ne {f g : RegField} (hf : (f.word + f.lo / 32) % 1024 ∈ [16, 17, 18] ∨
        64 ≤ (f.word + f.lo / 32) % 1024 ∧ (f.word + f.lo / 32) % 1024 < 576)
      (hg : g ∈ F.fields) : ((f.onPage p).by r).key ≠ g.key := by
    intro e
    obtain ⟨hlt, hnot⟩ := hfields g hg
    have hword : g.wordOf = (f.word + f.lo / 32) % 1024 := by rw [← wordOf_onPage_by f p r]; unfold RegField.wordOf; rw [e]
    rw [hword] at hlt hnot
    exact hf.elim hnot (fun h => by omega)
  refine ⟨h.2 _ ?_, h.2 _ ?_, h.2 _ ?_, fun k => h.2 (((Reg.WIN_DATA.ix k).onPage p).by r) ?_⟩
  · exact Frame.leaves_window (by decide) (by decide) (by decide) hp hpair hpages fun g hg => key_ne (by decide) hg
  · exact Frame.leaves_window (by decide) (by decide) (by decide) hp hpair hpages fun g hg => key_ne (by decide) hg
  · exact Frame.leaves_window (by decide) (by decide) (by decide) hp hpair hpages fun g hg => key_ne (by decide) hg
  · have hword := winDataWord k
    have hlo : (Reg.WIN_DATA.ix k).lo = 0 := rfl
    have hk := Nat.mod_lt k (show 512 > 0 by decide)
    exact Frame.leaves_window (by omega) (by omega) (by omega) hp hpair hpages fun g hg => key_ne (.inr (by omega)) hg

theorem windowDone_get {f : RegField} (hb : f.word * 32 + f.lo ≠ 576) (he : f.word * 32 + f.lo ≠ 580) (hi : f.word * 32 + f.lo ≠ 512)
    (code : Nat) : (windowDone p r code u).get ((f.onPage p).by r) = u.get ((f.onPage p).by r) := by
  unfold windowDone
  extract_lets s₁
  have h₁ : s₁.get ((f.onPage p).by r) = u.get ((f.onPage p).by r) := by
    rw [window_get_set_ne (g := Reg.WIN_ERR) he, window_get_set_ne (g := Reg.WIN_BUSY) hb]
  split
  · exact (window_get_set_ne (g := Reg.WIN_INDEX) hi _ _).trans h₁
  · exact h₁

end
end Sys2Proof.Machine

namespace Sys2Proof.Machine
section
variable {s u v : State} {p r : Nat}

theorem windowDone_err (code : Nat) : (windowDone p r code u).get ((Reg.WIN_ERR.onPage p).by r) = code % 16 := by
  unfold windowDone
  extract_lets s₁
  have h₁ : s₁.get ((Reg.WIN_ERR.onPage p).by r) = code % 16 := State.get_set_same _ _ _
  split
  · exact (window_get_set_ne (g := Reg.WIN_INDEX) (by decide) _ _).trans h₁
  · exact h₁

theorem windowDone_busy (code : Nat) : winBusy (windowDone p r code u) p r = false := by
  have hbusy : (windowDone p r code u).get ((Reg.WIN_BUSY.onPage p).by r) = 0 := by
    unfold windowDone
    extract_lets s₁
    have h₁ : s₁.get ((Reg.WIN_BUSY.onPage p).by r) = 0 := by
      rw [window_get_set_ne (g := Reg.WIN_ERR) (by decide), State.get_set_same]; rfl
    split
    · exact (window_get_set_ne (g := Reg.WIN_INDEX) (by decide) _ _).trans h₁
    · exact h₁
  simp [winBusy, State.bit, hbusy]

theorem winBusy_of_holds {F : Frame} (h : F.holds u v) (hl : F.leaves ((Reg.WIN_BUSY.onPage p).by r)) :
    winBusy v p r = winBusy u p r := by rw [winBusy, winBusy, State.bit, State.bit, h.2 _ hl]

/-- INDEX counts on where AUTOINC is 1. -/
theorem windowDone_index (code : Nat) : winIndex (windowDone p r code u) p r =
    (winIndex u p r + u.get ((Reg.WIN_AUTOINC.onPage p).by r)) % 2 ^ 20 := by
  unfold windowDone
  extract_lets s₁
  have hindex : winIndex s₁ p r = winIndex u p r := by
    rw [winIndex, window_get_set_ne (g := Reg.WIN_ERR) (by decide), window_get_set_ne (g := Reg.WIN_BUSY) (by decide), winIndex]
  have hauto : s₁.get ((Reg.WIN_AUTOINC.onPage p).by r) = u.get ((Reg.WIN_AUTOINC.onPage p).by r) := by
    rw [window_get_set_ne (g := Reg.WIN_ERR) (by decide), window_get_set_ne (g := Reg.WIN_BUSY) (by decide)]
  have hlt : winIndex u p r < 2 ^ 20 := Nat.mod_lt _ (Nat.two_pow_pos _)
  have hbit : u.get ((Reg.WIN_AUTOINC.onPage p).by r) < 2 := Nat.mod_lt _ (Nat.two_pow_pos _)
  split
  next h =>
    rw [State.bit_iff, hauto] at h
    rw [h, ← hindex]
    exact State.get_set_same _ _ _
  next h =>
    rw [State.bit_iff, hauto] at h
    rw [hindex, show u.get ((Reg.WIN_AUTOINC.onPage p).by r) = 0 by omega]
    exact (Nat.mod_eq_of_lt hlt).symm

theorem KeepsWindow.trans {w : State} (h : KeepsWindow p r u v) (h' : KeepsWindow p r v w) : KeepsWindow p r u w :=
  ⟨h'.index.trans h.index, h'.autoinc.trans h.autoinc, h'.valid.trans h.valid, fun k => (h'.data k).trans (h.data k)⟩

/-- What a COMMIT leaves, and the window's index after it. -/
structure Committed (p r : Nat) (u t : State) : Prop where
  index : winIndex t p r = (winIndex u p r + u.get ((Reg.WIN_AUTOINC.onPage p).by r)) % 2 ^ 20
  autoinc : t.get ((Reg.WIN_AUTOINC.onPage p).by r) = u.get ((Reg.WIN_AUTOINC.onPage p).by r)
  valid : t.get ((Reg.WIN_VALID.onPage p).by r) = u.get ((Reg.WIN_VALID.onPage p).by r)
  data : ∀ k, winData t p r k = winData u p r k
  busy : winBusy t p r = false

theorem winData_windowDone (code k : Nat) : winData (windowDone p r code u) p r k = winData u p r k := by
  have hword := winDataWord k
  have hlo : (Reg.WIN_DATA.ix k).lo = 0 := rfl
  exact windowDone_get (f := Reg.WIN_DATA.ix k) (by omega) (by omega) (by omega) code

theorem committed_windowDone (h : KeepsWindow p r u v) (code : Nat) : Committed p r u (windowDone p r code v) where
  index := by rw [windowDone_index, h.index, h.autoinc]
  autoinc := (windowDone_get (f := Reg.WIN_AUTOINC) (by decide) (by decide) (by decide) code).trans h.autoinc
  valid := (windowDone_get (f := Reg.WIN_VALID) (by decide) (by decide) (by decide) code).trans h.valid
  data k := (winData_windowDone code k).trans (h.data k)
  busy := windowDone_busy code

/-- The words that a LOAD fills in stand in DATA. -/
theorem winData_setWords {ws : List Nat} {i k : Nat} (hk : k < 512) (hi : i + ws.length ≤ 512) :
    winData (setWords ((Reg.WIN_DATA.onPage p).by r) u ws i) p r k =
      if i ≤ k ∧ k < i + ws.length then ws.getD (k - i) 0 % 2 ^ 32 else winData u p r k := by
  induction ws generalizing u i with
  | nil => rw [setWords, if_neg (by simp)]
  | cons w ws ih =>
    simp only [List.length_cons] at hi ⊢
    rw [setWords, ih (by omega)]
    rcases Nat.lt_trichotomy k i with hlt | rfl | hgt
    · rw [if_neg (by omega), if_neg (by omega)]
      exact State.get_set_ne (window_key_ne (f := Reg.WIN_DATA.ix k) (g := Reg.WIN_DATA.ix i) (by
        have := winDataWord k; have := winDataWord i
        have : (Reg.WIN_DATA.ix k).lo = 0 := rfl
        have : (Reg.WIN_DATA.ix i).lo = 0 := rfl
        omega)) _ _
    · rw [if_neg (by omega), if_pos (by omega), Nat.sub_self]
      exact State.get_set_same _ _ _
    · split
      next h =>
        rw [if_pos (by omega), show k - i = k - (i + 1) + 1 by omega]
        simp
      next h =>
        rw [if_neg (by omega)]
        exact State.get_set_ne (window_key_ne (f := Reg.WIN_DATA.ix k) (g := Reg.WIN_DATA.ix i) (by
          have := winDataWord k; have := winDataWord i
          have : (Reg.WIN_DATA.ix k).lo = 0 := rfl
          have : (Reg.WIN_DATA.ix i).lo = 0 := rfl
          omega)) _ _

/-- Filling DATA changes no field of the copy outside DATA. -/
theorem window_get_setWords {f : RegField} (hf : f.word < 64) (hlo : f.lo < 32) (ws : List Nat) (i : Nat) :
    (setWords ((Reg.WIN_DATA.onPage p).by r) u ws i).get ((f.onPage p).by r) = u.get ((f.onPage p).by r) := by
  induction ws generalizing u i with
  | nil => rfl
  | cons w ws ih =>
    rw [setWords, ih]
    exact window_get_set_ne (g := Reg.WIN_DATA.ix i) (by
      have := winDataWord i
      have : (Reg.WIN_DATA.ix i).lo = 0 := rfl
      omega) _ _

/-- What a LOAD that ends with an image leaves (R54). -/
structure Loaded (p r : Nat) (ws : List Nat) (u t : State) : Prop where
  index : winIndex t p r = (winIndex u p r + u.get ((Reg.WIN_AUTOINC.onPage p).by r)) % 2 ^ 20
  autoinc : t.get ((Reg.WIN_AUTOINC.onPage p).by r) = u.get ((Reg.WIN_AUTOINC.onPage p).by r)
  valid : t.get ((Reg.WIN_VALID.onPage p).by r) = 1
  err : t.get ((Reg.WIN_ERR.onPage p).by r) = 0
  data : ws.length ≤ 512 → ∀ k < ws.length, winData t p r k = ws.getD k 0 % 2 ^ 32
  busy : winBusy t p r = false

theorem loaded_winLoaded (h : KeepsWindow p r u v) (ws : List Nat) : Loaded p r ws u (winLoaded p r ws v) := by
  have hfill {f : RegField} (hf : f.word < 64) (hlo : f.lo < 32) (hv : f.word * 32 + f.lo ≠ 577) :
      ((winFill p r ws v).set ((Reg.WIN_VALID.onPage p).by r) 1).get ((f.onPage p).by r) = v.get ((f.onPage p).by r) :=
    (window_get_set_ne (g := Reg.WIN_VALID) hv _ _).trans (window_get_setWords hf hlo ws 0)
  refine ⟨?_, ?_, ?_, windowDone_err 0, fun hlen k hk => ?_, windowDone_busy 0⟩
  · rw [winLoaded, windowDone_index, hfill (by decide) (by decide) (by decide), winIndex,
      hfill (by decide) (by decide) (by decide), h.autoinc, ← h.index, winIndex]
  · rw [winLoaded, windowDone_get (by decide) (by decide) (by decide), hfill (by decide) (by decide) (by decide), h.autoinc]
  · rw [winLoaded, windowDone_get (by decide) (by decide) (by decide), State.get_set_same]; rfl
  · rw [winLoaded, winData_windowDone]
    have hset : winData ((winFill p r ws v).set ((Reg.WIN_VALID.onPage p).by r) 1) p r k = winData (winFill p r ws v) p r k :=
      window_get_set_ne (f := Reg.WIN_DATA.ix k) (g := Reg.WIN_VALID) (by
        have := winDataWord k
        have : (Reg.WIN_DATA.ix k).lo = 0 := rfl
        have : Reg.WIN_VALID.word * 32 + Reg.WIN_VALID.lo = 577 := rfl
        omega) _ _
    rw [hset, winFill, winData_setWords (by omega) (by omega), if_pos (by omega), Nat.sub_zero]

/-- What a LOAD that ends in an error leaves (R137). -/
structure LoadFailed (p r : Nat) (u t : State) : Prop where
  index : winIndex t p r = (winIndex u p r + u.get ((Reg.WIN_AUTOINC.onPage p).by r)) % 2 ^ 20
  autoinc : t.get ((Reg.WIN_AUTOINC.onPage p).by r) = u.get ((Reg.WIN_AUTOINC.onPage p).by r)
  valid : t.get ((Reg.WIN_VALID.onPage p).by r) = 0
  err : t.get ((Reg.WIN_ERR.onPage p).by r) ≠ 0
  data : ∀ k, winData t p r k = winData u p r k
  busy : winBusy t p r = false

theorem loadFailed_winFailed (h : KeepsWindow p r u v) {code : Nat} (hcode : code % 16 ≠ 0) :
    LoadFailed p r u (winFailed p r code v) := by
  have hvalid {f : RegField} (hv : f.word * 32 + f.lo ≠ 577) :
      (v.set ((Reg.WIN_VALID.onPage p).by r) 0).get ((f.onPage p).by r) = v.get ((f.onPage p).by r) :=
    window_get_set_ne (g := Reg.WIN_VALID) hv _ _
  refine ⟨?_, ?_, ?_, ?_, fun k => ?_, windowDone_busy code⟩
  · rw [winFailed, windowDone_index, hvalid (by decide), winIndex, hvalid (by decide), h.autoinc, ← h.index, winIndex]
  · rw [winFailed, windowDone_get (by decide) (by decide) (by decide), hvalid (by decide), h.autoinc]
  · rw [winFailed, windowDone_get (by decide) (by decide) (by decide), State.get_set_same]; rfl
  · rw [winFailed, windowDone_err]; exact hcode
  · rw [winFailed, winData_windowDone, ← h.data k]
    exact hvalid (f := Reg.WIN_DATA.ix k) (by
      have := winDataWord k
      have : (Reg.WIN_DATA.ix k).lo = 0 := rfl
      omega)

end
end Sys2Proof.Machine

namespace Sys2Proof.Machine

/-! #### LOAD -/

section
variable {s u v t : State} {p r : Nat}

/-- What a LOAD may change beside its window: a denial at the host bridge is counted and recorded (R364). -/
def denialFrame : Frame := ⟨[.log, .lane], [(0x007, 0x007), (0x048, 0x048)], []⟩

/-- A LOAD ends with an image or with an error. -/
inductive LoadEnds (p r : Nat) (u : State) : State → Prop where
  | loaded (ws : List Nat) {v : State} (h : denialFrame.holds u v) : LoadEnds p r u (winLoaded p r ws v)
  | failed {code : Nat} (hcode : code % 16 ≠ 0) {v : State} (h : denialFrame.holds u v) : LoadEnds p r u (winFailed p r code v)

theorem denialFrame_holds_denial (r lane i : Nat) (u : State) : denialFrame.holds u (fabricDenial r lane i u) := by
  simp +decide [denialFrame]

theorem loadEnds_loaded (p r : Nat) (ws : List Nat) (u : State) : LoadEnds p r u (winLoaded p r ws u) := .loaded ws Frame.holds_refl

theorem loadEnds_failed (p r : Nat) {code : Nat} (hcode : code % 16 ≠ 0) (u : State) : LoadEnds p r u (winFailed p r code u) :=
  .failed hcode Frame.holds_refl

theorem loadEnds_denied (p r lane i : Nat) {code : Nat} (hcode : code % 16 ≠ 0) (u : State) :
    LoadEnds p r u (winFailed p r code (fabricDenial r lane i u)) := .failed hcode (denialFrame_holds_denial r lane i u)

theorem pntLoad_ends (r : Nat) (u : State) : LoadEnds 0x041 r u (pntLoad r u) := by
  unfold pntLoad
  extract_lets i x
  split
  · exact loadEnds_failed _ _ (by decide) u
  · split
    · exact loadEnds_failed _ _ (by decide) u
    · split
      · exact loadEnds_denied _ _ _ _ (by decide) u
      · exact loadEnds_loaded _ _ _ u

theorem loopLoad_ends (r : Nat) (u : State) : LoadEnds 0x051 r u (loopLoad r u) := by
  unfold loopLoad
  extract_lets i set
  split
  · split
    · exact loadEnds_failed _ _ (by decide) u
    · split
      · exact loadEnds_denied _ _ _ _ (by decide) u
      · exact loadEnds_loaded _ _ _ u
  · split
    · split
      · exact loadEnds_failed _ _ (by decide) u
      · extract_lets lane
        split
        · exact loadEnds_denied _ _ _ _ (by decide) u
        · exact loadEnds_loaded _ _ _ u
    · exact loadEnds_failed _ _ (by decide) u

theorem taskLoad_ends (r : Nat) (u : State) : LoadEnds 0x059 r u (taskLoad r u) := by
  unfold taskLoad
  extract_lets n
  split
  · exact loadEnds_failed _ _ (by decide) u
  · split
    · exact loadEnds_denied _ _ _ _ (by decide) u
    · exact loadEnds_loaded _ _ _ u

theorem meterLoad_ends (r : Nat) (u : State) : LoadEnds 0x061 r u (meterLoad r u) := by
  unfold meterLoad
  extract_lets i
  split
  · split
    · exact loadEnds_loaded _ _ _ u
    · exact loadEnds_denied _ _ _ _ (by decide) u
  · split
    · split
      · exact loadEnds_loaded _ _ _ u
      · exact loadEnds_denied _ _ _ _ (by decide) u
    · split
      · split
        · exact loadEnds_failed _ _ (by decide) u
        · split
          · exact loadEnds_loaded _ _ _ u
          · exact loadEnds_denied _ _ _ _ (by decide) u
      · exact loadEnds_failed _ _ (by decide) u

theorem energyLoad_ends (r : Nat) (u : State) : LoadEnds 0x062 r u (energyLoad r u) := by
  unfold energyLoad
  extract_lets i c l
  split
  · exact loadEnds_failed _ _ (by decide) u
  · split
    · exact loadEnds_denied _ _ _ _ (by decide) u
    · split
      · exact loadEnds_loaded _ _ _ u
      · split
        · exact loadEnds_failed _ _ (by decide) u
        · split
          · split
            · exact loadEnds_loaded _ _ _ u
            · exact loadEnds_failed _ _ (by decide) u
          · exact loadEnds_failed _ _ (by decide) u

theorem accLoad_ends (r : Nat) (u : State) : LoadEnds 0x078 r u (accLoad r u) := by
  unfold accLoad
  extract_lets i free record
  have hrecord (there : Bool) : LoadEnds 0x078 r u (record there) := by
    cases there
    · exact loadEnds_failed _ _ (by decide) u
    · exact .loaded free (by simp)
  split
  · exact loadEnds_denied _ _ _ _ (by decide) u
  · split
    · exact hrecord _
    · split
      · exact hrecord _
      · split
        · split
          · exact loadEnds_loaded _ _ _ u
          · exact loadEnds_failed _ _ (by decide) u
        · split
          · split
            · exact loadEnds_loaded _ _ _ u
            · exact loadEnds_failed _ _ (by decide) u
          · exact loadEnds_failed _ _ (by decide) u

/-- The window pages of R54. -/
theorem mem_of_isWindowPage (h : isWindowPage p = true) : p ∈ [0x041, 0x051, 0x059, 0x061, 0x062, 0x078] := by
  simpa [isWindowPage, or_assoc] using h

theorem windowLoad_ends (hp : isWindowPage p = true) (r : Nat) (u : State) : LoadEnds p r u (windowLoad p r u) := by
  have hmem := mem_of_isWindowPage hp
  simp only [List.mem_cons, List.not_mem_nil, or_false] at hmem
  rcases hmem with rfl | rfl | rfl | rfl | rfl | rfl
  · exact pntLoad_ends r u
  · exact loopLoad_ends r u
  · exact taskLoad_ends r u
  · exact meterLoad_ends r u
  · exact energyLoad_ends r u
  · exact accLoad_ends r u

theorem isWindowPage_lt (h : isWindowPage p = true) : p < 4096 ∧ p ≠ 0x181 ∧ p ≠ 0x007 ∧ p ≠ 0x048 := by
  have hmem := mem_of_isWindowPage h
  simp only [List.mem_cons, List.not_mem_nil, or_false] at hmem
  omega

theorem keepsWindow_of_denialFrame (hp : isWindowPage p = true) (h : denialFrame.holds u v) : KeepsWindow p r u v := by
  obtain ⟨hlt, hpair, h7, h48⟩ := isWindowPage_lt hp
  exact .of_frame h hlt hpair (by simp [denialFrame]; omega) (by simp [denialFrame])

theorem LoadEnds.cases (hp : isWindowPage p = true) (h : LoadEnds p r u t) : (∃ ws, Loaded p r ws u t) ∨ LoadFailed p r u t := by
  cases h with
  | loaded ws h => exact .inl ⟨ws, loaded_winLoaded (keepsWindow_of_denialFrame hp h) ws⟩
  | failed hcode h => exact .inr (loadFailed_winFailed (keepsWindow_of_denialFrame hp h) hcode)

@[simp] theorem holds_winLoaded {F : Frame} (h : Frame.Within ⟨[], [(p % 4096, p % 4096)], []⟩ F) (r : Nat) (ws : List Nat) :
    F.holds s (winLoaded p r ws u) ↔ F.holds s u := h.step (by simp +decide [winLoaded, winFill])

@[simp] theorem holds_winFailed {F : Frame} (h : Frame.Within ⟨[], [(p % 4096, p % 4096)], []⟩ F) (r code : Nat) :
    F.holds s (winFailed p r code u) ↔ F.holds s u := h.step (by simp +decide [winFailed])

theorem LoadEnds.holds (h : LoadEnds p r u t) :
    Frame.holds ⟨[.log, .lane], [(p % 4096, p % 4096), (0x007, 0x007), (0x048, 0x048)], []⟩ u t := by
  have hdenial : denialFrame.Within ⟨[.log, .lane], [(p % 4096, p % 4096), (0x007, 0x007), (0x048, 0x048)], []⟩ := by
    simp [denialFrame, partsWithin, covers]
  cases h with
  | loaded ws h => exact (holds_winLoaded (by simp +decide) r ws).2 (hdenial.holds h)
  | failed hcode h => exact (holds_winFailed (by simp +decide) r _).2 (hdenial.holds h)

end
end Sys2Proof.Machine

namespace Sys2Proof.Machine

/-! #### The write of WCTRL -/

section
variable {F : Frame} {s u : State} {p : Nat} {r : Fin 16}

/-- The fields of WCTRL in a copy of a window: none is read-only, none asks for KEY. -/
theorem wctrl_fields : ∀ p ∈ [0x041, 0x051, 0x059, 0x061, 0x062, 0x078], ∀ r : Fin 16, wordFields (.req r) p 0x011 ≠ [] ∧
    ∀ f ∈ wordFields (.req r) p 0x011, f.acc = .rw ∨ f.acc = .w1s := by
  decide +kernel

theorem accessOf_wctrl (hp : isWindowPage p = true) {f : RegField} (hf : f ∈ wordFields (.req r) p 0x011) (s : State) :
    accessOf (.req r) s p 0x011 f = .rw ∨ accessOf (.req r) s p 0x011 f = .w1s := by
  have hmem := mem_of_isWindowPage hp
  have hacc := (wctrl_fields p hmem r).2 f hf
  have hsame : accessOf (.req r) s p 0x011 f = f.acc := by
    simp only [List.mem_cons, List.not_mem_nil, or_false] at hmem
    rcases hmem with rfl | rfl | rfl | rfl | rfl | rfl <;> rcases hacc with h | h <;> simp [accessOf, firmwareWord, h]
  rwa [hsame]

theorem pageMapped_of_isWindowPage (hp : isWindowPage p = true) : pageMapped p = true := by
  have : ∀ p ∈ [0x041, 0x051, 0x059, 0x061, 0x062, 0x078], pageMapped p = true := by decide
  exact this p (mem_of_isWindowPage hp)

theorem wordStatus_wctrl (hp : isWindowPage p = true) (keyed : Bool) (v : Nat) (s : State) :
    wordStatus (.req r) keyed p 0x011 v s = 0 := by
  have hne := (wctrl_fields p (mem_of_isWindowPage hp) r).1
  have hro : (wordFields (.req r) p 0x011).all (fun f => accessOf (.req r) s p 0x011 f = .ro) = false := by
    obtain ⟨f, hf⟩ := List.exists_mem_of_ne_nil _ hne
    refine List.all_eq_false.2 ⟨f, hf, ?_⟩
    rcases accessOf_wctrl hp hf s with h | h <;> simp [h]
  have hrwl : (wordFields (.req r) p 0x011).any (fun f => accessOf (.req r) s p 0x011 f = .rwl && wouldChange s v f) = false := by
    refine List.any_eq_false.2 fun f hf => ?_
    rcases accessOf_wctrl hp hf s with h | h <;> simp [h]
  have hattn : p ≠ 0x001 := by rintro rfl; simp [isWindowPage] at hp
  unfold wordStatus
  extract_lets fs
  rw [hro, hrwl]
  simp [pageMapped_of_isWindowPage hp, hattn]

/-- A field of a window copy is no field of another page. -/
theorem window_key_ne_of_page {f g : RegField} {i : Nat} (hw : f.word < 1024) (hlo : f.lo < 32) (hp : p < 4096) (hpage : p ≠ g.pageOf) :
    ((f.onPage p).by i).key ≠ g.key := fun e => hpage (by
  rw [← window_pageOf (f := f) (r := i) hw hlo hp, RegField.pageOf, e]
  rfl)

/-- The page acts on WCTRL in this state: a lapsed KEY is closed (R48), and AUTOINC is written. -/
def windowReady (p r : Nat) (a : Bool) (s : State) : State := (keyLapse p s).setBit ((Reg.WIN_AUTOINC.onPage p).by r) a

/-- What LOAD and COMMIT do on the written bits of WCTRL (R56). -/
def windowAct (load commit : Bool) (p r : Nat) (s : State) : State :=
  match load, commit with
  | true, false => windowLoad p r s
  | false, true => windowCommit p r s
  | _, _ => s

@[simp] theorem holds_keyLapse (h : Frame.Within ⟨[.keys], [], [Reg.SYS_KEYERR_COUNT]⟩ F) (p : Nat) :
    F.holds s (keyLapse p u) ↔ F.holds s u := h.step (by
  unfold keyLapse
  split
  · split <;> simp +decide [keyFail]
  · simp)

/-- What the write of WCTRL changes before the page acts on it. -/
def readyFrame (p r : Nat) : Frame := ⟨[.keys], [], [(Reg.WIN_AUTOINC.onPage p).by r, Reg.SYS_KEYERR_COUNT]⟩

theorem windowReady_holds (p r : Nat) (a : Bool) (s : State) : (readyFrame p r).holds s (windowReady p r a s) := by
  unfold windowReady
  refine (holds_setBit (inFrame_of_mem (by simp [readyFrame])) a).2 ((holds_keyLapse ?_ p).2 Frame.holds_refl)
  simp +decide [readyFrame, inFrame, partsWithin]

theorem charter_of_holds (h : F.holds s u) (hs : .sheets ∉ F.parts) (hm : F.leaves Reg.MODE_STAT_MODE) : charter u = charter s := by
  have hsheets : u.sheets = s.sheets := h.1 .sheets hs
  unfold charter
  rw [h.2 _ hm, hsheets]

theorem sheet_of_holds (h : F.holds s u) (hs : .sheets ∉ F.parts) (hm : F.leaves Reg.MODE_STAT_MODE) : sheet u = sheet s := by
  have hsheets : u.sheets = s.sheets := h.1 .sheets hs
  unfold sheet
  rw [h.2 _ hm, hsheets]

theorem requesterLanes_of_holds (h : F.holds s u) (hs : .sheets ∉ F.parts) (hses : .sessions ∉ F.parts)
    (hm : F.leaves Reg.MODE_STAT_MODE) (r : Nat) : requesterLanes u r = requesterLanes s r := by
  have hsessions : u.sessions = s.sessions := h.1 .sessions hses
  unfold requesterLanes
  rw [charter_of_holds h hs hm, hsessions]

/-- A lapsed KEY bars no master from the page, and lets none in. -/
theorem keyLapse_access (p : Nat) (s : State) (m : Master) (w : Nat) :
    hostClosed m (keyLapse p s) = hostClosed m s ∧ mayWritePage m p w (keyLapse p s) = mayWritePage m p w s := by
  have h : Frame.holds ⟨[.keys], [], [Reg.SYS_KEYERR_COUNT]⟩ s (keyLapse p s) := by simp +decide
  have hmode : Frame.leaves ⟨[.keys], [], [Reg.SYS_KEYERR_COUNT]⟩ Reg.MODE_STAT_MODE := by unfold Frame.leaves; decide
  have hsessions : (keyLapse p s).sessions = s.sessions := h.1 .sessions (by decide)
  constructor
  · unfold hostClosed sessionOpen
    rw [hsessions]
  · unfold mayWritePage pageLane
    simp only [charter_of_holds h (by decide) hmode, requesterLanes_of_holds h (by decide) (by decide) hmode]

theorem keyLapse_get (p : Nat) (s : State) {f : RegField} (hf : Frame.leaves ⟨[.keys], [], [Reg.SYS_KEYERR_COUNT]⟩ f) :
    (keyLapse p s).get f = s.get f := by
  have h : Frame.holds ⟨[.keys], [], [Reg.SYS_KEYERR_COUNT]⟩ s (keyLapse p s) := by simp +decide
  exact h.2 f hf

/-- Behind the checks of the bridge and of the page, WCTRL acts on the page's window. -/
theorem applyWord_wctrl (hp : isWindowPage p = true) (v : Nat) (u : State) (hbusy : winBusy u p r.val = false) :
    applyWord (.req r) p 0x011 v u = windowAct (v.testBit 0) (v.testBit 1) p r.val
      (u.setBit ((Reg.WIN_AUTOINC.onPage p).by r.val) (v.testBit 2)) := by
  have hne := (wctrl_fields p (mem_of_isWindowPage hp) r).1
  have hmem := mem_of_isWindowPage hp
  have hwindow : writeWindow (.req r) p 0x011 v u = windowAct (v.testBit 0) (v.testBit 1) p r.val
      (u.setBit ((Reg.WIN_AUTOINC.onPage p).by r.val) (v.testBit 2)) := by
    simp only [writeWindow, withCopy, copyOf, hbusy, Bool.false_and, windowAct]
    rfl
  have happly : applyWord (.req r) p 0x011 v u = blockWrite (.req r) p 0x011 v u := by
    have hattn : p ≠ 0x001 := by rintro rfl; simp [isWindowPage] at hp
    simp [applyWord, pageMapped_of_isWindowPage hp, hne, frozenRule, hattn]
  have hblock : blockWrite (.req r) p 0x011 v u = writeWindow (.req r) p 0x011 v u := by
    simp only [List.mem_cons, List.not_mem_nil, or_false] at hmem
    rcases hmem with rfl | rfl | rfl | rfl | rfl | rfl <;> rfl
  rw [happly, hblock, hwindow]

theorem fabricWrite_wctrl (hp : isWindowPage p = true) (hopen : hostClosed (.req r) s = false)
    (hwrite : mayWritePage (.req r) p 0x011 s = true) (hfree : undisturbed s p) (hbusy : winBusy s p r.val = false) (v : Nat) :
    fabricWrite (.req r) p 0x044 v s = windowAct (v.testBit 0) (v.testBit 1) p r.val (windowReady p r.val (v.testBit 2) s) := by
  have hmem := mem_of_isWindowPage hp
  obtain ⟨hlt, hpair, -, -⟩ := isWindowPage_lt hp
  have hzero : p ≠ Reg.SYS_KEYERR_COUNT.pageOf := by rintro rfl; revert hp; decide
  obtain ⟨hclosed, hmay⟩ := keyLapse_access p s (.req r) 0x011
  have hdr : pageBusy (keyLapse p s) p = false := by
    rw [← pageBusy_of_undisturbed hfree]
    unfold pageBusy State.bit
    rw [keyLapse_get p s (by
      simp only [List.mem_cons, List.not_mem_nil, or_false] at hmem
      rcases hmem with rfl | rfl | rfl | rfl | rfl | rfl <;> unfold Frame.leaves <;> decide)]
  have hbusy' : winBusy (keyLapse p s) p r.val = false := by
    have hkey : ((Reg.WIN_BUSY.onPage p).by r.val).key ≠ Reg.SYS_KEYERR_COUNT.key :=
      window_key_ne_of_page (by decide) (by decide) hlt hzero
    have hleaves := Frame.leaves_window (F := ⟨[.keys], [], [Reg.SYS_KEYERR_COUNT]⟩) (f := Reg.WIN_BUSY) (r := r.val) (by decide)
      (by decide) (by decide) hlt hpair (by simp) (by simpa using hkey)
    rw [← hbusy, winBusy, winBusy, State.bit, State.bit, keyLapse_get p s hleaves]
  have hrwl (u : State) : ((wordFields (.req r) p 0x011).any fun f => accessOf (.req r) u p 0x011 f = .rwl) = false := by
    refine List.any_eq_false.2 fun f hf => ?_
    rcases accessOf_wctrl hp hf u with h | h <;> simp [h]
  have hmid : masterMid (.req r) ≠ 7 := (by decide : ∀ r : Fin 16, masterMid (.req r) ≠ 7) r
  rw [windowReady, ← applyWord_wctrl hp v _ hbusy']
  unfold fabricWrite
  simp only [hclosed, hopen, hmay, hwrite, hdr, wordStatus_wctrl hp, hrwl]
  simp [hmid]

/-- A window command acts on its window. -/
theorem windowControl_eq (hp : isWindowPage p = true) (hopen : hostClosed (.req r) s = false)
    (hwrite : mayWritePage (.req r) p 0x011 s = true) (hfree : undisturbed s p) (hbusy : winBusy s p r.val = false)
    (load commit autoinc : Bool) :
    windowControl r p load commit autoinc s = windowAct load commit p r.val (windowReady p r.val autoinc s) := by
  have hbits : (b2n load + 2 * b2n commit + 4 * b2n autoinc).testBit 0 = load ∧
      (b2n load + 2 * b2n commit + 4 * b2n autoinc).testBit 1 = commit ∧
      (b2n load + 2 * b2n commit + 4 * b2n autoinc).testBit 2 = autoinc := by
    revert load commit autoinc
    decide
  obtain ⟨hload, hcommit, hautoinc⟩ := hbits
  rw [windowControl, if_pos hp, fabricWrite_wctrl hp hopen hwrite hfree hbusy, hload, hcommit, hautoinc]

end
end Sys2Proof.Machine

namespace Sys2Proof.Machine

/-! #### COMMIT -/

section
variable {F : Frame} {s u v w : State} {p r : Nat}

/-- The window's BUSY, index and DATA stand where a step's frame leaves its page out. -/
theorem winBusy_of_frame (h : F.holds u v) (hp : p < 4096) (hpair : p ≠ 0x181) (hpages : ∀ g ∈ F.pages, p < g.1 ∨ g.2 < p)
    (hfields : F.fields = []) : winBusy v p r = winBusy u p r :=
  winBusy_of_holds h (Frame.leaves_window (by decide) (by decide) (by decide) hp hpair hpages (by simp [hfields]))

theorem Committed.of_frame (hc : Committed p r u v) (h : F.holds v w) (hp : p < 4096) (hpair : p ≠ 0x181)
    (hpages : ∀ g ∈ F.pages, p < g.1 ∨ g.2 < p) (hfields : F.fields = []) : Committed p r u w := by
  have hk : KeepsWindow p r v w := .of_frame h hp hpair hpages (by simp [hfields])
  exact ⟨hk.index.trans hc.index, hk.autoinc.trans hc.autoinc, hk.valid.trans hc.valid, fun k => (hk.data k).trans (hc.data k),
    (winBusy_of_frame h hp hpair hpages hfields).trans hc.busy⟩

theorem committed_denied (hp : isWindowPage p = true) (lane i code : Nat) :
    Committed p r u (windowDone p r code (fabricDenial r lane i u)) :=
  committed_windowDone (keepsWindow_of_denialFrame hp (denialFrame_holds_denial r lane i u)) code

theorem committed_done (p r code : Nat) (u : State) : Committed p r u (windowDone p r code u) := committed_windowDone (.refl p r u) code

theorem wordOf_by (f : RegField) (r : Nat) : (f.by r).wordOf = (f.word + f.lo / 32) % 1024 := by
  simp only [RegField.wordOf, RegField.key, RegField.by]
  omega

/-- What a COMMIT of the loop window changes of the loop and of the window. -/
theorem committed_loop (n k code : Nat) (x : LoopState) :
    Committed 0x051 r u (windowDone 0x051 r code ((u.setLoop n x).set (Reg.LOOPWIN_WEFF_SAMPLE.by r) k)) := by
  have h : Frame.holds ⟨[.cle], [], [Reg.LOOPWIN_WEFF_SAMPLE.by r]⟩ u ((u.setLoop n x).set (Reg.LOOPWIN_WEFF_SAMPLE.by r) k) := by
    refine (holds_set (inFrame_of_mem (by simp)) k).2 ?_
    simp +decide
  exact committed_windowDone (.of_frame h (by decide) (by decide) (by simp) (by
    simp only [List.mem_singleton, forall_eq, wordOf_by]
    decide)) code

theorem Committed.ite {c : Prop} [Decidable c] (hv : Committed p r u v) (hw : Committed p r u w) :
    Committed p r u (if c then v else w) := by
  split
  · exact hv
  · exact hw

theorem loopCommit_committed (r : Nat) (u : State) : Committed 0x051 r u (loopCommit r u) := by
  have hfail (code : Nat) : Committed 0x051 r u (windowDone 0x051 r code u) := committed_done ..
  unfold loopCommit
  refine .ite (.ite (hfail 6) (hfail 1)) ?_
  split
  · exact hfail 1
  · refine .ite (committed_denied (by decide) ..) (.ite (hfail 6) (.ite (hfail 8) (.ite ?coefficient (.ite ?mode ?counter))))
    case coefficient => exact .ite (committed_loop ..) (hfail 5)
    case mode => exact .ite (hfail 5) (.ite (hfail 7) (committed_loop ..))
    case counter =>
      refine committed_windowDone (.of_frame (F := ⟨[.cle], [], []⟩) ?_ (by decide) (by decide) (by simp) (by simp)) 0
      simp +decide

/-! The task window: what a COMMIT shows on the CTE page comes after the window's end. -/

theorem committed_taskFrame (h : Frame.holds ⟨[.cte], [(0x058, 0x058)], [Reg.TASKWIN_WEFF_RELEASE.by r]⟩ u v) (code : Nat) :
    Committed 0x059 r u (windowDone 0x059 r code v) :=
  committed_windowDone (.of_frame h (by decide) (by decide) (by simp) (by
    simp only [List.mem_singleton, forall_eq, wordOf_by]
    decide)) code

theorem Committed.showCte (h : Committed 0x059 r u v) : Committed 0x059 r u (showCte v) :=
  h.of_frame (F := ⟨[], [(0x058, 0x058)], []⟩) (by simp +decide) (by decide) (by decide) (by simp) rfl

theorem committed_taskReject (r code : Nat) (u : State) : Committed 0x059 r u (taskReject r code u) :=
  committed_taskFrame (by simp +decide) code

theorem taskCommand_committed (r t cmd : Nat) (u : State) : Committed 0x059 r u (taskCommand r t cmd u) := by
  have hok {v : State} (h : Frame.holds ⟨[.cte], [(0x058, 0x058)], [Reg.TASKWIN_WEFF_RELEASE.by r]⟩ u v) :
      Committed 0x059 r u (Machine.showCte (windowDone 0x059 r 0 v)) := (committed_taskFrame h 0).showCte
  have hreject (code : Nat) := committed_taskReject r code u
  unfold taskCommand
  split
  · exact .ite (hok (by simp +decide)) (hreject 7)
  · exact .ite (hok (by simp +decide)) (.ite (hok (by simp +decide)) (hreject 7))
  · exact .ite (hok (by simp +decide)) (hreject 7)
  · exact .ite (hreject 10) (hok (by simp +decide))
  · exact hreject 6

theorem changeValue_committed (r t item v : Nat) (u : State) : Committed 0x059 r u (changeValue r t item v u) := by
  have hreject (code : Nat) := committed_taskReject r code u
  unfold changeValue
  dsimp only
  split
  · exact hreject 6
  · refine .ite (hreject 5) (.ite (hreject 9) (committed_taskFrame ?_ 0).showCte)
    refine (holds_set (inFrame_of_mem (by simp)) _).2 ?_
    simp +decide

theorem taskCommit_committed (r : Nat) (u : State) (hbusy : winBusy u 0x059 r = false) : Committed 0x059 r u (taskCommit r u) := by
  have hreject (code : Nat) := committed_taskReject r code u
  unfold taskCommit
  rw [if_neg (by simp [hbusy])]
  refine .ite (hreject 1) (.ite ?denied ?_)
  case denied =>
    refine committed_windowDone (.of_frame (F := ⟨[.log, .lane], [(7, 7), (0x048, 0x048), (0x058, 0x058)], []⟩) ?_ (by decide)
      (by decide) (by simp) (by simp)) 4
    simp +decide
  split
  · exact .ite (hreject 8) (changeValue_committed ..)
  · exact .ite (hreject 8) (taskCommand_committed ..)
  · exact .ite (hreject 8) (committed_taskFrame (by simp +decide) 0)
  · exact hreject 6

theorem meterCommit_committed (r : Nat) (u : State) (hbusy : winBusy u 0x061 r = false) : Committed 0x061 r u (meterCommit r u) := by
  have hfail (code : Nat) : Committed 0x061 r u (windowDone 0x061 r code u) := committed_done ..
  unfold meterCommit
  rw [if_neg (by simp [hbusy])]
  refine .ite (.ite (hfail 6) (.ite (hfail 5) ?staged)) (.ite (hfail 6) (hfail 1))
  refine committed_windowDone (.of_frame (F := ⟨[.mtr], [(0x060, 0x060)], []⟩) ?_ (by decide) (by decide) (by simp) (by simp)) 0
  simp +decide

theorem energyCommit_committed (r : Nat) (u : State) (hbusy : winBusy u 0x062 r = false) :
    Committed 0x062 r u (energyCommit r u) := by
  rw [energyCommit, if_neg (by simp [hbusy])]
  exact committed_done ..

/-- The credential window changes the cache, its count and the full cache's fault before it is done. -/
theorem committed_cache (h : Frame.holds ⟨[.acc], [], [Reg.ACC_CCOUNT_COUNT, Reg.ACC_FAULT_CACHEFULL]⟩ u v) :
    Committed 0x078 r u (windowDone 0x078 r 0 v) :=
  committed_windowDone (.of_frame h (by decide) (by decide) (by simp) (by simp; decide)) 0

theorem accCommit_committed (r : Nat) (u : State) (hbusy : winBusy u 0x078 r = false) : Committed 0x078 r u (accCommit r u) := by
  have hfail (code : Nat) : Committed 0x078 r u (windowDone 0x078 r code u) := committed_done ..
  unfold accCommit
  dsimp only
  rw [if_neg (by simp [hbusy])]
  refine .ite (committed_denied (by decide) ..) (.ite (hfail 6) (.ite (hfail 5) (.ite (committed_cache ?_) (.ite (hfail 5)
    (committed_cache ?_)))))
  · simp +decide [showCache]
  · split <;> simp +decide [showCache]

end
end Sys2Proof.Machine

namespace Sys2Proof.Machine

section
variable {s u v t : State} {p r : Nat}

/-- What the COMMIT of every window keeps. -/
structure CommitKeeps (p r : Nat) (u t : State) : Prop where
  autoinc : t.get ((Reg.WIN_AUTOINC.onPage p).by r) = u.get ((Reg.WIN_AUTOINC.onPage p).by r)
  valid : t.get ((Reg.WIN_VALID.onPage p).by r) = u.get ((Reg.WIN_VALID.onPage p).by r)
  data : ∀ k, winData t p r k = winData u p r k

theorem Committed.keeps (h : Committed p r u t) : CommitKeeps p r u t := ⟨h.autoinc, h.valid, h.data⟩

theorem raiseBusy_get {f : RegField} (hb : f.word * 32 + f.lo ≠ 576) :
    (u.raise ((Reg.WIN_BUSY.onPage p).by r)).get ((f.onPage p).by r) = u.get ((f.onPage p).by r) :=
  window_get_set_ne (g := Reg.WIN_BUSY) hb u 1

theorem winData_raiseBusy (k : Nat) : winData (u.raise ((Reg.WIN_BUSY.onPage p).by r)) p r k = winData u p r k := by
  have hword := winDataWord k
  have hlo : (Reg.WIN_DATA.ix k).lo = 0 := rfl
  exact raiseBusy_get (f := Reg.WIN_DATA.ix k) (by omega)

/-- Behind BUSY, the point window only hands its update over. -/
theorem pntSubmit_holds (r : Nat) (kind : UpdateKind) (u : State) :
    Frame.holds ⟨[.pt], [(0x040, 0x040)], []⟩ (u.raise ((Reg.WIN_BUSY.onPage 0x041).by r)) (pntSubmit r kind u) :=
  (holds_submit_of_quiet (wakesDoze_requesterSrc r) (by simp +decide)).2 Frame.holds_refl

theorem pntSubmit_keeps (r : Nat) (kind : UpdateKind) (u : State) : CommitKeeps 0x041 r u (pntSubmit r kind u) := by
  have hk : KeepsWindow 0x041 r _ _ := .of_frame (pntSubmit_holds r kind u) (by decide) (by decide) (by simp) (by simp)
  exact ⟨hk.autoinc.trans (raiseBusy_get (f := Reg.WIN_AUTOINC) (by decide)),
    hk.valid.trans (raiseBusy_get (f := Reg.WIN_VALID) (by decide)), fun k => (hk.data k).trans (winData_raiseBusy k)⟩

theorem pntCommit_keeps (r : Nat) (u : State) (hbusy : winBusy u 0x041 r = false) : CommitKeeps 0x041 r u (pntCommit r u) := by
  have hfail (code : Nat) : CommitKeeps 0x041 r u (windowDone 0x041 r code u) := (committed_done ..).keeps
  unfold pntCommit
  dsimp only
  rw [if_neg (by simp [hbusy])]
  split
  · exact hfail _
  · split
    · exact pntSubmit_keeps ..
    · exact pntSubmit_keeps ..
    · exact pntSubmit_keeps ..
    · exact hfail _

/-- The COMMIT of every window but the point window is done at once. -/
theorem windowCommit_committed (hp : isWindowPage p = true) (h41 : p ≠ 0x041) (hbusy : winBusy u p r = false) :
    Committed p r u (windowCommit p r u) := by
  have hmem := mem_of_isWindowPage hp
  simp only [List.mem_cons, List.not_mem_nil, or_false] at hmem
  rcases hmem with rfl | rfl | rfl | rfl | rfl | rfl
  · exact absurd rfl h41
  · exact loopCommit_committed r u
  · exact taskCommit_committed r u hbusy
  · exact meterCommit_committed r u hbusy
  · exact energyCommit_committed r u hbusy
  · exact accCommit_committed r u hbusy

theorem windowCommit_keeps (hp : isWindowPage p = true) (hbusy : winBusy u p r = false) : CommitKeeps p r u (windowCommit p r u) := by
  by_cases h41 : p = 0x041
  · subst h41
    exact pntCommit_keeps r u hbusy
  · exact (windowCommit_committed hp h41 hbusy).keeps

/-! The value write of the point window enters the queue of its class. -/

theorem srcClass_requesterSrc (r : Nat) : srcClass (requesterSrc r) = 6 := by
  unfold srcClass requesterSrc mkSrc
  omega

theorem submit_queue {x : Update} (hclass : srcClass x.src = 6) (hopen : queueOpen u 6) :
    queueOf (submit x u) 6 = queueOf u 6 ++ [x] := by
  obtain ⟨hlen, hheld⟩ := hopen
  have hquiet : wakesDoze x.src = false := by simp [wakesDoze, hclass]
  have hjoint : closedJoint u x.src = none := by simp [closedJoint, sourceJoint, hclass]
  simp only [submit, hquiet, Bool.false_eq_true, if_false, hjoint, enqueue, hclass, hlen, hheld, and_self, if_true]
  exact tabGet_put_same _ _ _ _

theorem pntCommit_queued (hbusy : winBusy u 0x041 r = false) (hready : takesWrites u = true)
    (hmode : u.get (Reg.PNTWIN_WSEL_MODE.by r) = 0) (hopen : queueOpen u 6) :
    winBusy (pntCommit r u) 0x041 r = true ∧ queueOf (pntCommit r u) 6 = queueOf u 6 ++
      [{ src := requesterSrc r, target := .idx (winIndex u 0x041 r),
         kind := .value (winData u 0x041 r 0 + 2 ^ 32 * winData u 0x041 r 1) .valid, path := .window r }] := by
  have hcommit : pntCommit r u = pntSubmit r (.value (winData u 0x041 r 0 + 2 ^ 32 * winData u 0x041 r 1) .valid) u := by
    simp [pntCommit, hbusy, hready, hmode]
  rw [hcommit]
  constructor
  · rw [winBusy_of_frame (pntSubmit_holds ..) (by decide) (by decide) (by simp) rfl, winBusy, State.bit_iff]
    exact State.get_set_same _ _ _
  · exact submit_queue (srcClass_requesterSrc r) hopen

/-! The credential window. -/

theorem accCommit_stored (hbusy : winBusy u 0x078 r = false) (hlane : mayWriteLane (requesterLanes u r) (accLane u) = true)
    (hlo : 0x10000 ≤ winIndex u 0x078 r) (hhi : winIndex u 0x078 r < 0x40D40) (hflags : (dataCredential u r).flags < 16)
    (hfresh : (dataCredential u r).flags.testBit 0 = true → ∀ e ∈ u.acc.cache, e.1 ≠ winIndex u 0x078 r - 0x10000 →
      e.2.digest ≠ (dataCredential u r).digest) :
    ∃ v, accCommit r u = windowDone 0x078 r 0 v ∧ Frame.holds ⟨[.acc], [(0x078, 0x078)], []⟩ u v ∧
      tabFind (winIndex u 0x078 r - 0x10000) v.acc.cache =
        if (dataCredential u r).flags.testBit 0 then some (dataCredential u r) else none := by
  have hbase : (decide (winIndex u 0x078 r < 0x10000) || decide (0x40D40 ≤ winIndex u 0x078 r)) = false := by simp; omega
  unfold accCommit
  dsimp only
  rw [if_neg (by simp [hbusy]), if_neg (by simp [hlane]), if_neg (by simp [hbase]), if_neg (by omega)]
  cases hpresent : (dataCredential u r).flags.testBit 0 with
  | false =>
    refine ⟨_, if_pos (by simp), by simp +decide [showCache], ?_⟩
    exact tabFind_erase_same _ _
  | true =>
    have hany : (u.acc.cache.any fun e => e.1 ≠ winIndex u 0x078 r - 0x10000 && e.2.digest = (dataCredential u r).digest) = false := by
      refine List.any_eq_false.2 fun e he => ?_
      simpa using hfresh hpresent e he
    rw [if_neg (by simp), if_neg (by rw [hany]; simp)]
    refine ⟨_, rfl, ?_, ?_⟩
    · split <;> simp +decide [showCache]
    · split <;> exact tabFind_insert_same _ _ _

end
end Sys2Proof.Machine

namespace Sys2Proof.Machine

/-! #### What the write of AUTOINC leaves the window to act on -/

section
variable {s u v t : State} {p r : Nat} {a : Bool}

theorem keyerr_page_ne (hp : isWindowPage p = true) : p ≠ Reg.SYS_KEYERR_COUNT.pageOf := by
  rintro rfl
  revert hp
  decide

theorem windowReady_get {f : RegField} (hw : f.word < 1024) (hlo : f.lo < 32) (h7 : f.word ≠ 7) (hp : isWindowPage p = true)
    (hne : f.word * 32 + f.lo ≠ 546) (r : Nat) (a : Bool) (s : State) :
    (windowReady p r a s).get ((f.onPage p).by r) = s.get ((f.onPage p).by r) := by
  obtain ⟨hlt, hpair, -, -⟩ := isWindowPage_lt hp
  refine (windowReady_holds p r a s).2 _ (Frame.leaves_window hw hlo h7 hlt hpair (by simp [readyFrame]) ?_)
  simp only [readyFrame, List.mem_cons, List.not_mem_nil, or_false, forall_eq_or_imp, forall_eq]
  exact ⟨window_key_ne (g := Reg.WIN_AUTOINC) hne, window_key_ne_of_page hw hlo hlt (keyerr_page_ne hp)⟩

theorem windowReady_autoinc (p r : Nat) (a : Bool) (s : State) :
    (windowReady p r a s).get ((Reg.WIN_AUTOINC.onPage p).by r) = if a then 1 else 0 := by
  rw [windowReady, State.setBit, State.get_set_same]
  cases a <;> rfl

theorem readyFrame_leaves {f : RegField} (h7 : f.wordOf ≠ 7) (hpair : f.key ≠ Reg.PAIR_LASTTKO_MS.key)
    (herr : f.key ≠ Reg.SYS_KEYERR_COUNT.key) (hp : isWindowPage p = true) (hpage : f.pageOf ≠ p) (r : Nat) :
    (readyFrame p r).leaves f := by
  obtain ⟨hlt, -, -, -⟩ := isWindowPage_lt hp
  refine ⟨h7, hpair, by simp [readyFrame], ?_⟩
  simp only [readyFrame, List.mem_cons, List.not_mem_nil, or_false, forall_eq_or_imp, forall_eq]
  exact ⟨(window_key_ne_of_page (by decide) (by decide) hlt hpage.symm).symm, herr⟩

theorem windowReady_mode (hp : isWindowPage p = true) (r : Nat) : (readyFrame p r).leaves Reg.MODE_STAT_MODE :=
  readyFrame_leaves (by decide) (by decide) (by decide) hp (by rintro rfl; revert hp; decide) r

theorem windowReady_index (hp : isWindowPage p = true) : winIndex (windowReady p r a s) p r = winIndex s p r :=
  windowReady_get (f := Reg.WIN_INDEX) (by decide) (by decide) (by decide) hp (by decide) r a s

theorem windowReady_busy (hp : isWindowPage p = true) : winBusy (windowReady p r a s) p r = winBusy s p r := by
  rw [winBusy, winBusy, State.bit, State.bit,
    windowReady_get (f := Reg.WIN_BUSY) (by decide) (by decide) (by decide) hp (by decide) r a s]

theorem windowReady_data (hp : isWindowPage p = true) (k : Nat) : winData (windowReady p r a s) p r k = winData s p r k := by
  have hword := winDataWord k
  have hlo : (Reg.WIN_DATA.ix k).lo = 0 := rfl
  have hk := Nat.mod_lt k (show 512 > 0 by decide)
  exact windowReady_get (f := Reg.WIN_DATA.ix k) (by omega) (by omega) (by omega) hp (by omega) r a s

theorem windowReady_part {q : Part} (hq : q ≠ .keys) (p r : Nat) (a : Bool) (s : State) : q.same s (windowReady p r a s) :=
  (windowReady_holds p r a s).1 q (by simpa [readyFrame] using hq)

theorem windowReady_charter (hp : isWindowPage p = true) : charter (windowReady p r a s) = charter s :=
  charter_of_holds (windowReady_holds p r a s) (by simp [readyFrame]) (windowReady_mode hp r)

theorem windowReady_sheet (hp : isWindowPage p = true) : sheet (windowReady p r a s) = sheet s :=
  sheet_of_holds (windowReady_holds p r a s) (by simp [readyFrame]) (windowReady_mode hp r)

theorem windowReady_lanes (hp : isWindowPage p = true) : requesterLanes (windowReady p r a s) r = requesterLanes s r :=
  requesterLanes_of_holds (windowReady_holds p r a s) (by simp [readyFrame]) (by simp [readyFrame]) (windowReady_mode hp r) r

/-! #### The LOAD of a record that exists and may be read -/

/-- Requester `r` may load the record with index `i`, and these are its words (R54). -/
inductive Readable (s : State) (r i : Nat) : Nat → List Nat → Prop where
  | point (hready : s.bit Reg.PNT_STAT_READY = true) (htyp : (s.point i).typ ≠ 0)
      (hlane : mayReadLane (requesterLanes s r) (s.point i).lane = true) : Readable s r i 0x041 (recordWords (s.point i))
  | loop (hi : i < 0x2000) {c : LoopCfg} (hcfg : loopCfg s i = some c)
      (hlane : (requesterLanes s r).getLsbD (loopLane s i) = true) : Readable s r i 0x051 (loopWords s i c)
  | task {c : TaskCfg} (hcfg : taskCfg s i = some c) (hlane : (requesterLanes s r).getLsbD (taskLane s i) = true) :
      Readable s r i 0x059 (taskWords s i c)
  | channel (hi : i < 48) (hread : mayReadChannel s r i = true) : Readable s r i 0x061 (channelWords s i)
  | energy (hi : i < 36) (hcfg : (circuitCfg s i).isSome = true)
      (hlane : (requesterLanes s r).getLsbD (circuitLane s i) = true) : Readable s r i 0x062 (energyWords s i)
  | credential (hlane : mayReadLane (requesterLanes s r) (accLane s) = true) (hlo : 0x10000 ≤ i) (hhi : i < 0x40D40) {c : Credential}
      (hfind : tabFind (i - 0x10000) s.acc.cache = some c) : Readable s r i 0x078 (credentialWords c)

theorem Readable.isWindowPage {i : Nat} {ws : List Nat} (h : Readable s r i p ws) : isWindowPage p = true := by cases h <;> rfl

theorem windowLoad_of_readable {ws : List Nat} (h : Readable s r (winIndex s p r) p ws) : windowLoad p r s = winLoaded p r ws s := by
  cases h with
  | point hready htyp hlane => simp [windowLoad, pntLoad, hready, htyp, hlane]
  | loop hi hcfg hlane => simp [windowLoad, loopLoad, hi, hcfg, hlane]
  | task hcfg hlane => simp [windowLoad, taskLoad, hcfg, hlane]
  | channel hi hread => simp [windowLoad, meterLoad, hi, hread]
  | energy hi hcfg hlane =>
    have hbase : winIndex s 0x062 r < 0x10000 := by omega
    obtain ⟨c, hc⟩ := Option.isSome_iff_exists.1 hcfg
    simp [windowLoad, energyLoad, hi, hbase, hc, hlane]
  | credential hlane hlo hhi hfind =>
    have hdoor : ¬ winIndex s 0x078 r < 0x20 := by omega
    have hreader : ¬ (0x100 ≤ winIndex s 0x078 r ∧ winIndex s 0x078 r < 0x120) := by omega
    simp only [windowLoad, accLoad, hlane, hdoor, hreader, hlo, hhi, hfind, Bool.not_true, Bool.false_eq_true, if_false, and_self, if_true]

/-- Every record fits in DATA. -/
theorem Readable.length_le {i : Nat} {ws : List Nat} (h : Readable s r i p ws) : ws.length ≤ 512 := by
  cases h with
  | point => simp [recordWords]
  | loop => simp [loopWords, two]
  | task => simp [taskWords, two]
  | channel => simp [channelWords]
  | energy => simp [energyWords, two]
  | credential => simp [credentialWords]

theorem bit_of_leaves {F : Frame} {f : RegField} (h : F.holds s u) (hf : F.leaves f) : u.bit f = s.bit f := by
  rw [State.bit, State.bit, h.2 f hf]

theorem loopWords_congr (hcle : u.cle = s.cle) (hcharter : charter u = charter s) (i : Nat) (c : LoopCfg) :
    loopWords u i c = loopWords s i c := by
  simp only [loopWords, lcfgWord, loopLane, State.loop, hcle, hcharter]

theorem taskWords_congr (hcte : u.cte = s.cte) (hcharter : charter u = charter s) (i : Nat) (c : TaskCfg) :
    taskWords u i c = taskWords s i c := by
  simp only [taskWords, taskImage, overlayUsed, taskLane, State.task, hcte, hcharter]

theorem channelWords_congr (hmtr : u.mtr = s.mtr) (hsheet : sheet u = sheet s) (i : Nat) : channelWords u i = channelWords s i := by
  simp only [channelWords, meterChannel, hmtr, hsheet]

theorem energyWords_congr {F : Frame} (h : F.holds s u) (hpart : Part.mtr ∉ F.parts)
    (hpage : ∀ f ∈ [Reg.MTR_EPOCHS_CALEP, Reg.MTR_EPOCHS_REGEP, Reg.MTR_STAT_ACCUNSPEC, Reg.MTR_STAT_HALTED], F.leaves f) (i : Nat) :
    energyWords u i = energyWords s i := by
  have hmtr : u.mtr = s.mtr := h.1 .mtr hpart
  simp only [List.mem_cons, List.not_mem_nil, or_false, forall_eq_or_imp, forall_eq] at hpage
  obtain ⟨hcal, hreg, hunspec, hhalted⟩ := hpage
  simp only [energyWords, h.2 _ hcal, h.2 _ hreg, bit_of_leaves h hunspec, bit_of_leaves h hhalted, hmtr]

/-- What may be loaded does not turn on WCTRL or KEY. -/
theorem Readable.windowReady {i : Nat} {ws : List Nat} (h : Readable s r i p ws) (a : Bool) :
    Readable (windowReady p r a s) r i p ws := by
  have hp := h.isWindowPage
  have hframe := windowReady_holds p r a s
  have hlanes := windowReady_lanes (a := a) (s := s) (r := r) hp
  have hcharter := windowReady_charter (a := a) (s := s) (r := r) hp
  have hsheet := windowReady_sheet (a := a) (s := s) (r := r) hp
  have hmode := hframe.2 _ (windowReady_mode hp r)
  cases h with
  | point hready htyp hlane =>
    have hpt : (Machine.windowReady 0x041 r a s).pt = s.pt := windowReady_part (q := .pt) (by decide) ..
    have hpoint : (Machine.windowReady 0x041 r a s).point i = s.point i := by rw [State.point, State.point, hpt]
    rw [← hpoint]
    refine .point ?_ (by rwa [hpoint]) (by rwa [hpoint, hlanes])
    rwa [bit_of_leaves hframe (readyFrame_leaves (by decide) (by decide) (by decide) hp (by decide) r)]
  | loop hi hcfg hlane =>
    have hcle : (Machine.windowReady 0x051 r a s).cle = s.cle := windowReady_part (q := .cle) (by decide) ..
    rw [← loopWords_congr hcle hcharter]
    exact .loop hi (by rwa [loopCfg, hsheet]) (by rwa [hlanes, loopLane, hcharter])
  | task hcfg hlane =>
    have hcte : (Machine.windowReady 0x059 r a s).cte = s.cte := windowReady_part (q := .cte) (by decide) ..
    rw [← taskWords_congr hcte hcharter]
    exact .task (by rwa [taskCfg, tasksIn, hsheet]) (by rwa [hlanes, taskLane, hcharter])
  | channel hi hread =>
    have hmtr : (Machine.windowReady 0x061 r a s).mtr = s.mtr := windowReady_part (q := .mtr) (by decide) ..
    rw [← channelWords_congr hmtr hsheet]
    refine .channel hi ?_
    rw [← hread]
    simp only [mayReadChannel, hlanes, hmode, circuitsUsing, hsheet, circuitLane, hcharter]
  | energy hi hcfg hlane =>
    rw [← energyWords_congr hframe (by simp [readyFrame]) (by
      simp only [List.mem_cons, List.not_mem_nil, or_false, forall_eq_or_imp, forall_eq]
      exact ⟨readyFrame_leaves (by decide) (by decide) (by decide) hp (by decide) r,
        readyFrame_leaves (by decide) (by decide) (by decide) hp (by decide) r,
        readyFrame_leaves (by decide) (by decide) (by decide) hp (by decide) r,
        readyFrame_leaves (by decide) (by decide) (by decide) hp (by decide) r⟩)]
    exact .energy hi (by rwa [circuitCfg, hsheet]) (by rwa [hlanes, circuitLane, hcharter])
  | credential hlane hlo hhi hfind =>
    have hacc : (Machine.windowReady 0x078 r a s).acc = s.acc := windowReady_part (q := .acc) (by decide) ..
    exact .credential (by rwa [hlanes, accLane, hcharter]) hlo hhi (by rwa [hacc])

end
end Sys2Proof.Machine

namespace Sys2Proof.Machine

/-! #### The commands -/

section
variable {F : Frame} {s u v t : State} {p : Nat} {r : Fin 16} {a : Bool}

/-- Requester `r` may write WCTRL of window page `p`, which is in no domain reset and whose window is not busy. -/
structure WindowTakes (s : State) (r : Fin 16) (p : Nat) : Prop where
  page : isWindowPage p = true
  host : hostClosed (.req r) s = false
  lane : mayWritePage (.req r) p 0x011 s = true
  free : undisturbed s p
  idle : winBusy s p r.val = false

theorem WindowTakes.control (h : WindowTakes s r p) (load commit a : Bool) :
    windowControl r p load commit a s = windowAct load commit p r.val (windowReady p r.val a s) :=
  windowControl_eq h.page h.host h.lane h.free h.idle load commit a

theorem WindowTakes.ready_idle (h : WindowTakes s r p) (a : Bool) : winBusy (windowReady p r.val a s) p r.val = false :=
  (windowReady_busy h.page).trans h.idle

/-- From its effect to the state that it shows, a command changes only what stands outside every frame. -/
theorem holds_of_done (h : done s v = .next t) : F.holds v t := by
  refine ⟨fun q _ => ?_, fun f hf => done_get h hf.1 hf.2.1⟩
  obtain ⟨r, x, rfl⟩ := done_frame h
  cases q <;> rfl

/-- A command shows of its window what its effect showed. -/
theorem keepsWindow_of_done (h : done s v = .next t) (hp : isWindowPage p = true) (r : Nat) : KeepsWindow p r v t := by
  obtain ⟨hlt, hpair, -, -⟩ := isWindowPage_lt hp
  exact .of_frame (F := ⟨[], [], []⟩) (holds_of_done h) hlt hpair (by simp) (by simp)

theorem winErr_of_done (h : done s v = .next t) (hp : isWindowPage p = true) (r : Nat) :
    t.get ((Reg.WIN_ERR.onPage p).by r) = v.get ((Reg.WIN_ERR.onPage p).by r) := by
  obtain ⟨hlt, hpair, -, -⟩ := isWindowPage_lt hp
  exact done_window h (by decide) (by decide) (by decide) hlt hpair

theorem winBusy_of_done (h : done s v = .next t) (hp : isWindowPage p = true) (r : Nat) : winBusy t p r = winBusy v p r := by
  obtain ⟨hlt, hpair, -, -⟩ := isWindowPage_lt hp
  exact winBusy_of_frame (F := ⟨[], [], []⟩) (holds_of_done h) hlt hpair (by simp) rfl

theorem Loaded.of_done {ws : List Nat} (hl : Loaded p r ws u v) (h : done s v = .next t) (hp : isWindowPage p = true) :
    Loaded p r ws u t := by
  have hk := keepsWindow_of_done h hp r
  exact ⟨hk.index.trans hl.index, hk.autoinc.trans hl.autoinc, hk.valid.trans hl.valid, (winErr_of_done h hp r).trans hl.err,
    fun hlen k hlt => (hk.data k).trans (hl.data hlen k hlt), (winBusy_of_done h hp r).trans hl.busy⟩

theorem LoadFailed.of_done (hl : LoadFailed p r u v) (h : done s v = .next t) (hp : isWindowPage p = true) : LoadFailed p r u t := by
  have hk := keepsWindow_of_done h hp r
  exact ⟨hk.index.trans hl.index, hk.autoinc.trans hl.autoinc, hk.valid.trans hl.valid, (winErr_of_done h hp r) ▸ hl.err,
    fun k => (hk.data k).trans (hl.data k), (winBusy_of_done h hp r).trans hl.busy⟩

/-- The index counts on from the one before the command. -/
theorem windowReady_counted (hp : isWindowPage p = true) (r : Nat) :
    (winIndex (windowReady p r a s) p r + (windowReady p r a s).get ((Reg.WIN_AUTOINC.onPage p).by r)) % 2 ^ 20 =
      (winIndex s p r + if a then 1 else 0) % 2 ^ 20 := by
  rw [windowReady_index hp, windowReady_autoinc]

/-- The write of AUTOINC and of KEY stays on its page and page 0x000. -/
theorem readyFrame_within (hp : isWindowPage p = true) (hkeys : Part.keys ∈ F.parts) (hzero : covers F.pages (0, 0) = true)
    (hpage : covers F.pages (p, p) = true) (r : Nat) : (readyFrame p r).Within F := by
  have hauto := window_pageOf (f := Reg.WIN_AUTOINC) (r := r) (by decide) (by decide) (isWindowPage_lt hp).1
  refine ⟨by simp [readyFrame, partsWithin, hkeys], by simp [readyFrame], ?_⟩
  simp only [readyFrame, List.mem_cons, List.not_mem_nil, or_false, forall_eq_or_imp, forall_eq, inFrame_iff]
  exact ⟨.inr (.inr (.inl (by rwa [hauto]))), .inr (.inr (.inl hzero))⟩

theorem windowReady_within (hp : isWindowPage p = true) (hkeys : Part.keys ∈ F.parts) (hzero : covers F.pages (0, 0) = true)
    (hpage : covers F.pages (p, p) = true) (r : Nat) (a : Bool) (s : State) : F.holds s (windowReady p r a s) :=
  (readyFrame_within hp hkeys hzero hpage r).holds (windowReady_holds p r a s)

/-- A LOAD of a record that exists and may be read. -/
theorem windowLoad_shows {i : Nat} {ws : List Nat} (h : WindowTakes s r p) (hi : i = winIndex s p r.val)
    (hread : Readable s r.val i p ws) (ht : done s (windowControl r p true false a s) = .next t) :
    t.get ((Reg.WIN_VALID.onPage p).by r.val) = 1 ∧ t.get ((Reg.WIN_ERR.onPage p).by r.val) = 0 ∧
      (∀ k < ws.length, winData t p r.val k = ws.getD k 0 % 2 ^ 32) ∧
      winIndex t p r.val = (i + if a then 1 else 0) % 2 ^ 20 ∧ Frame.holds ⟨[.keys], [(0, 0), (p, p)], []⟩ s t := by
  have hp := h.page
  have hready : Readable (windowReady p r.val a s) r.val (winIndex (windowReady p r.val a s) p r.val) p ws := by
    rw [windowReady_index hp, ← hi]
    exact hread.windowReady a
  rw [h.control, windowAct, windowLoad_of_readable hready] at ht
  have hloaded := (loaded_winLoaded (.refl p r.val _) ws).of_done ht hp
  refine ⟨hloaded.valid, hloaded.err, hloaded.data hread.length_le, ?_, Frame.holds_done ht ?_⟩
  · rw [hloaded.index, windowReady_counted hp, hi]
  · refine (holds_winLoaded ?_ r.val ws).2 (windowReady_within hp (by simp) (by simp [covers]) (by simp [covers]) ..)
    rw [Nat.mod_eq_of_lt (isWindowPage_lt hp).1]
    simp [Frame.Within, partsWithin, covers]

/-- A LOAD of any index. -/
theorem windowLoad_ends_shown (h : WindowTakes s r p) (ht : done s (windowControl r p true false a s) = .next t) :
    t.get ((Reg.WIN_AUTOINC.onPage p).by r.val) = (if a then 1 else 0) ∧ winBusy t p r.val = false ∧
      winIndex t p r.val = (winIndex s p r.val + if a then 1 else 0) % 2 ^ 20 ∧
      (t.get ((Reg.WIN_VALID.onPage p).by r.val) = 1 ↔ t.get ((Reg.WIN_ERR.onPage p).by r.val) = 0) ∧
      (t.get ((Reg.WIN_ERR.onPage p).by r.val) ≠ 0 → ∀ k < 512, winData t p r.val k = winData s p r.val k) ∧
      Frame.holds ⟨[.keys, .log, .lane], [(0, 0), (7, 7), (0x048, 0x048), (p, p)], []⟩ s t := by
  have hp := h.page
  have hends := windowLoad_ends hp r.val (windowReady p r.val a s)
  rw [h.control, windowAct] at ht
  have hframe : Frame.holds ⟨[.keys, .log, .lane], [(0, 0), (7, 7), (0x048, 0x048), (p, p)], []⟩ s t := by
    refine Frame.holds_done ht (Frame.holds_trans
      (windowReady_within hp (by simp) (by simp [covers]) (by simp [covers]) r.val a s) (Frame.Within.holds ?_ hends.holds))
    rw [Nat.mod_eq_of_lt (isWindowPage_lt hp).1]
    simp [Frame.Within, partsWithin, covers]
  rcases hends.cases hp with ⟨ws, hl⟩ | hl
  · have hl := hl.of_done ht hp
    exact ⟨hl.autoinc.trans (windowReady_autoinc ..), hl.busy, hl.index.trans (windowReady_counted hp _),
      by simp [hl.valid, hl.err], fun hne => absurd hl.err hne, hframe⟩
  · have hl := hl.of_done ht hp
    exact ⟨hl.autoinc.trans (windowReady_autoinc ..), hl.busy, hl.index.trans (windowReady_counted hp _),
      by simp [hl.valid, hl.err], fun _ k _ => (hl.data k).trans (windowReady_data hp k), hframe⟩

/-- Both bits in one write (R56). -/
theorem windowConflict_shows (h : WindowTakes s r p) (ht : done s (windowControl r p true true a s) = .next t) :
    t.get ((Reg.WIN_AUTOINC.onPage p).by r.val) = (if a then 1 else 0) ∧ winIndex t p r.val = winIndex s p r.val ∧
      (∀ k < 512, winData t p r.val k = winData s p r.val k) ∧
      t.get ((Reg.WIN_VALID.onPage p).by r.val) = s.get ((Reg.WIN_VALID.onPage p).by r.val) ∧
      t.get ((Reg.WIN_ERR.onPage p).by r.val) = s.get ((Reg.WIN_ERR.onPage p).by r.val) ∧
      Frame.holds ⟨[.keys], [(0, 0)], [(Reg.WIN_AUTOINC.onPage p).by r.val]⟩ s t := by
  have hp := h.page
  rw [h.control, show windowAct true true p r.val (windowReady p r.val a s) = windowReady p r.val a s from rfl] at ht
  have hk := keepsWindow_of_done ht hp r.val
  refine ⟨hk.autoinc.trans (windowReady_autoinc ..), hk.index.trans (windowReady_index hp),
    fun k _ => (hk.data k).trans (windowReady_data hp k), hk.valid.trans ?_, (winErr_of_done ht hp r.val).trans ?_,
    Frame.holds_done ht ?_⟩
  · exact windowReady_get (f := Reg.WIN_VALID) (by decide) (by decide) (by decide) hp (by decide) ..
  · exact windowReady_get (f := Reg.WIN_ERR) (by decide) (by decide) (by decide) hp (by decide) ..
  · refine Frame.Within.holds ⟨by simp [readyFrame, partsWithin], by simp [readyFrame], ?_⟩ (windowReady_holds p r.val a s)
    simp only [readyFrame, List.mem_cons, List.not_mem_nil, or_false, forall_eq_or_imp, forall_eq, inFrame_iff]
    exact ⟨.inr (.inr (.inr ⟨_, rfl, rfl⟩)), .inr (.inr (.inl (by decide)))⟩

/-! COMMIT. -/

theorem windowReady_takesWrites (r : Nat) : takesWrites (windowReady 0x041 r a s) = takesWrites s := by
  have hframe := windowReady_holds 0x041 r a s
  have hmode := hframe.2 _ (windowReady_mode (by decide) r)
  have hstat := bit_of_leaves hframe (readyFrame_leaves (f := Reg.PNT_STAT_READY) (by decide) (by decide) (by decide) (by decide)
    (by decide) r)
  rw [takesWrites, takesWrites, hmode, hstat]

theorem windowReady_pt (p r : Nat) (a : Bool) (s : State) : (windowReady p r a s).pt = s.pt := windowReady_part (q := .pt) (by decide) ..

theorem windowCommit_shows (h : WindowTakes s r p) (ht : done s (windowControl r p false true a s) = .next t) :
    t.get ((Reg.WIN_AUTOINC.onPage p).by r.val) = (if a then 1 else 0) ∧
      (∀ k < 512, winData t p r.val k = winData s p r.val k) ∧
      t.get ((Reg.WIN_VALID.onPage p).by r.val) = s.get ((Reg.WIN_VALID.onPage p).by r.val) ∧
      (p ≠ 0x041 → winBusy t p r.val = false ∧ winIndex t p r.val = (winIndex s p r.val + if a then 1 else 0) % 2 ^ 20) := by
  have hp := h.page
  have hidle := h.ready_idle a
  rw [h.control, windowAct] at ht
  have hk := keepsWindow_of_done ht hp r.val
  have hkeeps := windowCommit_keeps hp hidle
  refine ⟨hk.autoinc.trans (hkeeps.autoinc.trans (windowReady_autoinc ..)),
    fun k _ => (hk.data k).trans ((hkeeps.data k).trans (windowReady_data hp k)), hk.valid.trans (hkeeps.valid.trans ?_), fun h41 => ?_⟩
  · exact windowReady_get (f := Reg.WIN_VALID) (by decide) (by decide) (by decide) hp (by decide) ..
  · have hc := windowCommit_committed hp h41 hidle
    exact ⟨(winBusy_of_done ht hp r.val).trans hc.busy, hk.index.trans (hc.index.trans (windowReady_counted hp _))⟩

theorem energyCommit_shows (h : WindowTakes s r 0x062) (ht : done s (windowControl r 0x062 false true a s) = .next t) :
    t.get ((Reg.WIN_ERR.onPage 0x062).by r.val) = 6 ∧ t.mtr = s.mtr := by
  have hidle := h.ready_idle a
  rw [h.control, windowAct, windowCommit, energyCommit, if_neg (by simp [hidle])] at ht
  refine ⟨(winErr_of_done ht h.page r.val).trans (windowDone_err 6), ?_⟩
  have hframe : Frame.holds ⟨[.keys], [(0, 0), (0x062, 0x062)], []⟩ s t := by
    refine Frame.holds_done ht ((holds_windowDone _ _ _ (by simp +decide)).2 
      (windowReady_within h.page (by simp) (by decide) (by decide) ..))
  exact hframe.1 .mtr (by decide)

theorem pntCommit_refused_shows (h : WindowTakes s r 0x041) (ht : done s (windowControl r 0x041 false true a s) = .next t)
    (hready : takesWrites s = false) : t.get ((Reg.WIN_ERR.onPage 0x041).by r.val) = 13 ∧ t.pt = s.pt := by
  have hidle := h.ready_idle a
  have hclosed := (windowReady_takesWrites (a := a) (s := s) r.val).trans hready
  rw [h.control, windowAct, windowCommit, pntCommit, if_neg (by simp [hidle]), if_pos (by simp [hclosed])] at ht
  refine ⟨(winErr_of_done ht h.page r.val).trans (windowDone_err _), ?_⟩
  have hframe : Frame.holds ⟨[.keys], [(0, 0), (0x041, 0x041)], []⟩ s t := by
    refine Frame.holds_done ht ((holds_windowDone _ _ _ (by simp +decide)).2 
      (windowReady_within h.page (by simp) (by decide) (by decide) ..))
  exact hframe.1 .pt (by decide)

theorem pntCommit_queued_shows (h : WindowTakes s r 0x041) (ht : done s (windowControl r 0x041 false true a s) = .next t)
    (hready : takesWrites s = true) (hmode : s.get (Reg.PNTWIN_WSEL_MODE.by r.val) = 0) (hopen : queueOpen s 6) :
    winBusy t 0x041 r.val = true ∧ queueOf t 6 = queueOf s 6 ++
      [{ src := requesterSrc r.val, target := .idx (winIndex s 0x041 r.val),
         kind := .value (winData s 0x041 r.val 0 + 2 ^ 32 * winData s 0x041 r.val 1) .valid, path := .window r.val }] := by
  have hp := h.page
  have hpt := windowReady_pt 0x041 r.val a s
  rw [h.control, windowAct, windowCommit] at ht
  obtain ⟨hbusy, hqueue⟩ := pntCommit_queued (u := windowReady 0x041 r.val a s) (h.ready_idle a)
    ((windowReady_takesWrites r.val).trans hready)
    ((windowReady_get (f := Reg.PNTWIN_WSEL_MODE) (by decide) (by decide) (by decide) hp (by decide) ..).trans hmode)
    (by rwa [queueOpen, queueOf, hpt])
  have htpt : t.pt = (pntCommit r.val (windowReady 0x041 r.val a s)).pt := (holds_of_done (F := ⟨[], [], []⟩) ht).1 .pt (by decide)
  refine ⟨(winBusy_of_done ht hp r.val).trans hbusy, ?_⟩
  rw [queueOf, htpt, ← queueOf, hqueue, queueOf, hpt, windowReady_index hp, windowReady_data hp, windowReady_data hp, queueOf]

theorem accCommit_shows (h : WindowTakes s r 0x078) (ht : done s (windowControl r 0x078 false true a s) = .next t)
    (hlane : mayWriteLane (requesterLanes s r.val) (accLane s) = true) (hlo : 0x10000 ≤ winIndex s 0x078 r.val)
    (hhi : winIndex s 0x078 r.val < 0x40D40) (hflags : (dataCredential s r.val).flags < 16)
    (hfresh : (dataCredential s r.val).flags.testBit 0 = true → ∀ e ∈ s.acc.cache, e.1 ≠ winIndex s 0x078 r.val - 0x10000 →
      e.2.digest ≠ (dataCredential s r.val).digest) :
    tabFind (winIndex s 0x078 r.val - 0x10000) t.acc.cache =
        (if (dataCredential s r.val).flags.testBit 0 then some (dataCredential s r.val) else none) ∧
      t.get ((Reg.WIN_ERR.onPage 0x078).by r.val) = 0 ∧ Frame.holds ⟨[.keys, .acc], [(0, 0), (0x078, 0x078)], []⟩ s t := by
  have hp := h.page
  have hindex := windowReady_index (a := a) (s := s) (r := r.val) hp
  have hacc : (windowReady 0x078 r.val a s).acc = s.acc := windowReady_part (q := .acc) (by decide) ..
  have hcred : dataCredential (windowReady 0x078 r.val a s) r.val = dataCredential s r.val := by
    simp only [dataCredential, windowReady_data hp]
  rw [h.control, windowAct, windowCommit] at ht
  obtain ⟨v, hcommit, hframe, hcache⟩ := accCommit_stored (u := windowReady 0x078 r.val a s) (r := r.val) (h.ready_idle a)
    (by rwa [windowReady_lanes hp, accLane, windowReady_charter hp]) (by rwa [hindex]) (by rwa [hindex]) (by rwa [hcred])
    (by rwa [hcred, hacc, hindex])
  rw [hcommit] at ht
  rw [hindex, hcred] at hcache
  refine ⟨?_, (winErr_of_done ht hp r.val).trans (windowDone_err 0), Frame.holds_done ht ?_⟩
  · have htacc : t.acc = v.acc := ((holds_of_done (F := ⟨[], [], []⟩) ht).1 .acc (by decide)).trans (by
      have hdone : Frame.holds ⟨[], [(0x078, 0x078)], []⟩ v (windowDone 0x078 r.val 0 v) := by simp +decide
      exact hdone.1 .acc (by decide))
    rw [htacc, hcache]
  · exact (holds_windowDone _ _ _ (by simp +decide)).2 (Frame.holds_trans
      (windowReady_within hp (by simp) (by decide) (by decide) r.val a s) (Frame.Within.holds (by simp +decide) hframe))

end

/-- Settles O17: LOAD ends in `winLoaded` or `winFailed` and COMMIT in `windowDone`, behind the write of AUTOINC; a COMMIT of the
point window waits in the queue of class 6. -/
theorem windowCommands : Obligations.WindowCommands := by
  refine ⟨?record, ?window, ?credential⟩
  case record =>
    intro s r p a i ws hhost hlane hfree hidle hi hwhich
    have hread : Readable s r.val i p.toNat ws := by
      rcases hwhich with ⟨rfl, hready, htyp, hl, rfl⟩ | ⟨rfl, hlt, ⟨c, hcfg, rfl⟩, hl⟩ | ⟨rfl, ⟨c, hcfg, rfl⟩, hl⟩ |
        ⟨rfl, hlt, hl, rfl⟩ | ⟨rfl, hlt, hcfg, hl, rfl⟩ | ⟨rfl, hl, hlo, hhi, c, hfind, rfl⟩
      · exact .point hready htyp hl
      · exact .loop hlt hcfg hl
      · exact .task hcfg hl
      · exact .channel hlt hl
      · exact .energy hlt hcfg hl
      · exact .credential hl hlo hhi hfind
    have htakes : WindowTakes s r p.toNat := ⟨hread.isWindowPage, hhost, hlane, hfree, hidle⟩
    exact done_completes fun t ht => windowLoad_shows htakes hi hread ht
  case window =>
    intro s r p a hpage hhost hlane hfree hidle
    have htakes : WindowTakes s r p.toNat := ⟨hpage, hhost, hlane, hfree, hidle⟩
    refine ⟨done_completes fun t ht => windowLoad_ends_shown htakes ht, done_completes fun t ht => ?commit,
      done_completes fun t ht => windowConflict_shows htakes ht⟩
    obtain ⟨hautoinc, hdata, hvalid, hdone⟩ := windowCommit_shows htakes ht
    refine ⟨hautoinc, hdata, hvalid, fun hne => hdone fun h => hne (BitVec.eq_of_toNat_eq h), ?_, ?_, ?_⟩
    · rintro rfl
      exact energyCommit_shows htakes ht
    · rintro rfl
      exact pntCommit_refused_shows htakes ht
    · rintro rfl
      exact pntCommit_queued_shows htakes ht
  case credential =>
    intro s r a hhost hlane hfree hidle hwrite hlo hhi hflags hfresh
    have htakes : WindowTakes s r 0x078 := ⟨rfl, hhost, hlane, hfree, hidle⟩
    exact done_completes fun t ht => accCommit_shows htakes ht hwrite hlo hhi hflags hfresh

end Sys2Proof.Machine

/-! ### The queues of the point engine behind a broken joint (R484)

An update whose joint to the point engine is broken stays at the joint: it enters no queue, and waits outside `held` too. -/

namespace Sys2Proof.Machine

/-- As after reset, with the joint of the loops (R483: 2) broken. -/
def loopJointBroken : State := { State.reset with clk := { State.reset.clk with broken := [(32 * 2, 0)] } }

/-- A value of loop 0 for record 1. -/
def loopValue : Update := { src := mkSrc 4 0, target := .idx 1, kind := .value 1 .valid }

theorem queueOf_submit_loopJointBroken : queueOf (submit loopValue loopJointBroken) 4 = [] := by decide +kernel

/-- Refutes O21: the queue of class 4 is open, but an update of a loop waits at the broken joint of the loops and does not enter
it. -/
theorem not_pointAdmission : ¬ Obligations.PointAdmission := by
  rintro ⟨hsubmit, -⟩
  obtain ⟨t, ht, hopen, -⟩ := hsubmit loopJointBroken loopValue (by decide)
  have ht : done loopJointBroken (submit loopValue loopJointBroken) = .next t := ht
  obtain ⟨hqueue, -⟩ := hopen ⟨by decide +kernel, by decide +kernel⟩
  have hclass : srcClass loopValue.src = 4 := rfl
  rw [hclass, queueOf, done_pt ht, ← queueOf, queueOf_submit_loopJointBroken] at hqueue
  simp at hqueue

end Sys2Proof.Machine

/-! ### Writes through the pages of the point engine

A requester's select, data and operation words are register writes on its own copy of the page; the operation reads them back, so what it
hands to the engine is the command's operands. -/

namespace Sys2Proof.Machine

/-! #### What the writes of one page leave to its operation -/

section
variable {F : Frame} {s u : State} {f g : RegField}

theorem takesWrites_of_holds (h : F.holds s u) (hready : F.leaves Reg.PNT_STAT_READY) (hmode : F.leaves Reg.MODE_STAT_MODE) :
    takesWrites u = takesWrites s := by
  rw [takesWrites, takesWrites, bit_of_leaves h hready, h.2 _ hmode]

/-- Two fields of one requester's copy stand at different keys. -/
theorem copy_key_ne (hf : f.copy = 0) (hg : g.copy = 0) (h : f.key ≠ g.key) (r : Nat) : (f.by r).key ≠ (g.by r).key := by
  rw [RegField.key_by f r hf, RegField.key_by g r hg]
  omega

theorem copy_get_set_ne (hf : f.copy = 0) (hg : g.copy = 0) (h : f.key ≠ g.key) (r v : Nat) (s : State) :
    (s.set (g.by r) v).get (f.by r) = s.get (f.by r) := State.get_set_ne (copy_key_ne hf hg h r) s v

/-- The two register halves of a 64-bit value give it back. -/
theorem halves_toNat (v : BitVec 64) : v.toNat % 2 ^ 32 % 2 ^ 32 + 2 ^ 32 * (v.toNat / 2 ^ 32 % 2 ^ 32) = v.toNat := by
  have := v.isLt
  omega

end

/-! #### The point window (R138 to R141) -/

section
variable {s u t : State} {r i mode : Nat}

/-- Index and selection of a requester's copy of the point window are written, and the copy is free. -/
structure PntSelected (r i mode : Nat) (s u : State) : Prop where
  idle : winBusy u 0x041 r = false
  index : winIndex u 0x041 r = i
  mode : u.get (Reg.PNTWIN_WSEL_MODE.by r) = mode
  frame : Frame.holds ⟨[], [(0x041, 0x041)], []⟩ s u

theorem pntSelect_selected (hidle : winBusy s 0x041 r = false) (hi : i < 2 ^ 20) (hmode : mode < 4) :
    PntSelected r i mode s (pntSelect r i mode s) := by
  have hselect : pntSelect r i mode s =
      (s.set ((Reg.WIN_INDEX.onPage 0x041).by r) i).set ((Reg.PNTWIN_WSEL_MODE.onPage 0x041).by r) mode :=
    if_neg (by simp [hidle])
  refine ⟨?_, ?_, ?_, by simp +decide⟩
  · rw [hselect, winBusy, State.bit, window_get_set_ne (by decide), window_get_set_ne (by decide)]
    exact hidle
  · rw [hselect, winIndex, window_get_set_ne (by decide), State.get_set_same]
    exact Nat.mod_eq_of_lt hi
  · rw [hselect]
    exact (State.get_set_same _ _ _).trans (Nat.mod_eq_of_lt hmode)

theorem pntData_idle (hidle : winBusy u 0x041 r = false) (k v : Nat) :
    pntData r k v u = u.set (((Reg.WIN_DATA.ix k).onPage 0x041).by r) v := if_neg (by simp [hidle])

/-- A DATA word is written: the selection stands. -/
theorem PntSelected.pntData (h : PntSelected r i mode s u) (k v : Nat) : PntSelected r i mode s (pntData r k v u) := by
  have hword := winDataWord k
  have hlo : (Reg.WIN_DATA.ix k).lo = 0 := rfl
  have hkeep (f : RegField) (hf : f.word * 32 + f.lo < 64 * 32) : (Machine.pntData r k v u).get ((f.onPage 0x041).by r) =
      u.get ((f.onPage 0x041).by r) := by
    rw [pntData_idle h.idle, window_get_set_ne (by omega)]
  refine ⟨?_, ?_, ?_, by simpa +decide using h.frame⟩
  · rw [winBusy, State.bit, hkeep _ (by decide)]
    exact h.idle
  · exact (hkeep Reg.WIN_INDEX (by decide)).trans h.index
  · exact (hkeep Reg.PNTWIN_WSEL_MODE (by decide)).trans h.mode

theorem winData_pntData_same (hidle : winBusy u 0x041 r = false) (k v : Nat) :
    winData (pntData r k v u) 0x041 r k = v % 2 ^ 32 := by
  rw [pntData_idle hidle]
  exact State.get_set_same _ _ _

theorem winData_pntData_ne (hidle : winBusy u 0x041 r = false) {j k : Nat} (h : j % 512 ≠ k % 512) (v : Nat) :
    winData (pntData r k v u) 0x041 r j = winData u 0x041 r j := by
  have hj := winDataWord j
  have hk := winDataWord k
  have hlo (n : Nat) : (Reg.WIN_DATA.ix n).lo = 0 := rfl
  rw [pntData_idle hidle]
  exact window_get_set_ne (f := Reg.WIN_DATA.ix j) (by rw [hj, hk, hlo, hlo]; omega) u v

/-- COMMIT hands the update to the engine: the copy is busy, and the update stands last in the queue of class 6. -/
theorem pntSubmit_queued (kind : UpdateKind) (hopen : queueOpen u 6) :
    winBusy (pntSubmit r kind u) 0x041 r = true ∧ queueOf (pntSubmit r kind u) 6 = queueOf u 6 ++
      [{ src := requesterSrc r, target := .idx (winIndex u 0x041 r), kind := kind, path := .window r }] := by
  constructor
  · rw [winBusy_of_frame (pntSubmit_holds ..) (by decide) (by decide) (by simp) rfl, winBusy, State.bit_iff]
    exact State.get_set_same _ _ _
  · exact submit_queue (srcClass_requesterSrc r) hopen

/-- A selected window whose COMMIT is a submission shows it. -/
theorem PntSelected.submitted (h : PntSelected r i mode s u) {kind : UpdateKind} (hopen : queueOpen s 6)
    (ht : done s (pntSubmit r kind u) = .next t) : winBusy t 0x041 r = true ∧ queueOf t 6 = queueOf s 6 ++
      [{ src := requesterSrc r, target := .idx i, kind := kind, path := .window r }] := by
  have hpt : u.pt = s.pt := h.frame.1 .pt (by decide)
  obtain ⟨hbusy, hqueue⟩ := pntSubmit_queued (r := r) (u := u) kind (by rwa [queueOpen, queueOf, hpt])
  refine ⟨(winBusy_of_done ht rfl r).trans hbusy, ?_⟩
  rw [queueOf, done_pt ht, ← queueOf, hqueue, queueOf, hpt, ← queueOf, h.index]

theorem PntSelected.takesWrites (h : PntSelected r i mode s u) (hs : takesWrites s = true) : takesWrites u = true := by
  rw [takesWrites_of_holds h.frame (by unfold Frame.leaves; decide) (by unfold Frame.leaves; decide), hs]

/-- COMMIT with selection 0 writes the value in words 0 and 1 (R139). -/
theorem pntCommit_value (h : PntSelected r i 0 s u) (hs : takesWrites s = true) :
    pntCommit r u = pntSubmit r (.value (winData u 0x041 r 0 + 2 ^ 32 * winData u 0x041 r 1) .valid) u := by
  simp [pntCommit, h.idle, h.takesWrites hs, h.mode]

/-- COMMIT with selection 1 writes the tuning fields in words 8, 9, 10 and 12 (R140). -/
theorem pntCommit_tuning (h : PntSelected r i 1 s u) (hs : takesWrites s = true) :
    pntCommit r u = pntSubmit r (.tuning (winData u 0x041 r 8) (winData u 0x041 r 9 % 2 ^ 16) (winData u 0x041 r 9 / 2 ^ 16)
      (winData u 0x041 r 10 % 2 ^ 16) (winData u 0x041 r 12 % 2 ^ 16)) u := by
  simp [pntCommit, h.idle, h.takesWrites hs, h.mode]

/-- COMMIT with selection 2 writes OOS, bit 26 of word 11 (R141). -/
theorem pntCommit_service (h : PntSelected r i 2 s u) (hs : takesWrites s = true) :
    pntCommit r u = pntSubmit r (.service ((winData u 0x041 r 11).testBit 26)) u := by
  simp [pntCommit, h.idle, h.takesWrites hs, h.mode]

/-- COMMIT with selection 3 ends in BAD_SELECT (R141). -/
theorem pntCommit_reserved (h : PntSelected r i 3 s u) (hs : takesWrites s = true) :
    pntCommit r u = windowDone 0x041 r resBadSelect u := by
  simp [pntCommit, h.idle, h.takesWrites hs, h.mode]

theorem pntValueWrite_submits (hidle : winBusy s 0x041 r = false) (hs : takesWrites s = true) (hi : i < 2 ^ 20) (v : BitVec 64) :
    ∃ u, PntSelected r i 0 s u ∧ pntValueWrite r i v.toNat s = pntSubmit r (.value v.toNat .valid) u := by
  have h₀ := pntSelect_selected (mode := 0) hidle hi (by decide)
  have h₁ := h₀.pntData 0 (v.toNat % 2 ^ 32)
  have h₂ := h₁.pntData 1 (v.toNat / 2 ^ 32)
  refine ⟨_, h₂, ?_⟩
  rw [pntValueWrite, pntCommit_value h₂ hs, winData_pntData_ne h₁.idle (by decide), winData_pntData_same h₀.idle,
    winData_pntData_same h₁.idle, halves_toNat]

theorem pntTuningWrite_submits (hidle : winBusy s 0x041 r = false) (hs : takesWrites s = true) (hi : i < 2 ^ 20) (d : Word)
    (mn mx st ma : BitVec 16) :
    ∃ u, PntSelected r i 1 s u ∧ pntTuningWrite r i d.toNat mn.toNat mx.toNat st.toNat ma.toNat s =
      pntSubmit r (.tuning d.toNat mn.toNat mx.toNat st.toNat ma.toNat) u := by
  have h₀ := pntSelect_selected (mode := 1) hidle hi (by decide)
  have h₁ := h₀.pntData 8 d.toNat
  have h₂ := h₁.pntData 9 (mx.toNat * 2 ^ 16 + mn.toNat)
  have h₃ := h₂.pntData 10 st.toNat
  have h₄ := h₃.pntData 12 ma.toNat
  refine ⟨_, h₄, ?_⟩
  rw [pntTuningWrite, pntCommit_tuning h₄ hs]
  simp +decide only [winData_pntData_ne h₁.idle, winData_pntData_ne h₂.idle, winData_pntData_ne h₃.idle, winData_pntData_same h₀.idle,
    winData_pntData_same h₁.idle, winData_pntData_same h₂.idle, winData_pntData_same h₃.idle]
  have := d.isLt
  have := mn.isLt
  have := mx.isLt
  have := st.isLt
  have := ma.isLt
  congr 2 <;> omega

theorem testBit_b2n_mul (b : Bool) : (b2n b * 2 ^ 26 % 2 ^ 32).testBit 26 = b := by
  cases b <;> rfl

theorem pntServiceWrite_submits (hidle : winBusy s 0x041 r = false) (hs : takesWrites s = true) (hi : i < 2 ^ 20) (b : Bool) :
    ∃ u, PntSelected r i 2 s u ∧ pntCommit r (pntData r 11 (b2n b * 2 ^ 26) (pntSelect r i 2 s)) = pntSubmit r (.service b) u := by
  have h₀ := pntSelect_selected (mode := 2) hidle hi (by decide)
  have h₁ := h₀.pntData 11 (b2n b * 2 ^ 26)
  refine ⟨_, h₁, ?_⟩
  rw [pntCommit_service h₁ hs, winData_pntData_same h₀.idle, testBit_b2n_mul]

end

/-- Reports wait for the next commit in their order. -/
theorem reportAll_reports (rs : List PointReport) (s : State) : (reportAll rs s).pt.reports = s.pt.reports ++ rs := by
  have hwake : (if rs = [] then s else wakeEvent s).pt = s.pt := by
    split
    · rfl
    · have hframe : Frame.holds ⟨[.pwr, .clk], [], [Reg.MODE_PWRST_DOZE]⟩ s (wakeEvent s) := by simp +decide
      exact hframe.1 .pt (by decide)
  rw [reportAll, hwake]

/-- Settles O25: the operands come back from the window copy, and each selection has its own submission. -/
theorem pointWindow : Obligations.PointWindow := by
  refine ⟨fun s r i hidle hwrites hopen => ?writes, fun s r i hidle hwrites => ?reserved, fun s p n b hfree => ?service⟩
  case writes =>
    refine ⟨fun v => ?_, fun d mn mx st ma => ?_, fun b => ?_⟩
    · obtain ⟨u, hsel, heq⟩ := pntValueWrite_submits hidle hwrites i.isLt v
      exact done_completes fun t ht => hsel.submitted hopen (heq ▸ ht)
    · obtain ⟨u, hsel, heq⟩ := pntTuningWrite_submits hidle hwrites i.isLt d mn mx st ma
      exact done_completes fun t ht => hsel.submitted hopen (heq ▸ ht)
    · obtain ⟨u, hsel, heq⟩ := pntServiceWrite_submits hidle hwrites i.isLt b
      exact done_completes fun t ht => hsel.submitted hopen (heq ▸ ht)
  case reserved =>
    have hsel := pntSelect_selected (mode := 3) hidle i.isLt (by decide)
    refine done_completes fun t ht => ?_
    rw [pntCommit_reserved hsel hwrites] at ht
    refine ⟨(winErr_of_done ht rfl r.val).trans (windowDone_err _), (done_pt ht).trans ?_⟩
    have hframe : Frame.holds ⟨[], [(0x041, 0x041)], []⟩ s
        (windowDone 0x041 r.val resBadSelect (pntSelect r.val i.toNat 3 s)) := by simp +decide
    exact hframe.1 .pt (by decide)
  case service =>
    refine done_completes fun t ht => ?_
    rw [unlessBusy_free _ hfree] at ht
    rw [done_pt ht, oosRequest, reportAll_reports]

end Sys2Proof.Machine

namespace Sys2Proof.Machine

/-! #### The CMD page (R142, R143) -/

section
variable {s u t : State} {f g : RegField} {r i : Nat}

/-- A store to a requester's copy of one page is not seen on another page. -/
theorem get_set_by_page_ne (hg : g.copy = 0) (h : f.pageOf ≠ g.pageOf) (r v : Nat) (s : State) :
    (s.set (g.by r) v).get f = s.get f := by
  refine State.get_set_ne (fun hkey => h ?_) s v
  rw [RegField.pageOf, RegField.pageOf, hkey, RegField.key_by g r hg]
  omega

/-- A frame without single fields leaves a copy's field where it leaves the page. -/
theorem Frame.leaves_by {F : Frame} (hf : f.copy = 0) (h7 : f.wordOf ≠ 7) (hpair : f.pageOf ≠ 0x181)
    (hpages : ∀ g ∈ F.pages, f.pageOf < g.1 ∨ g.2 < f.pageOf) (hfields : F.fields = []) (r : Nat) : F.leaves (f.by r) := by
  have hkey := RegField.key_by f r hf
  have hpage : (f.by r).pageOf = f.pageOf := by
    rw [RegField.pageOf, RegField.pageOf, hkey]
    omega
  refine ⟨fun h => h7 ?_, fun h => hpair ?_, by rwa [hpage], by simp [hfields]⟩
  · rw [← h, RegField.wordOf, RegField.wordOf, hkey]
    omega
  · rw [← hpage, RegField.pageOf, h]
    rfl

theorem done_get_by {s' : State} (ht : done s s' = .next t) (hf : f.copy = 0) (h7 : f.wordOf ≠ 7) (hpair : f.pageOf ≠ 0x181) (r : Nat) :
    t.get (f.by r) = s'.get (f.by r) :=
  (holds_of_done (F := ⟨[], [], []⟩) ht).2 _ (Frame.leaves_by hf h7 hpair (by simp) rfl r)

/-- An update of a requester changes no copy of a page other than the engine's own. -/
theorem submit_get_by {x : Update} (hx : wakesDoze x.src = false) (hf : f.copy = 0) (h7 : f.wordOf ≠ 7) (hpair : f.pageOf ≠ 0x181)
    (hengine : f.pageOf < 0x040 ∨ 0x040 < f.pageOf) (r : Nat) : (submit x u).get (f.by r) = u.get (f.by r) := by
  have hframe : Frame.holds ⟨[.pt], [(0x040, 0x040)], []⟩ u (submit x u) :=
    (holds_submit_of_quiet hx (by simp +decide)).2 Frame.holds_refl
  exact hframe.2 _ (Frame.leaves_by hf h7 hpair (by simpa using hengine) rfl r)

/-- An update of a requester stands last in the queue of class 6. -/
theorem submitted_queue {x : Update} (hx : srcClass x.src = 6) (hopen : queueOpen s 6) (hpt : u.pt = s.pt)
    (ht : done s (submit x u) = .next t) : queueOf t 6 = queueOf s 6 ++ [x] := by
  have hqueue := submit_queue hx (u := u) (by rwa [queueOpen, queueOf, hpt])
  rw [queueOf, done_pt ht, ← queueOf, hqueue, queueOf, hpt, ← queueOf]

/-- The operands of a CMD operation, written before GO. -/
def cmdOperands (r i op lvl v : Nat) (s : State) : State :=
  ((((s.set (Reg.CMD_CTGT_INDEX.by r) i).set (Reg.CMD_COP_OP.by r) op).set (Reg.CMD_COP_LEVEL.by r) lvl).set
    (Reg.CMD_CVALLO_VAL.by r) (v % 2 ^ 32)).set (Reg.CMD_CVALHI_VAL.by r) (v / 2 ^ 32)

theorem cmdSubmit_eq (r i op lvl v : Nat) (s : State) : cmdSubmit r i op lvl v s = cmdGo r (cmdOperands r i op lvl v s) := rfl

/-- A GO that hands an update to the engine. -/
def cmdSend (r i : Nat) (k : UpdateKind) (u : State) : State :=
  submit { src := requesterSrc r, target := .idx i, kind := k, path := .cmd r }
    (((u.set (Reg.CMD_CRES_DONE.by r) 0).set (Reg.CMD_CRES_BUSY.by r) 1).set (Reg.CMD_CGO_GO.by r) 1)

/-- What GO finds: the copy is free, and its operands are `i`, `op`, `lvl` and `v`. -/
structure CmdAsked (r i op lvl v : Nat) (s u : State) : Prop where
  free : u.get (Reg.CMD_CRES_BUSY.by r) = 0
  index : u.get (Reg.CMD_CTGT_INDEX.by r) = i
  op : u.get (Reg.CMD_COP_OP.by r) = op
  level : u.get (Reg.CMD_COP_LEVEL.by r) = lvl
  value : u.get (Reg.CMD_CVALLO_VAL.by r) + 2 ^ 32 * u.get (Reg.CMD_CVALHI_VAL.by r) = v
  frame : Frame.holds ⟨[], [(0x042, 0x042)], []⟩ s u

theorem cmdOperands_asked (hfree : s.get (Reg.CMD_CRES_BUSY.by r) = 0) {op : Nat} (i : BitVec 20) (hop : op < 4) (lvl : BitVec 5)
    (v : BitVec 64) : CmdAsked r i.toNat op lvl.toNat v.toNat s (cmdOperands r i.toNat op lvl.toNat v.toNat s) where
  free := by simpa +decide [cmdOperands, copy_get_set_ne] using hfree
  index := by
    simp +decide only [cmdOperands, copy_get_set_ne, State.get_set_same]
    exact Nat.mod_eq_of_lt i.isLt
  op := by
    simp +decide only [cmdOperands, copy_get_set_ne, State.get_set_same]
    exact Nat.mod_eq_of_lt hop
  level := by
    simp +decide only [cmdOperands, copy_get_set_ne, State.get_set_same]
    exact Nat.mod_eq_of_lt lvl.isLt
  value := by
    simp +decide only [cmdOperands, copy_get_set_ne, State.get_set_same]
    exact halves_toNat v
  frame := by simp +decide [cmdOperands]

theorem takesWrites_set_by (hg : g.copy = 0) (h40 : Reg.PNT_STAT_READY.pageOf ≠ g.pageOf) (hm : Reg.MODE_STAT_MODE.pageOf ≠ g.pageOf)
    (r v : Nat) (s : State) : takesWrites (s.set (g.by r) v) = takesWrites s := by
  rw [takesWrites, takesWrites, State.bit, State.bit, get_set_by_page_ne hg h40, get_set_by_page_ne hg hm]

theorem ready_of_takesWrites (h : takesWrites s = true) : s.get Reg.PNT_STAT_READY = 1 := by
  simp only [takesWrites, Bool.and_eq_true, State.bit_iff] at h
  exact h.1

theorem CmdAsked.takesWrites {op lvl v : Nat} (h : CmdAsked r i op lvl v s u) (hs : takesWrites s = true) : takesWrites u = true := by
  rw [takesWrites_of_holds h.frame (by unfold Frame.leaves; decide) (by unfold Frame.leaves; decide), hs]

/-- GO with OP 0 hands a level over (R142). -/
theorem cmdGo_level {lvl v : Nat} (h : CmdAsked r i 0 lvl v s u) (hu : takesWrites u = true) :
    cmdGo r u = cmdSend r i (.level lvl v) u := by
  simp +decide [-Nat.reducePow, cmdGo, cmdSend, State.bit, copy_get_set_ne, get_set_by_page_ne, takesWrites_set_by,
    ready_of_takesWrites hu, hu, h.free, h.op, h.index, h.level, h.value]

/-- GO with OP 1 hands its relinquish over (R142). -/
theorem cmdGo_relinquish {lvl v : Nat} (h : CmdAsked r i 1 lvl v s u) (hu : takesWrites u = true) :
    cmdGo r u = cmdSend r i (.relinquish lvl) u := by
  simp +decide [cmdGo, cmdSend, State.bit, copy_get_set_ne, get_set_by_page_ne, takesWrites_set_by,
    ready_of_takesWrites hu, hu, h.free, h.op, h.index, h.level]

theorem requesterLanes_set_by (hg : g.copy = 0) (hm : Reg.MODE_STAT_MODE.pageOf ≠ g.pageOf) (r k v : Nat) (s : State) :
    requesterLanes (s.set (g.by r) v) k = requesterLanes s k := by
  unfold requesterLanes charter
  rw [get_set_by_page_ne hg hm]
  rfl

/-- GO with OP 3 hands the relinquish default over, where the requester has lane 0 (R113). -/
theorem cmdGo_relDefault {lvl v : Nat} (h : CmdAsked r i 3 lvl v s u) (hu : takesWrites u = true) (htyp : (u.point i).typ ≠ 0)
    (hlane : (requesterLanes u r).getLsbD 0 = true) : cmdGo r u = cmdSend r i (.relDefault v) u := by
  have hpoint (w : Nat) (g : RegField) : (u.set g w).point i = u.point i := rfl
  simp +decide [-Nat.reducePow, cmdGo, cmdSend, State.bit, copy_get_set_ne, get_set_by_page_ne, takesWrites_set_by, requesterLanes_set_by,
    ready_of_takesWrites hu, hu, hpoint, h.free, h.op, h.index, h.value, htyp, hlane]

/-- GO with OP 2 reads the array at once (R143). -/
theorem cmdGo_readArray {lvl v : Nat} (h : CmdAsked r i 2 lvl v s u) (hready : u.get Reg.PNT_STAT_READY = 1)
    (htyp : (u.point i).typ ≠ 0) (hlane : mayReadLane (requesterLanes u r) (u.point i).lane = true) (hcmd : (u.point i).cmd = true) :
    cmdGo r u = cmdDone r resWritten (servedTick u) (cmdRead r i (u.set (Reg.CMD_CRES_DONE.by r) 0)) := by
  have hpoint (w : Nat) (g : RegField) : (u.set g w).point i = u.point i := rfl
  have htick (w : Nat) (g : RegField) : servedTick (u.set g w) = servedTick u := rfl
  simp +decide [cmdGo, State.bit, copy_get_set_ne, get_set_by_page_ne, requesterLanes_set_by, hready, hpoint, htick, h.free, h.op, h.index,
    htyp, hlane, hcmd]

/-- The copy waits for the result of its update (R142). -/
theorem cmdSend_shows {k : UpdateKind} (hopen : queueOpen s 6) (hpt : u.pt = s.pt) (ht : done s (cmdSend r i k u) = .next t) :
    t.get (Reg.CMD_CRES_BUSY.by r) = 1 ∧ t.get (Reg.CMD_CRES_DONE.by r) = 0 ∧ queueOf t 6 = queueOf s 6 ++
      [{ src := requesterSrc r, target := .idx i, kind := k, path := .cmd r }] := by
  have hget {f : RegField} (hf : f.copy = 0) (h7 : f.wordOf ≠ 7) (h42 : f.pageOf = 0x042) : t.get (f.by r) =
      (((u.set (Reg.CMD_CRES_DONE.by r) 0).set (Reg.CMD_CRES_BUSY.by r) 1).set (Reg.CMD_CGO_GO.by r) 1).get (f.by r) :=
    (done_get_by ht hf h7 (by simp [h42]) r).trans (submit_get_by (wakesDoze_requesterSrc r) hf h7 (by simp [h42]) (by simp [h42]) r)
  refine ⟨?_, ?_, ?_⟩
  · rw [hget rfl (by decide) (by decide), copy_get_set_ne rfl rfl (by decide), State.get_set_same]
    rfl
  · rw [hget rfl (by decide) (by decide), copy_get_set_ne rfl rfl (by decide), copy_get_set_ne rfl rfl (by decide), State.get_set_same]
    rfl
  · exact submitted_queue (srcClass_requesterSrc r) hopen (by exact hpt) ht

/-- The copy shows the array's read; the engine's state stands. -/
theorem cmdGo_readArray_shows {lvl v : Nat} (h : CmdAsked r i 2 lvl v s u) (hready : s.get Reg.PNT_STAT_READY = 1)
    (htyp : (s.point i).typ ≠ 0) (hlane : mayReadLane (requesterLanes s r) (s.point i).lane = true) (hcmd : (s.point i).cmd = true)
    (ht : done s (cmdGo r u) = .next t) :
    t.get (Reg.CMD_CRES_DONE.by r) = 1 ∧ t.get (Reg.CMD_CRES_BUSY.by r) = 0 ∧ t.get (Reg.CMD_CRES_RESULT.by r) = 0 ∧
      t.get (Reg.CMD_AMASK_MASK.by r) = (s.point i).pamask % 2 ^ 16 ∧
      t.get (Reg.CMD_ARELLO_VAL.by r) = (s.point i).sv % 2 ^ 32 ∧ t.pt = s.pt := by
  have hpt : u.pt = s.pt := h.frame.1 .pt (by decide)
  have hpoint : u.point i = s.point i := by rw [State.point, State.point, hpt]
  have hlanes := requesterLanes_of_holds h.frame (by decide) (by decide) (by unfold Frame.leaves; decide) r
  have hread := cmdGo_readArray h ((h.frame.2 _ (by unfold Frame.leaves; decide)).trans hready) (by rwa [hpoint])
    (by rwa [hpoint, hlanes]) (by rwa [hpoint])
  rw [hread] at ht
  have hget {f : RegField} (hf : f.copy = 0) (h7 : f.wordOf ≠ 7) (h42 : f.pageOf = 0x042) := done_get_by (f := f) ht hf h7 (by simp [h42]) r
  have hkept : Frame.holds ⟨[], [(0x042, 0x042)], []⟩ s
      (cmdDone r resWritten (servedTick u) (cmdRead r i (u.set (Reg.CMD_CRES_DONE.by r) 0))) := by
    simpa +decide using h.frame
  have hpoint (w : Nat) (g : RegField) : (u.set g w).point i = s.point i := hpoint
  refine ⟨?done, ?busy, ?result, ?mask, ?relDefault, (done_pt ht).trans (hkept.1 .pt (by decide))⟩
  all_goals
    rw [hget rfl (by decide) (by decide)]
    simp +decide only [cmdDone, cmdRead, copy_get_set_ne, State.get_set_same, hpoint]
  case relDefault => exact Nat.mod_mod _ _
  all_goals rfl

end

/-! #### The FORCE page (R144) -/

section
variable {s u t : State} {r i : Nat}

/-- The operands of a FORCE operation, written before GO. -/
def forceOperands (r i op v : Nat) (s : State) : State :=
  (((s.set (Reg.FORCE_FTGT_INDEX.by r) i).set (Reg.FORCE_FOP_OP.by r) op).set (Reg.FORCE_FVALLO_VAL.by r) (v % 2 ^ 32)).set
    (Reg.FORCE_FVALHI_VAL.by r) (v / 2 ^ 32)

theorem forceSubmit_eq (r i op v : Nat) (s : State) : forceSubmit r i op v s = forceGo r (forceOperands r i op v s) := rfl

/-- A GO that hands an update to the engine. -/
def forceSend (r i : Nat) (k : UpdateKind) (u : State) : State :=
  submit { src := requesterSrc r, target := .idx i, kind := k, path := .force r }
    ((u.set (Reg.FORCE_FRES.by r) (2 ^ 31)).set (Reg.FORCE_FGO_GO.by r) 1)

/-- What GO finds: the copy is free, and its operands are `i`, `op` and `v`. -/
structure ForceAsked (r i op v : Nat) (s u : State) : Prop where
  free : (u.get (Reg.FORCE_FRES.by r)).testBit 31 = false
  index : u.get (Reg.FORCE_FTGT_INDEX.by r) = i
  op : u.get (Reg.FORCE_FOP_OP.by r) = op
  value : u.get (Reg.FORCE_FVALLO_VAL.by r) + 2 ^ 32 * u.get (Reg.FORCE_FVALHI_VAL.by r) = v
  writes : takesWrites u = true
  tick : servedTick u = servedTick s
  frame : Frame.holds ⟨[], [(0x043, 0x043)], []⟩ s u

theorem forceOperands_asked (hfree : (s.get (Reg.FORCE_FRES.by r)).testBit 31 = false) (hs : takesWrites s = true) {op : Nat}
    (i : BitVec 20) (hop : op < 4) (v : BitVec 64) : ForceAsked r i.toNat op v.toNat s (forceOperands r i.toNat op v.toNat s) where
  free := by
    simp +decide only [forceOperands, copy_get_set_ne]
    exact hfree
  index := by
    simp +decide only [forceOperands, copy_get_set_ne, State.get_set_same]
    exact Nat.mod_eq_of_lt i.isLt
  op := by
    simp +decide only [forceOperands, copy_get_set_ne, State.get_set_same]
    exact Nat.mod_eq_of_lt hop
  value := by
    simp +decide only [forceOperands, copy_get_set_ne, State.get_set_same]
    exact halves_toNat v
  writes := by
    simp +decide only [forceOperands, takesWrites_set_by]
    exact hs
  tick := rfl
  frame := by simp +decide [forceOperands]

/-- GO with OP 0 hands a force over (R118). -/
theorem forceGo_force {v : Nat} (h : ForceAsked r i 0 v s u) : forceGo r u = forceSend r i (.force v) u := by
  simp [-Nat.reducePow, forceGo, forceSend, ready_of_takesWrites h.writes, h.writes, h.free, h.index, h.op, h.value]

/-- GO with OP 1 hands its release over (R119). -/
theorem forceGo_release {v : Nat} (h : ForceAsked r i 1 v s u) : forceGo r u = forceSend r i .release u := by
  simp [forceGo, forceSend, ready_of_takesWrites h.writes, h.writes, h.free, h.index, h.op]

/-- GO with OP 2 reads the force at once. -/
theorem forceGo_read {v : Nat} (h : ForceAsked r i 2 v s u) (htyp : (u.point i).typ ≠ 0)
    (hlane : mayReadLane (requesterLanes u r) (u.point i).lane = true) :
    forceGo r u = forceDone r resWritten (servedTick u) (forceInfo r i u) := by
  simp [forceGo, ready_of_takesWrites h.writes, h.writes, h.free, h.index, h.op, htyp, hlane]

/-- GO with OP 3 ends in BAD_SELECT. -/
theorem forceGo_reserved {v : Nat} (h : ForceAsked r i 3 v s u) : forceGo r u = forceDone r resBadSelect (servedTick u) u := by
  simp [forceGo, ready_of_takesWrites h.writes, h.writes, h.free, h.op]

/-- The copy waits for the result of its update. -/
theorem forceSend_shows {k : UpdateKind} (hopen : queueOpen s 6) (hpt : u.pt = s.pt) (ht : done s (forceSend r i k u) = .next t) :
    t.get (Reg.FORCE_FRES.by r) = 2 ^ 31 ∧ queueOf t 6 = queueOf s 6 ++
      [{ src := requesterSrc r, target := .idx i, kind := k, path := .force r }] := by
  refine ⟨?_, submitted_queue (srcClass_requesterSrc r) hopen (by exact hpt) ht⟩
  rw [done_get_by ht rfl (by decide) (by decide), forceSend, submit_get_by (wakesDoze_requesterSrc r) rfl (by decide) (by decide) (by decide),
    copy_get_set_ne rfl rfl (by decide), State.get_set_same]
  rfl

theorem servedTick_lt (s : State) : servedTick s < 2 ^ 16 := Nat.mod_lt _ (by decide)

/-- FRES shows the result code and the tick, and BUSY 0. -/
theorem forceDone_fres (ht : done s (forceDone r code (servedTick u) v) = .next t) (hcode : code < 2 ^ 8) :
    t.get (Reg.FORCE_FRES.by r) = 2 ^ 30 + code * 2 ^ 16 + servedTick u := by
  have hlt := servedTick_lt u
  rw [done_get_by ht rfl (by decide) (by decide), forceDone, State.get_set_same]
  show (2 ^ 30 + code * 2 ^ 16 + servedTick u % 2 ^ 16) % 2 ^ 32 = _
  omega

theorem forceInfo_active (r i : Nat) (u : State) :
    (forceInfo r i u).get (Reg.FORCE_FINFO_ACTIVE.by r) = if (tabFind i u.pt.forces).isSome then 1 else 0 := by
  unfold forceInfo
  cases tabFind i u.pt.forces with
  | some f => 
    simp +decide only [State.setBit, copy_get_set_ne, State.get_set_same]
    rfl
  | none => 
    simp +decide only [copy_get_set_ne, State.get_set_same]
    rfl

theorem forceGo_read_shows {v : Nat} (h : ForceAsked r i 2 v s u) (htyp : (s.point i).typ ≠ 0)
    (hlane : mayReadLane (requesterLanes s r) (s.point i).lane = true) (ht : done s (forceGo r u) = .next t) :
    t.get (Reg.FORCE_FRES.by r) = 2 ^ 30 + servedTick s ∧
      t.get (Reg.FORCE_FINFO_ACTIVE.by r) = (if (tabFind i s.pt.forces).isSome then 1 else 0) ∧ t.pt = s.pt := by
  have hpt : u.pt = s.pt := h.frame.1 .pt (by decide)
  have hpoint : u.point i = s.point i := by rw [State.point, State.point, hpt]
  have hlanes := requesterLanes_of_holds h.frame (by decide) (by decide) (by unfold Frame.leaves; decide) r
  rw [forceGo_read h (by rwa [hpoint]) (by rwa [hpoint, hlanes])] at ht
  have hkept : Frame.holds ⟨[], [(0x043, 0x043)], []⟩ s (forceDone r resWritten (servedTick u) (forceInfo r i u)) := by
    simpa +decide using h.frame
  refine ⟨(forceDone_fres ht (by decide)).trans (by rw [h.tick]; rfl), ?_, (done_pt ht).trans (hkept.1 .pt (by decide))⟩
  rw [done_get_by ht rfl (by decide) (by decide), forceDone, copy_get_set_ne rfl rfl (by decide), copy_get_set_ne rfl rfl (by decide),
    forceInfo_active, hpt]

theorem forceGo_reserved_shows {v : Nat} (h : ForceAsked r i 3 v s u) (ht : done s (forceGo r u) = .next t) :
    t.get (Reg.FORCE_FRES.by r) = 2 ^ 30 + 12 * 2 ^ 16 + servedTick s ∧ t.pt = s.pt := by
  rw [forceGo_reserved h] at ht
  have hkept : Frame.holds ⟨[], [(0x043, 0x043)], []⟩ s (forceDone r resBadSelect (servedTick u) u) := by
    simpa +decide using h.frame
  exact ⟨(forceDone_fres ht (by decide)).trans (by rw [h.tick]; rfl), (done_pt ht).trans (hkept.1 .pt (by decide))⟩

end

/-- Settles O24: GO finds the operands that the command wrote, and each operation code has its own effect. -/
theorem commandAndForcePages : Obligations.CommandAndForcePages := by
  refine ⟨fun s r i n v hfree hwrites hopen => ?level, fun s r i v hfree hwrites hopen htyp hlane => ?relDefault,
    fun s r i hfree hready htyp hcmd hlane => ?array, fun s r i hfree hwrites => ?force⟩
  case level =>
    constructor
    · have h := cmdOperands_asked hfree i (op := 0) (by decide) n v
      refine done_completes fun t ht => cmdSend_shows hopen (h.frame.1 .pt (by decide)) ?_
      rwa [cmdSubmit_eq, cmdGo_level h (h.takesWrites hwrites)] at ht
    · have h := cmdOperands_asked hfree i (op := 1) (by decide) n 0
      refine done_completes fun t ht => cmdSend_shows hopen (h.frame.1 .pt (by decide)) ?_
      have ht : done s (cmdGo r (cmdOperands r i.toNat 1 n.toNat (0 : BitVec 64).toNat s)) = .next t := ht
      rwa [cmdGo_relinquish h (h.takesWrites hwrites)] at ht
  case relDefault =>
    have h := cmdOperands_asked hfree i (op := 3) (by decide) 0 v
    have hpt : (cmdOperands r i.toNat 3 (0 : BitVec 5).toNat v.toNat s).pt = s.pt := h.frame.1 .pt (by decide)
    have hlanes := requesterLanes_of_holds h.frame (by decide) (by decide) (by unfold Frame.leaves; decide) r
    refine done_completes fun t ht => ?_
    have ht : done s (cmdGo r (cmdOperands r i.toNat 3 (0 : BitVec 5).toNat v.toNat s)) = .next t := ht
    rw [cmdGo_relDefault h (h.takesWrites hwrites) htyp (by rwa [hlanes])] at ht
    obtain ⟨hbusy, -, hqueue⟩ := cmdSend_shows hopen hpt ht
    exact ⟨hbusy, hqueue⟩
  case array =>
    have h := cmdOperands_asked hfree i (op := 2) (by decide) 0 0
    exact done_completes fun t ht => cmdGo_readArray_shows h ((State.bit_iff _ _).1 hready) htyp hlane hcmd ht
  case force =>
    have h (op : Nat) (hop : op < 4) := forceOperands_asked hfree hwrites i hop
    refine ⟨fun hopen v => ?_, fun hopen => ?_, fun htyp hlane => ?_, ?_⟩
    · have h := h 0 (by decide) v
      refine done_completes fun t ht => forceSend_shows hopen (h.frame.1 .pt (by decide)) ?_
      rwa [forceSubmit_eq, forceGo_force h] at ht
    · have h := h 1 (by decide) 0
      refine done_completes fun t ht => forceSend_shows hopen (h.frame.1 .pt (by decide)) ?_
      have ht : done s (forceGo r (forceOperands r i.toNat 1 (0 : BitVec 64).toNat s)) = .next t := ht
      rwa [forceGo_release h] at ht
    · exact done_completes fun t ht => forceGo_read_shows (h 2 (by decide) 0) htyp hlane ht
    · exact done_completes fun t ht => forceGo_reserved_shows (h 3 (by decide) 0) ht

end Sys2Proof.Machine

/-! ### The timers of the point engine, and the restore of its store -/

namespace Sys2Proof.Machine

/-! #### One record's part of a commit (R108, R115) -/

section
variable {s u t : State} {i : Nat}

@[simp] theorem point_setPoint_same (s : State) (i : Nat) (r : PointRec) : (s.setPoint i r).point i = r := tabGet_put_same ..

theorem point_congr (h : u.pt = s.pt) (i : Nat) : u.point i = s.point i := by rw [State.point, State.point, h]

theorem wakeEvent_pt (s : State) : (wakeEvent s).pt = s.pt := by
  have hframe : Frame.holds ⟨[.pwr, .clk], [], [Reg.MODE_PWRST_DOZE]⟩ s (wakeEvent s) := by simp +decide
  exact hframe.1 .pt (by decide)

/-- What the publications of a command leave the engine with: none of them waits. -/
theorem flushPublished_pt (mirrors : List Nat) (s : State) : (flushPublished mirrors s).pt = { s.pt with published := [] } := by
  have hframe : Frame.holds ⟨[.out, .cte, .via, .pwr, .clk], [(0x058, 0x058), (0x180, 0x180)], [Reg.MODE_PWRST_DOZE,
      Reg.UPL_PTXOK_COUNT.ix 0, Reg.UPL_PTXOK_COUNT.ix 1]⟩ { s with pt := { s.pt with published := [] } } (flushPublished mirrors s) := by
    simp +decide [flushPublished]
  exact hframe.1 .pt (by decide)

@[simp] theorem markDirty_recs (s : State) (k t : Nat) : (markDirty s k t).pt.recs = s.pt.recs := by
  unfold markDirty
  split
  · rfl
  · split <;> rfl

/-- The record that the commit closes. -/
def closedRecord (before s : State) (i : Nat) : PointRec :=
  let old := before.point i
  let array := old.cmd && (halfChanged before s old.paix 0 || halfChanged before s old.paix 1)
  let r := recompute s i (s.point i)
  if !r.mirror ∧ (rseqView r ≠ rseqView old ∨ array) then { r with rseq := (r.rseq + 1) % 65536 } else r

theorem closeRecord_point (before s : State) (tick i : Nat) : (closeRecord before tick i s).point i = closedRecord before s i := by
  have hdirty (k t : Nat) (old r : PointRec) (w : State) :
      (dirtyArray before r t (dirtyRecord k t old r w)).pt.recs = w.pt.recs := by
    simp only [dirtyArray, dirtyRecord]
    split_ifs <;> simp
  have hclosed := point_setPoint_same s i (closedRecord before s i)
  unfold closeRecord
  extract_lets old array r r' s'
  have hs' : s'.point i = closedRecord before s i := by
    rw [State.point, hdirty]
    exact hclosed
  split
  · exact hs'
  · exact hs'

/-- A record that is no command point, no mirror and not forced keeps its value at the close. -/
theorem closedRecord_plain {before : State} (hcmd : (s.point i).cmd = false) (hmirror : (s.point i).mirror = false)
    (hforced : (s.point i).forced = false) (hforces : tabFind i s.pt.forces = none) (hold : (before.point i).cmd = false) :
    closedRecord before s i = if rseqView { s.point i with orphan := false } ≠ rseqView (before.point i)
      then { s.point i with orphan := false, rseq := ((s.point i).rseq + 1) % 65536 } else { s.point i with orphan := false } := by
  have hrec : recompute s i (s.point i) = { s.point i with orphan := false } := by
    simp [recompute, resolvePlain, hcmd, hmirror, hforces, hforced]
  simp [closedRecord, hrec, hold, hmirror]

theorem evalPublication_unpublished (hpub : (s.point i).pub = false) (now : Nat) (flags : Bool) : evalPublication i now flags s = s := by
  simp [evalPublication, hpub]

/-! STALE_TIMEOUT (R93). -/

theorem staleDue_isSome (htyp : (s.point i).typ ≠ 0) (hto : (s.point i).staleto ≠ 0) (hqual : (s.point i).qual = 1) :
    ∃ ms, staleDue s i = some ms := by
  simp [staleDue, htyp, hto, hqual]

/-- A record's value turns STALE: the quality is new, and with it RSEQ. -/
theorem closedRecord_stale {before : State} {r : PointRec} (hold : before.point i = r) (hnew : s.point i = { r with qual := 2 })
    (hqual : r.qual = 1) (hcmd : r.cmd = false) (hmirror : r.mirror = false) (hforced : r.forced = false)
    (hforces : tabFind i s.pt.forces = none) :
    closedRecord before s i = { r with qual := 2, orphan := false, rseq := (r.rseq + 1) % 65536 } := by
  rw [closedRecord_plain (by rw [hnew]; exact hcmd) (by rw [hnew]; exact hmirror) (by rw [hnew]; exact hforced) hforces
    (by rw [hold]; exact hcmd), hnew, hold, if_pos (by simp [rseqView, hqual])]

theorem closeRecord_stale (before : State) (tick : Nat) (hqual : (before.point i).qual = 1) (hcmd : (before.point i).cmd = false)
    (hmirror : (before.point i).mirror = false) (hforced : (before.point i).forced = false)
    (hforces : tabFind i before.pt.forces = none) :
    (closeRecord before tick i (wakeEvent (before.setPoint i { before.point i with qual := 2 }))).point i =
      { before.point i with qual := 2, orphan := false, rseq := ((before.point i).rseq + 1) % 65536 } := by
  have hpt := wakeEvent_pt (before.setPoint i { before.point i with qual := 2 })
  rw [closeRecord_point]
  exact closedRecord_stale rfl ((point_congr hpt i).trans (point_setPoint_same ..)) hqual hcmd hmirror hforced (by rw [hpt]; exact hforces)

theorem staleTimeout_point (htyp : (s.point i).typ ≠ 0) (hto : (s.point i).staleto ≠ 0) (hqual : (s.point i).qual = 1)
    (hcmd : (s.point i).cmd = false) (hmirror : (s.point i).mirror = false) (hpub : (s.point i).pub = false)
    (hforces : tabFind i s.pt.forces = none) (hforced : (s.point i).forced = false) :
    (staleTimeout i s).point i = { s.point i with qual := 2, orphan := false, rseq := ((s.point i).rseq + 1) % 65536 } := by
  obtain ⟨ms, hms⟩ := staleDue_isSome htyp hto hqual
  have hclosed := closeRecord_stale (s.reach (instantOfTai s (ms * msec))) (ms - 1) hqual hcmd hmirror hforced hforces
  simp only [staleTimeout, hms]
  rw [evalPublication_unpublished]
  · exact hclosed
  · exact (congrArg PointRec.pub hclosed).trans hpub

/-! PUBLICATION_TIMER (R115). -/

/-- Record `i` has just been published with the value `v`. -/
structure Published (i v : Nat) (u : State) : Prop where
  lpv : (u.point i).lpv = v
  last : (tabGet {} u.pt.pubs i).last.isSome = true
  pending : (tabGet {} u.pt.pubs i).pending = false

theorem publishPoint_published {v : Nat} (hv : (s.point i).pv = v) (now : Nat) : Published i v (publishPoint i now s) := by
  have hside : tabGet {} (publishPoint i now s).pt.pubs i = { last := some now, pending := false } := by
    simp [publishPoint, tabGet]
  refine ⟨?_, by rw [hside]; rfl, by rw [hside]⟩
  exact (congrArg PointRec.lpv (point_setPoint_same ..)).trans hv

/-- A record never published whose longest interval is set is due, whether its value differs or not. -/
theorem evalPublication_published (hpub : (s.point i).pub = true) (hmirror : (s.point i).mirror = false) (htyp : (s.point i).typ ≠ 0)
    (hmax : (s.point i).maxpub ≠ 0) (hside : tabGet {} s.pt.pubs i = {}) (now : Nat) :
    Published i (s.point i).pv (evalPublication i now false s) := by
  have haged {u : State} (hlast : (tabGet {} u.pt.pubs i).last = none) (ms : Nat) : pubAged u i now ms = true := by
    simp [pubAged, sincePub, hlast]
  have hdue := haged (by rw [hside]) (s.point i).minpub
  simp only [evalPublication, hpub, hmirror, htyp, hside, hdue]
  cases changeTest (s.point i) (s.point i).pv (s.point i).lpv with
  | true => simpa using publishPoint_published rfl now
  | false =>
    have hput : tabGet {} (tabPut {} i ({} : PubSide) s.pt.pubs) i = {} := tabGet_put_same ..
    simp only [Bool.not_true, Bool.or_self, decide_false, Bool.false_eq_true, if_false, Bool.and_true, Bool.and_self, ne_eq, decide_not,
      Bool.not_false, Bool.and_eq_true, Bool.not_eq_eq_eq_not, decide_eq_false_iff_not]
    rw [if_pos ⟨hmax, haged (by rw [hput]) _⟩]
    exact publishPoint_published (by rfl) now

theorem pubDue_isSome (hpub : (s.point i).pub = true) (hmirror : (s.point i).mirror = false) (htyp : (s.point i).typ ≠ 0)
    (hmax : (s.point i).maxpub ≠ 0) : ∃ ms, pubDue s i = some ms := by
  simp only [pubDue, hpub, hmirror, htyp]
  cases (tabGet {} s.pt.pubs i).pending <;> simp [hmax]

theorem publicationTimer_published (hpub : (s.point i).pub = true) (hmirror : (s.point i).mirror = false) (htyp : (s.point i).typ ≠ 0)
    (hmax : (s.point i).maxpub ≠ 0) (hside : tabGet {} s.pt.pubs i = {}) : Published i (s.point i).pv (publicationTimer i s) := by
  obtain ⟨ms, hms⟩ := pubDue_isSome hpub hmirror htyp hmax
  have hpt : (wakeEvent (s.reach (instantOfTai s (ms * msec)))).pt = s.pt := wakeEvent_pt _
  have hpoint := point_congr hpt i
  simp only [publicationTimer, hms]
  obtain ⟨hlpv, hlast, hpending⟩ := evalPublication_published (by rwa [hpoint]) (by rwa [hpoint]) (by rwa [hpoint]) (by rwa [hpoint])
    (by rwa [hpt]) (taiMs (wakeEvent (s.reach (instantOfTai s (ms * msec)))))
  exact ⟨hlpv.trans (by rw [hpoint]), hlast, hpending⟩

/-! PERSISTENCE_WRITE (R127). -/

theorem writeUnit_clean (k : Nat) (s : State) : tabFind k (writeUnit k s).pt.dirty = none := by
  simp [writeUnit]

theorem writeUnit_count (k : Nat) (s : State) :
    (writeUnit k s).get Reg.PNT_PERSW_COUNT = (s.get Reg.PNT_PERSW_COUNT + 1) % 2 ^ 32 := by
  rw [writeUnit, State.get_set_ne (by decide), State.countWrap, State.get_set_same]
  rfl

theorem writeUnit_image {k : Nat} (hk : k < 2 ^ 20) (s : State) : tabFind k (writeUnit k s).pt.images = some (imageOf (s.point k)) := by
  simp only [writeUnit, if_pos hk]
  exact tabFind_insert_same ..

end

/-! #### The restore of the store (R131) -/

section
variable {s u t : State}

/-- The updates that wait in the queues, and those admitted to the open tick. -/
def waitingUpdates (s : State) : Table (List Update) × List Admitted := (s.pt.queues, s.pt.admitted)

theorem waitingUpdates_congr (h : u.pt = s.pt) : waitingUpdates u = waitingUpdates s := by rw [waitingUpdates, waitingUpdates, h]

theorem waitingUpdates_deliver (p : ResultPath) (code tick : Nat) (s : State) : waitingUpdates (deliver p code tick s) = waitingUpdates s := by
  cases p
  case window r => exact waitingUpdates_congr ((show Frame.holds ⟨[], [(0x041, 0x041)], []⟩ s (windowDone 0x041 r code s) by
    simp +decide).1 .pt (by decide))
  all_goals rfl

theorem queues_setQueue_nil (c : Nat) (h : s.pt.queues = []) : (setQueue s c []).pt.queues = [] := by
  simp [setQueue, h, tabPut, tabErase]

theorem refuseAll_waiting (s : State) : waitingUpdates (refuseAll s) = ([], []) := by
  have hqueues (cs : List Nat) (u : State) (hu : waitingUpdates u = ([], [])) :
      waitingUpdates (cs.foldl (fun s c => setQueue s c []) u) = ([], []) := by
    induction cs generalizing u with
    | nil => exact hu
    | cons c cs ih =>
      obtain ⟨hq, ha⟩ := Prod.mk.inj hu
      exact ih _ (Prod.ext (queues_setQueue_nil c hq) ha)
  unfold refuseAll
  extract_lets us pt s₂ s₃
  exact (foldl_keeps waitingUpdates (fun u x => waitingUpdates_deliver ..) us s₃).trans (hqueues _ s₂ rfl)

theorem waitingUpdates_createMirror (m : MirrorCfg) (s : State) : waitingUpdates (createMirror m s) = waitingUpdates s := by
  unfold createMirror
  split
  · rfl
  · dsimp only
    split <;> rfl

theorem waitingUpdates_removeMirror (g : Nat) (s : State) : waitingUpdates (removeMirror g s) = waitingUpdates s := by
  unfold removeMirror
  split <;> rfl

theorem waitingUpdates_logEvent (typ sev : Nat) (items : List Nat) (s : State) :
    waitingUpdates (logEvent typ sev items s) = waitingUpdates s :=
  waitingUpdates_congr ((show Frame.holds ⟨[.log], [(0x007, 0x007)], []⟩ s (logEvent typ sev items s) by simp +decide).1 .pt (by decide))

theorem waitingUpdates_storeRebuild (badList : List Nat) (s : State) : waitingUpdates (storeRebuild badList s) = waitingUpdates s := by
  unfold storeRebuild
  extract_lets pts recs bad pt₀ fresh pt₁ cleared recs' pt₂ rebuilt counted shown flagged via last
  have hcleared : waitingUpdates cleared = waitingUpdates s := by
    unfold cleared
    split
    · exact waitingUpdates_logEvent ..
    · rfl
  have hflagged : waitingUpdates flagged = waitingUpdates s := by
    unfold flagged
    split <;> exact hcleared
  exact (foldl_keeps waitingUpdates (fun u m => waitingUpdates_createMirror m u) _ _).trans hflagged

theorem waitingUpdates_viaSend (k typ : Nat) (body : List Nat) (s : State) : waitingUpdates (viaSend k typ body s) = waitingUpdates s :=
  waitingUpdates_congr ((show Frame.holds ⟨[.out, .via], [], [Reg.UPL_PTXOK_COUNT.ix 0, Reg.UPL_PTXOK_COUNT.ix 1]⟩ s (viaSend k typ body s) by
    simp +decide).1 .pt (by decide))

theorem waitingUpdates_sendSubscribe (j op : Nat) (is : List Nat) (s : State) :
    waitingUpdates (sendSubscribe j op is s) = waitingUpdates s :=
  waitingUpdates_congr ((show Frame.holds ⟨[.out, .via], [], [Reg.UPL_PTXOK_COUNT.ix 0, Reg.UPL_PTXOK_COUNT.ix 1]⟩ s
    (sendSubscribe j op is s) by simp +decide).1 .pt (by decide))

/-- The keystone's mirrors come and go; no update does. -/
theorem waitingUpdates_keystoneFollow (s : State) : waitingUpdates (keystoneFollow s) = waitingUpdates s := by
  unfold keystoneFollow
  split
  · rfl
  split
  · rw [keystoneSubscribe, foldl_keeps waitingUpdates fun u k => waitingUpdates_viaSend ..]
    exact foldl_keeps waitingUpdates (fun u m => waitingUpdates_createMirror m u) _ _
  · rw [keystoneUnsubscribe, foldl_keeps waitingUpdates fun u g => waitingUpdates_removeMirror g u]
    exact foldl_keeps waitingUpdates (fun u j => waitingUpdates_sendSubscribe ..) _ _

/-! Of the page of the point engine a mirror that comes or goes changes only what counts mirrors. -/

theorem holds_createMirror_counts {F : Frame} (m : MirrorCfg)
    (h : Frame.Within ⟨[.pt], [], [Reg.PNT_MIRROR_COUNT, Reg.PNT_MIRREF_COUNT, Reg.PNT_FAULT_MIRFULL]⟩ F) :
    F.holds s (createMirror m u) ↔ F.holds s u := h.step (by
  simp +decide [createMirror, showMirrors, State.setPoint])

theorem holds_removeMirror_count {F : Frame} (g : Nat) (h : Frame.Within ⟨[.pt, .via], [], [Reg.PNT_MIRROR_COUNT]⟩ F) :
    F.holds s (removeMirror g u) ↔ F.holds s u := h.step (by
  unfold removeMirror
  split <;> simp +decide [showMirrors, State.setPoint])

theorem keystoneFollow_holds (s : State) :
    Frame.holds ⟨[.out, .pt, .via], [], [Reg.PNT_MIRROR_COUNT, Reg.PNT_MIRREF_COUNT, Reg.PNT_FAULT_MIRFULL, Reg.UPL_PTXOK_COUNT.ix 0,
      Reg.UPL_PTXOK_COUNT.ix 1]⟩ s (keystoneFollow s) := by
  simp +decide [keystoneFollow, keystoneSubscribe, keystoneUnsubscribe, holds_createMirror_counts, holds_removeMirror_count]

theorem refuseAll_holds (s : State) : Frame.holds ⟨[.pt], [(0x040, 0x043)], []⟩ s (refuseAll s) := by
  unfold refuseAll
  extract_lets us pt emptied shown
  have hshown : Frame.holds ⟨[.pt], [(0x040, 0x043)], []⟩ s shown :=
    (holds_foldl (fun u c => by simp +decide) _).2 (by simp +decide [emptied])
  exact (holds_foldl (fun u x => by simp +decide) _).2 hshown

theorem storeRebuild_holds (badList : List Nat) (s : State) :
    Frame.holds ⟨[.log, .pt, .via], [(0x007, 0x007), (0x040, 0x043)], []⟩ s (storeRebuild badList s) := by
  unfold storeRebuild
  extract_lets pts recs bad pt₀ fresh pt₁ cleared recs' pt₂ rebuilt counted shown flagged via last
  have hcleared : Frame.holds ⟨[.log, .pt, .via], [(0x007, 0x007), (0x040, 0x043)], []⟩ s cleared := by
    simp +decide [cleared, fresh]
  have hflagged : Frame.holds ⟨[.log, .pt, .via], [(0x007, 0x007), (0x040, 0x043)], []⟩ s flagged := by
    simp +decide [flagged, shown, counted, rebuilt, hcleared]
  simpa +decide [last] using hflagged

theorem storeRestore_holds (badList : List Nat) (s : State) :
    Frame.holds ⟨[.log, .pt, .via], [(0x007, 0x007), (0x040, 0x043)], []⟩ s (storeRestore badList s) := by
  unfold storeRestore
  split
  · exact Frame.holds_refl
  · extract_lets refused pt rebuilt
    have hrefused : Frame.holds ⟨[.log, .pt, .via], [(0x007, 0x007), (0x040, 0x043)], []⟩ s refused :=
      Frame.Within.holds (by simp +decide) (refuseAll_holds s)
    have hrebuilt : Frame.holds ⟨[.log, .pt, .via], [(0x007, 0x007), (0x040, 0x043)], []⟩ s rebuilt :=
      Frame.holds_trans (by simpa +decide using hrefused) (storeRebuild_holds badList { refused with pt := { refused.pt with dirty := [] } })
    simpa +decide using hrebuilt

/-- The store is restored: READY stands, RESTORING does not, and no update waits. -/
theorem storeRestore_restored {badList : List Nat} (hready : s.bit Reg.PNT_STAT_READY = false) :
    (storeRestore badList s).get Reg.PNT_STAT_READY = 1 ∧ (storeRestore badList s).get Reg.PNT_STAT_RESTORING = 0 ∧
      waitingUpdates (storeRestore badList s) = ([], []) := by
  rw [storeRestore, if_neg (by simp [hready])]
  extract_lets refused pt rebuilt
  have hrebuilt : waitingUpdates rebuilt = ([], []) :=
    calc waitingUpdates rebuilt = waitingUpdates { refused with pt := { pt with dirty := [] } } := waitingUpdates_storeRebuild ..
      _ = waitingUpdates refused := rfl
      _ = ([], []) := refuseAll_waiting s
  clear_value rebuilt
  refine ⟨?_, ?_, hrebuilt⟩
  · rw [State.raise, State.get_set_same]
    rfl
  · rw [State.raise, State.get_set_ne (by decide), State.get_set_same]
    rfl

/-- Up to STANDBY nothing follows at once where no hold cause stands (R429). -/
theorem modeFollow_calm (hmode : mode s ≤ 2) (hcause : s.get Reg.MODE_STAT_HCAUSE = 0) : modeFollow s = s := by
  have h3 : mode s ≠ 3 := by omega
  have h4 : mode s ≠ 4 := by omega
  have h5 : mode s ≠ 5 := by omega
  have h6 : mode s ≠ 6 := by omega
  simp [modeFollow, hcause, h3, h4, h5, h6]

/-- What follows the restore: the latches take their levels, the keystone's mirrors their places, and the engines show their state. -/
def startEnd (s : State) : State := showCte (showCle (keystoneFollow (latchesFollow s)))

theorem startEnd_holds (s : State) :
    Frame.holds ⟨[.out, .pt, .via, .cte], [(0x050, 0x050), (0x058, 0x058)], [Reg.PNT_MIRROR_COUNT, Reg.PNT_MIRREF_COUNT,
      Reg.PNT_FAULT_MIRFULL, Reg.UPL_PTXOK_COUNT.ix 0, Reg.UPL_PTXOK_COUNT.ix 1]⟩ s (startEnd s) := by
  have h := Frame.Within.holds (b := ⟨[.out, .pt, .via, .cte], [(0x050, 0x050), (0x058, 0x058)], [Reg.PNT_MIRROR_COUNT,
    Reg.PNT_MIRREF_COUNT, Reg.PNT_FAULT_MIRFULL, Reg.UPL_PTXOK_COUNT.ix 0, Reg.UPL_PTXOK_COUNT.ix 1]⟩) (by simp +decide)
    (keystoneFollow_holds (latchesFollow s))
  simpa +decide [startEnd] using Frame.holds_trans (by simp +decide) h

theorem startEnd_waiting (s : State) : waitingUpdates (startEnd s) = waitingUpdates s := by
  have hshown : Frame.holds ⟨[], [(0x050, 0x050), (0x058, 0x058)], []⟩ (keystoneFollow (latchesFollow s)) (startEnd s) := by
    simp +decide [startEnd]
  have hlatched : Frame.holds ⟨[.cte], [], []⟩ s (latchesFollow s) := by simp +decide
  rw [waitingUpdates_congr (hshown.1 .pt (by decide)), waitingUpdates_keystoneFollow, waitingUpdates_congr (hlatched.1 .pt (by decide))]

theorem showCle_run (s : State) : (showCle s).get Reg.CLE_CTRL_RUN = s.get Reg.CLE_CTRL_RUN := by
  simp +decide only [showCle, State.setBit, State.get_set_ne]

theorem showCte_run (s : State) : (showCte s).get Reg.CTE_CTRL_RUN = s.get Reg.CTE_CTRL_RUN := by
  have hkey (k : Nat) : Reg.CTE_CTRL_RUN.key ≠ (Reg.CTE_TSTAT_STG.ix k).key := by
    have : Reg.CTE_CTRL_RUN.key < Reg.CTE_TSTAT_STG.key := by decide
    rw [RegField.key_ix]
    omega
  unfold showCte
  extract_lets running stopped swapping
  refine (foldl_keeps (State.get · Reg.CTE_CTRL_RUN) (fun u k => State.get_set_ne (hkey k) u _) _ _).trans ?_
  simp +decide only [swapping, stopped, running, State.setBit, State.get_set_ne]

/-- The engines show their state, and keep RUN. -/
theorem startEnd_run (s : State) : (startEnd s).get Reg.CLE_CTRL_RUN = s.get Reg.CLE_CTRL_RUN ∧
    (startEnd s).get Reg.CTE_CTRL_RUN = s.get Reg.CTE_CTRL_RUN := by
  have hfollow : Frame.holds ⟨[.out, .pt, .via, .cte], [(0x040, 0x040)], [Reg.UPL_PTXOK_COUNT.ix 0, Reg.UPL_PTXOK_COUNT.ix 1]⟩ s
      (keystoneFollow (latchesFollow s)) := by simp +decide
  have hcte : Frame.holds ⟨[], [(0x058, 0x058)], []⟩ (showCle (keystoneFollow (latchesFollow s))) (startEnd s) := by simp +decide [startEnd]
  have hcle : Frame.holds ⟨[], [(0x050, 0x050)], []⟩ (keystoneFollow (latchesFollow s)) (showCle (keystoneFollow (latchesFollow s))) := by
    simp +decide
  constructor
  · rw [hcte.2 _ (by unfold Frame.leaves; decide), showCle_run, hfollow.2 _ (by unfold Frame.leaves; decide)]
  · rw [startEnd, showCte_run, hcle.2 _ (by unfold Frame.leaves; decide), hfollow.2 _ (by unfold Frame.leaves; decide)]

/-- The store is restored, the engines run, and the start is over. -/
def storeStarted (failed : List Nat) (s : State) : State :=
  (((storeRestore failed s).raise Reg.CLE_CTRL_RUN).raise Reg.CTE_CTRL_RUN).set Reg.MODE_STAT_STARTING 0

theorem storeStarted_holds (failed : List Nat) (s : State) :
    Frame.holds ⟨[.log, .pt, .via], [(0x007, 0x007), (0x040, 0x043), (0x050, 0x050), (0x058, 0x058)], [Reg.MODE_STAT_STARTING]⟩ s
      (storeStarted failed s) := by
  have h := Frame.Within.holds (b := ⟨[.log, .pt, .via], [(0x007, 0x007), (0x040, 0x043), (0x050, 0x050), (0x058, 0x058)],
    [Reg.MODE_STAT_STARTING]⟩) (by simp +decide) (storeRestore_holds failed s)
  simpa +decide [storeStarted] using h

theorem storeReady_eq {failed : List Nat} (hboot : s.pwr.booting = false) (hready : s.bit Reg.PNT_STAT_READY = false) (hmode : mode s ≤ 2)
    (hcause : s.get Reg.MODE_STAT_HCAUSE = 0) : storeReady failed s = startEnd (storeStarted failed s) := by
  have hget {f : RegField} := fun hstart hstore => ((startEnd_holds (storeStarted failed s)).2 f hstart).trans
    ((storeStarted_holds failed s).2 f hstore)
  have hmode' : mode (startEnd (storeStarted failed s)) = mode s :=
    hget (f := Reg.MODE_STAT_MODE) (by unfold Frame.leaves; decide) (by unfold Frame.leaves; decide)
  rw [storeReady, if_neg (by simp [hboot, hready]), if_neg (by omega)]
  exact modeFollow_calm (s := startEnd (storeStarted failed s)) (by rwa [hmode'])
    ((hget (by unfold Frame.leaves; decide) (by unfold Frame.leaves; decide)).trans hcause)

/-- The start is over (R131). -/
theorem storeReady_shows {failed : List Nat} (hboot : s.pwr.booting = false) (hready : s.bit Reg.PNT_STAT_READY = false)
    (hmode : mode s ≤ 2) (hcause : s.get Reg.MODE_STAT_HCAUSE = 0) (ht : done s (storeReady failed s) = .next t) :
    t.get Reg.PNT_STAT_READY = 1 ∧ t.get Reg.PNT_STAT_RESTORING = 0 ∧ t.get Reg.MODE_STAT_STARTING = 0 ∧
      t.get Reg.CLE_CTRL_RUN = 1 ∧ t.get Reg.CTE_CTRL_RUN = 1 ∧ t.pt.admitted = [] ∧ t.pt.queues = [] := by
  rw [storeReady_eq hboot hready hmode hcause] at ht
  obtain ⟨hshown, hrestoring, hwaiting⟩ := storeRestore_restored (badList := failed) hready
  obtain ⟨hcle, hcte⟩ := startEnd_run (storeStarted failed s)
  have hkeeps := startEnd_holds (storeStarted failed s)
  have hstarted : waitingUpdates (storeStarted failed s) = waitingUpdates (storeRestore failed s) :=
    waitingUpdates_congr (by simp [storeStarted])
  obtain ⟨hqueues, hadmitted⟩ := Prod.mk.inj ((startEnd_waiting (storeStarted failed s)).trans (hstarted.trans hwaiting))
  refine ⟨?ready, ?restoring, ?starting, ?cle, ?cte, by rw [done_pt ht, hadmitted], by rw [done_pt ht, hqueues]⟩
  all_goals rw [done_get ht (by decide) (by decide)]
  case ready =>
    rw [hkeeps.2 _ (by unfold Frame.leaves; decide), storeStarted]
    simpa +decide only [State.raise, State.get_set_ne] using hshown
  case restoring =>
    rw [hkeeps.2 _ (by unfold Frame.leaves; decide), storeStarted]
    simpa +decide only [State.raise, State.get_set_ne] using hrestoring
  case starting =>
    rw [hkeeps.2 _ (by unfold Frame.leaves; decide), storeStarted, State.get_set_same]
    rfl
  case cle =>
    rw [hcle, storeStarted, State.get_set_ne (by decide), State.raise, State.get_set_ne (by decide), State.raise, State.get_set_same]
    rfl
  case cte =>
    rw [hcte, storeStarted, State.get_set_ne (by decide), State.raise, State.get_set_same]
    rfl

end

/-- Settles O23: each timer by the part of the commit that it runs, and the restore by what it and the start's end leave. -/
theorem pointTimersAndRestore : Obligations.PointTimersAndRestore := by
  refine ⟨fun s i htyp hto hqual hcmd hmirror hpub hforces hforced _ => ?stale, fun s i htyp hpub hmirror hmax hside _ _ => ?publication,
    fun s k a hdirty => ?persistence, fun s failed hboot hready hmode hcause => done_completes fun t ht =>
      storeReady_shows hboot hready hmode hcause ht⟩
  case stale =>
    refine done_completes fun t ht => ?_
    have hpoint : t.point i.toNat = (staleTimeout i.toNat { s with pt := { s.pt with published := [] } }).point i.toNat := by
      rw [State.point, done_pt ht, flushPublished_pt, State.point]
    rw [hpoint, staleTimeout_point (s := { s with pt := { s.pt with published := [] } }) htyp hto hqual hcmd hmirror hpub hforces hforced]
    exact ⟨rfl, rfl, rfl, rfl⟩
  case publication =>
    refine done_completes fun t ht => ?_
    have hpublished := publicationTimer_published (s := { s with pt := { s.pt with published := [] } }) hpub hmirror htyp hmax hside
    have hpt := (done_pt ht).trans (flushPublished_pt ..)
    refine ⟨?_, ?_, ?_⟩
    · rw [State.point, hpt]
      exact hpublished.lpv
    · rw [hpt]
      exact hpublished.last
    · rw [hpt]
      exact hpublished.pending
  case persistence =>
    refine done_completes fun t ht => ?_
    simp only [persistenceWrite, hdirty] at ht
    refine ⟨?_, ?_, fun hk => ?_⟩
    · rw [done_pt ht]
      exact writeUnit_clean ..
    · rw [done_get ht (by decide) (by decide)]
      exact writeUnit_count ..
    · rw [done_pt ht]
      exact writeUnit_image hk _

end Sys2Proof.Machine

/-! ### The commit of one bound value (R82, R91, R93, R108)

A commit runs over every update and report of its tick. Here one value of the bound source was admitted: what the commit makes of its
record is followed through the point engine, and the blocks that follow the commit leave the engine's part of the state. -/

namespace Sys2Proof.Machine

section
variable {s u t before : State} {i j : Nat} {a : Admitted} {v : Nat}

/-! #### What the rest of a commit leaves of a record -/

/-- Record `i` without what a publication writes, with the tick, the results that wait and the records that the commit changed. -/
def commitView (i : Nat) (s : State) : PointRec × Nat × List (ResultPath × Nat) × List Nat :=
  ({ s.point i with lpv := 0 }, s.pt.lastTick, s.pt.results, s.pt.changed)

theorem point_setPoint_ne (h : i ≠ j) (s : State) (r : PointRec) : (s.setPoint j r).point i = s.point i := tabGet_put_ne h ..

theorem commitView_publishPoint (j now : Nat) (s : State) : commitView i (publishPoint j now s) = commitView i s := by
  have hrec : { (s.setPoint j { s.point j with lpv := (s.point j).pv }).point i with lpv := 0 } = { s.point i with lpv := 0 } := by
    by_cases h : i = j
    · rw [h, point_setPoint_same]
    · rw [point_setPoint_ne h]
  exact congrArg (·, s.pt.lastTick, s.pt.results, s.pt.changed) hrec

theorem commitView_evalPublication (j now : Nat) (flags : Bool) (s : State) :
    commitView i (evalPublication j now flags s) = commitView i s := by
  unfold evalPublication
  extract_lets r differs side pending due pt marked
  have hmarked : commitView i marked = commitView i s := rfl
  split
  · rfl
  split
  · exact commitView_publishPoint ..
  split
  · exact commitView_publishPoint ..
  split
  · exact (commitView_publishPoint ..).trans hmarked
  · exact hmarked

theorem commitView_evalPublications (first : List Nat) (now : Nat) (s : State) :
    commitView i (evalPublications before first now s) = commitView i s :=
  foldl_keeps (commitView i) (fun _ _ => commitView_evalPublication ..) _ _

theorem commitView_overloadRule (s : State) : commitView i (overloadRule s) = commitView i s := by
  unfold overloadRule
  extract_lets full counted f c pt marked
  have hmarked : commitView i marked = commitView i s :=
    foldl_keeps (commitView i) (fun u c => (rfl : commitView i (u.countSat (Reg.PNT_QIN_FULLS.ix c) 1) = commitView i u)) full s
  split
  · exact hmarked
  split <;> exact hmarked

theorem commitView_dirtyFullRule (s : State) : commitView i (dirtyFullRule s) = commitView i s := by
  unfold dirtyFullRule
  extract_lets full f c pt marked
  have hmarked : commitView i marked = commitView i s := rfl
  split
  · exact hmarked
  split <;> exact hmarked

/-- The close of the commit opens the next tick empty. -/
theorem commitView_openTick (s : State) : commitView i (openTick s) = commitView i s := rfl

/-! #### The commit of the record -/

/-- What the commit counts beside the records: the tick, the results that wait and the records that changed. -/
def commitCounts (s : State) : Nat × List (ResultPath × Nat) × List Nat := (s.pt.lastTick, s.pt.results, s.pt.changed)

theorem commitCounts_markDirty (k tick : Nat) (s : State) : commitCounts (markDirty s k tick) = commitCounts s := by
  unfold markDirty
  split
  · rfl
  · split <;> rfl

theorem commitCounts_dirty (r old new : PointRec) (k tick : Nat) (s : State) :
    commitCounts (dirtyArray before r tick (dirtyRecord k tick old new s)) = commitCounts s := by
  simp only [dirtyArray, dirtyRecord]
  split_ifs <;> simp only [commitCounts_markDirty]

/-- Only the closed record may have changed. -/
theorem closeRecord_view (before : State) (tick i : Nat) (s : State) :
    (closeRecord before tick i s).pt.lastTick = s.pt.lastTick ∧ (closeRecord before tick i s).pt.results = s.pt.results ∧
      ∀ j ∈ (closeRecord before tick i s).pt.changed, j ∈ s.pt.changed ∨ j = i := by
  unfold closeRecord
  extract_lets old array r r' closed
  have hcounts : commitCounts closed = commitCounts s := commitCounts_dirty ..
  obtain ⟨htick, hrest⟩ := Prod.mk.inj hcounts
  obtain ⟨hresults, hchanged⟩ := Prod.mk.inj hrest
  split
  · exact ⟨htick, hresults, fun j hj => .inl (hchanged ▸ hj)⟩
  · refine ⟨htick, hresults, fun j hj => ?_⟩
    have hj : j ∈ closed.pt.changed ++ [i] := hj
    simpa [hchanged] using hj

/-- The record with the value of its bound source, committed at `commitUs` (R91, R93, R108). -/
def boundRecord (r : PointRec) (v src commitUs : Nat) : PointRec := { r with ts := commitUs, lastsrc := src, sv := v, qual := 1, pv := v }

theorem applyUpdate_bound {commitUs : Nat} (hkind : a.upd.kind = .value v .valid) (hsrc : a.upd.src = boundSource (s.point a.index).addr)
    (htype : typeOk (s.point a.index).typ v = true) (hoos : (s.point a.index).oos = false)
    (hforces : tabFind a.index s.pt.forces = none) :
    applyUpdate a commitUs s = (s, boundRecord (s.point a.index) v a.upd.src commitUs, resWritten) := by
  have hbound : fromBound (s.point a.index) a.upd = true := by simp [fromBound, hkind, hsrc]
  simp [applyUpdate, hkind, hbound, htype, hoos, hforces, boundRecord]

/-- The one update of a tick is the winner of its level. -/
theorem winnerOf_single (a : Admitted) : winnerOf a [a] = a := by
  simp [winnerOf, sameLevel]

theorem applyAdmitted_single {tick : Nat} (hkind : a.upd.kind = .value v .valid) (hpath : a.upd.path = .none) :
    applyAdmitted [a] tick s = (applyUpdate a ((tick + 1) * 1000) s).1.setPoint a.index (applyUpdate a ((tick + 1) * 1000) s).2.1 := by
  have hphase : (([a].filter fun a => applyPhase a = 0) ++ ([a].filter fun a => applyPhase a = 1) ++
      ([a].filter fun a => applyPhase a = 2)) = [a] := by
    have hlevel : conflictLevel a.upd.kind = 0 := by simp [conflictLevel, hkind]
    by_cases hclass : srcClass a.upd.src = 0 <;> simp [applyPhase, hlevel, hclass]
  have hlast : lastWrites [a] = [a] := by simp [lastWrites]
  unfold applyAdmitted
  simp only [hlast, hphase, List.foldl_cons, List.foldl_nil, winnerOf_single, hpath, deliver]
  simp [replacedWrites]

/-- A plain record written by its bound source closes with the value. -/
theorem closedRecord_bound {r : PointRec} {src commitUs : Nat} (hnew : s.point i = boundRecord r v src commitUs) (hcmd : r.cmd = false)
    (hmirror : r.mirror = false) (hforces : tabFind i s.pt.forces = none) :
    ∃ n, closedRecord before s i = { boundRecord r v src commitUs with rseq := n, forced := false, orphan := false } := by
  have hrec : recompute s i (s.point i) = { boundRecord r v src commitUs with forced := false, orphan := false } := by
    rw [hnew]
    cases hforced : r.forced <;> simp [recompute, resolvePlain, boundRecord, hcmd, hmirror, hforces, hforced]
  unfold closedRecord
  simp only [hrec]
  split
  · exact ⟨_, rfl⟩
  · exact ⟨_, rfl⟩

/-- What the commit of tick `tick` leaves of the point engine: the record has the value, and the next tick is open and empty. -/
structure BoundCommit (i v src tick : Nat) (pt : PointState) : Prop where
  pv : (tabGet {} pt.recs i).pv = v
  sv : (tabGet {} pt.recs i).sv = v
  qual : (tabGet {} pt.recs i).qual = 1
  ts : (tabGet {} pt.recs i).ts = (tick + 1) * 1000
  lastsrc : (tabGet {} pt.recs i).lastsrc = src
  cmd : (tabGet {} pt.recs i).cmd = false
  admitted : pt.admitted = []
  capUsed : pt.capUsed = 0
  lastTick : pt.lastTick = tick
  results : pt.results = []
  changed : ∀ j ∈ pt.changed, j = i

theorem BoundCommit.published {src tick : Nat} {pt : PointState} (h : BoundCommit i v src tick pt) (is : List Nat) :
    BoundCommit i v src tick { pt with published := is } :=
  ⟨h.pv, h.sv, h.qual, h.ts, h.lastsrc, h.cmd, h.admitted, h.capUsed, h.lastTick, h.results, h.changed⟩

/-- The store at the commit of the current tick, before its updates take effect. -/
def commitStart (s : State) : State :=
  let reached := s.reach (instantOfTai s ((tickNow s + 1) * msec))
  { reached with pt := { reached.pt with changed := [], published := [], lastTick := tickNow s } }

/-- The store at the commit with the admitted value written. -/
def boundStore (a : Admitted) (v : Nat) (s : State) : State :=
  (commitStart s).setPoint a.index (boundRecord (s.point a.index) v a.upd.src ((tickNow s + 1) * 1000))

/-- A tick with one value of a bound source and no report closes one record. -/
theorem pointCommit_single (hready : s.bit Reg.PNT_STAT_READY = true) (hadmitted : s.pt.admitted = [a]) (hreports : s.pt.reports = [])
    (hkind : a.upd.kind = .value v .valid) (hpath : a.upd.path = .none)
    (hsrc : a.upd.src = boundSource (s.point a.index).addr) (htype : typeOk (s.point a.index).typ v = true)
    (hoos : (s.point a.index).oos = false) (hforces : tabFind a.index s.pt.forces = none) :
    pointCommit s = openTick (dirtyFullRule (overloadRule (evalPublications (commitStart s) [a.index] (tickNow s + 1)
      (closeRecord (commitStart s) (tickNow s) a.index (boundStore a v s))))) := by
  have hupdate : applyUpdate a ((tickNow s + 1) * 1000) (commitStart s) =
      (commitStart s, boundRecord (s.point a.index) v a.upd.src ((tickNow s + 1) * 1000), resWritten) :=
    applyUpdate_bound (s := commitStart s) hkind hsrc htype hoos hforces
  have happlied := applyAdmitted_single (s := commitStart s) (tick := tickNow s) hkind hpath
  rw [hupdate] at happlied
  unfold pointCommit
  extract_lets tick reached pt all reports start before applied reported touched closed evaluated
  have hall : all = [a] := hadmitted
  have hnone : reports = [] := hreports
  have hready : reached.bit Reg.PNT_STAT_READY = true := hready
  rw [if_neg (by simp [hready])]
  simp only [evaluated, closed, touched, reported, applied, hall, hnone]
  rw [show applyAdmitted [a] tick start = _ from happlied]
  rfl

theorem BoundCommit.of_view {r : PointRec} {src tick n : Nat} {ch : List Nat} (hview : commitView i u =
      ({ boundRecord r v src ((tick + 1) * 1000) with rseq := n, forced := false, orphan := false, lpv := 0 }, tick, [], ch))
    (hcmd : r.cmd = false) (hch : ∀ j ∈ ch, j = i) (hadmitted : u.pt.admitted = []) (hcap : u.pt.capUsed = 0) :
    BoundCommit i v src tick u.pt where
  pv := congrArg (fun x => x.1.pv) hview
  sv := congrArg (fun x => x.1.sv) hview
  qual := congrArg (fun x => x.1.qual) hview
  ts := congrArg (fun x => x.1.ts) hview
  lastsrc := congrArg (fun x => x.1.lastsrc) hview
  cmd := (congrArg (fun x => x.1.cmd) hview).trans hcmd
  admitted := hadmitted
  capUsed := hcap
  lastTick := congrArg (fun x => x.2.1) hview
  results := congrArg (fun x => x.2.2.1) hview
  changed := by
    have hchanged : u.pt.changed = ch := congrArg (fun x => x.2.2.2) hview
    rwa [hchanged]

theorem pointCommit_bound (hready : s.bit Reg.PNT_STAT_READY = true) (hadmitted : s.pt.admitted = [a]) (hreports : s.pt.reports = [])
    (hresults : s.pt.results = []) (hkind : a.upd.kind = .value v .valid) (hpath : a.upd.path = .none)
    (hsrc : a.upd.src = boundSource (s.point a.index).addr) (htype : typeOk (s.point a.index).typ v = true)
    (hcmd : (s.point a.index).cmd = false) (hmirror : (s.point a.index).mirror = false) (hoos : (s.point a.index).oos = false)
    (hforces : tabFind a.index s.pt.forces = none) : BoundCommit a.index v a.upd.src (tickNow s) (pointCommit s).pt := by
  rw [pointCommit_single hready hadmitted hreports hkind hpath hsrc htype hoos hforces]
  have hwritten : (boundStore a v s).point a.index = _ := point_setPoint_same ..
  obtain ⟨n, hrecord⟩ := closedRecord_bound (before := commitStart s) hwritten hcmd hmirror hforces
  obtain ⟨htick, hres, hchanged⟩ := closeRecord_view (commitStart s) (tickNow s) a.index (boundStore a v s)
  refine BoundCommit.of_view (r := s.point a.index) (n := n)
    (ch := (closeRecord (commitStart s) (tickNow s) a.index (boundStore a v s)).pt.changed) ?_ hcmd (fun j hj => ?_) rfl rfl
  · rw [commitView_openTick, commitView_dirtyFullRule, commitView_overloadRule, commitView_evalPublications, commitView, closeRecord_point,
      hrecord, htick, hres, show (boundStore a v s).pt.results = [] from hresults]
    rfl
  · exact (hchanged j hj).resolve_left (by simp [boundStore, commitStart, State.setPoint])

/-! #### What the blocks make of the commit -/

/-- Where no command point came back and none of a task's writes waits, the commit hands no output on. -/
theorem commitCommands_pt (hback : ∀ j ∈ s.pt.changed, (s.point j).cmd = false) (hreturned : s.seg.returned = []) :
    (commitCommands before [] s).pt = s.pt := by
  have hnone : s.pt.changed.filter (fun i => (s.point i).cmd && (before.point i).oos && !(s.point i).oos) = [] :=
    List.filter_eq_nil_iff.2 fun j hj => by simp [hback j hj]
  simp [commitCommands, hnone, distinct, returnedPoints, hreturned]

theorem commitCommands_acc (tasks : List (Nat × Nat)) (before s : State) : (commitCommands before tasks s).acc = s.acc := by
  have hframe : Frame.holds ⟨[.log, .lane, .pt, .prpt, .seg, .pbus, .pwr, .clk], [(0x007, 0x007), (0x048, 0x048), (0x100, 0x11F),
    (0x120, 0x13F), (0x140, 0x15F)], [Reg.MODE_PWRST_DOZE]⟩ s (commitCommands before tasks s) := by simp +decide
  exact hframe.1 .acc (by decide)

theorem lockdownFollow_idle (hgrants : s.acc.grants = []) : lockdownFollow s = s := by
  simp [lockdownFollow, hgrants]

theorem grantsDone_pt (hwaits : s.acc.waits = []) : (grantsDone s).pt = s.pt := by
  simp [grantsDone, hwaits]

theorem deliverResults_pt (hresults : s.pt.results = []) : (deliverResults s).pt = s.pt := by
  have hsame : { s.pt with results := [] } = s.pt := by rw [← hresults]
  simpa [deliverResults, hresults] using hsame

theorem reportAll_nil (s : State) : reportAll [] s = s := by simp [reportAll]

theorem taskCommands_single (hpath : a.upd.path = .none) : taskCommands s [a] = [] := by simp [taskCommands, hpath]

theorem commitTasks_parts (tick : Nat) (s : State) : (commitTasks tick s).pt = s.pt ∧ (commitTasks tick s).acc = s.acc := by
  have hframe : Frame.holds ⟨[.cte], [(0x058, 0x058)], []⟩ s (commitTasks tick s) := by simp +decide
  exact ⟨hframe.1 .pt (by decide), hframe.1 .acc (by decide)⟩

theorem commitEdges_pt (before : State) (is : List Nat) (s : State) : (is.foldl (fun s i => commitEdges before i s) s).pt = s.pt := by
  have hframe : Frame.holds ⟨[.cte, .pwr, .clk], [(0x058, 0x058)], [Reg.MODE_PWRST_DOZE]⟩ s
      (is.foldl (fun s i => commitEdges before i s) s) := by simp +decide
  exact hframe.1 .pt (by decide)

theorem flushPublished_acc (mirrors : List Nat) (s : State) : (flushPublished mirrors s).acc = s.acc := by
  have hframe : Frame.holds ⟨[.out, .pt, .cte, .via, .pwr, .clk], [(0x058, 0x058), (0x180, 0x180)], [Reg.MODE_PWRST_DOZE,
      Reg.UPL_PTXOK_COUNT.ix 0, Reg.UPL_PTXOK_COUNT.ix 1]⟩ s (flushPublished mirrors s) := by simp +decide
  exact hframe.1 .acc (by decide)

/-- Where no grant and no result waits, the access block and the results leave the point engine. -/
theorem accessEnd_pt (hgrants : s.acc.grants = []) (hwaits : s.acc.waits = []) (hresults : s.pt.results = []) :
    (deliverResults (grantsDone (lockdownFollow s))).pt = s.pt := by
  have hpt := grantsDone_pt hwaits
  rw [lockdownFollow_idle hgrants, deliverResults_pt (by rwa [hpt]), hpt]

/-- What follows the point engine's part of such a commit: it hands nothing on, and no grant and no result waits. -/
theorem commitEnd_pt {tick : Nat} {mirrors : List Nat} (hback : ∀ j ∈ s.pt.changed, (s.point j).cmd = false)
    (hreturned : s.seg.returned = []) (hgrants : s.acc.grants = []) (hwaits : s.acc.waits = []) (hresults : s.pt.results = []) :
    (deliverResults (grantsDone (lockdownFollow (commitTasks tick (flushPublished mirrors (commitCommands before [] s)))))).pt =
      { s.pt with published := [] } := by
  have hpt : (commitTasks tick (flushPublished mirrors (commitCommands before [] s))).pt = { s.pt with published := [] } := by
    rw [(commitTasks_parts ..).1, flushPublished_pt, commitCommands_pt hback hreturned]
  have hacc : (commitTasks tick (flushPublished mirrors (commitCommands before [] s))).acc = s.acc := by
    rw [(commitTasks_parts ..).2, flushPublished_acc, commitCommands_acc]
  rw [accessEnd_pt, hpt] <;> simp only [hacc, hpt, hgrants, hwaits, hresults]

/-- The commit of a tick whose one update is a bound value: what follows the point engine's part leaves it. -/
theorem deckCommit_bound (hcommits : commits s = true) (hready : s.bit Reg.PNT_STAT_READY = true) (hadmitted : s.pt.admitted = [a])
    (hreports : s.pt.reports = []) (hresults : s.pt.results = []) (hreturned : s.seg.returned = []) (hgrants : s.acc.grants = [])
    (hwaits : s.acc.waits = []) (hkind : a.upd.kind = .value v .valid) (hpath : a.upd.path = .none)
    (hsrc : a.upd.src = boundSource (s.point a.index).addr) (htype : typeOk (s.point a.index).typ v = true)
    (hcmd : (s.point a.index).cmd = false) (hmirror : (s.point a.index).mirror = false) (hoos : (s.point a.index).oos = false)
    (hforces : tabFind a.index s.pt.forces = none) : BoundCommit a.index v a.upd.src (tickNow s) (deckCommit s).pt := by
  unfold deckCommit
  rw [if_neg (by simp [hcommits])]
  extract_lets tick all tasks away counted reported before pt committed mirrors edged handed flushed delivered
  have htasks : tasks = [] := by
    unfold tasks all
    rw [hadmitted, taskCommands_single hpath]
  have hreported : reported = s := by simp [reported, counted, away, htasks, reportAll_nil]
  have hbound : BoundCommit a.index v a.upd.src (tickNow s) committed.pt := by
    unfold committed pt
    rw [hreported]
    exact pointCommit_bound (s := { s with pt := { s.pt with changed := [], published := [] } }) hready hadmitted hreports hresults hkind hpath
      hsrc htype hcmd hmirror hoos hforces
  have hframe : Frame.holds ⟨[.log, .pt, .via, .cte, .pwr, .clk], [(0x007, 0x007), (0x040, 0x040), (0x041, 0x041), (0x042, 0x042),
      (0x043, 0x043), (0x058, 0x058), (0x180, 0x180)], [Reg.MODE_PWRST_DOZE]⟩ s edged := by
    simp +decide [edged, committed, pt, hreported]
  have hpt : edged.pt = committed.pt := commitEdges_pt ..
  have hseg : edged.seg = s.seg := hframe.1 .seg (by decide)
  have hacc : edged.acc = s.acc := hframe.1 .acc (by decide)
  have hdelivered : delivered.pt = { edged.pt with published := [] } := by
    unfold delivered flushed handed
    rw [htasks]
    refine commitEnd_pt (fun j hj => ?_) (by rwa [hseg]) (by rwa [hacc]) (by rwa [hacc]) (by rw [hpt, hbound.results])
    rw [State.point, hpt, hbound.changed j (hpt ▸ hj)]
    exact hbound.cmd
  have hend : BoundCommit a.index v a.upd.src (tickNow s) delivered.pt := by
    rw [hdelivered, hpt]
    exact hbound.published []
  clear_value delivered
  split <;> exact hend

end

/-- Settles O22: the commit of the one admitted value, and the blocks that follow it. -/
theorem deckTickCommit : Obligations.DeckTickCommit := by
  intro s a v hcommits _ hready hadmitted hreports hresults hreturned hgrants hwaits _ _ hkind hpath hsrc _ htype hcmd hmirror hoos hforces
  refine done_completes fun t ht => ?_
  obtain ⟨hpv, hsv, hqual, hts, hlastsrc, -, hempty, hcap, htick, -, -⟩ := deckCommit_bound hcommits hready hadmitted hreports hresults
    hreturned hgrants hwaits hkind hpath hsrc htype hcmd hmirror hoos hforces
  rw [State.point, done_pt ht]
  exact ⟨hpv, hsv, hqual, hts, hlastsrc, hempty, hcap, htick⟩

end Sys2Proof.Machine

/-! ### Forces among the updates of a batch (R118, R296)

The updates of a batch are checked again one by one. A force that passes while the table has one free place fails once another force of the
batch has been admitted, so that fewer updates take capacity than passed before the first. -/

namespace Sys2Proof.Machine

section
variable {s : State} {i : Nat} {u : Update}

theorem tabFind_eq_none {α : Type} {t : Table α} {k : Nat} (h : ∀ e ∈ t, e.1 ≠ k) : tabFind k t = none := by
  induction t with
  | nil => rfl
  | cons e t ih =>
    rw [tabFind, if_neg (h e List.mem_cons_self), ih fun x hx => h x (List.mem_cons_of_mem e hx)]

/-- What steps 1 to 4 of R100 say of a force of an unforced record: the table has a free place or not. -/
theorem accessCheck_force {v : Nat} (hresolve : resolve s u.target = some i) (hkind : u.kind = .force v) (hclass : srcClass u.src = 6)
    (hlane : laneRule s u (s.point i) = true) (hmirror : (s.point i).mirror = false) (htype : typeOk (s.point i).typ v = true)
    (hnew : tabFind i s.pt.forces = none) (hcoming : i ∉ comingForces s) :
    accessCheck s u = if 16384 ≤ s.pt.forces.length + (comingForces s).length then .error resForceFull else .ok i := by
  have hrule : writeRule s i (s.point i) u =
      if 16384 ≤ s.pt.forces.length + (comingForces s).length then some resForceFull else none := by
    simp [writeRule, hmirror, hkind, hclass, hnew, hcoming]
  by_cases hfull : 16384 ≤ s.pt.forces.length + (comingForces s).length <;>
    simp [accessCheck, hresolve, hlane, hrule, typeRule, hkind, htype, hfull]

theorem batchOne_admits (h : accessCheck s u = .ok i) (hoos : discardedOos (s.point i) u = false) :
    batchOne s u = popQueue 5 (admitOne i (updateCost (s.point i) u.kind) u s) := by
  simp [batchOne, h, hoos]

theorem batchOne_refuses {code : Nat} (h : accessCheck s u = .error code) : batchOne s u = popQueue 5 (refuse u code s) := by
  simp [batchOne, h]

theorem popQueue_forces (c : Nat) (s : State) : (popQueue c s).pt.forces = s.pt.forces := by
  unfold popQueue
  extract_lets cleared pt shown
  have hcleared : cleared.pt.forces = s.pt.forces := by
    unfold cleared
    split
    · unfold goClear
      split <;> rfl
    · rfl
  exact hcleared

end

/-- Forces of `n` records from record 10 on. -/
@[irreducible] def otherForces (n : Nat) : Table Force := (List.range n).map fun k => (k + 10, { value := 0, src := 0 })

theorem otherForces_length (n : Nat) : (otherForces n).length = n := by simp [otherForces]

theorem otherForces_find {k : Nat} (h : k < 10) (n : Nat) : tabFind k (otherForces n) = none := by
  refine tabFind_eq_none fun e he => ?_
  rw [otherForces] at he
  obtain ⟨j, -, rfl⟩ := List.mem_map.1 he
  dsimp only
  omega

/-- 16,383 forces of other records: the table has one free place (R118). -/
def nearlyFull : Table Force := otherForces 16383

theorem nearlyFull_length : nearlyFull.length = 16383 := otherForces_length _

theorem nearlyFull_find {k : Nat} (h : k < 10) : tabFind k nearlyFull = none := otherForces_find h _

/-- Task 0's output to record 3, and forces of records 4 and 5 in the same batch. -/
def batchOutput : Update := { src := taskSrc 0, target := .idx 3, kind := .value 1 .valid, batch := 1 }
def batchForce (i : Nat) : Update := { src := requesterSrc 9, target := .idx i, kind := .force 1, batch := 1 }

/-- The engine is READY, and the batch waits in the queue of class 5; the service connection may write lane 0. -/
def batchWaits : State :=
  { State.reset with
    sessions := [(9, { lanes := 1 })],
    pt := { recs := [(3, { typ := 2, addr := 5 * 2 ^ 45 }), (4, { typ := 2 }), (5, { typ := 2 })], forces := nearlyFull,
            queues := [(5, [batchOutput, batchForce 4, batchForce 5])] } }.set Reg.PNT_STAT_READY 1

/-- The states between the updates: the output is admitted, then the first force, and the second force finds the table full. -/
def outputAdmitted : State := popQueue 5 (admitOne 3 1 batchOutput batchWaits)
def forceAdmitted : State := popQueue 5 (admitOne 4 1 (batchForce 4) outputAdmitted)
def forceRefused : State := popQueue 5 (refuse (batchForce 5) resForceFull forceAdmitted)

theorem outputAdmitted_forces : outputAdmitted.pt.forces = nearlyFull := popQueue_forces ..

theorem forceAdmitted_forces : forceAdmitted.pt.forces = nearlyFull := (popQueue_forces ..).trans outputAdmitted_forces

theorem accessCheck_output : accessCheck batchWaits batchOutput = .ok 3 := rfl

/-- A force of the batch, in a state in which record `i` is as at the start and not yet forced. -/
theorem accessCheck_batchForce {s : State} {i : Nat} (hresolve : resolve s (.idx i) = some i) (hrec : s.point i = { typ := 2 })
    (hlane : laneRule s (batchForce i) { typ := 2 } = true) (hforces : s.pt.forces = nearlyFull) (hi : i < 10)
    (hcoming : i ∉ comingForces s) :
    accessCheck s (batchForce i) = if 1 ≤ (comingForces s).length then .error resForceFull else .ok i := by
  rw [accessCheck_force (u := batchForce i) (v := 1) hresolve rfl (srcClass_requesterSrc 9) (hrec ▸ hlane) (by rw [hrec])
    (by rw [hrec]; rfl) (by rw [hforces, nearlyFull_find hi]) hcoming, hforces, nearlyFull_length]
  congr 1
  simp only [eq_iff_iff]
  omega

/-- Before the batch either force finds the free place. -/
theorem accessCheck_waiting {i : Nat} (hi : i = 4 ∨ i = 5) : accessCheck batchWaits (batchForce i) = .ok i := by
  have hcoming : comingForces batchWaits = [] := by decide +kernel
  rw [accessCheck_batchForce _ _ _ rfl (by omega) (by simp [hcoming]), if_neg (by simp [hcoming])] <;>
    rcases hi with rfl | rfl <;> decide +kernel

theorem accessCheck_admitted : accessCheck outputAdmitted (batchForce 4) = .ok 4 := by
  have hcoming : comingForces outputAdmitted = [] := by decide +kernel
  rw [accessCheck_batchForce (by decide +kernel) (by decide +kernel) (by decide +kernel) outputAdmitted_forces (by decide)
    (by simp [hcoming]), if_neg (by simp [hcoming])]

/-- The first force will take the free place. -/
theorem comingForces_forceAdmitted : comingForces forceAdmitted = [4] := by
  have hadmitted : forceAdmitted.pt.admitted =
      [{ index := 3, upd := batchOutput, rank := 2 }, { index := 4, upd := batchForce 4, rank := 2 }] := by
    decide +kernel
  have hnew : (tabFind 4 nearlyFull).isSome = false := by rw [nearlyFull_find (by decide)]; rfl
  simp [comingForces, hadmitted, forceAdmitted_forces, hnew, batchOutput, batchForce]

theorem accessCheck_refused : accessCheck forceAdmitted (batchForce 5) = .error resForceFull := by
  have hcoming := comingForces_forceAdmitted
  rw [accessCheck_batchForce (by decide +kernel) (by decide +kernel) (by decide +kernel) forceAdmitted_forces (by decide)
    (by simp [hcoming]), if_pos (by simp [hcoming])]

/-- One after the other two updates are admitted, and the third is refused. -/
theorem batch_refuses : [batchOutput, batchForce 4, batchForce 5].foldl batchOne batchWaits = forceRefused := by
  have houtput : batchOne batchWaits batchOutput = outputAdmitted := batchOne_admits accessCheck_output (by decide +kernel)
  have hforce : batchOne outputAdmitted (batchForce 4) = forceAdmitted := batchOne_admits accessCheck_admitted (by decide +kernel)
  rw [List.foldl_cons, houtput, List.foldl_cons, hforce, List.foldl_cons, batchOne_refuses accessCheck_refused]
  rfl

theorem batchPasses_waiting : batchPasses batchWaits [batchOutput, batchForce 4, batchForce 5] =
    [(3, batchOutput), (4, batchForce 4), (5, batchForce 5)] := by
  simp [batchPasses, accessCheck_output, accessCheck_waiting]

theorem headBatch_waiting : headBatch batchWaits 1 = [batchOutput, batchForce 4, batchForce 5] := by decide +kernel

/-- Capacity, quota and dirty set cover the three updates. -/
theorem batch_fits : batchCost batchWaits [(3, batchOutput), (4, batchForce 4), (5, batchForce 5)] = 3 ∧
    batchQuota batchWaits [(3, batchOutput), (4, batchForce 4), (5, batchForce 5)] = true ∧
    batchBlocked batchWaits [(3, batchOutput), (4, batchForce 4), (5, batchForce 5)] = false := by
  decide +kernel

theorem batchStep_waiting : batchStep 1 batchWaits = forceRefused := by
  obtain ⟨hcost, hquota, hblocked⟩ := batch_fits
  have hfree : batchWaits.pt.capUsed = 0 := rfl
  simp only [batchStep, headBatch_waiting, batchPasses_waiting, hcost, hquota, hblocked, hfree, batch_refuses]
  rfl

theorem admission_waiting : admission batchWaits = advanceClass 5 forceRefused := by
  have hadmits : admits batchWaits = true := by decide +kernel
  have hserved : nextServed batchWaits = some 5 := by decide +kernel
  have hqueue : queueOf batchWaits 5 = batchOutput :: [batchForce 4, batchForce 5] := by decide +kernel
  have hpassed : forceRefused.pt.passed.contains 5 = false := by decide +kernel
  have hbatch : batchOutput.batch = 1 := rfl
  rw [admission, if_pos hadmits, admitNext, hserved]
  dsimp only
  rw [hqueue]
  dsimp only
  rw [if_pos (by decide), hbatch, batchStep_waiting, hpassed]
  rfl

theorem admitUpdate_capUsed : (admitUpdate batchWaits).pt.capUsed = 2 := by
  rw [admitUpdate, admission_waiting]
  decide +kernel

/-- Refutes O38: the clause on batches asks only of the head that it is the task's. Three updates of this batch pass before the first is
admitted, but the second force then finds the table full, and the batch takes the capacity of two. -/
theorem not_taskCycleAndWindow : ¬ Obligations.TaskCycleAndWindow := by
  rintro ⟨-, -, hbatch, -⟩
  obtain ⟨hcost, hquota, hblocked⟩ := batch_fits
  obtain ⟨t, ht, hcap, -⟩ := hbatch batchWaits 0 batchOutput [batchOutput, batchForce 4, batchForce 5]
    [(3, batchOutput), (4, batchForce 4), (5, batchForce 5)] (by decide +kernel) (by decide +kernel) (by decide +kernel)
    headBatch_waiting.symm batchPasses_waiting.symm rfl (by decide +kernel) (by rw [hcost]; decide +kernel) hquota hblocked (by decide +kernel)
    rfl (by decide +kernel)
  have ht : done batchWaits (if batchNext batchWaits 0 then writeResponses batchWaits (admitUpdate batchWaits) else batchWaits) = .next t := ht
  have hquiet : noWriteWaits batchWaits := by unfold noWriteWaits; decide +kernel
  rw [if_pos (by decide +kernel), writeResponses_of_noWriteWaits _ (noWriteWaits_admitUpdate hquiet)] at ht
  rw [done_pt ht, admitUpdate_capUsed, hcost] at hcap
  exact absurd hcap (by decide +kernel)

end Sys2Proof.Machine

/-! ### Data frames behind a broken joint (R165, R484)

A value that a data frame brings is offered to the point engine over the joint of its port, and waits there while that joint is broken
(R484): it does not enter the queue of its class, though that is open. -/

namespace Sys2Proof.Machine

/-- The map entry by which item 17 of node 5 on port 3 goes to record 4. -/
def dataMap : MapEntry := { port := 3, node := 5, cmd := false, index := 4, place := 17 }

/-- The value 33 of item 17. -/
def dataItem : FpmItem := { item := 17, value := 33 }

/-- The update that the item makes. -/
def dataUpdate : Update := { src := nodeSrc 3 5, target := .idx 4, kind := .value 33 .valid, lane := some 0 }

/-- In ACTIVE mode RS-485 port 3 ACTIVE with node 5 up, and the joint of the port (R483: 6, channel 3) broken. -/
def portJointBroken : State :=
  [(Reg.MODE_STAT_MODE, 3), (Reg.SEG_PCFG_PERS.inst 3, 2), (Reg.SEG_STAT_PSTATE.inst 3, 4), (Reg.SEG_NEXPLO_BITS.inst 3, 0x20),
    (Reg.SEG_NUPLO_BITS.inst 3, 0x20)].foldl (fun s e => s.set e.1 e.2)
    { State.reset with
      sheets := { State.reset.sheets with config := some { maps := [dataMap] } },
      pt := { State.reset.pt with recs := [(4, { typ := 2 })] },
      clk := { State.reset.clk with broken := [(32 * 6 + 3, 0)] } }

theorem queueOf_data_portJointBroken :
    queueOf (fpmReceive 3 true 0 0 5 0 (dataItems 3 5 [dataItem]) portJointBroken) 1 = [] := by decide +kernel

/-- Refutes O29: the queue of class 1 is open and nothing is held at the port, but the update of a data frame waits at the broken joint
of the port and does not enter the queue. -/
theorem not_portFramesAndCommands : ¬ Obligations.PortFramesAndCommands := by
  rintro ⟨-, -, hdata, -⟩
  obtain ⟨t, ht, hqueue⟩ := hdata portJointBroken 3 0 5 0 0 dataItem dataMap dataUpdate (by decide +kernel) (by decide +kernel)
    (by decide +kernel) (by decide +kernel) (by decide +kernel) (by decide +kernel) (by decide +kernel) (by decide +kernel)
    (by decide +kernel) (by decide +kernel) (by decide +kernel) ⟨by decide +kernel, by decide +kernel⟩
  have ht : done portJointBroken (fpmReceive 3 true 0 0 5 0 (dataItems 3 5 [dataItem]) portJointBroken) = .next t := ht
  have hclass : srcClass dataUpdate.src = 1 := rfl
  rw [hclass, queueOf, done_pt ht, ← queueOf, queueOf_data_portJointBroken] at hqueue
  simp at hqueue

end Sys2Proof.Machine

/-! ### The close of a switch that waits after a shed (R183)

The wait after a shed goes on though the switch was opened meanwhile, and such a switch is closed by FEED_SHED_RECLOSE. It is due as one
that waits to close is, but FEED_CLOSE leaves it. -/

namespace Sys2Proof.Machine

/-- Port 3 in ACTIVE mode, ACTIVE and graded A with its feed on; its switch was shed 5 s ago and has been opened since. -/
def shedOpened : State :=
  [(Reg.MODE_STAT_MODE, 3), (Reg.SEG_STAT_PSTATE.inst 3, 4), (Reg.SEG_STAT_SVYVALID.inst 3, 1), (Reg.SEG_SVYRES_GRADE.inst 3, 1),
    (Reg.SEG_FCFG_FMODE.inst 3, 1)].foldl (fun s e => s.set e.1 e.2)
    { State.reset with now := 5 * second, seg := { State.reset.seg with ports := [(3, { feed := { sheds := [0], shed := true } })] } }

theorem feedClose_shedOpened : fstate (feedClose 3 shedOpened) 3 = 0 := by decide +kernel

/-- Refutes O30: a switch that waits after a shed is the next one due, and FEED_CLOSE leaves it OPEN. -/
theorem not_fieldFeeds : ¬ Obligations.FieldFeeds := by
  rintro ⟨hclose, -⟩
  obtain ⟨t, ht, hstate, -⟩ := hclose shedOpened 3 (by decide +kernel) (by decide +kernel) (by decide +kernel) (by decide +kernel)
  have ht : done shedOpened (feedClose 3 shedOpened) = .next t := ht
  have hopen : fstate t 3 = 0 := (done_get ht (by decide) (by decide)).trans feedClose_shedOpened
  exact absurd (hopen.symm.trans hstate) (by decide)

end Sys2Proof.Machine

/-! ### Fields of the ports' pages

A field of the SEG, PBUS and LINK pages is placed on the page of one port. Two of them with other places on their pages, or on pages of
other ranges, are apart on every port, which `decide` settles for two named fields. -/

namespace Sys2Proof.Machine

/-- The fields are apart on whatever pages they are placed: at another place in the page, or in an earlier range of pages. -/
def RegField.apart (f g : RegField) : Bool :=
  f.key % 32768 ≠ g.key % 32768 || f.key + f.npages * 32768 ≤ g.key || g.key + g.npages * 32768 ≤ f.key

/-- A field of many pages that no command's end changes. -/
def RegField.settled (f : RegField) : Bool :=
  0 < f.npages && f.wordOf ≠ 7 && f.key + f.npages * 32768 ≤ Reg.PAIR_LASTTKO_MS.key

section
variable {f g : RegField} {s s' t : State}

@[simp] theorem RegField.width_inst (f : RegField) (n : Nat) : (f.inst n).width = f.width := rfl

theorem RegField.key_inst_ne (hf : 0 < f.npages) (hg : 0 < g.npages) (h : f.apart g = true) (a b : Nat) :
    (f.inst a).key ≠ (g.inst b).key := by
  simp only [RegField.apart, Bool.or_eq_true, decide_eq_true_eq] at h
  have ha := Nat.mod_lt a hf
  have hb := Nat.mod_lt b hg
  rw [RegField.key_inst, RegField.key_inst]
  generalize a % f.npages = x at *
  generalize b % g.npages = y at *
  omega

@[simp] theorem State.get_set_inst_ne (hf : 0 < f.npages) (hg : 0 < g.npages) (h : f.apart g = true) (s : State) (a b v : Nat) :
    (s.set (g.inst b) v).get (f.inst a) = s.get (f.inst a) := State.get_set_ne (RegField.key_inst_ne hf hg h a b) s v

@[simp] theorem State.get_set_inst_below (h : f.key < g.key) (s : State) (b v : Nat) : (s.set (g.inst b) v).get f = s.get f :=
  State.get_set_ne (by rw [RegField.key_inst]; omega) s v

theorem RegField.npages_pos_of_settled (hf : f.settled = true) : 0 < f.npages := by
  simp only [RegField.settled, Bool.and_eq_true, decide_eq_true_eq] at hf
  obtain ⟨⟨hpos, -⟩, -⟩ := hf
  exact hpos

theorem RegField.settled_inst (hf : f.settled = true) (n : Nat) :
    (f.inst n).wordOf ≠ 7 ∧ (f.inst n).key ≠ Reg.PAIR_LASTTKO_MS.key := by
  simp only [RegField.settled, Bool.and_eq_true, decide_eq_true_eq] at hf
  obtain ⟨⟨hpos, hword⟩, hkey⟩ := hf
  have hn := Nat.mod_lt n hpos
  have hplace := f.key_inst n
  generalize n % f.npages = x at *
  unfold RegField.wordOf at hword ⊢
  omega

theorem done_get_inst (h : done s s' = .next t) (hf : f.settled = true) (n : Nat) : t.get (f.inst n) = s'.get (f.inst n) :=
  done_get h (RegField.settled_inst hf n).1 (RegField.settled_inst hf n).2

theorem done_pstate (h : done s s' = .next t) (n : Nat) : pstate t n = pstate s' n := done_get_inst h (by decide) n

theorem done_fstate (h : done s s' = .next t) (n : Nat) : fstate t n = fstate s' n := done_get_inst h (by decide) n

theorem done_segPort (h : done s s' = .next t) (n : Nat) : t.segPort n = s'.segPort n := by
  rw [State.segPort, State.segPort, done_seg h]

theorem pstate_set_inst (hg : 0 < g.npages) (h : Reg.SEG_STAT_PSTATE.apart g = true) (s : State) (a b v : Nat) :
    pstate (s.set (g.inst b) v) a = pstate s a := State.get_set_inst_ne (by decide) hg h s a b v

theorem pers_set_inst (hg : 0 < g.npages) (h : Reg.SEG_PCFG_PERS.apart g = true) (s : State) (a b v : Nat) :
    pers (s.set (g.inst b) v) a = pers s a := State.get_set_inst_ne (by decide) hg h s a b v

@[simp] theorem segPort_setSegPort_same (s : State) (p : Nat) (x : SegPort) : (s.setSegPort p x).segPort p = x := tabGet_put_same ..

@[simp] theorem State.get_setSegPort (s : State) (p : Nat) (x : SegPort) (f : RegField) : (s.setSegPort p x).get f = s.get f := rfl

end

/-! ### The end of a port's line (R155)

What follows when the line of a port stops, when it loses nodes, when a beacon leaves, when a survey ends and when its switch opens. -/

/-- The fields of the SEG pages that follow. -/
def stopFields : List RegField :=
  [Reg.SEG_NUPLO_BITS, Reg.SEG_NUPHI_BITS, Reg.SEG_STAT_FSTATE, Reg.SEG_FMEAS_FCUR, Reg.SEG_GCUR_MA, Reg.SEG_MCUR_MA,
    Reg.SEG_FAULT_NODELOST, Reg.SEG_NLOST_COUNT, Reg.SEG_BSEQ_LAST, Reg.SEG_BTX_COUNT, Reg.SEG_STAT_SVYBUSY, Reg.SEG_STAT_SVYQUEUED,
    Reg.SEG_FAULT_SVYABORT]

/-- What the end of a line may change, whatever the port. -/
def stopFrame : Frame :=
  ⟨[.out, .pt, .seg, .pbus, .pwr, .clk, .acc], [(0x040, 0x040), (0x078, 0x078), (0x120, 0x13F), (0x140, 0x15F)],
    Reg.MODE_PWRST_DOZE :: stopFields.flatMap fun f => (List.range 32).map f.inst⟩

section
variable {f : RegField} {s u : State}

theorem stopFields_npages : ∀ f ∈ stopFields, f.npages = 32 := by decide

@[simp] theorem inFrame_stop (h : f ∈ stopFields) (n : Nat) : inFrame stopFrame.pages stopFrame.fields (f.inst n) := by
  refine inFrame_of_mem (List.mem_cons_of_mem _ (List.mem_flatMap.2 ⟨f, h, List.mem_map.2 ⟨n % 32, by simp; omega, ?_⟩⟩))
  simp [RegField.inst, stopFields_npages f h]

@[simp] theorem inFrame_stop_doze : inFrame stopFrame.pages stopFrame.fields Reg.MODE_PWRST_DOZE := inFrame_cons_self ..

@[simp] theorem stop_setNup (p v : Nat) : stopFrame.holds s (setNup p v u) ↔ stopFrame.holds s u :=
  Frame.holds_step (by simp +decide [setNup])

@[simp] theorem stop_lineStop (p : Nat) : stopFrame.holds s (lineStop p u) ↔ stopFrame.holds s u :=
  Frame.holds_step (by simp +decide [lineStop])

@[simp] theorem stop_showSums : stopFrame.holds s (showSums u) ↔ stopFrame.holds s u :=
  Frame.holds_step ((holds_foldl (fun u q => by simp +decide) _).2 Frame.holds_refl)

@[simp] theorem stop_setFstate (p v : Nat) : stopFrame.holds s (setFstate p v u) ↔ stopFrame.holds s u :=
  Frame.holds_step (by simp +decide [setFstate])

@[simp] theorem stop_feedOpen (p : Nat) : stopFrame.holds s (feedOpen p u) ↔ stopFrame.holds s u :=
  Frame.holds_step (by simp +decide [feedOpen])

@[simp] theorem stop_surveyEnd (p : Nat) : stopFrame.holds s (surveyEnd p u) ↔ stopFrame.holds s u :=
  Frame.holds_step (by simp +decide [surveyEnd])

@[simp] theorem stop_surveyAbort (p : Nat) : stopFrame.holds s (surveyAbort p u) ↔ stopFrame.holds s u :=
  Frame.holds_step (by simp +decide [surveyAbort])

@[simp] theorem stop_setSvyQueue (g p : Nat) (q : List Nat) : stopFrame.holds s (setSvyQueue g p q u) ↔ stopFrame.holds s u :=
  Frame.holds_step (by simp +decide [setSvyQueue])

@[simp] theorem stop_surveyForget (p : Nat) : stopFrame.holds s (surveyForget p u) ↔ stopFrame.holds s u :=
  Frame.holds_step (by simp +decide [surveyForget])

@[simp] theorem stop_beaconOut (p : Nat) (leave : Bool) : stopFrame.holds s (beaconOut p leave u) ↔ stopFrame.holds s u :=
  Frame.holds_step (by simp +decide [beaconOut])

@[simp] theorem stop_busDropNode (p j : Nat) : stopFrame.holds s (busDropNode p j u) ↔ stopFrame.holds s u :=
  Frame.holds_step (by simp +decide [busDropNode])

@[simp] theorem stop_loseNode (p j : Nat) : stopFrame.holds s (loseNode p j u) ↔ stopFrame.holds s u :=
  Frame.holds_step (by simp +decide [loseNode])

/-- A field of the SEG pages that the end of a line leaves. -/
def RegField.staysAtStop (f : RegField) : Bool :=
  onPages [(0x100, 0x11F)] f && f.settled && 0x100 * 32768 ≤ f.key && stopFields.all fun g => f.apart g

theorem RegField.settled_of_staysAtStop (hf : f.staysAtStop = true) : f.settled = true := by
  simp only [RegField.staysAtStop, Bool.and_eq_true] at hf
  obtain ⟨⟨⟨-, hsettled⟩, -⟩, -⟩ := hf
  exact hsettled

theorem stopFrame_leaves_inst (hf : f.staysAtStop = true) (n : Nat) : stopFrame.leaves (f.inst n) := by
  simp only [RegField.staysAtStop, Bool.and_eq_true, decide_eq_true_eq, List.all_eq_true] at hf
  obtain ⟨⟨⟨hpages, hsettled⟩, hkey⟩, hapart⟩ := hf
  have hpos := RegField.npages_pos_of_settled hsettled
  obtain ⟨hword, hlasttko⟩ := RegField.settled_inst hsettled n
  refine ⟨hword, hlasttko, ?_, ?_⟩
  · obtain ⟨r, hr, hlo, hhi⟩ := covers_iff.1 (covers_inst hpages n)
    rw [List.mem_singleton] at hr
    subst hr
    rw [RegField.pageOf_eq (f := f.inst n) (show f.inPage = true from inPage_of_onPages hpages)]
    simp only [stopFrame, RegField.inst] at *
    simp
    omega
  · intro g hg
    rcases List.mem_cons.1 hg with rfl | hg
    · have hdoze : Reg.MODE_PWRST_DOZE.key < 0x100 * 32768 := by decide
      rw [RegField.key_inst]
      omega
    · obtain ⟨x, hx, hg⟩ := List.mem_flatMap.1 hg
      obtain ⟨k, -, rfl⟩ := List.mem_map.1 hg
      exact RegField.key_inst_ne hpos (by rw [stopFields_npages x hx]; decide) (hapart x hx) n k

theorem stop_get_inst (h : stopFrame.holds s u) (hf : f.staysAtStop = true) (n : Nat) : u.get (f.inst n) = s.get (f.inst n) :=
  h.2 _ (stopFrame_leaves_inst hf n)

/-- Of the pages before those of the ports the end of a line leaves every field but DOZE and those of two pages. -/
theorem stop_get_below (h : stopFrame.holds s u) (hf : f.key < 0x100 * 32768) (hpage : f.pageOf ≠ 0x040 ∧ f.pageOf ≠ 0x078)
    (hword : f.wordOf ≠ 7) (hdoze : f.key ≠ Reg.MODE_PWRST_DOZE.key) : u.get f = s.get f := by
  refine h.2 f ⟨hword, ?_, ?_, ?_⟩
  · have hlasttko : 0x100 * 32768 ≤ Reg.PAIR_LASTTKO_MS.key := by decide
    omega
  · have hlt : f.pageOf < 0x100 := by unfold RegField.pageOf; omega
    simp only [stopFrame, List.forall_mem_cons]
    refine ⟨by omega, by omega, by omega, by omega, by simp⟩
  · intro g hg
    rcases List.mem_cons.1 hg with rfl | hg
    · exact hdoze
    · obtain ⟨x, hx, hg⟩ := List.mem_flatMap.1 hg
      obtain ⟨k, -, rfl⟩ := List.mem_map.1 hg
      have hx : 0x100 * 32768 ≤ x.key := (show ∀ x ∈ stopFields, 0x100 * 32768 ≤ x.key by decide) x hx
      rw [RegField.key_inst]
      omega

section
variable (h : stopFrame.holds s u)
include h

theorem stop_pstate (n : Nat) : pstate u n = pstate s n := stop_get_inst h (by decide) n
theorem stop_short : u.get Reg.MODE_STAT_SHORT = s.get Reg.MODE_STAT_SHORT :=
  stop_get_below h (by decide) (by decide) (by decide) (by decide)
end

end

end Sys2Proof.Machine

/-! ### The state of a port, and the shortfall of failed ports (R154, R431) -/

namespace Sys2Proof.Machine

section
variable {f : RegField} {s u : State} {p n : Nat}

@[simp] theorem showMonitor_get_inst (hf : 0 < f.npages) (h : f.apart Reg.PBUS_STAT_MON = true) (p a : Nat) (s : State) :
    (showMonitor p s).get (f.inst a) = s.get (f.inst a) := by
  unfold showMonitor
  split
  · rfl
  · exact State.get_set_inst_ne hf (by decide) h s a p _

/-- A port's new state shows in PSTATE; of the other fields at most bus monitoring follows. -/
@[simp] theorem setPstate_get_inst (hf : 0 < f.npages) (h : f.apart Reg.PBUS_STAT_MON = true) (hp : f.apart Reg.SEG_STAT_PSTATE = true)
    (p v a : Nat) (s : State) : (setPstate p v s).get (f.inst a) = s.get (f.inst a) := by
  rw [setPstate, showMonitor_get_inst hf h, State.get_set_inst_ne hf (by decide) hp]

theorem pstate_setPstate_same (p v : Nat) (s : State) : pstate (setPstate p v s) p = v % 8 := by
  rw [pstate, setPstate, showMonitor_get_inst (by decide) (by decide), State.get_set_same]
  rfl

theorem pstate_setPstate_ne (hn : n < 32) (hp : p < 32) (h : n ≠ p) (v : Nat) (s : State) :
    pstate (setPstate p v s) n = pstate s n := by
  have hkey : (Reg.SEG_STAT_PSTATE.inst n).key ≠ (Reg.SEG_STAT_PSTATE.inst p).key := by
    rw [RegField.key_inst, RegField.key_inst, show Reg.SEG_STAT_PSTATE.npages = 32 from rfl, Nat.mod_eq_of_lt hn, Nat.mod_eq_of_lt hp]
    omega
  rw [pstate, setPstate, showMonitor_get_inst (by decide) (by decide), State.get_set_ne hkey, pstate]

theorem setPstate_get_below (h : f.key < 0x100 * 32768) (p v : Nat) (s : State) : (setPstate p v s).get f = s.get f := by
  have hmon : f.key < Reg.PBUS_STAT_MON.key := lt_trans h (by decide)
  have hpstate : f.key < Reg.SEG_STAT_PSTATE.key := lt_of_lt_of_le h (by decide)
  unfold setPstate showMonitor
  split
  · exact State.get_set_inst_below hpstate s p v
  · exact (State.get_set_inst_below hmon _ p _).trans (State.get_set_inst_below hpstate s p v)

/-- A port is FAILED. -/
def anyFailed (s : State) : Bool := (List.range 32).any fun n => pstate s n = 6

/-- The shortfall of failed ports is as the ports are. -/
def shortSettled (s : State) : Prop := (s.get Reg.MODE_STAT_SHORT).testBit 3 = anyFailed s

/-- Where the shortfall is as the ports are, only the wait for the hold-up check may end (R187). -/
theorem failedPorts_of_settled (h : shortSettled s) : ∃ b, failedPorts s = { s with seg := { s.seg with awaitCheck := b } } := by
  unfold failedPorts
  split
  next hany =>
    rw [beginShort, if_pos (h.trans hany), degradedFollow]
    split
    · exact ⟨false, rfl⟩
    · exact ⟨s.seg.awaitCheck, rfl⟩
  next hany =>
    have hnone : (s.get Reg.MODE_STAT_SHORT).testBit 3 = false := h.trans (by simpa [anyFailed] using hany)
    rw [endShort, if_neg (by simp [hnone])]
    exact ⟨s.seg.awaitCheck, rfl⟩

/-- What a command says of the registers and of the ports, it says with `failedPorts` behind it too. -/
theorem failedPorts_get (h : shortSettled s) (f : RegField) : (failedPorts s).get f = s.get f := by
  obtain ⟨b, hb⟩ := failedPorts_of_settled h
  rw [hb]
  rfl

/-- One port has left FAILED or never was in it, and the others are as before. -/
theorem shortSettled_of_left (hp : pstate u p ≠ 6) (hothers : ∀ n < 32, n ≠ p → pstate u n = pstate s n)
    (hshort : u.get Reg.MODE_STAT_SHORT = s.get Reg.MODE_STAT_SHORT)
    (h : (s.get Reg.MODE_STAT_SHORT).testBit 3 = (List.range 32).any fun n => n ≠ p && pstate s n = 6) : shortSettled u := by
  rw [shortSettled, hshort, h, anyFailed, Bool.eq_iff_iff]
  simp only [List.any_eq_true, List.mem_range, Bool.and_eq_true, decide_eq_true_eq]
  constructor
  · rintro ⟨n, hn, hne, hfailed⟩
    exact ⟨n, hn, (hothers n hn hne).trans hfailed⟩
  · rintro ⟨n, hn, hfailed⟩
    have hne : n ≠ p := fun e => hp (e ▸ hfailed)
    exact ⟨n, hn, hne, (hothers n hn hne).symm.trans hfailed⟩

/-- All ports are as before. -/
theorem shortSettled_congr (hports : ∀ n, pstate u n = pstate s n) (hshort : u.get Reg.MODE_STAT_SHORT = s.get Reg.MODE_STAT_SHORT)
    (h : shortSettled s) : shortSettled u := by
  simp only [shortSettled, anyFailed, hshort, hports]
  exact h

/-- After the new state of a port the shortfall is as the ports are, if it was so but for that port. -/
theorem shortSettled_setPstate {v : Nat} (hp : p < 32) (hv : v % 8 ≠ 6) (hports : ∀ n, pstate u n = pstate s n)
    (hshort : u.get Reg.MODE_STAT_SHORT = s.get Reg.MODE_STAT_SHORT)
    (h : (s.get Reg.MODE_STAT_SHORT).testBit 3 = (List.range 32).any fun n => n ≠ p && pstate s n = 6) :
    shortSettled (setPstate p v u) := by
  refine shortSettled_of_left (s := s) (p := p) ?_ (fun n hn hne => ?_) ?_ h
  · rwa [pstate_setPstate_same]
  · rw [pstate_setPstate_ne hn hp hne, hports]
  · rw [setPstate_get_below (by decide), hshort]

end

end Sys2Proof.Machine

/-! ### Enabling, disabling, restarting and failing ports (R155, R157, R158, R177) -/

namespace Sys2Proof.Machine

section
variable {f : RegField} {s u v t : State} {p : Nat}

/-- A port that goes to OFF ends its line, and then shows OFF. -/
theorem portOff_eq (p : Nat) (s : State) : ∃ u, stopFrame.holds s u ∧ portOff p false s = setPstate p 0 u := by
  refine ⟨_, ?_, rfl⟩
  simp +decide

/-- A port that is surveyed ends its line, and then shows SURVEY. -/
theorem surveyBegin_eq (p : Nat) (s : State) :
    ∃ u, stopFrame.holds s u ∧ surveyBegin p s = (setPstate p 1 u).raise (Reg.SEG_STAT_SVYBUSY.inst p) := by
  refine ⟨_, ?_, rfl⟩
  simp +decide [State.setSegPort]

/-- A port that goes out of service sends its last beacon, and then shows OOS. -/
theorem enterOos_eq (h : pers s p ≠ 1) : ∃ u, stopFrame.holds s u ∧ enterOos p s = oosRequest p none true (setPstate p 5 u) := by
  refine ⟨_, ?_, by rw [enterOos, if_neg h]⟩
  simp +decide

/-- A port that fails loses its nodes and ends its line, then shows FAILED, and records it. -/
theorem portFail_eq {cause : Nat} (hstate : pstate s p = 2) (hclosed : cause = 3 → closed s p = false) :
    ∃ u items, stopFrame.holds s u ∧
      portFail p cause s = logEvent 0x0200 5 items ((setPstate p 6 u).raise (Reg.SEG_FAULT_PORTFAIL.inst p)) := by
  have hgo : ¬ (pstate s p = 0 ∨ pstate s p = 6 ∨ (cause = 3 ∧ closed s p = true)) := by
    rw [hstate]
    rintro (h | h | ⟨hc, h⟩)
    · omega
    · omega
    · simp [hclosed hc] at h
  refine ⟨_, _, ?_, by rw [portFail, if_neg hgo]⟩
  simp +decide

/-- What the state of port `p` and a field of its page show after the end of its line, its new state and what still follows. -/
theorem done_get_stop (ht : done s v = .next t) (hv : stopFrame.holds u v) (hf : f.staysAtStop = true) (n : Nat) :
    t.get (f.inst n) = u.get (f.inst n) := by
  rw [done_get_inst ht (RegField.settled_of_staysAtStop hf), stop_get_inst hv hf]

/-- What a command shows with `failedPorts` behind its effect, where the shortfall is as the ports are. -/
theorem done_failedPorts_get (ht : done s (failedPorts v) = .next t) (hv : shortSettled v) (hf : f.settled = true) (n : Nat) :
    t.get (f.inst n) = v.get (f.inst n) := by
  rw [done_get_inst ht hf, failedPorts_get hv]

theorem portsMayRun_congr (hmode : u.get Reg.MODE_STAT_MODE = s.get Reg.MODE_STAT_MODE)
    (hpaired : u.get Reg.PRPT_AO_PAIRED = s.get Reg.PRPT_AO_PAIRED) (hprpt : u.prpt = s.prpt) : portsMayRun u = portsMayRun s := by
  simp only [portsMayRun, paired, State.bit, hmode, hpaired, hprpt]

theorem storedGrade_congr (hvalid : u.get (Reg.SEG_STAT_SVYVALID.inst p) = s.get (Reg.SEG_STAT_SVYVALID.inst p))
    (hgrade : u.get (Reg.SEG_SVYRES_GRADE.inst p) = s.get (Reg.SEG_SVYRES_GRADE.inst p)) : storedGrade u p = storedGrade s p := by
  rw [storedGrade, State.bit, hvalid, hgrade]
  rfl

@[simp] theorem storedGrade_setPstate (p v : Nat) (s : State) : storedGrade (setPstate p v s) p = storedGrade s p :=
  storedGrade_congr (by simp +decide) (by simp +decide)

@[simp] theorem pers_setPstate (p v n : Nat) (s : State) : pers (setPstate p v s) n = pers s n := by
  simp +decide [pers]

/-- A T1L port with a grade A to D waits in READY for its link. -/
theorem enterReady_of_t1l (hpers : pers s p = 0) (hgrade : storedGrade s p ≤ 4) : enterReady p s = setPstate p 2 s := by
  have hbad : storedGrade s p ≠ 5 := by omega
  simp [enterReady, hpers, hbad]

theorem portEnable_of_graded (hstate : pstate s p = 0) (hrun : portsMayRun s = true) (hlo : 1 ≤ storedGrade s p)
    (hhi : storedGrade s p ≤ 4) (hoos : s.get (Reg.SEG_POOS_OOS.inst p) = 0) :
    portEnable p s = enterReady p (s.set (Reg.SEG_CTRL_EN.inst p) 1) := by
  have hstate' : pstate (s.set (Reg.SEG_CTRL_EN.inst p) 1) p = 0 := (pstate_set_inst (by decide) (by decide) ..).trans hstate
  have hrun' : portsMayRun (s.set (Reg.SEG_CTRL_EN.inst p) 1) = true := by
    rwa [portsMayRun_congr (s := s) (State.get_set_inst_below (by decide) ..) (State.get_set_inst_below (by decide) ..) rfl]
  have hgrade : storedGrade (s.set (Reg.SEG_CTRL_EN.inst p) 1) p = storedGrade s p :=
    storedGrade_congr (by simp +decide) (by simp +decide)
  have hoos' : (s.set (Reg.SEG_CTRL_EN.inst p) 1).get (Reg.SEG_POOS_OOS.inst p) = 0 := by simpa +decide using hoos
  have hnone : storedGrade s p ≠ 0 := by omega
  simp [portEnable, hstate', hrun', hgrade, hoos', hnone, State.bit]

/-- SEG_ENABLE of a port in OFF with a stored grade A to D (R155). -/
theorem segEnable_effect (p : Fin 32) (hstate : pstate s p.val = 0) (hrun : portsMayRun s = true) (hlo : 1 ≤ storedGrade s p.val)
    (hhi : storedGrade s p.val ≤ 4) (hoos : s.get (Reg.SEG_POOS_OOS.inst p.val) = 0) (hpers : pers s p.val = 0)
    (hfree : undisturbed s (0x100 + p.val)) :
    ∃ t, exec (.segEnable p) s = .next t ∧ t.get (Reg.SEG_CTRL_EN.inst p.val) = 1 ∧ pstate t p.val = 2 := by
  refine done_completes fun t ht => ?_
  have heffect : portEnable p.val s = setPstate p.val 2 (s.set (Reg.SEG_CTRL_EN.inst p.val) 1) := by
    rw [portEnable_of_graded hstate hrun hlo hhi hoos, enterReady_of_t1l]
    · exact (pers_set_inst (by decide) (by decide) ..).trans hpers
    · rwa [storedGrade_congr (s := s) (by simp +decide) (by simp +decide)]
  rw [unlessBusy_free _ hfree, heffect] at ht
  constructor
  · rw [done_get_inst ht (by decide), setPstate_get_inst (by decide) (by decide) (by decide), State.get_set_same]
    rfl
  · rw [done_pstate ht, pstate_setPstate_same]

/-- SEG_DISABLE (R155): the line ends, and the switch opens. -/
theorem segDisable_effect (p : Fin 32) (hfree : undisturbed s (0x100 + p.val))
    (hshort : (s.get Reg.MODE_STAT_SHORT).testBit 3 = (List.range 32).any fun n => n ≠ p.val && pstate s n = 6) :
    ∃ t, exec (.segDisable p) s = .next t ∧ t.get (Reg.SEG_CTRL_EN.inst p.val) = 0 ∧ pstate t p.val = 0 := by
  refine done_completes fun t ht => ?_
  obtain ⟨u, hu, heffect⟩ := portOff_eq p.val (s.set (Reg.SEG_CTRL_EN.inst p.val) 0)
  rw [unlessBusy_free _ hfree, portDisable, heffect] at ht
  have hopen : stopFrame.holds (setPstate p.val 0 u) (feedOpen p.val (setPstate p.val 0 u)) := by simp
  have hset : shortSettled (setPstate p.val 0 u) := shortSettled_setPstate p.isLt (by decide)
    (fun n => (stop_pstate hu n).trans (pstate_set_inst (by decide) (by decide) ..))
    ((stop_short hu).trans (State.get_set_inst_below (by decide) ..)) hshort
  have hsettled := shortSettled_congr (stop_pstate hopen) (stop_short hopen) hset
  constructor
  · rw [done_failedPorts_get ht hsettled (by decide), stop_get_inst hopen (by decide),
      setPstate_get_inst (by decide) (by decide) (by decide), stop_get_inst hu (by decide), State.get_set_same, Nat.zero_mod]
  · rw [pstate, done_failedPorts_get ht hsettled (by decide), ← pstate, stop_pstate hopen, pstate_setPstate_same]

/-- A FAILED port whose group's engine is free is surveyed at once (R155, R177). -/
theorem portRestart_effect (p : Fin 32) (hstate : pstate s p.val = 6) (hengine : engineFree s (p.val / 8) = true)
    (hfree : undisturbed s (0x100 + p.val))
    (hshort : (s.get Reg.MODE_STAT_SHORT).testBit 3 = (List.range 32).any fun n => n ≠ p.val && pstate s n = 6) :
    ∃ t, exec (.portRestart p) s = .next t ∧ pstate t p.val = 1 ∧ t.get (Reg.SEG_STAT_SVYBUSY.inst p.val) = 1 := by
  refine done_completes fun t ht => ?_
  obtain ⟨u, hu, heffect⟩ := surveyBegin_eq p.val s
  rw [unlessBusy_free _ hfree, portRestart, if_pos hstate, surveyAccept, if_pos hengine, heffect, State.raise_eq] at ht
  have hsettled : shortSettled ((setPstate p.val 1 u).set (Reg.SEG_STAT_SVYBUSY.inst p.val) 1) :=
    shortSettled_congr (fun n => pstate_set_inst (by decide) (by decide) ..) (State.get_set_inst_below (by decide) ..)
      (shortSettled_setPstate p.isLt (by decide) (stop_pstate hu) (stop_short hu) hshort)
  constructor
  · rw [pstate, done_failedPorts_get ht hsettled (by decide), State.get_set_inst_ne (by decide) (by decide) (by decide), ← pstate,
      pstate_setPstate_same]
  · rw [done_failedPorts_get ht hsettled (by decide), State.get_set_same]
    rfl

/-- PORT_OOS_SET of a running port (R157). -/
theorem portOosSet_effect (p : Fin 32) (hstate : pstate s p.val = 3 ∨ pstate s p.val = 4) (hpers : pers s p.val ≠ 1)
    (hfree : undisturbed s (0x100 + p.val)) :
    ∃ t, exec (.portOosSet p) s = .next t ∧ t.get (Reg.SEG_POOS_OOS.inst p.val) = 1 ∧ pstate t p.val = 5 := by
  refine done_completes fun t ht => ?_
  have hstate' : pstate (s.set (Reg.SEG_POOS_OOS.inst p.val) 1) p.val = pstate s p.val := pstate_set_inst (by decide) (by decide) ..
  obtain ⟨u, hu, heffect⟩ := enterOos_eq (s := s.set (Reg.SEG_POOS_OOS.inst p.val) 1) (p := p.val)
    ((pers_set_inst (by decide) (by decide) ..).trans_ne hpers)
  rw [unlessBusy_free _ hfree, portOosSet, State.raise_eq, if_pos (by rwa [hstate']), heffect] at ht
  have hreport : stopFrame.holds (setPstate p.val 5 u) (oosRequest p.val none true (setPstate p.val 5 u)) := by simp +decide
  constructor
  · rw [done_get_stop ht hreport (by decide), setPstate_get_inst (by decide) (by decide) (by decide), stop_get_inst hu (by decide),
      State.get_set_same]
    rfl
  · rw [pstate, done_get_stop ht hreport (by decide), ← pstate, pstate_setPstate_same]

end

end Sys2Proof.Machine

/-! ### Ports and nodes out of service (R157, R657) -/

namespace Sys2Proof.Machine

section
variable {f : RegField} {s u t : State} {p : Nat}

theorem testBit_maskSet (m j : Nat) : (maskSet m j).testBit j = true := by
  unfold maskSet
  split
  · assumption
  next h => rw [Nat.add_comm, Nat.testBit_two_pow_add_eq]; simpa using h

theorem testBit_maskClear (m j : Nat) : (maskClear m j).testBit j = false := by
  unfold maskClear
  split
  next h =>
    have hsum : 2 ^ j + (m - 2 ^ j) = m := Nat.add_sub_cancel' (Nat.ge_two_pow_of_testBit h)
    have hbit := Nat.testBit_two_pow_add_eq (m - 2 ^ j) j
    rw [hsum, h] at hbit
    simpa using hbit.symm
  next h => simpa using h

/-- What two registers of 32 bits hold of a mask. -/
theorem get64_set64 {lo hi : RegField} (hlo : lo.width = 32) (hhi : hi.width = 32) (hkey : lo.key ≠ hi.key) (m : Nat) (s : State) :
    get64 (set64 lo hi m s) lo hi = m % 2 ^ 64 := by
  rw [get64, set64, State.get_set_same, State.get_set_ne hkey, State.get_set_same, hlo, hhi]
  omega

theorem noos_setNoos (p m : Nat) (s : State) : noos (setNoos p m s) p = m % 2 ^ 64 :=
  get64_set64 rfl rfl (RegField.key_inst_ne (by decide) (by decide) (by decide) p p) m s

theorem noos_congr (hlo : u.get (Reg.SEG_NOOSLO_BITS.inst p) = s.get (Reg.SEG_NOOSLO_BITS.inst p))
    (hhi : u.get (Reg.SEG_NOOSHI_BITS.inst p) = s.get (Reg.SEG_NOOSHI_BITS.inst p)) : noos u p = noos s p := by
  simp only [noos, get64, hlo, hhi]

theorem stop_noos (h : stopFrame.holds s u) : noos u p = noos s p :=
  noos_congr (stop_get_inst h (by decide) p) (stop_get_inst h (by decide) p)

theorem done_noos (h : done s u = .next t) : noos t p = noos u p :=
  noos_congr (done_get_inst h (by decide) p) (done_get_inst h (by decide) p)

/-- Behind its new state a port that enters JOINING clears its nodes. -/
theorem stop_enterJoining (p : Nat) (s : State) : stopFrame.holds (setPstate p 3 s) (enterJoining p s) := by
  simp +decide [enterJoining]

theorem pstate_enterJoining (p : Nat) (s : State) : pstate (enterJoining p s) p = 3 := by
  rw [stop_pstate (stop_enterJoining p s), pstate_setPstate_same]

theorem portOosClear_eq (h : pstate s p = 5) :
    ∃ u, stopFrame.holds (s.set (Reg.SEG_POOS_OOS.inst p) 0) u ∧ portOosClear p s = enterJoining p u := by
  have hstate : pstate (s.set (Reg.SEG_POOS_OOS.inst p) 0) p = 5 := (pstate_set_inst (by decide) (by decide) ..).trans h
  refine ⟨_, ?_, by rw [portOosClear, if_pos hstate]⟩
  simp +decide [busIntegrate]

/-- PORT_OOS_CLEAR of a port out of service (R157). -/
theorem portOosClear_effect (p : Fin 32) (hstate : pstate s p.val = 5) (hfree : undisturbed s (0x100 + p.val)) :
    ∃ t, exec (.portOosClear p) s = .next t ∧ t.get (Reg.SEG_POOS_OOS.inst p.val) = 0 ∧ pstate t p.val = 3 := by
  refine done_completes fun t ht => ?_
  obtain ⟨u, hu, heffect⟩ := portOosClear_eq hstate
  rw [unlessBusy_free _ hfree, heffect] at ht
  constructor
  · rw [done_get_stop ht (stop_enterJoining ..) (by decide), setPstate_get_inst (by decide) (by decide) (by decide),
      stop_get_inst hu (by decide), State.get_set_same, Nat.zero_mod]
  · rw [done_pstate ht, pstate_enterJoining]

/-- NODE_OOS_SET of a node in service (R657). -/
theorem nodeOosSet_effect (p : Fin 32) (j : Fin 64) (hbit : (noos s p.val).testBit j.val = false)
    (hfree : undisturbed s (0x100 + p.val)) :
    ∃ t, exec (.nodeOosSet p j) s = .next t ∧ (noos t p.val).testBit j.val = true := by
  refine done_completes fun t ht => ?_
  have hdrop : stopFrame.holds (setNoos p.val (maskSet (noos s p.val) j.val) s) (nodeOosSet p.val j.val s) := by
    rw [nodeOosSet, if_neg (by simp [hbit])]
    simp +decide
  rw [unlessBusy_free _ hfree] at ht
  rw [done_noos ht, stop_noos hdrop, noos_setNoos, Nat.testBit_mod_two_pow, testBit_maskSet]
  simp

/-- NODE_OOS_CLEAR of a node out of service: its points wait for the echo of a later beacon (R157, R657). -/
theorem nodeOosClear_effect (p : Fin 32) (j : Fin 64) (hbit : (noos s p.val).testBit j.val = true)
    (hfree : undisturbed s (0x100 + p.val)) :
    ∃ t, exec (.nodeOosClear p j) s = .next t ∧ (noos t p.val).testBit j.val = false ∧
      tabFind j.val (t.segPort p.val).oosWait = some ((s.get (Reg.SEG_BSEQ_LAST.inst p.val) + 1) % 65536) := by
  refine done_completes fun t ht => ?_
  let s₁ := setNoos p.val (maskClear (noos s p.val) j.val) s
  have hbseq : s₁.get (Reg.SEG_BSEQ_LAST.inst p.val) = s.get (Reg.SEG_BSEQ_LAST.inst p.val) := by simp +decide [s₁, setNoos, set64]
  rw [unlessBusy_free _ hfree, nodeOosClear, if_pos hbit] at ht
  constructor
  · rw [done_noos ht, show noos (waitForEcho p.val j.val s₁) p.val = noos s₁ p.val from rfl, noos_setNoos, Nat.testBit_mod_two_pow,
      testBit_maskClear, Bool.and_false]
  · rw [done_segPort ht, waitForEcho, segPort_setSegPort_same, tabFind_insert_same, hbseq]

theorem logEvent_get_inst (h : 8 * 32768 ≤ f.key) (typ sev : Nat) (items : List Nat) (s : State) (n : Nat) :
    (logEvent typ sev items s).get (f.inst n) = s.get (f.inst n) := by
  refine logEvent_get typ sev items s ?_
  rw [RegField.key_inst]
  omega

/-- Beside a shortfall of the ports one more FAILED port settles it too. -/
theorem shortSettled_of_failed (hp : p < 32) (hstate : pstate s p = 6) (hshort : (s.get Reg.MODE_STAT_SHORT).testBit 3 = true) :
    shortSettled s :=
  hshort.trans (List.any_eq_true.2 ⟨p, List.mem_range.2 hp, decide_eq_true hstate⟩).symm

/-- PORT_FAIL of a port in READY, beside another shortfall of the ports (R158, R431). -/
theorem portFail_effect (p : Fin 32) (c : Fin 4) (hstate : pstate s p.val = 2) (hshort : (s.get Reg.MODE_STAT_SHORT).testBit 3 = true)
    (hclosed : c.val = 2 → closed s p.val = false) :
    ∃ t, exec (.portFail p c) s = .next t ∧ pstate t p.val = 6 ∧ t.get (Reg.SEG_FAULT_PORTFAIL.inst p.val) = 1 := by
  refine done_completes fun t ht => ?_
  obtain ⟨u, items, hu, heffect⟩ := portFail_eq (cause := c.val + 1) hstate fun h => hclosed (by omega)
  rw [heffect, State.raise_eq] at ht
  let v := (setPstate p.val 6 u).set (Reg.SEG_FAULT_PORTFAIL.inst p.val) 1
  have hfailed : pstate (logEvent 0x0200 5 items v) p.val = 6 := by
    rw [pstate, logEvent_get_inst (by decide), ← pstate, pstate_set_inst (by decide) (by decide), pstate_setPstate_same]
  have hsettled : shortSettled (logEvent 0x0200 5 items v) := by
    refine shortSettled_of_failed p.isLt hfailed ?_
    rwa [logEvent_get _ _ _ _ (by decide), State.get_set_inst_below (by decide), setPstate_get_below (by decide), stop_short hu]
  constructor
  · rw [pstate, done_failedPorts_get ht hsettled (by decide), ← pstate, hfailed]
  · rw [done_failedPorts_get ht hsettled (by decide), logEvent_get_inst (by decide), State.get_set_same]
    rfl

end

/-- Settles O26: each clause is the effect of one command, whose new state of the port follows the end of its line
(`stopFrame`); the shortfall of failed ports stays. -/
theorem portControl : Obligations.PortControl :=
  ⟨fun _ => segEnable_effect, fun _ p _ => segDisable_effect p, fun _ p hstate hengine _ => portRestart_effect p hstate hengine,
    fun _ => portOosSet_effect, fun _ p hstate _ => portOosClear_effect p hstate, fun _ p j _ => nodeOosSet_effect p j,
    fun _ => nodeOosClear_effect, fun _ p c hstate _ => portFail_effect p c hstate⟩

end Sys2Proof.Machine

/-! ### The span survey (R173 to R178) -/

namespace Sys2Proof.Machine

section
variable {s u : State}

/-- The survey queues and engines. -/
def svyState (s : State) : Table (List Nat) × Table Nat := (s.seg.svyQueue, s.seg.svyBusy)

theorem svyState_congr (h : u.seg = s.seg) : svyState u = svyState s := by rw [svyState, svyState, h]

theorem svyState_set (f : RegField) (x : Nat) (s : State) : svyState (s.set f x) = svyState s := rfl

theorem svyState_setSegPort (p : Nat) (x : SegPort) (s : State) : svyState (s.setSegPort p x) = svyState s := rfl

theorem svyState_leaveOos (p : Nat) (s : State) : svyState (leaveOos p s) = svyState s := by
  unfold leaveOos
  split
  · exact foldl_keeps svyState (f := fun s j => waitForEcho p j s) (fun u j => svyState_setSegPort ..) _ _
  · rfl

theorem svyState_notDelivered (p : Nat) (is : List Nat) (s : State) : svyState (notDelivered p is s) = svyState s := by
  have hframe : Frame.holds ⟨[.pt, .pwr, .clk], [(0x140, 0x15F)], [Reg.MODE_PWRST_DOZE]⟩ s (notDelivered p is s) := by simp +decide
  exact svyState_congr (hframe.1 .seg (by decide))

theorem svyState_dropCmds (p : Nat) (node : Option Nat) (s : State) : svyState (dropCmds p node s) = svyState s :=
  svyState_notDelivered ..

theorem svyState_setNup (p m : Nat) (s : State) : svyState (setNup p m s) = svyState s := by
  have hframe : Frame.holds ⟨[.pt, .pwr, .clk, .acc], [(0x040, 0x040), (0x078, 0x078), (0x100, 0x11F)], [Reg.MODE_PWRST_DOZE]⟩ s
    (setNup p m s) := by simp +decide
  exact svyState_congr (hframe.1 .seg (by decide))

theorem svyState_busStop (p : Nat) (s : State) : svyState (busStop p s) = svyState s := by
  have hframe : Frame.holds ⟨[.pt, .pbus, .pwr, .clk], [(0x120, 0x13F), (0x140, 0x15F)], [Reg.MODE_PWRST_DOZE]⟩ s (busStop p s) := by
    simp +decide
  exact svyState_congr (hframe.1 .seg (by decide))

theorem svyState_linkDown (p : Nat) (s : State) : svyState (linkDown p s) = svyState s := rfl

theorem svyState_lineStop (p : Nat) (s : State) : svyState (lineStop p s) = svyState s := by
  have hbus (u : State) : svyState (if pers u p = 1 then busStop p u else u) = svyState u := by
    split
    · exact svyState_busStop p u
    · rfl
  have hlink (u : State) : svyState (if pers u p = 0 then linkDown p u else u) = svyState u := by
    split
    · exact svyState_linkDown p u
    · rfl
  rw [lineStop, hlink, hbus, svyState_setSegPort, svyState_setNup, svyState_dropCmds, svyState_leaveOos]

theorem svyState_showSums (s : State) : svyState (showSums s) = svyState s := by
  unfold showSums
  exact foldl_keeps svyState (fun u p => (svyState_set ..).trans (svyState_set ..)) _ _

theorem svyState_setFstate (p x : Nat) (s : State) : svyState (setFstate p x s) = svyState s := by
  unfold setFstate
  extract_lets was s₁
  split
  · exact svyState_showSums _
  · rfl

theorem svyState_feedOpen (p : Nat) (s : State) : svyState (feedOpen p s) = svyState s := by
  unfold feedOpen
  split
  · rfl
  · exact svyState_setFstate ..

theorem svyState_setPstate (p x : Nat) (s : State) : svyState (setPstate p x s) = svyState s := by
  unfold setPstate showMonitor
  split <;> rfl

/-- A survey takes the engine of its group. -/
theorem svyState_surveyBegin (p : Nat) (s : State) :
    svyState (surveyBegin p s) = (s.seg.svyQueue, tabInsert (p / 8) p s.seg.svyBusy) := by
  unfold surveyBegin
  extract_lets frm s₁ x s₂ y s₃
  have hline : svyState s₂ = svyState s :=
    (svyState_setSegPort ..).trans ((svyState_feedOpen ..).trans (svyState_lineStop ..))
  obtain ⟨hqueue, hbusy⟩ := Prod.mk.inj hline
  rw [State.raise_eq, svyState_set, svyState_setPstate]
  simp only [svyState, s₃, y, hqueue, hbusy]

end

end Sys2Proof.Machine

namespace Sys2Proof.Machine

/-! #### Requests, and the start of a queued survey -/

section
variable {s u : State} {p g : Nat} {q : List Nat}

theorem svyState_failedPorts (h : shortSettled s) : svyState (failedPorts s) = svyState s := by
  obtain ⟨b, hb⟩ := failedPorts_of_settled h
  rw [hb]
  rfl

theorem svyQueue_congr (h : svyState u = svyState s) (g : Nat) : svyQueue u g = svyQueue s g := by
  obtain ⟨hqueue, -⟩ := Prod.mk.inj h
  rw [svyQueue, svyQueue, hqueue]

theorem svyQueue_setSvyQueue (g p : Nat) (q : List Nat) (s : State) : svyQueue (setSvyQueue g p q s) g = q := tabGet_put_same ..

/-- A request of a port in READY waits while the engine of its group is taken (R177, R189). -/
theorem surveyRequest_queued (b : Bool) (hlo : 3 ≤ mode s) (hhi : mode s ≤ 6) (hstate : pstate s p = 2)
    (hengine : engineFree s (p / 8) = false) (hroom : (svyQueue s (p / 8)).length < 8) :
    surveyRequest p b s = setSvyQueue (p / 8) p (svyQueue s (p / 8) ++ [p]) s := by
  have hmode : ¬ (mode s = 0 ∨ mode s = 2 ∨ mode s = 7) := by omega
  have hprov : mode s ≠ 1 := by omega
  simp only [mode] at hmode hprov
  simp [surveyRequest, hmode, hprov, hstate, surveyAccept, hengine, hroom]

/-- In a mode without surveys a request is refused (R177, R189). -/
theorem surveyRequest_refused (b : Bool) (hmode : mode s = 0 ∨ mode s = 2 ∨ mode s = 7) :
    surveyRequest p b s = s.raise (Reg.SEG_FAULT_SVYREJ.inst p) := if_pos hmode

theorem surveyStart_begins (hqueue : svyQueue s g = p :: q) (hengine : engineFree s g = true)
    (hmode : portsMayRun s = true ∨ mode s = 1) : surveyStart g s = surveyBegin p (setSvyQueue g p q s) := by
  have hgo : (engineFree s g && (portsMayRun s || decide (s.get Reg.MODE_STAT_MODE = 1))) = true := by
    rw [hengine, Bool.true_and, Bool.or_eq_true, decide_eq_true_eq]
    exact hmode
  rw [surveyStart, hqueue]
  exact if_pos hgo

theorem surveyRequest_queues (p : Fin 32) (b : Bool) (hlo : 3 ≤ mode s) (hhi : mode s ≤ 6) (hstate : pstate s p.val = 2)
    (hengine : engineFree s (p.val / 8) = false) (hfree : undisturbed s (0x100 + p.val))
    (hroom : (svyQueue s (p.val / 8)).length < 8) (hshort : shortSettled s) :
    ∃ t, exec (.surveyRequest p b) s = .next t ∧ svyQueue t (p.val / 8) = svyQueue s (p.val / 8) ++ [p.val] ∧
      t.get (Reg.SEG_STAT_SVYQUEUED.inst p.val) = 1 := by
  refine done_completes fun t ht => ?_
  let u := setSvyQueue (p.val / 8) p.val (svyQueue s (p.val / 8) ++ [p.val]) s
  have hu : stopFrame.holds s u := by simp [u]
  have hsettled : shortSettled u := shortSettled_congr (stop_pstate hu) (stop_short hu) hshort
  rw [unlessBusy_free _ hfree, surveyRequest_queued b hlo hhi hstate hengine hroom] at ht
  constructor
  · rw [svyQueue_congr (svyState_congr (done_seg ht)), svyQueue_congr (svyState_failedPorts hsettled), svyQueue_setSvyQueue]
  · rw [done_failedPorts_get ht hsettled (by decide), setSvyQueue, State.setBit_eq, State.get_set_same, if_pos (by simp)]
    rfl

theorem surveyRequest_refuses (p : Fin 32) (b : Bool) (hmode : mode s = 0 ∨ mode s = 2 ∨ mode s = 7)
    (hfree : undisturbed s (0x100 + p.val)) (hshort : shortSettled s) :
    ∃ t, exec (.surveyRequest p b) s = .next t ∧ t.get (Reg.SEG_FAULT_SVYREJ.inst p.val) = 1 ∧ pstate t p.val = pstate s p.val := by
  refine done_completes fun t ht => ?_
  have hpstate (n : Nat) : pstate (s.set (Reg.SEG_FAULT_SVYREJ.inst p.val) 1) n = pstate s n := pstate_set_inst (by decide) (by decide) ..
  have hsettled : shortSettled (s.set (Reg.SEG_FAULT_SVYREJ.inst p.val) 1) :=
    shortSettled_congr hpstate (State.get_set_inst_below (by decide) ..) hshort
  rw [unlessBusy_free _ hfree, surveyRequest_refused b hmode, State.raise_eq] at ht
  constructor
  · rw [done_failedPorts_get ht hsettled (by decide), State.get_set_same]
    rfl
  · rw [pstate, done_failedPorts_get ht hsettled (by decide), ← pstate, hpstate]

theorem surveyStart_effect (g : Fin 4) (p : Nat) (q : List Nat) (hqueue : svyQueue s g.val = p :: q) (hp : p < 32) (hg : p / 8 = g.val)
    (hengine : engineFree s g.val = true) (hmode : portsMayRun s = true ∨ mode s = 1)
    (hshort : (s.get Reg.MODE_STAT_SHORT).testBit 3 = (List.range 32).any fun n => n ≠ p && pstate s n = 6) :
    ∃ t, exec (.surveyStart g) s = .next t ∧ pstate t p = 1 ∧ t.get (Reg.SEG_STAT_SVYBUSY.inst p) = 1 ∧ svyQueue t g.val = q ∧
      tabFind g.val t.seg.svyBusy = some p := by
  refine done_completes fun t ht => ?_
  let s₁ := setSvyQueue g.val p q s
  have hs₁ : stopFrame.holds s s₁ := by simp [s₁]
  have hsurveys := svyState_surveyBegin p s₁
  obtain ⟨u, hu, heffect⟩ := surveyBegin_eq p s₁
  have hsettled : shortSettled (surveyBegin p s₁) := by
    rw [heffect]
    exact shortSettled_congr (fun n => pstate_set_inst (by decide) (by decide) ..) (State.get_set_inst_below (by decide) ..)
      (shortSettled_setPstate hp (by decide) (fun n => (stop_pstate hu n).trans (stop_pstate hs₁ n)) ((stop_short hu).trans (stop_short hs₁))
        hshort)
  rw [surveyStart_begins hqueue hengine hmode] at ht
  have hend : svyState t = (s₁.seg.svyQueue, tabInsert g.val p s₁.seg.svyBusy) := by
    rw [svyState_congr (done_seg ht), svyState_failedPorts hsettled, hsurveys, hg]
  obtain ⟨hqueues, hbusy⟩ := Prod.mk.inj hend
  refine ⟨?state, ?busy, ?queue, ?engine⟩
  case state =>
    rw [pstate, done_failedPorts_get ht hsettled (by decide), heffect, State.raise_eq,
      State.get_set_inst_ne (by decide) (by decide) (by decide), ← pstate, pstate_setPstate_same]
  case busy =>
    rw [done_failedPorts_get ht hsettled (by decide), heffect, State.raise_eq, State.get_set_same]
    rfl
  case queue =>
    rw [svyQueue, hqueues]
    exact svyQueue_setSvyQueue ..
  case engine => rw [hbusy, tabFind_insert_same]

end

/-! #### A survey that meets a foreign voltage (R173) -/

section
variable {f : RegField} {s : State} {p n : Nat}

/-- The fault list stands at its own words of the page. -/
theorem setFaults_get (h : f.key % 32768 < 2048) (p : Nat) (fs : List (Nat × Nat × Int)) (s : State) (n : Nat) :
    (setFaults p fs s).get (f.inst n) = s.get (f.inst n) := by
  have hkey (g : RegField) (hg : g.key % 32768 < 2048 + 32 ∧ 2048 ≤ g.key % 32768 ∧ g.n1 = 16 ∧ g.s1 = 1) (k : Nat) :
      (f.inst n).key ≠ ((g.inst p).ix k).key := by
    obtain ⟨hhi, hlo, hn, hs⟩ := hg
    rw [RegField.key_ix, RegField.key_inst, RegField.key_inst, show (g.inst p).n1 = 16 from hn, show (g.inst p).s1 = 1 from hs]
    generalize n % f.npages = x
    generalize p % g.npages = y
    omega
  unfold setFaults
  refine foldl_keeps (fun s => s.get (f.inst n)) (fun u k => ?_) _ _
  dsimp only
  rw [State.get_set_ne (hkey _ (by decide) k), State.get_set_ne (hkey _ (by decide) k), State.get_set_ne (hkey _ (by decide) k)]

theorem setFaults_now (p : Nat) (fs : List (Nat × Nat × Int)) (s : State) : (setFaults p fs s).now = s.now := by
  unfold setFaults
  exact foldl_keeps State.now (fun u k => by simp only [State.set_now]) _ _

/-- What a survey stores that ends at a foreign voltage. -/
def foreignStored (p : Nat) (m : SurveyMeasure) (s : State) : State :=
  let s := storeMeasures p 0 0 0 0 0 0 0 0 0 0 (storeResult p 1 5 5 0 0 false m (s.reach ((s.segPort p).svyAt + 200 * msec)))
  ((setFaults p [(5, 0, 0)] s).raise (Reg.SEG_FAULT_FOREIGNV.inst p)).raise (Reg.SEG_FAULT_SVYFAIL.inst p)

theorem surveyComplete_foreign {m : SurveyMeasure} (hstate : pstate s p = 1) (hm : foreignVoltage m = true) :
    surveyComplete p m s = surveyReturn p (surveyEnd p (foreignStored p m s)) := by
  rw [surveyComplete, if_neg (by simp [hstate]), if_pos hm]
  rfl

theorem foreignStored_holds (p : Nat) (m : SurveyMeasure) (s : State) :
    Frame.holds ⟨[], [(0x100, 0x11F)], []⟩ s (foreignStored p m s) := by
  simp +decide [foreignStored, storeMeasures, storeResult, setFaults]

theorem foreignStored_now (p : Nat) (m : SurveyMeasure) (s : State) :
    (foreignStored p m s).now = max s.now ((s.segPort p).svyAt + 200000000) := by
  simp only [foreignStored, State.raise_eq, State.set_now, setFaults_now]
  rfl

theorem foreignStored_shows (p : Nat) (m : SurveyMeasure) (s : State) :
    (foreignStored p m s).get (Reg.SEG_SVYRES_GRADE.inst p) = 5 ∧ (foreignStored p m s).get (Reg.SEG_SVYRES_FLTCODE.inst p) = 5 ∧
      (foreignStored p m s).get (Reg.SEG_FAULT_FOREIGNV.inst p) = 1 ∧ (foreignStored p m s).get (Reg.SEG_FAULT_SVYFAIL.inst p) = 1 ∧
      (foreignStored p m s).get (Reg.SEG_STAT_SVYVALID.inst p) = 1 := by
  simp +decide [foreignStored, setFaults_get, storeMeasures, storeResult]

theorem foreignStored_grade (p : Nat) (m : SurveyMeasure) (s : State) : storedGrade (foreignStored p m s) p = 5 := by
  obtain ⟨hgrade, -, -, -, hvalid⟩ := foreignStored_shows p m s
  simp [storedGrade, State.bit, hgrade, hvalid]

@[simp] theorem busStart_get_inst (hf : 0 < f.npages) (hinteg : f.apart Reg.PBUS_STAT_INTEG = true)
    (hsync : f.apart Reg.PBUS_STAT_TTSYNC = true) (p n : Nat) (s : State) : (busStart p s).get (f.inst n) = s.get (f.inst n) :=
  (State.get_set_inst_ne hf (by decide) hsync ..).trans (State.get_set_inst_ne hf (by decide) hinteg ..)

/-- With grade E a port goes to READY, whatever its personality, and stays there; where ports may not run it goes to OFF (R155, R176). -/
theorem surveyReturn_failed (hgrade : storedGrade s p = 5) : surveyReturn p s = if portsMayRun s = true then
    (if pers s p = 1 then busStart p (setPstate p 2 s) else setPstate p 2 s).raise (Reg.SEG_FAULT_SVYFAIL.inst p)
    else setPstate p 0 s := by
  by_cases hrun : portsMayRun s = true
  · simp [surveyReturn, enterReady, hgrade, hrun]
  · simp [surveyReturn, hrun]

theorem setPstate_now (p x : Nat) (s : State) : (setPstate p x s).now = s.now := by
  unfold setPstate showMonitor
  split <;> rfl

theorem surveyReturn_failed_now (hgrade : storedGrade s p = 5) : (surveyReturn p s).now = s.now := by
  rw [surveyReturn_failed hgrade]
  split
  · split
    · exact setPstate_now p 2 s
    · exact setPstate_now p 2 s
  · exact setPstate_now p 0 s

/-- A field of the ports' pages that the return from a survey leaves. -/
def RegField.staysAtReturn (f : RegField) : Bool :=
  f.settled && [Reg.PBUS_STAT_INTEG, Reg.PBUS_STAT_TTSYNC, Reg.PBUS_STAT_MON, Reg.SEG_STAT_PSTATE, Reg.SEG_FAULT_SVYFAIL].all f.apart

theorem surveyReturn_failed_get (hgrade : storedGrade s p = 5) (hf : f.staysAtReturn = true) :
    (surveyReturn p s).get (f.inst n) = s.get (f.inst n) := by
  simp only [RegField.staysAtReturn, RegField.settled, Bool.and_eq_true, decide_eq_true_eq, List.all_cons, List.all_nil] at hf
  obtain ⟨⟨⟨hpos, -⟩, -⟩, hinteg, hsync, hmon, hstate, hfail, -⟩ := hf
  have hpstate (x : Nat) := setPstate_get_inst hpos hmon hstate p x n s
  rw [surveyReturn_failed hgrade]
  split
  · rw [State.raise_eq, State.get_set_inst_ne hpos (by decide) hfail]
    split
    · rw [busStart_get_inst hpos hinteg hsync, hpstate]
    · exact hpstate 2
  · exact hpstate 0

theorem surveyReturn_failed_pstate (hgrade : storedGrade s p = 5) :
    pstate (surveyReturn p s) p = if portsMayRun s = true then 2 else 0 := by
  rw [surveyReturn_failed hgrade]
  split
  · rw [State.raise_eq, pstate_set_inst (by decide) (by decide)]
    split
    · rw [pstate, busStart_get_inst (by decide) (by decide) (by decide), ← pstate, pstate_setPstate_same]
    · rw [pstate_setPstate_same]
  · rw [pstate_setPstate_same]

theorem surveyReturn_failed_svyfail (hgrade : storedGrade s p = 5) (h : s.get (Reg.SEG_FAULT_SVYFAIL.inst p) = 1) :
    (surveyReturn p s).get (Reg.SEG_FAULT_SVYFAIL.inst p) = 1 := by
  rw [surveyReturn_failed hgrade]
  split
  · rw [State.raise_eq, State.get_set_same]
    rfl
  · rwa [setPstate_get_inst (by decide) (by decide) (by decide)]

@[simp] theorem surveyEnd_get (hf : 0 < f.npages) (h : f.apart Reg.SEG_STAT_SVYBUSY = true) (p n : Nat) (s : State) :
    (surveyEnd p s).get (f.inst n) = s.get (f.inst n) := State.get_set_inst_ne hf (by decide) h ..

theorem surveyEnd_now (p : Nat) (s : State) : (surveyEnd p s).now = s.now := rfl

theorem surveyEnd_grade (p : Nat) (s : State) : storedGrade (surveyEnd p s) p = storedGrade s p :=
  storedGrade_congr (surveyEnd_get (by decide) (by decide) ..) (surveyEnd_get (by decide) (by decide) ..)

theorem surveyEnd_portsMayRun (p : Nat) (m : SurveyMeasure) (s : State) :
    portsMayRun (surveyEnd p (foreignStored p m s)) = portsMayRun s := by
  have hframe : Frame.holds ⟨[.seg], [(0x100, 0x11F)], []⟩ s (surveyEnd p (foreignStored p m s)) :=
    Frame.holds_trans (Frame.Within.holds (by simp +decide) (foreignStored_holds p m s)) (by simp +decide)
  exact portsMayRun_congr (hframe.2 _ (by unfold Frame.leaves; decide)) (hframe.2 _ (by unfold Frame.leaves; decide))
    (hframe.1 .prpt (by decide))

/-- SURVEY_COMPLETE at a foreign voltage (R173, R175, R176). -/
theorem surveyComplete_effect (p : Fin 32) (m : SurveyMeasure) (hstate : pstate s p.val = 1) (hm : foreignVoltage m = true) :
    ∃ t, exec (.surveyComplete p m) s = .next t ∧ t.get (Reg.SEG_SVYRES_GRADE.inst p.val) = 5 ∧
      t.get (Reg.SEG_SVYRES_FLTCODE.inst p.val) = 5 ∧ t.get (Reg.SEG_FAULT_FOREIGNV.inst p.val) = 1 ∧
      t.get (Reg.SEG_FAULT_SVYFAIL.inst p.val) = 1 ∧ t.get (Reg.SEG_STAT_SVYVALID.inst p.val) = 1 ∧
      t.get (Reg.SEG_STAT_SVYBUSY.inst p.val) = 0 ∧ t.now = max s.now ((s.segPort p.val).svyAt + 200000000) ∧
      pstate t p.val = if portsMayRun s then 2 else 0 := by
  refine done_completes fun t ht => ?_
  have hgrade : storedGrade (surveyEnd p.val (foreignStored p.val m s)) p.val = 5 := (surveyEnd_grade ..).trans (foreignStored_grade ..)
  obtain ⟨hstored, hcode, hvoltage, hfail, hvalid⟩ := foreignStored_shows p.val m s
  rw [surveyComplete_foreign hstate hm] at ht
  have hget {f : RegField} (hf : f.staysAtReturn = true) :
      t.get (f.inst p.val) = (surveyEnd p.val (foreignStored p.val m s)).get (f.inst p.val) := by
    rw [done_get_inst ht (Bool.and_eq_true_iff.mp hf).1, surveyReturn_failed_get hgrade hf]
  refine ⟨?grade, ?code, ?voltage, ?fail, ?valid, ?busy, ?now, ?state⟩
  case grade => rw [hget (by decide), surveyEnd_get (by decide) (by decide), hstored]
  case code => rw [hget (by decide), surveyEnd_get (by decide) (by decide), hcode]
  case voltage => rw [hget (by decide), surveyEnd_get (by decide) (by decide), hvoltage]
  case fail =>
    rw [done_get_inst ht (by decide)]
    exact surveyReturn_failed_svyfail hgrade ((surveyEnd_get (by decide) (by decide) ..).trans hfail)
  case valid => rw [hget (by decide), surveyEnd_get (by decide) (by decide), hvalid]
  case busy => rw [hget (by decide), surveyEnd, State.get_set_same, Nat.zero_mod]
  case now =>
    rw [done_now ht, surveyReturn_failed_now hgrade, surveyEnd_now, foreignStored_now,
      max_eq_right (Nat.le_max_left ..)]
  case state => rw [done_pstate ht, surveyReturn_failed_pstate hgrade, surveyEnd_portsMayRun]

end

/-- Settles O27. That a survey starts for a port in any state, and that a second request of a port that waits takes a second place,
are assumptions 110 and 111, the model's choice; the grade at a foreign voltage is E. -/
theorem surveys : Obligations.Surveys :=
  ⟨fun _ p b hlo hhi hstate hengine hfree hroom hshort => surveyRequest_queues p b hlo hhi hstate hengine hfree hroom hshort,
    fun _ p b hmode hfree hshort => surveyRequest_refuses p b hmode hfree hshort,
    fun _ g p q hqueue hp hg hengine hmode _ hshort => surveyStart_effect g p q hqueue hp hg hengine hmode hshort,
    fun _ p m hstate hm => surveyComplete_effect p m hstate hm⟩

end Sys2Proof.Machine

/-! ### The line of a port (R150, R151, R155, R156, R160) -/

namespace Sys2Proof.Machine

section
variable {F : Frame} {f : RegField} {s u : State} {p : Nat}

/-- A field of many pages of which the frame names no page and no field, whatever the port. -/
def Frame.clear (F : Frame) (f : RegField) : Bool :=
  f.settled && f.inPage && f.page + f.npages ≤ 4096 && F.pages.all (fun g => f.page + f.npages ≤ g.1 || g.2 < f.page) &&
    F.fields.all fun g => g.key < f.key

theorem Frame.clear_get (h : F.holds s u) (hf : F.clear f = true) (n : Nat) : u.get (f.inst n) = s.get (f.inst n) := by
  simp only [Frame.clear, Bool.and_eq_true, Bool.or_eq_true, decide_eq_true_eq, List.all_eq_true] at hf
  obtain ⟨⟨⟨⟨hsettled, hin⟩, hmap⟩, hpages⟩, hfields⟩ := hf
  have hpos := RegField.npages_pos_of_settled hsettled
  have hn := Nat.mod_lt n hpos
  obtain ⟨hword, hlasttko⟩ := RegField.settled_inst hsettled n
  refine h.2 _ ⟨hword, hlasttko, fun g hg => ?_, fun g hg => ?_⟩
  · have hg := hpages g hg
    rw [RegField.pageOf_eq (f := f.inst n) hin]
    show (f.page + n % f.npages) % 4096 < _ ∨ _ < (f.page + n % f.npages) % 4096
    omega
  · have hg := hfields g hg
    rw [RegField.key_inst]
    omega

/-! #### A link that rises -/

/-- What entering JOINING may change: of the ports' pages not those of the links. -/
def joiningFrame : Frame :=
  ⟨[.pt, .seg, .pwr, .clk, .acc], [(0x040, 0x040), (0x078, 0x078), (0x100, 0x11F), (0x120, 0x13F)], [Reg.MODE_PWRST_DOZE]⟩

theorem enterJoining_holds (p : Nat) (s : State) : joiningFrame.holds s (enterJoining p s) := by
  simp +decide [enterJoining, joiningFrame]

/-- The link of a port shows up at its level and quality. -/
def linkRisen (p : Nat) (lvl10 : Bool) (sqi : Nat) (s : State) : State :=
  (((s.raise (Reg.LINK_STAT_LINKUP.inst p)).raise (Reg.LINK_STAT_ANDONE.inst p)).setBit (Reg.LINK_STAT_LVL10.inst p) lvl10).set
    (Reg.LINK_SQI_LEVEL.inst p) sqi

/-- A link that rises takes a port in READY to JOINING (R155). -/
theorem linkUp_joins (lvl10 : Bool) (sqi : Nat) (hpers : pers s p = 0) (hlevel : s.get (Reg.LINK_LCFG_T1LLVL.inst p) = 0)
    (hfallback : s.bit Reg.CLK_STAT_FALLBACK = false) (hlink : s.get (Reg.LINK_STAT_LINKUP.inst p) = 0) (hstate : pstate s p = 2)
    (hlo : 1 ≤ storedGrade s p) (hhi : storedGrade s p ≤ 4) : linkUp p lvl10 sqi s = enterJoining p (linkRisen p lvl10 sqi s) := by
  have hnone : storedGrade s p ≠ 0 := by omega
  have hbad : storedGrade s p ≠ 5 := by omega
  have hdown : s.bit (Reg.LINK_STAT_LINKUP.inst p) = false := by simp [State.bit, hlink]
  simp [linkUp, linkRisen, hpers, hlevel, hfallback, hdown, hstate, hnone, hbad]

theorem t1lLinkUp_effect (p : Fin 32) (q : Fin 8) (l : Bool) (hpers : pers s p.val = 0)
    (hlevel : s.get (Reg.LINK_LCFG_T1LLVL.inst p.val) = 0) (hfallback : s.bit Reg.CLK_STAT_FALLBACK = false)
    (hlink : s.get (Reg.LINK_STAT_LINKUP.inst p.val) = 0) (hstate : pstate s p.val = 2) (hlo : 1 ≤ storedGrade s p.val)
    (hhi : storedGrade s p.val ≤ 4) :
    ∃ t, exec (.t1lLinkUp p l q) s = .next t ∧ t.get (Reg.LINK_STAT_LINKUP.inst p.val) = 1 ∧
      t.get (Reg.LINK_STAT_LVL10.inst p.val) = (if l then 1 else 0) ∧ t.get (Reg.LINK_SQI_LEVEL.inst p.val) = q.val ∧
      pstate t p.val = 3 := by
  refine done_completes fun t ht => ?_
  rw [linkUp_joins l q.val hpers hlevel hfallback hlink hstate hlo hhi] at ht
  have hshown {f : RegField} (hf : joiningFrame.clear f = true) (hsettled : f.settled = true) :
      t.get (f.inst p.val) = (linkRisen p.val l q.val s).get (f.inst p.val) := by
    rw [done_get_inst ht hsettled, Frame.clear_get (enterJoining_holds ..) hf]
  refine ⟨?up, ?level, ?quality, ?state⟩
  case up =>
    rw [hshown (by decide) (by decide)]
    simp +decide [linkRisen]
  case level =>
    rw [hshown (by decide) (by decide)]
    cases l <;> simp +decide [linkRisen]
  case quality =>
    rw [hshown (by decide) (by decide), linkRisen, State.get_set_same]
    exact Nat.mod_eq_of_lt q.isLt
  case state => rw [done_pstate ht, pstate_enterJoining]

/-! #### A link that is lost -/

/-- A word of the learned address of node 0 is a field placed on the page of the port. -/
theorem hubWord_eq (p k : Nat) : (Reg.LINK_HUBADDR_ADDR.inst p).ix k = (Reg.LINK_HUBADDR_ADDR.ix k).inst p := rfl

theorem hubAddr_congr (h : ∀ k < 4, u.get ((Reg.LINK_HUBADDR_ADDR.ix k).inst p) = s.get ((Reg.LINK_HUBADDR_ADDR.ix k).inst p)) :
    hubAddr u p = hubAddr s p := by
  unfold hubAddr
  refine congrArg List.sum (List.map_congr_left fun k hk => ?_)
  exact congrArg (· * 2 ^ (32 * k)) (h k (List.mem_range.1 hk))

theorem setHubAddr_get_inst (hf : 0 < f.npages) (h : ∀ k < 4, f.apart (Reg.LINK_HUBADDR_ADDR.ix k) = true) (p a n : Nat) (s : State) :
    (setHubAddr p a s).get (f.inst n) = s.get (f.inst n) := by
  unfold setHubAddr
  exact get_foldl_set_ne (fun k hk => RegField.key_inst_ne hf (show 0 < 32 by decide) (h k (List.mem_range.1 hk)) n p) s

theorem setHubAddr_zero (p : Nat) (s : State) : hubAddr (setHubAddr p 0 s) p = 0 := by
  simp +decide [hubAddr, setHubAddr, List.range_succ, hubWord_eq]

/-- A field of the links' pages that the end of a link leaves. -/
theorem linkDown_get_inst (hf : 0 < f.npages) (hhub : ∀ k < 4, f.apart (Reg.LINK_HUBADDR_ADDR.ix k) = true)
    (h : [Reg.LINK_STAT_LINKUP, Reg.LINK_STAT_ANDONE, Reg.LINK_STAT_LVL10].all f.apart = true) (p n : Nat) (s : State) :
    (linkDown p s).get (f.inst n) = s.get (f.inst n) := by
  simp only [List.all_cons, List.all_nil, Bool.and_eq_true] at h
  obtain ⟨hup, hdone, hlevel, -⟩ := h
  rw [linkDown, setHubAddr_get_inst hf hhub, State.get_set_inst_ne hf (by decide) hlevel, State.get_set_inst_ne hf (by decide) hdone,
    State.get_set_inst_ne hf (by decide) hup]

theorem linkDown_linkup (p : Nat) (s : State) : (linkDown p s).get (Reg.LINK_STAT_LINKUP.inst p) = 0 := by
  rw [linkDown, setHubAddr_get_inst (by decide) (by decide)]
  simp +decide

theorem pstate_linkDown (p n : Nat) (s : State) : pstate (linkDown p s) n = pstate s n := linkDown_get_inst (by decide) (by decide) (by decide) ..

/-- The lost link of a port that runs, or whose nodes join, is counted and reported (R151, R160). -/
def linkLossReported (p : Nat) (s : State) : State := (s.countSat (Reg.LINK_LINKDN_COUNT.inst p) 1).raise (Reg.LINK_FAULT_LINKDN.inst p)

theorem linkLost_eq (hpers : pers s p = 0) (hlink : s.get (Reg.LINK_STAT_LINKUP.inst p) = 1) :
    linkLost p s = if pstate s p = 3 ∨ pstate s p = 4 then linkLossReported p (linkDown p s) else linkDown p s := by
  have hup : s.bit (Reg.LINK_STAT_LINKUP.inst p) = true := by simp [State.bit, hlink]
  rw [linkLost, if_neg (by simp [hpers, hup])]
  simp only [pstate_linkDown]
  rfl

theorem linkLossReported_get_inst (hf : 0 < f.npages) (hcount : f.apart Reg.LINK_LINKDN_COUNT = true)
    (hfault : f.apart Reg.LINK_FAULT_LINKDN = true) (p n : Nat) (s : State) :
    (linkLossReported p s).get (f.inst n) = s.get (f.inst n) := by
  rw [linkLossReported, State.raise_eq, State.countSat_eq, State.get_set_inst_ne hf (by decide) hfault,
    State.get_set_inst_ne hf (by decide) hcount]

/-- Beside LINKDN and its counter a lost link shows as one that is down. -/
theorem linkLost_get_inst (hpers : pers s p = 0) (hlink : s.get (Reg.LINK_STAT_LINKUP.inst p) = 1) (hf : 0 < f.npages)
    (hcount : f.apart Reg.LINK_LINKDN_COUNT = true) (hfault : f.apart Reg.LINK_FAULT_LINKDN = true) (n : Nat) :
    (linkLost p s).get (f.inst n) = (linkDown p s).get (f.inst n) := by
  rw [linkLost_eq hpers hlink]
  split
  · exact linkLossReported_get_inst hf hcount hfault ..
  · rfl

theorem t1lLinkLost_effect (p : Fin 32) (hpers : pers s p.val = 0) (hlink : s.get (Reg.LINK_STAT_LINKUP.inst p.val) = 1) :
    ∃ t, exec (.t1lLinkLost p) s = .next t ∧ t.get (Reg.LINK_STAT_LINKUP.inst p.val) = 0 ∧ hubAddr t p.val = 0 ∧
      pstate t p.val = pstate s p.val ∧
      (pstate s p.val = 4 → t.get (Reg.LINK_FAULT_LINKDN.inst p.val) = 1 ∧
        t.get (Reg.LINK_LINKDN_COUNT.inst p.val) = min (s.get (Reg.LINK_LINKDN_COUNT.inst p.val) + 1)
          (2 ^ (Reg.LINK_LINKDN_COUNT.inst p.val).width - 1)) := by
  refine done_completes fun t ht => ?_
  have hdown {f : RegField} (hsettled : f.settled = true) (hf : 0 < f.npages) (hcount : f.apart Reg.LINK_LINKDN_COUNT = true)
      (hfault : f.apart Reg.LINK_FAULT_LINKDN = true) : t.get (f.inst p.val) = (linkDown p.val s).get (f.inst p.val) := by
    rw [done_get_inst ht hsettled, linkLost_get_inst hpers hlink hf hcount hfault]
  refine ⟨?down, ?hub, ?state, fun hstate => ?reported⟩
  case down => rw [hdown (by decide) (by decide) (by decide) (by decide), linkDown_linkup]
  case hub =>
    have hwords : ∀ k < 4, (Reg.LINK_HUBADDR_ADDR.ix k).settled = true ∧ (Reg.LINK_HUBADDR_ADDR.ix k).apart Reg.LINK_LINKDN_COUNT = true ∧
        (Reg.LINK_HUBADDR_ADDR.ix k).apart Reg.LINK_FAULT_LINKDN = true := by decide
    have hword (k : Nat) (hk : k < 4) : t.get ((Reg.LINK_HUBADDR_ADDR.ix k).inst p.val) =
        (linkDown p.val s).get ((Reg.LINK_HUBADDR_ADDR.ix k).inst p.val) := by
      obtain ⟨hsettled, hcount, hfault⟩ := hwords k hk
      exact hdown hsettled (show 0 < 32 by decide) hcount hfault
    rw [hubAddr_congr hword, linkDown, setHubAddr_zero]
  case state => rw [pstate, hdown (by decide) (by decide) (by decide) (by decide), ← pstate, pstate_linkDown]
  case reported =>
    rw [linkLost_eq hpers hlink, if_pos (.inr hstate), linkLossReported, State.raise_eq] at ht
    constructor
    · rw [done_get_inst ht (by decide), State.get_set_same]
      rfl
    · rw [done_get_inst ht (by decide), State.get_set_inst_ne (by decide) (by decide) (by decide), State.countSat_eq, State.get_set_same,
        linkDown_get_inst (by decide) (by decide) (by decide), RegField.width_inst]
      exact Nat.mod_eq_of_lt (lt_of_le_of_lt (Nat.min_le_right ..) (by decide))

/-! #### The beacon of a running port (R160) -/

theorem sendFpm_of_t1l (hpers : pers s p = 0) (bytes : List Nat) :
    sendFpm p 0xFF bytes s =
      (s.countWrap (Reg.LINK_TXFRM_COUNT.inst p) 1).emit (.fpm p allNodes (s.get (Reg.LINK_FPMPORT_PORT.inst p)) bytes) := by
  have hpers' : pers (s.countWrap (Reg.LINK_TXFRM_COUNT.inst p) 1) p = 0 := (pers_set_inst (by decide) (by decide) ..).trans hpers
  rw [sendFpm, if_pos hpers', if_pos rfl, State.countWrap_eq, State.get_set_inst_ne (by decide) (by decide) (by decide)]

/-- On a T1L port with its link up the next beacon leaves to all nodes, and its echoes are awaited. -/
theorem beaconOut_of_t1l (leave : Bool) (hpers : pers s p = 0) (hlink : s.get (Reg.LINK_STAT_LINKUP.inst p) = 1) :
    ∃ (u : State) (bytes : List Nat), beaconOut p leave s = u.emit (.fpm p allNodes (s.get (Reg.LINK_FPMPORT_PORT.inst p)) bytes) ∧
      u.out = s.out ∧ u.get (Reg.SEG_BSEQ_LAST.inst p) = (s.get (Reg.SEG_BSEQ_LAST.inst p) + 1) % 65536 ∧ (u.segPort p).beaconOut = true := by
  unfold beaconOut
  extract_lets s₁ x s₂ bytes y s₃
  have hget {f : RegField} (hf : 0 < f.npages) (h : f.apart Reg.SEG_BSEQ_LAST = true) : s₂.get (f.inst p) = s.get (f.inst p) :=
    State.get_set_inst_ne hf (by decide) h s p p _
  have hpers₂ : pers s₂ p = 0 := (hget (by decide) (by decide)).trans hpers
  have hup : s₂.get (Reg.LINK_STAT_LINKUP.inst p) = 1 := (hget (by decide) (by decide)).trans hlink
  have hport : s₂.get (Reg.LINK_FPMPORT_PORT.inst p) = s.get (Reg.LINK_FPMPORT_PORT.inst p) := hget (by decide) (by decide)
  have hbseq : s₂.get (Reg.SEG_BSEQ_LAST.inst p) = (s.get (Reg.SEG_BSEQ_LAST.inst p) + 1) % 65536 := State.get_set_same ..
  have hpers₃ : pers (s₃.countWrap (Reg.SEG_BTX_COUNT.inst p) 1) p = 0 := (pers_set_inst (by decide) (by decide) ..).trans hpers₂
  have hport₃ : (s₃.countWrap (Reg.SEG_BTX_COUNT.inst p) 1).get (Reg.LINK_FPMPORT_PORT.inst p) = s.get (Reg.LINK_FPMPORT_PORT.inst p) :=
    (State.get_set_inst_ne (by decide) (by decide) (by decide) ..).trans hport
  have hsent : s₃.segPort p = { y with txSeq := (x.txSeq + 1) % 65536 } := segPort_setSegPort_same ..
  have hout : y = { x with echoed := 0, polled := 0, beaconOut := true, beaconAt := s₁.now } := segPort_setSegPort_same ..
  rw [if_neg (by omega), if_neg (by simp [State.bit, hup, osdpPort, hpers₂]), sendFpm_of_t1l hpers₃, hport₃]
  refine ⟨(s₃.countWrap (Reg.SEG_BTX_COUNT.inst p) 1).countWrap (Reg.LINK_TXFRM_COUNT.inst p) 1, _, rfl, rfl, ?_, ?_⟩
  · rw [State.countWrap_eq, State.get_set_inst_ne (by decide) (by decide) (by decide), State.countWrap_eq,
      State.get_set_inst_ne (by decide) (by decide) (by decide)]
    exact hbseq
  · rw [State.segPort, State.countWrap_eq, State.set_seg, State.countWrap_eq, State.set_seg, ← State.segPort, hsent, hout]

/-- Where no beacon awaits its echoes and the port runs, a beacon leaves and nothing else follows. -/
theorem beaconSend_of_active (hstate : pstate s p = 4) (hpers : pers s p = 0) (hout : (s.segPort p).beaconOut = false) :
    beaconSend p s = beaconOut p false (s.reach (beaconInstant s p)) := by
  have hreach : pstate (s.reach (beaconInstant s p)) p = 4 := hstate
  have hjudge : judgeEchoes p (s.reach (beaconInstant s p)) = s.reach (beaconInstant s p) := by
    rw [judgeEchoes, show (s.reach (beaconInstant s p)).segPort p = s.segPort p from rfl, hout]
    rfl
  have hafter : stopFrame.holds (s.reach (beaconInstant s p)) (beaconOut p false (s.reach (beaconInstant s p))) := by simp
  have hjoin : joinEnds p (beaconOut p false (s.reach (beaconInstant s p))) = beaconOut p false (s.reach (beaconInstant s p)) := by
    rw [joinEnds, if_neg (by simp [stop_pstate hafter, hreach])]
  rw [beaconSend, if_neg (by simp [hstate, hpers]), hjudge]
  dsimp only
  rw [if_neg (by omega), hjoin]

theorem beaconSend_effect (p : Fin 32) (hpers : pers s p.val = 0) (hlink : s.get (Reg.LINK_STAT_LINKUP.inst p.val) = 1)
    (hstate : pstate s p.val = 4) (hout : (s.segPort p.val).beaconOut = false) :
    ∃ t, exec (.beaconSend p) s = .next t ∧ pstate t p.val = 4 ∧
      t.get (Reg.SEG_BSEQ_LAST.inst p.val) = (s.get (Reg.SEG_BSEQ_LAST.inst p.val) + 1) % 65536 ∧
      (t.segPort p.val).beaconOut = true ∧
      ∃ bytes, t.out = s.out ++ [.fpm p.val allNodes (s.get (Reg.LINK_FPMPORT_PORT.inst p.val)) bytes] := by
  refine done_completes fun t ht => ?_
  rw [beaconSend_of_active hstate hpers hout] at ht
  have hframe : stopFrame.holds s (beaconOut p.val false (s.reach (beaconInstant s p.val))) := by simp
  obtain ⟨u, bytes, hbeacon, huout, hbseq, hawaits⟩ :=
    beaconOut_of_t1l (s := s.reach (beaconInstant s p.val)) (p := p.val) false hpers hlink
  refine ⟨?state, ?number, ?awaits, bytes, ?sent⟩
  case state => rw [done_pstate ht, stop_pstate hframe, hstate]
  case number =>
    rw [done_get_inst ht (by decide), hbeacon]
    exact hbseq
  case awaits =>
    rw [done_segPort ht, hbeacon]
    exact hawaits
  case sent =>
    rw [done_out ht, hbeacon]
    exact congrArg (· ++ _) huout

/-! #### JOINING without an echo (R156) -/

theorem nojoinTimeout_effect (p : Fin 32) (hstate : pstate s p.val = 3) (hnone : (s.segPort p.val).joinEchoed = 0) :
    ∃ t, exec (.nojoinTimeout p) s = .next t ∧ t.get (Reg.SEG_FAULT_NOJOIN.inst p.val) = 1 ∧
      t.now = max s.now ((s.segPort p.val).joinSince + 10000000000) := by
  refine done_completes fun t ht => ?_
  rw [noJoin, if_pos ⟨hstate, hnone⟩, State.raise_eq] at ht
  constructor
  · rw [done_get_inst ht (by decide), State.get_set_same]
    rfl
  · exact done_now_of_reach ht rfl

end

/-- Settles O28. -/
theorem portLine : Obligations.PortLine :=
  ⟨fun _ => t1lLinkUp_effect, fun _ => t1lLinkLost_effect, fun _ => beaconSend_effect, fun _ => nojoinTimeout_effect⟩

end Sys2Proof.Machine

/-! ### Feed limits, shedding and PoDL (R180, R182, R183, R185) -/

namespace Sys2Proof.Machine

section
variable {f : RegField} {s u : State} {p : Nat}

/-- A field of an earlier page is stored: a field placed on a later one stays. -/
theorem State.get_inst_set_below {g : RegField} (h : g.key < f.key) (s : State) (n v : Nat) : (s.set g v).get (f.inst n) = s.get (f.inst n) :=
  State.get_set_ne (by rw [RegField.key_inst]; omega) s v

/-! #### A switch that changes its state -/

theorem showSums_get_inst (hf : 0 < f.npages) (hgroup : f.apart Reg.SEG_GCUR_MA = true) (hmodule : f.apart Reg.SEG_MCUR_MA = true) (n : Nat)
    (s : State) : (showSums s).get (f.inst n) = s.get (f.inst n) := by
  unfold showSums
  exact foldl_keeps (State.get · (f.inst n))
    (fun u k => (State.get_set_inst_ne hf (by decide) hmodule ..).trans (State.get_set_inst_ne hf (by decide) hgroup ..)) _ _

theorem showSums_seg (s : State) : (showSums s).seg = s.seg := by
  unfold showSums
  exact foldl_keeps State.seg (fun u k => (State.set_seg ..).trans (State.set_seg ..)) _ _

theorem showSums_now (s : State) : (showSums s).now = s.now := by
  unfold showSums
  exact foldl_keeps State.now (fun u k => (State.set_now ..).trans (State.set_now ..)) _ _

/-- A switch that changes its state shows it; one that opens carries no current. -/
theorem setFstate_cases (p v : Nat) (s : State) :
    setFstate p v s = s.set (Reg.SEG_STAT_FSTATE.inst p) v ∨
      ∃ x : SegPort, setFstate p v s =
        showSums (((s.set (Reg.SEG_STAT_FSTATE.inst p) v).set (Reg.SEG_FMEAS_FCUR.inst p) 0).setSegPort p x) := by
  unfold setFstate
  extract_lets was s₁
  split
  · exact .inr ⟨_, rfl⟩
  · exact .inl rfl

/-- A field of the SEG pages that no switch changes with its state. -/
def RegField.staysAtSwitch (f : RegField) : Bool :=
  f.settled && [Reg.SEG_STAT_FSTATE, Reg.SEG_FMEAS_FCUR, Reg.SEG_GCUR_MA, Reg.SEG_MCUR_MA].all f.apart

theorem setFstate_get_inst (hf : f.staysAtSwitch = true) (p v n : Nat) (s : State) :
    (setFstate p v s).get (f.inst n) = s.get (f.inst n) := by
  simp only [RegField.staysAtSwitch, RegField.settled, Bool.and_eq_true, decide_eq_true_eq, List.all_cons, List.all_nil] at hf
  obtain ⟨⟨⟨hpos, -⟩, -⟩, hstate, hcurrent, hgroup, hmodule, -⟩ := hf
  obtain h | ⟨x, h⟩ := setFstate_cases p v s
  · rw [h, State.get_set_inst_ne hpos (by decide) hstate]
  · rw [h, showSums_get_inst hpos hgroup hmodule, State.get_setSegPort, State.get_set_inst_ne hpos (by decide) hcurrent,
      State.get_set_inst_ne hpos (by decide) hstate]

theorem fstate_setFstate (p v : Nat) (s : State) : fstate (setFstate p v s) p = v % 8 := by
  obtain h | ⟨x, h⟩ := setFstate_cases p v s
  · rw [h, fstate, State.get_set_same]
    rfl
  · rw [h, fstate, showSums_get_inst (by decide) (by decide) (by decide), State.get_setSegPort,
      State.get_set_inst_ne (by decide) (by decide) (by decide), State.get_set_same]
    rfl

theorem setFstate_now (p v : Nat) (s : State) : (setFstate p v s).now = s.now := by
  obtain h | ⟨x, h⟩ := setFstate_cases p v s
  · rw [h, State.set_now]
  · rw [h, showSums_now]
    rfl

theorem setFstate_lastShed (p v : Nat) (s : State) : (setFstate p v s).seg.lastShed = s.seg.lastShed := by
  obtain h | ⟨x, h⟩ := setFstate_cases p v s
  · rw [h, State.set_seg]
  · rw [h, showSums_seg]
    rfl

/-! #### The limit of a feed (R180) -/

/-- A clipped request of a port is counted and recorded on no page of the ports. -/
theorem clipEvent_get_inst (h : 0x100 * 32768 ≤ f.key) (who req rel src n : Nat) (s : State) :
    (clipEvent 5 who req rel src s).get (f.inst n) = s.get (f.inst n) := by
  have hfault : Reg.PRPT_FAULT_FEEDCLIP.key < f.key := lt_of_lt_of_le (by decide) h
  have hsuppressed : Reg.PRPT_LOGSUP_COUNT.key < f.key := lt_of_lt_of_le (by decide) h
  unfold clipEvent
  extract_lets fields s₁ s₂ key fresh
  have hcounted : s₂.get (f.inst n) = s.get (f.inst n) := State.get_inst_set_below hfault s n 1
  split
  · rw [logEvent_get_inst (by omega)]
    exact hcounted
  · rw [State.countSat_eq, State.get_inst_set_below hsuppressed, hcounted]

theorem applyLimit_get_inst (h : 0x100 * 32768 ≤ f.key) (hf : 0 < f.npages) (heff : f.apart Reg.SEG_FCFG_FEFF = true)
    (hclip : f.apart Reg.SEG_FAULT_FCLIP = true) (src n : Nat) :
    (applyLimit p src s).get (f.inst n) = s.get (f.inst n) := by
  unfold applyLimit
  dsimp only
  split
  · rw [clipEvent_get_inst h, State.raise_eq, State.get_set_inst_ne hf (by decide) hclip]
    exact State.get_set_inst_ne hf (by decide) heff ..
  · exact State.get_set_inst_ne hf (by decide) heff ..

theorem applyLimit_feff (p src : Nat) (s : State) : (applyLimit p src s).get (Reg.SEG_FCFG_FEFF.inst p) =
    min (s.get (Reg.SEG_FCFG_FLIM.inst p)) (s.get (Reg.SEG_FCEIL_CEIL.inst p)) % 128 := by
  unfold applyLimit
  dsimp only
  split
  · rw [clipEvent_get_inst (by decide), State.raise_eq, State.get_set_inst_ne (by decide) (by decide) (by decide)]
    exact State.get_set_same ..
  · exact State.get_set_same ..

theorem feedLimitWrite_effect (p : Fin 32) (v : BitVec 7) (hfree : undisturbed s (0x100 + p.val)) :
    ∃ t, exec (.feedLimitWrite p v) s = .next t ∧
      (5 ≤ v.toNat → v.toNat ≤ 100 → t.get (Reg.SEG_FCFG_FLIM.inst p.val) = v.toNat ∧
        t.get (Reg.SEG_FCFG_FEFF.inst p.val) = min v.toNat (s.get (Reg.SEG_FCEIL_CEIL.inst p.val))) ∧
      (¬ (5 ≤ v.toNat ∧ v.toNat ≤ 100) → t.get (Reg.SEG_FCFG_FLIM.inst p.val) = s.get (Reg.SEG_FCFG_FLIM.inst p.val) ∧
        t.get (Reg.SEG_FCFG_FEFF.inst p.val) = s.get (Reg.SEG_FCFG_FEFF.inst p.val)) := by
  refine done_completes fun t ht => ?_
  rw [unlessBusy_free _ hfree] at ht
  refine ⟨fun hlo hhi => ?taken, fun hrange => ?ignored⟩
  case taken =>
    let s₁ : State := { s with prpt := { s.prpt with feedReq := tabErase p.val s.prpt.feedReq } }
    have hlimit : (s₁.set (Reg.SEG_FCFG_FLIM.inst p.val) v.toNat).get (Reg.SEG_FCFG_FLIM.inst p.val) = v.toNat :=
      (State.get_set_same ..).trans (Nat.mod_eq_of_lt v.isLt)
    have hceil : (s₁.set (Reg.SEG_FCFG_FLIM.inst p.val) v.toNat).get (Reg.SEG_FCEIL_CEIL.inst p.val) =
        s.get (Reg.SEG_FCEIL_CEIL.inst p.val) := State.get_set_inst_ne (by decide) (by decide) (by decide) ..
    rw [limitWrite, if_pos ⟨hlo, hhi⟩] at ht
    constructor
    · rw [done_get_inst ht (by decide), applyLimit_get_inst (by decide) (by decide) (by decide) (by decide), hlimit]
    · rw [done_get_inst ht (by decide), applyLimit_feff, hlimit, hceil]
      exact Nat.mod_eq_of_lt (lt_of_le_of_lt (Nat.min_le_left ..) v.isLt)
  case ignored =>
    rw [limitWrite, if_neg hrange] at ht
    exact ⟨done_get_inst ht (by decide) _, done_get_inst ht (by decide) _⟩

/-! #### Shedding and reclosing (R182, R183) -/

theorem voltages_get_inst (hf : 0 < f.npages) (h : f.apart Reg.SEG_FMEAS_FVOUT = true) (n : Nat) (s : State) :
    (voltages s).get (f.inst n) = s.get (f.inst n) := by
  unfold voltages
  extract_lets s₁
  have hstored : s₁.get (f.inst n) = s.get (f.inst n) :=
    get_foldl_set_ne (fun k _ => RegField.key_inst_ne hf (show 0 < 32 by decide) h n k) s
  clear_value s₁
  exact hstored

theorem voltages_now (s : State) : (voltages s).now = s.now := by
  unfold voltages
  extract_lets s₁
  have hstored : s₁.now = s.now := foldl_set_now ..
  clear_value s₁
  exact hstored

theorem currents_now (mas : List Nat) (s : State) : (currents mas s).now = s.now := by
  unfold currents
  exact (showSums_now _).trans (foldl_set_now ..)

/-- A shed port shows it, with its current at the shed, and is open or latched. -/
theorem shedPort_effect (p : Nat) (s : State) :
    (fstate (shedPort p s) p = 7 ∨ fstate (shedPort p s) p = 6) ∧ (shedPort p s).get (Reg.SEG_FAULT_FSHED.inst p) = 1 ∧
      (shedPort p s).get (Reg.SEG_FSHEDI_MA.inst p) = portCurrent s p % 65536 ∧ (shedPort p s).seg.lastShed = some s.now ∧
      (shedPort p s).now = s.now := by
  unfold shedPort
  extract_lets x recent y s₁ s₂ s₃ s₄
  have hfault : s₄.get (Reg.SEG_FAULT_FSHED.inst p) = 1 := by simp +decide [s₄]
  have hcurrent : s₄.get (Reg.SEG_FSHEDI_MA.inst p) = portCurrent s p % 65536 := by
    simp +decide [s₄, s₃]
    rfl
  have hshed : s₄.seg.lastShed = some s.now := by
    simp only [s₄, s₃, State.countSat_eq, State.raise_eq, State.set_seg]
    rfl
  have hnow : s₄.now = s.now := by
    simp only [s₄, s₃, State.countSat_eq, State.raise_eq, State.set_now]
    rfl
  split
  · refine ⟨.inr ?_, ?_, ?_, ?_, ?_⟩
    · rw [State.raise_eq, fstate, State.get_set_inst_ne (by decide) (by decide) (by decide), ← fstate, fstate_setFstate]
    · rw [State.raise_eq, State.get_set_inst_ne (by decide) (by decide) (by decide), setFstate_get_inst (by decide), hfault]
    · rw [State.raise_eq, State.get_set_inst_ne (by decide) (by decide) (by decide), setFstate_get_inst (by decide), hcurrent]
    · rw [State.raise_eq, State.set_seg, setFstate_lastShed, hshed]
    · rw [State.raise_eq, State.set_now, setFstate_now, hnow]
  · refine ⟨.inl (fstate_setFstate ..), ?_, ?_, ?_, ?_⟩
    · rw [setFstate_get_inst (by decide), hfault]
    · rw [setFstate_get_inst (by decide), hcurrent]
    · rw [setFstate_lastShed, hshed]
    · rw [setFstate_now, hnow]

theorem feedShed_of_group {mas : List Nat} {g : Nat} (hu : u = currents mas (s.reach (shedInstant s)))
    (hgroup : [0, 1, 2, 3].find? (fun g => groupSum u g > 6000) = some g)
    (hchoice : shedChoice u ((List.range 8).map (fun k => g * 8 + k)) = some p) : feedShed mas s = shedPort p (voltages u) := by
  subst hu
  unfold feedShed
  dsimp only
  rw [hgroup]
  dsimp only
  rw [hchoice]

theorem feedShed_effect {g : Nat} (is : List (BitVec 16)) (hu : u = currents (is.map BitVec.toNat) (s.reach (shedInstant s)))
    (hgroup : [0, 1, 2, 3].find? (fun g => groupSum u g > 6000) = some g)
    (hchoice : shedChoice u ((List.range 8).map (fun k => g * 8 + k)) = some p) :
    ∃ t, exec (.feedShed is) s = .next t ∧ (fstate t p = 7 ∨ fstate t p = 6) ∧ t.get (Reg.SEG_FAULT_FSHED.inst p) = 1 ∧
      t.get (Reg.SEG_FSHEDI_MA.inst p) = u.get (Reg.SEG_FMEAS_FCUR.inst p) % 65536 ∧ t.seg.lastShed = some t.now := by
  refine done_completes fun t ht => ?_
  rw [feedShed_of_group hu hgroup hchoice] at ht
  obtain ⟨hopen, hfault, hcurrent, hshed, hnow⟩ := shedPort_effect p (voltages u)
  have hreached : u.now = max s.now (shedInstant s) := by rw [hu, currents_now, State.reach_now]
  have hend : t.now = (voltages u).now := by rw [done_now ht, hnow, voltages_now, hreached, max_eq_right (Nat.le_max_left ..)]
  refine ⟨?_, ?_, ?_, ?_⟩
  · rwa [done_fstate ht]
  · rw [done_get_inst ht (by decide), hfault]
  · rw [done_get_inst ht (by decide), hcurrent, portCurrent, voltages_get_inst (by decide) (by decide)]
  · rw [done_seg ht, hshed, hend]

theorem feedStart_now (p : Nat) (s : State) : (feedStart p s).now = s.now := by
  rw [feedStart, setFstate_now]
  rfl

/-- The instant of a reclose. -/
def recloseNoted (s : State) : State := { s with seg := { s.seg with lastReclose := some s.now } }

theorem shedReclose_starts {mas : List Nat} (hu : u = currents mas (s.reach (recloseInstant s)))
    (hfirst : firstPort u ((shedPorts u).filter (shedReady u)) = some p) (hsupply : supplyAllows u = true)
    (hturn : firstPort u (dueToClose u) = some p) : ∃ v : State, v.now = max u.now (closeSpacing u) ∧
      shedReclose mas s = recloseNoted (feedStart p v) := by
  refine ⟨(voltages u).reach (closeSpacing u), by rw [State.reach_now, voltages_now], ?_⟩
  unfold shedReclose
  extract_lets s₁
  obtain rfl : u = s₁ := hu
  clear_value s₁
  rw [hfirst]
  dsimp only
  rw [if_pos ⟨hsupply, hturn⟩]
  rfl

theorem feedShedReclose_effect (is : List (BitVec 16)) (hu : u = currents (is.map BitVec.toNat) (s.reach (recloseInstant s)))
    (hfirst : firstPort u ((shedPorts u).filter (shedReady u)) = some p) (hsupply : supplyAllows u = true)
    (hturn : firstPort u (dueToClose u) = some p) :
    ∃ t, exec (.feedShedReclose is) s = .next t ∧ fstate t p = 2 ∧ t.seg.lastReclose = some t.now := by
  refine done_completes fun t ht => ?_
  obtain ⟨v, hnow, heffect⟩ := shedReclose_starts hu hfirst hsupply hturn
  have hreached : u.now = max s.now (recloseInstant s) := by rw [hu, currents_now, State.reach_now]
  rw [heffect] at ht
  have hend : t.now = (feedStart p v).now := by
    rw [done_now ht, show (recloseNoted (feedStart p v)).now = (feedStart p v).now from rfl, feedStart_now]
    omega
  constructor
  · rw [done_fstate ht]
    exact fstate_setFstate ..
  · rw [done_seg ht, hend]
    rfl

/-! #### PoDL (R185) -/

/-- The port of a valid signature shows its class. -/
def podlClassed (p cls mw : Nat) (s : State) : State :=
  let u := s.reach (feed s p).detectAt
  let u := setFeed p { feed u p with detectAt := u.now + second } u
  let u := (u.set (Reg.SEG_PDL_CLASS.inst p) cls).raise (Reg.SEG_PDL_CVALID.inst p)
  setFeed p { feed u p with classMw := mw } u

theorem podlDetect_of_signature (cls mw : Nat) (hmode : s.get (Reg.SEG_FCFG_FMODE.inst p) = 2) (hpers : pers s p = 0) (hopen : fstate s p < 2) :
    podlDetect p (some (cls, mw)) true s =
      if mw > limitMw (podlClassed p cls mw s) p then (setFstate p 6 (podlClassed p cls mw s)).raise (Reg.SEG_FAULT_CLASSDENY.inst p)
      else podlClassed p cls mw s := by
  rw [podlDetect, if_neg (by simp [hmode, hpers, hopen])]
  rfl

theorem podlClassed_get (f : RegField) (p cls mw : Nat) (s : State) : (podlClassed p cls mw s).get f =
    ((s.set (Reg.SEG_PDL_CLASS.inst p) cls).set (Reg.SEG_PDL_CVALID.inst p) 1).get f := rfl

theorem podlClassed_get_inst (hf : 0 < f.npages) (hclass : f.apart Reg.SEG_PDL_CLASS = true) (hvalid : f.apart Reg.SEG_PDL_CVALID = true)
    (cls mw n : Nat) : (podlClassed p cls mw s).get (f.inst n) = s.get (f.inst n) := by
  rw [podlClassed_get, State.get_set_inst_ne hf (by decide) hvalid, State.get_set_inst_ne hf (by decide) hclass]

theorem podlClassed_limitMw (cls mw : Nat) : limitMw (podlClassed p cls mw s) p = limitMw s p := by
  have hlimit := podlClassed_get_inst (s := s) (p := p) (f := Reg.SEG_FCFG_FEFF) (by decide) (by decide) (by decide) cls mw p
  have hrail : (podlClassed p cls mw s).get Reg.PWR_VIN_V10M = s.get Reg.PWR_VIN_V10M := by
    rw [podlClassed_get, State.get_set_inst_below (by decide), State.get_set_inst_below (by decide)]
  rw [limitMw, limitMw, feedLimit, feedLimit, hlimit, hrail]

theorem podlDetection_effect (p : Fin 32) (c : Fin 16) (w : Nat) (hmode : s.get (Reg.SEG_FCFG_FMODE.inst p.val) = 2)
    (hpers : pers s p.val = 0) (hopen : fstate s p.val < 2) :
    ∃ t, exec (.podlDetection p (some (c, w)) true) s = .next t ∧ t.get (Reg.SEG_PDL_CLASS.inst p.val) = c.val ∧
      t.get (Reg.SEG_PDL_CVALID.inst p.val) = 1 ∧ t.now = max s.now (feed s p.val).detectAt ∧
      (limitMw s p.val < w → fstate t p.val = 6 ∧ t.get (Reg.SEG_FAULT_CLASSDENY.inst p.val) = 1) ∧
      (w ≤ limitMw s p.val → fstate t p.val = fstate s p.val) := by
  refine done_completes fun t ht => ?_
  rw [show (some (c, w)).map (fun x : Fin 16 × Nat => (x.1.val, x.2)) = some (c.val, w) from rfl,
    podlDetect_of_signature c.val w hmode hpers hopen, podlClassed_limitMw] at ht
  have hclass : (podlClassed p.val c.val w s).get (Reg.SEG_PDL_CLASS.inst p.val) = c.val := by
    rw [podlClassed_get, State.get_set_inst_ne (by decide) (by decide) (by decide), State.get_set_same]
    exact Nat.mod_eq_of_lt c.isLt
  have hvalid : (podlClassed p.val c.val w s).get (Reg.SEG_PDL_CVALID.inst p.val) = 1 := by
    rw [podlClassed_get, State.get_set_same]
    rfl
  have hnow : (podlClassed p.val c.val w s).now = max s.now (feed s p.val).detectAt := rfl
  by_cases hdenied : limitMw s p.val < w
  · rw [if_pos hdenied, State.raise_eq] at ht
    refine ⟨?_, ?_, ?_, fun _ => ⟨?_, ?_⟩, fun h => absurd hdenied (by omega)⟩
    · rw [done_get_inst ht (by decide), State.get_set_inst_ne (by decide) (by decide) (by decide), setFstate_get_inst (by decide), hclass]
    · rw [done_get_inst ht (by decide), State.get_set_inst_ne (by decide) (by decide) (by decide), setFstate_get_inst (by decide), hvalid]
    · exact done_now_of_reach ht (by rw [State.set_now, setFstate_now, hnow])
    · rw [done_fstate ht, fstate, State.get_set_inst_ne (by decide) (by decide) (by decide), ← fstate, fstate_setFstate]
    · rw [done_get_inst ht (by decide), State.get_set_same]
      rfl
  · rw [if_neg hdenied] at ht
    refine ⟨?_, ?_, ?_, fun h => absurd h hdenied, fun _ => ?_⟩
    · rw [done_get_inst ht (by decide), hclass]
    · rw [done_get_inst ht (by decide), hvalid]
    · exact done_now_of_reach ht hnow
    · rw [done_fstate ht]
      exact podlClassed_get_inst (by decide) (by decide) (by decide) ..

theorem podlRailOutOfRange_effect (p : Fin 32) (hmode : s.get (Reg.SEG_FCFG_FMODE.inst p.val) = 2) (hclosed : closed s p.val = true) :
    ∃ t, exec (.podlRailOutOfRange p) s = .next t ∧ t.get (Reg.SEG_FAULT_PDLRANGE.inst p.val) = 1 ∧ fstate t p.val = fstate s p.val := by
  refine done_completes fun t ht => ?_
  rw [podlRange, if_pos ⟨hmode, hclosed⟩, State.raise_eq] at ht
  constructor
  · rw [done_get_inst ht (by decide), State.get_set_same]
    rfl
  · rw [done_fstate ht]
    exact State.get_set_inst_ne (by decide) (by decide) (by decide) ..

end

/-- Settles O31. That one timer serves all groups and the module, the lowest group first (assumption 112), that the limit's power is taken
at the input rail (assumption 113), and that the class power is an operand (assumption 38) are the model's choice. -/
theorem feedLimitsAndShedding : Obligations.FeedLimitsAndShedding :=
  ⟨fun _ => feedLimitWrite_effect, fun _ _ is _ _ hu hgroup hchoice => feedShed_effect is hu hgroup hchoice,
    fun _ _ is _ hu hfirst hsupply hturn => feedShedReclose_effect is hu hfirst hsupply hturn, fun _ => podlDetection_effect,
    fun _ => podlRailOutOfRange_effect⟩

end Sys2Proof.Machine

/-! ### Protocol exceptions (R198)

A live port that sees one stops its reception and integrates. Of its page only the count, the fault and the states of integration change. -/

namespace Sys2Proof.Machine

section
variable {f : RegField} {s : State} {p : Nat}

theorem busIntegrate_get (f : RegField) (p : Nat) (s : State) : (busIntegrate p s).get f =
    ((s.set (Reg.PBUS_STAT_INTEG.inst p) 1).set (Reg.PBUS_STAT_TTSYNC.inst p) 0).get f := rfl

theorem protocolException_of_live (h : busLive s p = true) : protocolException p s =
    busIntegrate p ((s.set (Reg.PBUS_PEXCNT_COUNT.inst p) (min (s.get (Reg.PBUS_PEXCNT_COUNT.inst p) + 1) (2 ^ 32 - 1))).set
      (Reg.PBUS_FAULT_PEX.inst p) 1) := by
  rw [protocolException, if_pos (.inl h)]
  rfl

/-- A field that a protocol exception leaves. -/
def RegField.staysAtException (f : RegField) : Bool :=
  f.settled && [Reg.PBUS_PEXCNT_COUNT, Reg.PBUS_FAULT_PEX, Reg.PBUS_STAT_INTEG, Reg.PBUS_STAT_TTSYNC].all fun g => f.apart g

theorem protocolException_get_inst (h : busLive s p = true) (hf : f.staysAtException = true) (n : Nat) :
    (protocolException p s).get (f.inst n) = s.get (f.inst n) := by
  simp only [RegField.staysAtException, Bool.and_eq_true, List.all_cons, List.all_nil] at hf
  obtain ⟨hsettled, hcount, hpex, hinteg, hsync, -⟩ := hf
  have hpos := RegField.npages_pos_of_settled hsettled
  rw [protocolException_of_live h, busIntegrate_get, State.get_set_inst_ne hpos (by decide) hsync,
    State.get_set_inst_ne hpos (by decide) hinteg, State.get_set_inst_ne hpos (by decide) hpex,
    State.get_set_inst_ne hpos (by decide) hcount]

theorem pbusProtocolException_effect (p : Fin 32) (hlive : busLive s p.val = true) :
    ∃ t, exec (.pbusProtocolException p) s = .next t ∧ t.get (Reg.PBUS_FAULT_PEX.inst p.val) = 1 ∧
      t.get (Reg.PBUS_PEXCNT_COUNT.inst p.val) = min (s.get (Reg.PBUS_PEXCNT_COUNT.inst p.val) + 1) (2 ^ 32 - 1) ∧
      t.get (Reg.PBUS_STAT_INTEG.inst p.val) = 1 ∧ t.out = s.out ∧ t.pt = s.pt ∧ t.mem = s.mem ∧
      t.get (Reg.PBUS_ERRC_TEC.inst p.val) = s.get (Reg.PBUS_ERRC_TEC.inst p.val) ∧ recOf t p.val = recOf s p.val ∧
      t.get (Reg.PBUS_RXOK_COUNT.inst p.val) = s.get (Reg.PBUS_RXOK_COUNT.inst p.val) := by
  refine done_completes fun t ht => ?_
  have hkept {f : RegField} (hf : f.staysAtException = true) (hs : f.settled = true) : t.get (f.inst p.val) = s.get (f.inst p.val) :=
    (done_get_inst ht hs p.val).trans (protocolException_get_inst hlive hf p.val)
  have heffect := protocolException_of_live hlive
  have hset {f : RegField} (hf : f.settled = true) := done_get_inst ht hf p.val
  simp only [heffect, busIntegrate_get] at hset
  refine ⟨?pex, ?count, ?integ, ?out, ?pt, ?mem, hkept (by decide) (by decide), ?recv, hkept (by decide) (by decide)⟩
  case pex =>
    rw [hset (by decide)]
    simp +decide
  case count =>
    have hlt : min (s.get (Reg.PBUS_PEXCNT_COUNT.inst p.val) + 1) (2 ^ 32 - 1) < 2 ^ 32 := by omega
    rw [hset (by decide), State.get_set_inst_ne (by decide) (by decide) (by decide),
      State.get_set_inst_ne (by decide) (by decide) (by decide), State.get_set_inst_ne (by decide) (by decide) (by decide),
      State.get_set_same]
    exact Nat.mod_eq_of_lt hlt
  case integ =>
    rw [hset (by decide)]
    simp +decide
  case out => rw [done_out ht, heffect]; rfl
  case pt => rw [done_pt ht, heffect]; rfl
  case mem => rw [done_mem ht, heffect]; rfl
  case recv => rw [recOf, recOf, State.bit, State.bit, hkept (by decide) (by decide), hkept (by decide) (by decide)]

end

end Sys2Proof.Machine

namespace Sys2Proof

/-- Settles O12: a live port integrates after the count and the fault, and nothing else follows. -/
theorem protocolException : Obligations.ProtocolException := fun _ => Machine.pbusProtocolException_effect

end Sys2Proof

/-! ### What stopping DMA channels leaves (R303, R444, R509 to R511)

A running channel copies on to its next burst boundary, within the element at which it stands. Where it stores is fixed by its owner,
its descriptor and the address maps, and stopping one channel or many changes none of these; so the destinations may be read off the
state before. -/

namespace Sys2Proof.Machine

/-- An address of DRAM lies in the destination of the element at which channel `c` stands. -/
def inDestination (s : State) (c a : Nat) : Prop := ∃ i < dmaLen s c, physical s (dmaOwner s c) (dmaDesc s c 8 8 % 2 ^ 48 + i) = a

/-- Stopping channels of `C` leads from `s` to `t` as far as DRAM goes: owners, descriptors and address maps stay, and DRAM changes in
the destinations of those channels only. -/
structure StopsOnly (C : Nat → Prop) (s t : State) : Prop where
  maps : t.fab.maps = s.fab.maps
  desc : t.fab.desc = s.fab.desc
  owner : ∀ c, dmaOwner t c = dmaOwner s c
  mem : ∀ a, (∀ c, C c → ¬ inDestination s c a) → Memory.read t.mem a = Memory.read s.mem a

/-- Everything but DRAM, the fabric and the DMA pages. -/
def besideDma : Frame :=
  ⟨[.out, .keys, .sessions, .log, .rtc, .time, .sheets, .lane, .pt, .prpt, .seg, .pbus, .cle, .cte, .mtr, .via, .uplinks, .pair, .abut,
    .pwr, .clk, .enc, .upd, .uio, .acc, .lift], [(0x000, 0x014), (0x017, 0xFFF)], []⟩

section
variable {C : Nat → Prop} {s t u : State}

theorem physical_eq_of_maps (h : t.fab.maps = s.fab.maps) (asid va : Nat) : physical t asid va = physical s asid va := by
  rw [physical, physical, h]

theorem StopsOnly.inDestination_iff (h : StopsOnly C s t) (c a : Nat) : inDestination t c a ↔ inDestination s c a := by
  simp only [inDestination, dmaLen, dmaDesc, h.desc, h.owner, physical_eq_of_maps h.maps]

theorem StopsOnly.refl (s : State) : StopsOnly C s s := ⟨rfl, rfl, fun _ => rfl, fun _ _ => rfl⟩

theorem StopsOnly.trans (h : StopsOnly C s t) (h' : StopsOnly C t u) : StopsOnly C s u where
  maps := h'.maps.trans h.maps
  desc := h'.desc.trans h.desc
  owner c := (h'.owner c).trans (h.owner c)
  mem a ha := (h'.mem a fun c hc => mt (h.inDestination_iff c a).1 (ha c hc)).trans (h.mem a ha)

theorem StopsOnly.mono {D : Nat → Prop} (hCD : ∀ c, C c → D c) (h : StopsOnly C s t) : StopsOnly D s t :=
  ⟨h.maps, h.desc, h.owner, fun a ha => h.mem a fun c hc => ha c (hCD c hc)⟩

theorem StopsOnly.foldl {α : Type} {f : State → α → State} {l : List α} (h : ∀ u, ∀ x ∈ l, StopsOnly C u (f u x)) (s : State) :
    StopsOnly C s (l.foldl f s) := by
  induction l generalizing s with
  | nil => exact .refl s
  | cons x l ih =>
    exact (h s x List.mem_cons_self).trans (ih (fun u y hy => h u y (List.mem_cons_of_mem x hy)) _)

theorem key_inst_mod (f : RegField) (n : Nat) : (f.inst n).key % 512 = f.key % 512 := by
  rw [RegField.key_inst]
  omega

/-- The registers of the channels lie 512 keys apart. -/
theorem key_dmaField_mod {f : RegField} (h : f.s1 = 16) (c : Nat) : (dmaField f c).key % 512 = f.key % 512 := by
  have hplace : (dmaField f c).key = (f.inst (c / 16)).key + c % 16 % f.n1 * f.s1 * 32 := RegField.key_ix ..
  rw [hplace, h, ← key_inst_mod f (c / 16)]
  omega

theorem key_dmaOwner (c : Nat) : (dmaField Reg.DMA_CSTATE_ASID c).key % 512 = 40 := key_dmaField_mod rfl c

theorem dmaOwner_set {f : RegField} (h : f.key % 512 ≠ 40) (s : State) (v c : Nat) : dmaOwner (s.set f v) c = dmaOwner s c :=
  State.get_set_ne (fun e => h (by rw [← e, key_dmaOwner])) s v

theorem besideDma_leaves_owner (c : Nat) : besideDma.leaves (dmaField Reg.DMA_CSTATE_ASID c) := by
  have hpage : (dmaField Reg.DMA_CSTATE_ASID c).pageOf = 0x015 + c / 16 % 2 := by
    rw [dmaField, RegField.pageOf_ix (f := Reg.DMA_CSTATE_ASID.inst (c / 16)) (show Reg.DMA_CSTATE_ASID.inPage = true by decide)]
    simp only [RegField.inst, Reg.DMA_CSTATE_ASID, RegField.rep, regField]
    omega
  have hkey := key_dmaOwner c
  unfold RegField.pageOf at hpage
  refine ⟨?_, ?_, ?_, by simp [besideDma]⟩
  · unfold RegField.wordOf
    omega
  · have hlasttko : Reg.PAIR_LASTTKO_MS.key % 512 ≠ 40 := by decide
    intro e
    exact hlasttko (e ▸ hkey)
  · simp only [besideDma, RegField.pageOf, List.forall_mem_cons]
    refine ⟨by omega, by omega, by simp⟩

theorem StopsOnly.of_besideDma (h : besideDma.holds s t) : StopsOnly C s t := by
  have hfab : t.fab = s.fab := h.1 .fab (by decide)
  have hmem : t.mem = s.mem := h.1 .mem (by decide)
  exact ⟨by rw [hfab], by rw [hfab], fun c => h.2 _ (besideDma_leaves_owner c), fun a _ => by rw [hmem]⟩

/-- A step beside DMA follows. -/
theorem StopsOnly.beside (h : StopsOnly C s t) (hu : besideDma.holds t u) : StopsOnly C s u := h.trans (.of_besideDma hu)

/-- A store to a register that is no channel's owner. -/
theorem StopsOnly.set (h : StopsOnly C s t) {f : RegField} (hf : f.key % 512 ≠ 40) (v : Nat) : StopsOnly C s (t.set f v) :=
  ⟨h.maps, h.desc, fun c => (dmaOwner_set hf t v c).trans (h.owner c), h.mem⟩
/-! #### Bytes stored -/

theorem State.putBytes_fab (asid a : Nat) (bs : List Nat) (s : State) : (s.putBytes asid a bs).fab = s.fab := by
  induction bs generalizing s a with
  | nil => rfl
  | cons b bs ih => rw [State.putBytes, ih]

/-- A byte at none of the addresses at which bytes are stored stays. -/
theorem Memory.read_putBytes {bs : List Nat} {asid x a : Nat} (h : ∀ i < bs.length, physical s asid (x + i) ≠ a) :
    Memory.read (s.putBytes asid x bs).mem a = Memory.read s.mem a := by
  induction bs generalizing s x with
  | nil => rfl
  | cons b bs ih =>
    rw [State.putBytes, ih fun i hi => ?_]
    · exact Memory.read_write_ne (Ne.symm (h 0 (by simp))) _ _
    · rw [physical_eq_of_maps rfl, Nat.add_assoc, Nat.add_comm 1 i]
      exact h (i + 1) (by simpa using hi)

theorem State.getBytes_length (s : State) (asid a n : Nat) : (s.getBytes asid a n).length = n := by simp [State.getBytes]

theorem State.cleanLines_mem (asid a n : Nat) (s : State) : (s.cleanLines asid a n).mem = s.mem := by
  unfold State.cleanLines
  dsimp only
  split <;> rfl

theorem State.cleanLines_maps (asid a n : Nat) (s : State) : (s.cleanLines asid a n).fab.maps = s.fab.maps := by
  unfold State.cleanLines
  dsimp only
  split <;> rfl

theorem State.cleanLines_desc (asid a n : Nat) (s : State) : (s.cleanLines asid a n).fab.desc = s.fab.desc := by
  unfold State.cleanLines
  dsimp only
  split <;> rfl

theorem copyBursts_maps (asid k src dst n : Nat) (s : State) : (copyBursts asid k src dst n s).fab.maps = s.fab.maps := by
  induction k generalizing src dst n s with
  | zero => rfl
  | succ k ih => rw [copyBursts, ih, State.cleanLines_maps, State.putBytes_fab]

theorem copyBursts_desc (asid k src dst n : Nat) (s : State) : (copyBursts asid k src dst n s).fab.desc = s.fab.desc := by
  induction k generalizing src dst n s with
  | zero => rfl
  | succ k ih => rw [copyBursts, ih, State.cleanLines_desc, State.putBytes_fab]

/-- A copy of `n` bytes stores to no address but theirs. -/
theorem Memory.read_copyBursts {asid k src dst n a : Nat} (h : ∀ i < n, physical s asid (dst + i) ≠ a) :
    Memory.read (copyBursts asid k src dst n s).mem a = Memory.read s.mem a := by
  induction k generalizing src dst n s with
  | zero => rfl
  | succ k ih =>
    have hfirst : Memory.read (s.putBytes asid dst (s.getBytes asid src (min 64 n))).mem a = Memory.read s.mem a :=
      Memory.read_putBytes fun i hi => h i (by rw [State.getBytes_length] at hi; omega)
    rw [copyBursts, ih fun i hi => ?_, State.cleanLines_mem, hfirst]
    rw [physical_eq_of_maps ((State.cleanLines_maps ..).trans (congrArg _ (State.putBytes_fab ..))), Nat.add_assoc]
    exact h (64 + i) (by omega)

/-! #### One channel -/

/-- The first burst that reads a poisoned line lies before the byte up to which the copy runs. -/
theorem poisonedBurst_lt {c o x pa : Nat} (h : poisonedBurst s c o = some (x, pa)) : x < o := by
  unfold poisonedBurst at h
  dsimp only at h
  split at h
  · cases h
  · obtain ⟨k, hk, hx⟩ := List.exists_of_findSome?_eq_some h
    simp only [Option.map_eq_some_iff, Prod.mk.injEq] at hx
    obtain ⟨_, -, rfl, -⟩ := hx
    rw [List.mem_range] at hk
    omega

theorem StopsOnly.set_dmaField (h : StopsOnly C s t) {f : RegField} (hs : f.s1 = 16) (hf : f.key % 512 ≠ 40) (c v : Nat) :
    StopsOnly C s (t.set (dmaField f c) v) := h.set (by rwa [key_dmaField_mod hs]) v

theorem StopsOnly.set_inst (h : StopsOnly C s t) {f : RegField} (hf : f.key % 512 ≠ 40) (n v : Nat) :
    StopsOnly C s (t.set (f.inst n) v) := h.set (by rwa [key_inst_mod]) v

theorem StopsOnly.drawn (h : StopsOnly C s t) : StopsOnly C s t.drawn := h.beside (by simp)

theorem StopsOnly.setDma (h : StopsOnly C s t) (c v : Nat) : StopsOnly C s (setDma c v t) :=
  (h.set_dmaField rfl (by decide) c v).set_inst (by decide) _ _

theorem StopsOnly.dmaRecord (h : StopsOnly C s t) (c : Nat) : StopsOnly C s (dmaRecord c t) :=
  (h.set_dmaField rfl (by decide) c _).set_dmaField rfl (by decide) c _

theorem StopsOnly.dmaMoved (h : StopsOnly C s t) (c n bytes : Nat) : StopsOnly C s (dmaMoved c n bytes t) :=
  have hcount : StopsOnly C s (t.countWrap (dmaField Reg.DMA_CBYTES_COUNT c) bytes) := h.set_dmaField rfl (by decide) c _
  ⟨hcount.maps, hcount.desc, hcount.owner, hcount.mem⟩

/-- A copy element stores to its destination only, at most as far as its length. -/
theorem copyBursts_stops {c p n : Nat} (h : n = 0 ∨ p + n ≤ dmaLen s c) (k src : Nat) :
    StopsOnly (· = c) s (copyBursts (dmaOwner s c) k src (dmaDesc s c 8 8 % 2 ^ 48 + p) n s) where
  maps := copyBursts_maps ..
  desc := copyBursts_desc ..
  owner _ := by simp [dmaOwner, State.get]
  mem a ha := Memory.read_copyBursts fun i hi he => ha c rfl ⟨p + i, by omega, by rw [← he, Nat.add_assoc]⟩

theorem dmaAdvance_stops (c o : Nat) (s : State) : StopsOnly (· = c) s (dmaAdvance c o s) := by
  unfold dmaAdvance
  extract_lets p e n
  have hlen : e ≤ dmaLen s c := Nat.min_le_right ..
  clear_value e
  have hn : n = 0 ∨ p + n ≤ dmaLen s c := by
    simp only [n]
    split
    next hburst =>
      have := poisonedBurst_lt hburst
      omega
    · omega
  split
  · exact .refl s
  · exact (copyBursts_stops hn _ _).dmaMoved ..

theorem dmaHalt_stops (c v : Nat) (s : State) : StopsOnly (· = c) s (dmaHalt c v s) :=
  (((StopsOnly.refl s).drawn.trans (dmaAdvance_stops c _ s.drawn)).dmaRecord c).setDma c v

theorem dmaAbort_stops (c : Nat) (s : State) : StopsOnly (· = c) s (dmaAbort c s) := by
  unfold dmaAbort
  split
  · exact dmaHalt_stops c 4 s
  · exact (StopsOnly.refl s).setDma c 4
  · exact .refl s

/-! #### Channels of tasks, and all channels -/

theorem abortTaskDma_stops (t : Nat) (s : State) : StopsOnly (· < 32) s (abortTaskDma t s) := by
  refine StopsOnly.foldl (fun u c hc => ?_) s
  have habort := (dmaAbort_stops c u).mono (D := (· < 32)) fun k hk => by rwa [hk, ← List.mem_range]
  split
  · exact habort
  · exact .refl u

theorem dmaPowerFail_stops (s : State) : StopsOnly (· < 32) s (dmaPowerFail s) := by
  refine StopsOnly.foldl (fun u c hc => ?_) s
  have hlt : ∀ k, k = c → k < 32 := fun k hk => by rwa [hk, ← List.mem_range]
  have habort (w : State) := (dmaAbort_stops c w).mono hlt
  extract_lets u₁ u₂
  have h₂ : StopsOnly (· < 32) u u₂ :=
    (((dmaHalt_stops c 2 u).mono hlt).set_dmaField rfl (by decide) c _).set_inst (by decide) _ _
  split
  · split
    · exact h₂
    · exact h₂.trans (habort u₂)
  · split
    · exact habort u
    · exact .refl u

theorem StopsOnly.abandonCycle (h : StopsOnly (· < 32) s u) (t : Nat) : StopsOnly (· < 32) s (abandonCycle t u) := by
  unfold Machine.abandonCycle
  split
  · exact (h.trans (abortTaskDma_stops t u)).beside (by simp +decide)
  · exact h

theorem contextFail_stops (core t : Nat) (s : State) : StopsOnly (· < 32) s (contextFail core t s) :=
  StopsOnly.abandonCycle (.of_besideDma (by simp +decide)) t

theorem StopsOnly.dispatchCore (h : StopsOnly (· < 32) s u) (core : Nat) (bad : Bool) : StopsOnly (· < 32) s (dispatchCore core bad u) := by
  unfold Machine.dispatchCore
  extract_lets v
  have hv : StopsOnly (· < 32) s v := h.beside (by simp +decide [v])
  have hshow (w : State) (hw : StopsOnly (· < 32) s w) : StopsOnly (· < 32) s (showCore core w) := hw.beside (by simp +decide)
  refine hshow _ ?_
  split
  · exact hv
  next t _ =>
    split
    · split
      · extract_lets w
        have hw : StopsOnly (· < 32) s w := hv.trans (contextFail_stops core t v)
        clear_value w
        split
        · exact hw.beside (by simp +decide)
        · exact hw
      · exact hv.beside (by simp +decide)
    · exact hv

/-! #### Cycles that end -/

theorem StopsOnly.showDispatch (h : StopsOnly (· < 32) s u) (core : Nat) (bad : Bool) :
    StopsOnly (· < 32) s (showCte (Machine.dispatchCore core bad u)) := (h.dispatchCore core bad).beside (by simp +decide)

theorem StopsOnly.watchdogNow (h : StopsOnly (· < 32) s u) (t : Nat) : StopsOnly (· < 32) s (watchdogNow t u) := by
  unfold Machine.watchdogNow watchdogStop
  extract_lets x v₁ v₂ v₃ v₄ v₅
  have h₁ : StopsOnly (· < 32) s v₁ := StopsOnly.trans (h.beside (by simp +decide)) (abortTaskDma_stops t _)
  clear_value v₁
  have h₅ : StopsOnly (· < 32) s v₅ := h₁.beside (by simp +decide [v₅, v₄, v₂])
  exact h₅.showDispatch _ _

theorem watchdogExpiry_stops (t : Nat) (s : State) : StopsOnly (· < 32) s (watchdogExpiry t s) := by
  unfold watchdogExpiry
  split
  · split
    · exact StopsOnly.watchdogNow (.of_besideDma (by simp)) t
    · exact .refl s
  · exact .refl s

theorem cycleComplete_stops (t : Nat) (outs : List Nat) (vars : Table Nat) (timers : List (Nat × Bool × Nat)) (bad : Bool) (s : State) :
    StopsOnly (· < 32) s (cycleComplete t outs vars timers bad s) := by
  unfold cycleComplete
  split
  · exact .refl s
  split
  · exact .refl s
  split
  · exact (StopsOnly.refl s).watchdogNow t
  extract_lets passed u x us v core im ups known w₁ w₂ w₃ w₄
  have hv : StopsOnly (· < 32) s v := .of_besideDma (by simp +decide [v, u])
  split
  · exact StopsOnly.showDispatch (hv.beside (by simp +decide)) core bad
  · exact StopsOnly.showDispatch (hv.beside (by simp +decide [w₄, w₃, w₂, w₁])) core bad

theorem abandonCycles_stops (s : State) : StopsOnly (· < 32) s (abandonCycles s) := by
  unfold abandonCycles
  extract_lets u
  have hu : StopsOnly (· < 32) s u := StopsOnly.foldl (fun w t _ => (StopsOnly.refl w).abandonCycle t) s
  exact hu.beside (by simp +decide)

/-! #### The power-fail warning -/

theorem besideDma_enterJoining (p : Nat) : besideDma.holds s (enterJoining p u) ↔ besideDma.holds s u :=
  Frame.holds_step (by simp +decide [enterJoining])

theorem besideDma_busStart (p : Nat) : besideDma.holds s (busStart p u) ↔ besideDma.holds s u :=
  Frame.holds_step (by simp +decide [busStart, busIntegrate])

theorem besideDma_surveyStop (p : Nat) : besideDma.holds s (surveyStop p u) ↔ besideDma.holds s u :=
  Frame.holds_step (by
    simp +decide [surveyStop, surveyReturn, enterOos, enterReady, besideDma_enterJoining, besideDma_busStart])

theorem besideDma_openAllFeeds : besideDma.holds s (openAllFeeds u) ↔ besideDma.holds s u :=
  Frame.holds_step (by simp +decide [openAllFeeds])

theorem besideDma_updStop : besideDma.holds s (updStop u) ↔ besideDma.holds s u :=
  Frame.holds_step (by simp +decide [updStop])

theorem powerFail_stops (vin : Nat) (s : State) : StopsOnly (· < 32) s (powerFail vin s) := by
  unfold powerFail
  split
  · exact .refl s
  extract_lets v₁ v₂ v₃ v₄ v₅ v₆ v₇ v₈ w₁ w₂ m plan h x w₃ y
  have h₅ : besideDma.holds s v₅ := by
    simp +decide [v₅, v₄, v₃, v₂, v₁, besideDma_surveyStop, besideDma_openAllFeeds]
  have h₆ : besideDma.holds s v₆ := by
    clear_value v₅
    simp +decide [v₆, h₅]
  have h₈ : StopsOnly (· < 32) s v₈ := .of_besideDma (by
    clear_value v₆
    simp +decide [v₈, v₇, h₆])
  clear_value v₈
  have hcycles : StopsOnly (· < 32) s (showCte (showCle (abandonCycles v₈))) :=
    (h₈.trans (abandonCycles_stops v₈)).beside (by simp +decide)
  have hw₂ : StopsOnly (· < 32) s w₂ :=
    (hcycles.trans (dmaPowerFail_stops _)).beside (by simp +decide [w₂, w₁, besideDma_updStop])
  clear_value w₂
  have hw₃ : StopsOnly (· < 32) s w₃ := hw₂.beside (by simp +decide [w₃])
  exact hw₃.beside (by simp +decide)

end

end Sys2Proof.Machine

/-! ### What a received frame leaves (R212, R221)

The entry in the receive queue is the last step of a reception, and what goes before it leaves DRAM, the address maps and the place of
the entry. -/

namespace Sys2Proof.Machine

/-- The fields of the PBUS pages that follow a frame before it enters the receive queue. -/
def receptionFields : List RegField :=
  [Reg.PBUS_RXOK_COUNT, Reg.PBUS_ERRC_TEC, Reg.PBUS_ERRC_RP, Reg.PBUS_ERRC_REC, Reg.PBUS_FAULT_EWARN, Reg.PBUS_STAT_EWARN,
    Reg.PBUS_FAULT_EPASS, Reg.PBUS_STAT_ECS, Reg.PBUS_UNKNOWN_COUNT, Reg.PBUS_FAULT_UNKNOWN]

/-- What a frame may change before it enters the receive queue, whatever the port. -/
def receptionFrame : Frame :=
  ⟨[.out, .log, .lane, .pt, .seg, .pbus, .pwr, .clk, .acc], [(0x000, 0x11F), (0x140, 0xFFF)],
    receptionFields.flatMap fun f => (List.range 32).map f.inst⟩

/-- Everything but DRAM. -/
def besideMem : Frame := ⟨.fab :: besideDma.parts, [(0x000, 0xFFF)], []⟩

section
variable {f : RegField} {s u : State}

theorem receptionFields_npages : ∀ f ∈ receptionFields, f.npages = 32 := by decide

@[simp] theorem inFrame_reception (h : f ∈ receptionFields) (n : Nat) : inFrame receptionFrame.pages receptionFrame.fields (f.inst n) := by
  refine inFrame_of_mem (List.mem_flatMap.2 ⟨f, h, List.mem_map.2 ⟨n % 32, by simp; omega, ?_⟩⟩)
  simp [RegField.inst, receptionFields_npages f h]

theorem reception_recDown (p : Nat) : receptionFrame.holds s (recDown p u) ↔ receptionFrame.holds s u :=
  Frame.holds_step (by simp +decide [recDown, setErrors])

theorem reception_confirmFrames (p : Nat) (f : CanFrame) : receptionFrame.holds s (confirmFrames p f u) ↔ receptionFrame.holds s u :=
  Frame.holds_step (by simp +decide [confirmFrames, delivered])

theorem reception_decodeFrame (p mi lane : Nat) (f : CanFrame) :
    receptionFrame.holds s (decodeFrame p mi lane f u) ↔ receptionFrame.holds s u :=
  Frame.holds_step (by
    unfold decodeFrame
    extract_lets m x
    have hx : receptionFrame.holds u x.1 := by
      refine foldl_fst_holds (fun r e => ?_) (itemsOf u p mi false) (u, [])
      dsimp only
      split <;> simp +decide
    clear_value x
    simp +decide [busUnknown, passUpdates, wakeFor, hx])

theorem reception_busNoRange (p : Nat) : receptionFrame.holds s (busNoRange p u) ↔ receptionFrame.holds s u :=
  Frame.holds_step (by simp +decide [busNoRange, busUnknown])

/-! An echo may let the port enter ACTIVE (R155), a foreign reference message stops its own (R228): neither stores to DRAM. -/

theorem besideMem_oosReturn (p j : Nat) : besideMem.holds s (oosReturn p j u) ↔ besideMem.holds s u :=
  Frame.holds_step (by
    unfold oosReturn
    extract_lets x
    split
    · exact Frame.holds_refl
    · simp +decide)

theorem besideMem_loseNode (p j : Nat) : besideMem.holds s (loseNode p j u) ↔ besideMem.holds s u :=
  Frame.Within.step (a := stopFrame) ⟨by decide, by decide, fun f _ => inFrame_whole (by decide) f⟩
    ((stop_loseNode p j).2 Frame.holds_refl)

theorem besideMem_joinEnds (p : Nat) : besideMem.holds s (joinEnds p u) ↔ besideMem.holds s u :=
  Frame.holds_step (by simp +decide [joinEnds, enterActive, besideMem_loseNode])

theorem besideMem_nodeUp (p j : Nat) : besideMem.holds s (nodeUp p j u) ↔ besideMem.holds s u :=
  Frame.holds_step (by simp +decide [nodeUp, besideMem_joinEnds, besideMem_oosReturn])

theorem besideMem_nodeEcho (p j b : Nat) : besideMem.holds s (nodeEcho p j b u) ↔ besideMem.holds s u :=
  Frame.holds_step (by simp +decide [nodeEcho, besideMem_nodeUp])

theorem besideMem_foreignRef (p : Nat) : besideMem.holds s (foreignRef p u) ↔ besideMem.holds s u :=
  Frame.holds_step (by simp +decide [foreignRef])

theorem besideMem_of_reception (h : receptionFrame.holds s u) : besideMem.holds s u :=
  Frame.Within.holds ⟨by decide, by decide, fun f _ => inFrame_whole (by decide) f⟩ h

/-- What a received frame makes: its entry in the receive queue is the last step, or nothing is stored. -/
theorem frameReceive_cases (p : Nat) (f : CanFrame) (sofUs : Nat) (fault : Bool) (s : State) :
    besideMem.holds s (frameReceive p f sofUs fault s) ∨
      ∃ lane u, receptionFrame.holds s u ∧ frameReceive p f sofUs fault s = rxqWrite p lane f sofUs fault u := by
  unfold frameReceive
  extract_lets c id monitoring v₁ v₂ v₃
  have h₁ : receptionFrame.holds s v₁ := by simp +decide [v₁]
  have h₂ : receptionFrame.holds s v₂ := (reception_recDown p).2 h₁
  have h₃ : receptionFrame.holds s v₃ := (reception_confirmFrames p f).2 h₂
  clear_value v₁ v₂ v₃
  split
  · exact .inl Frame.holds_refl
  split
  · exact .inl (besideMem_of_reception h₁)
  split
  · exact .inl (besideMem_of_reception (by simp +decide [h₂]))
  split
  · have h₃ := besideMem_of_reception h₃
    refine .inl ?_
    split
    · split
      · exact (besideMem_nodeEcho ..).2 h₃
      · exact h₃
    · split
      · exact (besideMem_foreignRef p).2 h₃
      · exact h₃
  · split
    · exact .inl (besideMem_of_reception ((reception_busNoRange p).2 h₃))
    next r _ =>
      split
      next mi _ =>
        extract_lets v₄
        have h₄ : receptionFrame.holds s v₄ := (reception_decodeFrame ..).2 h₃
        clear_value v₄
        split
        · exact .inr ⟨_, v₄, h₄, rfl⟩
        · exact .inl (besideMem_of_reception h₄)
      · split
        · exact .inr ⟨_, v₃, h₃, rfl⟩
        · exact .inl (besideMem_of_reception (by simp +decide [busUnknown, h₃]))

/-! #### The entry in the receive queue (R221) -/

theorem receptionFrame_leaves_inst {g : RegField} (hpage : g.page = 0x120) (hpages : g.npages = 32) (hin : g.inPage = true)
    (hsettled : g.settled = true) (hapart : (receptionFields.all fun x => g.apart x) = true) (n : Nat) :
    receptionFrame.leaves (g.inst n) := by
  obtain ⟨hword, hlasttko⟩ := RegField.settled_inst hsettled n
  refine ⟨hword, hlasttko, ?_, fun h hh => ?_⟩
  · rw [RegField.pageOf_eq (f := g.inst n) (show g.inPage = true from hin)]
    simp only [receptionFrame, RegField.inst, hpage, hpages, List.forall_mem_cons]
    refine ⟨by omega, by omega, by simp⟩
  · obtain ⟨x, hx, hh⟩ := List.mem_flatMap.1 hh
    obtain ⟨k, -, rfl⟩ := List.mem_map.1 hh
    exact RegField.key_inst_ne (by omega) (by rw [receptionFields_npages x hx]; decide) (List.all_eq_true.1 hapart x hx) n k

/-- The address of the entry that the receive queue of a port fills next. -/
def rxqEntry (s : State) (p : Nat) : Nat :=
  s.get (Reg.PBUS_RXQBASELO_ADDR.inst p) * 64 + 2 ^ 32 * s.get (Reg.PBUS_RXQBASEHI_ADDR.inst p) +
    80 * (s.get (Reg.PBUS_RXQPUT_PUT.inst p) % 256)

theorem rxqEntry_of_reception (h : receptionFrame.holds s u) (p : Nat) : rxqEntry u p = rxqEntry s p := by
  have hkept {g : RegField} (hg : receptionFrame.leaves (g.inst p)) := h.2 _ hg
  rw [rxqEntry, rxqEntry, hkept (receptionFrame_leaves_inst rfl rfl (by decide) (by decide) (by decide) p),
    hkept (receptionFrame_leaves_inst rfl rfl (by decide) (by decide) (by decide) p),
    hkept (receptionFrame_leaves_inst rfl rfl (by decide) (by decide) (by decide) p)]

theorem length_leBytes (n v : Nat) : (leBytes n v).length = n := by
  induction n generalizing v with
  | zero => rfl
  | succ n ih => rw [leBytes, List.length_cons, ih]

theorem State.setBus_mem (s : State) (p : Nat) (x : PbusPort) : (s.setBus p x).mem = s.mem := rfl

theorem Memory.read_rxqWrite {p lane sofUs a : Nat} {f : CanFrame} {fault : Bool} (h : ∀ i < 80, physical s 0 (rxqEntry s p + i) ≠ a) :
    Memory.read (rxqWrite p lane f sofUs fault s).mem a = Memory.read s.mem a := by
  unfold rxqWrite
  extract_lets base put b fid bytes v
  have hentry : base + 80 * (put % 256) = rxqEntry s p := by simp only [rxqEntry, base, put]
  split
  · rfl
  · have hlength : bytes.length = 80 := by simp [bytes, length_leBytes]
    have hqueued : besideMem.holds v (wakeEvent (showRxqFull p (v.set (Reg.PBUS_RXQPUT_PUT.inst p) (put + 1)))) := by
      simp +decide [showRxqFull]
    rw [show _ = v.mem from hqueued.1 .mem (by decide), State.setBus_mem, hentry]
    exact Memory.read_putBytes fun i hi => h i (by omega)

theorem Memory.read_frameReceive {p sofUs a : Nat} {f : CanFrame} {fault : Bool} (h : ∀ i < 80, physical s 0 (rxqEntry s p + i) ≠ a) :
    Memory.read (frameReceive p f sofUs fault s).mem a = Memory.read s.mem a := by
  rcases frameReceive_cases p f sofUs fault s with hkept | ⟨lane, u, hu, heffect⟩
  · rw [show _ = s.mem from hkept.1 .mem (by decide)]
  · have hfab : u.fab = s.fab := hu.1 .fab (by decide)
    have hmem : u.mem = s.mem := hu.1 .mem (by decide)
    rw [heffect, Memory.read_rxqWrite fun i hi => ?_, hmem]
    rw [rxqEntry_of_reception hu, physical_eq_of_maps (congrArg FabricState.maps hfab)]
    exact h i hi

end

end Sys2Proof.Machine

/-! ### What commands store to DRAM (R221, R303, R444, R509, R511) -/

namespace Sys2Proof.Machine

section
variable {C : Nat → Prop} {s s' t : State} {a : Nat}

/-- A command whose effect stops channels changes DRAM in their destinations only. -/
theorem StopsOnly.read_done (h : StopsOnly C s s') (hdone : done s s' = .next t) (ha : ∀ c, C c → ¬ inDestination s c a) :
    Memory.read t.mem a = Memory.read s.mem a := by
  rw [done_mem hdone, h.mem a ha]

theorem not_inDestination_iff {c : Nat} : ¬ inDestination s c a ↔
    ∀ i < dmaLen s c, physical s (dmaOwner s c) (dmaDesc s c 8 8 % 2 ^ 48 + i) ≠ a := by
  simp [inDestination]

theorem dmaCommand_stops (r : Fin 16) (c : Nat) (s : State) : StopsOnly (· = c) s (dmaCommand r (dmaAbort c) s) := by
  unfold dmaCommand
  split
  · exact dmaAbort_stops c s
  · split
    · exact .of_besideDma (by simp +decide)
    · exact .refl s

end

/-- Settles O10: the queue entry is the only store of a received frame, and each channel that stops stores in the destination of its own
element, which the steps before have left in its place. -/
theorem memoryFrames : Obligations.MemoryFrames := by
  refine ⟨fun s t p f u b ht a ha => ?reception, fun s t r c ht a ha => ?abort, fun s t c hc ht a ha => ?stops⟩
  case reception =>
    rw [done_mem ht]
    exact Memory.read_frameReceive ha
  case abort =>
    refine (dmaCommand_stops r c.val s).read_done ht fun k hk => ?_
    rw [hk]
    exact not_inDestination_iff.2 ha
  case stops =>
    have hall (k : Nat) (hk : k < 32) : ¬ inDestination s k a := not_inDestination_iff.2 (ha k hk)
    rcases hc with ⟨k, rfl⟩ | ⟨k, outs, vars, timers, bad, rfl⟩ | ⟨vin, rfl⟩
    · exact (watchdogExpiry_stops k.val s).read_done ht hall
    · exact (cycleComplete_stops k.val outs vars timers bad s).read_done ht hall
    · exact (powerFail_stops vin.toNat s).read_done ht hall

end Sys2Proof.Machine

/-! ### A port that integrates counts no receive error (R235, R239)

After a protocol exception a port takes part in the bus and integrates (R198). What it then sees on the line is no error that it answers
or counts. -/

namespace Sys2Proof.Machine

/-- While the controller integrates, an error on the line changes nothing (R239). -/
theorem rxError_of_integrating {s : State} {p : Nat} (h : s.bit (Reg.PBUS_STAT_INTEG.inst p) = true) (data : Bool) (kind : Nat)
    (by8 : Bool) : rxError p data kind by8 s = s := by
  rw [rxError, if_pos (.inr (.inr h))]

/-- PBUS port 3 is ACTIVE, and integrates. -/
def integratingBus : State :=
  [(Reg.SEG_PCFG_PERS.inst 3, 1), (Reg.SEG_STAT_PSTATE.inst 3, 4), (Reg.PBUS_STAT_INTEG.inst 3, 1)].foldl (fun s e => s.set e.1 e.2)
    State.reset

theorem integratingBus_live : busLive integratingBus 3 = true ∧ integratingBus.get (Reg.PBUS_STAT_MON.inst 3) = 0 ∧
    recOf integratingBus 3 < 127 := by
  decide +kernel

theorem integratingBus_integrates : integratingBus.bit (Reg.PBUS_STAT_INTEG.inst 3) = true := by
  decide +kernel

/-- Refutes O32: its last clause has every receive error of a live port counted and flagged. PBUS port 3 that integrates is live too,
and sends no error flag (R239). That the counter would rise by 1 is the model's choice (assumption 34). -/
theorem not_busReception : ¬ Obligations.BusReception := by
  rintro ⟨-, -, -, -, herror⟩
  obtain ⟨hlive, hmon, hrec⟩ := integratingBus_live
  obtain ⟨t, ht, -, hout⟩ := herror integratingBus 3 false 0 hlive hmon hrec
  have hkept : t.out = (rxError 3 false (0 + 1) false integratingBus).out := done_out ht
  rw [rxError_of_integrating integratingBus_integrates, hout] at hkept
  exact absurd hkept (by simp)

end Sys2Proof.Machine

/-! ### An error-passive port sends its beacon with ESI recessive (R197, R215, R235)

The beacon of a port with `FDEN` 1 is an FD frame, composed with ESI dominant. What leaves shows the error state at its SOF. -/

namespace Sys2Proof.Machine

/-- A span beacon as the port composes it: FD base format, 16 bytes. -/
def fdBeacon : CanFrame := mkFrame 0x7F0 false true false 10 (List.replicate 16 0)

/-- PBUS port 3 is ACTIVE and error passive, and its beacon waits in slot 63. -/
def passiveBus : State :=
  let x : PbusPort := { beacon := [fdBeacon] }
  [(Reg.SEG_PCFG_PERS.inst 3, 1), (Reg.SEG_STAT_PSTATE.inst 3, 4), (Reg.PBUS_STAT_ECS.inst 3, 1),
    ((Reg.PBUS_TXSTAT_STATE.inst 3).ix 63, 1)].foldl (fun s e => s.set e.1 e.2) { State.reset with pbus := [(3, x)] }

theorem passiveBus_ready : lineReady passiveBus 3 = true ∧ (pcfg passiveBus 3).tten = false ∧ pstate passiveBus 3 ≠ 5 ∧
    fittingShadow 3 (fun _ => true) passiveBus = (passiveBus, none) ∧ txState passiveBus 3 63 = 1 ∧
    (passiveBus.bus 3).beacon = [fdBeacon] := by
  decide +kernel

theorem passiveBus_txStart : ((txStart 3 passiveBus).bus 3).tx.map (·.frame.esi) = some true := by
  decide +kernel

/-- Refutes O33: its first clause has the beacon leave bit for bit as it waits. An FD beacon of an error-passive port leaves with ESI
recessive (R197, R235). Of the clauses on errors, the steps of the transmit counter and their exceptions are the model's choice
(assumption 34). -/
theorem not_busTransmission : ¬ Obligations.BusTransmission := by
  rintro ⟨hbeacon, -⟩
  obtain ⟨hline, htten, hstate, hshadow, hpending, hframe⟩ := passiveBus_ready
  obtain ⟨t, ht, -, -, htx⟩ := hbeacon passiveBus 3 fdBeacon [] hline htten hstate hshadow hpending hframe
  have hbus : t.bus 3 = (txStart 3 passiveBus).bus 3 := by
    rw [State.bus, State.bus, done_pbus ht]
    rfl
  have hesi := passiveBus_txStart
  rw [← hbus, show (t.bus 3).tx = _ from htx] at hesi
  exact absurd hesi (by decide)

end Sys2Proof.Machine

/-! ### No shadow buffer takes a remote frame (R197, R220) -/

namespace Sys2Proof.Machine

/-- The port sends no remote frame: arming a shadow buffer with one changes nothing (R197). -/
theorem privilegedArm_of_remote {f : CanFrame} (h : f.rtr = true) (p k src : Nat) (s : State) : privilegedArm p k src f s = s := by
  rw [privilegedArm, if_pos (.inr (.inl h))]

/-- The charter gives the identifiers 0x100 to 0x1FF of port 3 to lane 4, and that lane to emergency input 2. -/
def emergencyCharter : Charter :=
  { ranges := [(3 * 32, { low := 0x100, high := 0x1FF, lane := 4 })], emergencySets := [(2, laneSet1 4)] }

/-- The module and its PBUS port 3 are ACTIVE under that charter, with every shadow buffer free. -/
def emergencyBus : State :=
  [(Reg.MODE_STAT_MODE, 3), (Reg.SEG_PCFG_PERS.inst 3, 1), (Reg.SEG_STAT_PSTATE.inst 3, 4)].foldl (fun s e => s.set e.1 e.2)
    { State.reset with sheets := { charter := some emergencyCharter } }

/-- A remote frame of that range. -/
def remoteFrame : CanFrame := { id := 0x123, rtr := true, dlc := 0 }

theorem emergencyBus_lanes : idLaneOk emergencyBus 3 (writeSet emergencyBus 2 none) remoteFrame = true ∧
    (shadowOf emergencyBus 3 0).armedAt = none := by
  decide +kernel

/-- Refutes O34: its first clause has an emergency source arm a shadow buffer with any frame of its lanes. A remote frame whose
identifier lies in them arms none (R197). -/
theorem not_busBuffersAndErrors : ¬ Obligations.BusBuffersAndErrors := by
  rintro ⟨harm, -⟩
  obtain ⟨hlanes, hfree⟩ := emergencyBus_lanes
  obtain ⟨t, ht, -, harmed, -⟩ := harm emergencyBus 3 0 2 remoteFrame (by decide) hlanes hfree
  have hbus : t.pbus = (privilegedArm 3 0 2 remoteFrame emergencyBus).pbus := done_pbus ht
  rw [privilegedArm_of_remote rfl] at hbus
  rw [shadowOf, State.bus, hbus] at harmed
  exact absurd (Eq.trans hfree.symm harmed) (by simp)

end Sys2Proof.Machine

/-! ### Loop outputs behind a broken joint (R250, R484)

A loop presents its output over the joint between the engine and the store (R483: 2), and while that joint is broken the output waits
there (R484): it does not enter the queue of class 4, though that is open. -/

namespace Sys2Proof.Machine

/-- An update whose joint is broken enters no queue: it waits at the joint (R484). -/
theorem queueOf_submit_of_closedJoint {s : State} {u : Update} {k : Nat} (hquiet : wakesDoze u.src = false)
    (hjoint : closedJoint s u.src = some k) (c : Nat) : queueOf (submit u s) c = queueOf s c := by
  simp [submit, hquiet, hjoint, queueOf]

/-- The output of a loop whose joint is broken enters no queue. -/
theorem queueOf_outputPresent_of_closedJoint {s : State} {n k : Nat} (h : closedJoint s (mkSrc 4 n) = some k) (c : Nat) :
    queueOf (outputPresent n s) c = queueOf s c := by
  unfold outputPresent
  split
  · rfl
  · dsimp only
    split
    · rfl
    · split
      · rfl
      · exact queueOf_submit_of_closedJoint (wakesDoze_loopSrc n) h c

/-- The sheet's only loop, slot 0, writes record 1. -/
def presentingLoop : LoopCfg := { period := 100, out := 1 }

/-- In ACTIVE mode the engine runs under that sheet, the output of loop 0 waits for its apply instant, and the joint between the engine
and the store (R483: 2) is broken. -/
def outputJointBroken : State :=
  [(Reg.MODE_STAT_MODE, 3), (Reg.CLE_CTRL_RUN, 1)].foldl (fun s e => s.set e.1 e.2)
    { loopJointBroken with
      sheets := { loopJointBroken.sheets with config := some { loops := [(0, presentingLoop)] } },
      pt := { loopJointBroken.pt with recs := [(1, { typ := 8 })] },
      cle := { loopJointBroken.cle with loops := [(0, { held := some (0x3FF0000000000000, 100) })] } }

theorem outputJointBroken_presents : loopCfg outputJointBroken 0 = some presentingLoop ∧
    (outputJointBroken.loop 0).held = some (0x3FF0000000000000, 100) ∧ cleRuns outputJointBroken = true ∧
    (outputJointBroken.point 1).typ = 8 ∧ queueOf outputJointBroken 4 = [] ∧ tabGet [] outputJointBroken.pt.held 4 = [] ∧
    closedJoint outputJointBroken (mkSrc 4 0) = some (32 * 2) := by
  decide +kernel

/-- Refutes O35: the engine runs and the queue of class 4 is open and empty, but the output that loop 0 presents waits at the broken
joint of the loops and does not enter it. -/
theorem not_loopCycleAndWindow : ¬ Obligations.LoopCycleAndWindow := by
  rintro ⟨-, -, hpresent, -⟩
  obtain ⟨hcfg, hheld, hruns, htyp, hqueue, hnone, hjoint⟩ := outputJointBroken_presents
  have hopen : queueOpen outputJointBroken 4 := ⟨by simp [hqueue], hnone⟩
  obtain ⟨t, ht, -, -, hentered⟩ := hpresent outputJointBroken 0 presentingLoop _ _ hcfg hheld hruns rfl htyp hopen
  have hempty : queueOf t 4 = [] := by
    rw [queueOf, done_pt ht, ← queueOf]
    exact (queueOf_outputPresent_of_closedJoint hjoint 4).trans hqueue
  rw [hempty, hqueue] at hentered
  simp at hentered

end Sys2Proof.Machine

/-! ### Releases of a task whose last cycle is still to be committed (R289, R310)

STOP of a task in COMMIT waits for the commit of its cycle (R310), and a release instant that passes meanwhile is not served: the task
stays in COMMIT. -/

namespace Sys2Proof.Machine

/-- A periodic task in COMMIT with STOP pending lets its release instant pass (R310). -/
theorem taskRelease_of_stopInCommit {s : State} {k : Nat} {c : TaskCfg} (hcfg : taskCfg s k = some c) (hperiodic : c.event = false)
    (hmay : mayRelease k s = true) (hcommit : taskState s k = 6) (hstop : (s.task k).stop = true) :
    taskRelease k s = (s.reach (instantOfTai s (nextRelease c (s.task k) s * msec))).setTask k
      { s.task k with passedMs := nextRelease c (s.task k) s } := by
  have hstate (d : Nat) : taskState (s.reach d) k = 6 := hcommit
  have hrun (d : Nat) : (s.reach d).task k = s.task k := rfl
  simp [taskRelease, hcfg, hperiodic, hmay, hstate, hrun, hstop, inCycle]

/-- The task stays in COMMIT, with its cycle still to be committed. -/
theorem taskState_taskRelease_of_stopInCommit {s : State} {k : Nat} {c : TaskCfg} (hcfg : taskCfg s k = some c)
    (hperiodic : c.event = false) (hmay : mayRelease k s = true) (hcommit : taskState s k = 6) (hstop : (s.task k).stop = true) :
    taskState (taskRelease k s) k = 6 := by
  rw [taskRelease_of_stopInCommit hcfg hperiodic hmay hcommit hstop]
  exact hcommit

/-- A sheet with one task, periodic on core 1. -/
def oneTaskSheet : ConfigSheet := { tasks := [(0, {})] }

/-- In ACTIVE mode the task engine runs, core 1 is online, and task 0 is in COMMIT: batch 1 of its last cycle waits, and a STOP that
came meanwhile is pending. -/
def stopInCommit : State :=
  [(Reg.MODE_STAT_MODE, 3), (Reg.CTE_CTRL_RUN, 1), (Reg.CORE_STAT_ONLINE.inst 1, 1), (Reg.CTE_TSTAT_STATE.ix 0, 6)].foldl
    (fun s e => s.set e.1 e.2)
    { State.reset with
      sheets := { State.reset.sheets with config := some oneTaskSheet },
      cte := { tasks := [(0, { active := some {}, batch := 1, open' := [1], stop := true })], batches := 1 } }

theorem stopInCommit_mayRelease : taskCfg stopInCommit 0 = some {} ∧ mayRelease 0 stopInCommit = true ∧
    taskState stopInCommit 0 = 6 ∧ (stopInCommit.task 0).stop = true ∧ (stopInCommit.task 0).swap = false := by
  decide +kernel

/-- Refutes O37: its first clause leaves a pending SWAP out, but not a pending STOP. Task 0 is in COMMIT with STOP pending, and at its
release instant it stays there instead of entering GATHER (R310). -/
theorem not_taskReleases : ¬ Obligations.TaskReleases := by
  rintro ⟨hrelease, -⟩
  obtain ⟨hcfg, hmay, hcommit, hstop, hswap⟩ := stopInCommit_mayRelease
  have hcycle : inCycle (taskState stopInCommit 0) = false := by rw [hcommit]; rfl
  obtain ⟨t, ht, hgather, -⟩ := hrelease stopInCommit 0 {} _ hcfg rfl hmay hcycle hswap rfl
  have ht : done stopInCommit (taskRelease 0 stopInCommit) = .next t := ht
  have hstays : taskState t 0 = 6 := (done_get ht (by decide) (by decide)).trans
    (taskState_taskRelease_of_stopInCommit hcfg rfl hmay hcommit hstop)
  exact absurd (hstays.symm.trans hgather) (by decide)

end Sys2Proof.Machine

/-! ### The meter's clock and channels (R322, R332)

Of a window's end, `windowChannels` alone makes new channel results, and the end of the window and of a second alone move the meter's
clock. Every other step keeps `meterView`. -/

namespace Sys2Proof.Machine

/-- The instant, the end of the last window, and how many windows of the second have passed. -/
def meterClock (s : State) : Nat × Nat × Nat := (s.now, s.mtr.windowMs, s.mtr.secWindows)

/-- The results of the channels and the chains that their next samples enter. -/
def channelView (s : State) : Table MeterChannel × Table ChannelChain := (s.mtr.channels, s.mtr.chains)

/-- The meter's clock and channels. -/
def meterView (s : State) : (Nat × Nat × Nat) × Table MeterChannel × Table ChannelChain := (meterClock s, channelView s)

section
variable {r : Table Nat} {n c : Nat} {x₁ : List Instr} {x₂ : List Out} {x₃ : Table KeyState} {x₄ : Table Session} {x₅ : LogState}
  {x₆ : RtcState} {x₇ : TimeBase} {x₈ : SheetState} {x₉ : LaneState} {y₁ : PointState} {y₂ : ParapetState} {y₃ : SegState}
  {y₄ : Table PbusPort} {y₅ : List Host.Cell} {y₆ : ControlState} {y₇ : CteState} {y₈ : MeterState} {y₉ : ViaState}
  {z₁ : Table UplinkState} {z₂ : PairState} {z₃ : Table AbutPair} {z₄ : PowerState} {z₅ : ClockState} {z₆ : FabricState}
  {z₇ : EnclaveState} {z₈ : UpdateState} {z₉ : UioState} {w₁ : AccessState} {w₂ : LiftState}

/-- The view of a state that is written out field by field. -/
@[simp] theorem meterView_mk :
    meterView ⟨r, n, c, x₁, x₂, x₃, x₄, x₅, x₆, x₇, x₈, x₉, y₁, y₂, y₃, y₄, y₅, y₆, y₇, y₈, y₉, z₁, z₂, z₃, z₄, z₅, z₆, z₇, z₈, z₉, w₁,
      w₂⟩ = ((n, y₈.windowMs, y₈.secWindows), y₈.channels, y₈.chains) := rfl
end

section
variable (s : State)

@[simp] theorem meterView_fold :
    ((s.now, s.mtr.windowMs, s.mtr.secWindows), s.mtr.channels, s.mtr.chains) = meterView s := rfl

@[simp] theorem meterView_set (f : RegField) (v : Nat) : meterView (s.set f v) = meterView s := rfl

@[simp] theorem meterView_ite (c : Prop) [Decidable c] (a b : State) :
    meterView (if c then a else b) = if c then meterView a else meterView b := apply_ite meterView c a b

@[simp] theorem meterView_foldl {α : Type} {f : State → α → State} (h : ∀ u a, meterView (f u a) = meterView u) (l : List α) :
    meterView (l.foldl f s) = meterView s := foldl_keeps meterView h l s

@[simp] theorem meterView_logEvent (typ sev : Nat) (items : List Nat) : meterView (logEvent typ sev items s) = meterView s := by
  obtain ⟨⟨r, l, h⟩, -⟩ := logEvent_only typ sev items s
  rw [h]
  rfl

/-! #### Trackers and the mains reference -/

@[simp] theorem meterView_setLfValid (v : Bool) : meterView (setLfValid v s) = meterView s := by
  simp [setLfValid, trimReference, trimRestart]

@[simp] theorem meterView_flagInterval (f : Nat) : meterView (flagInterval f s) = meterView s := by
  unfold flagInterval
  split <;> rfl

@[simp] theorem meterView_flagCircuits (f : Nat) (cs : List Nat) : meterView (flagCircuits f cs s) = meterView s := by
  unfold flagCircuits
  split <;> rfl

@[simp] theorem meterView_trackerChange (v : Nat) (b : Bool) : meterView (trackerChange v b s) = meterView s := by
  simp [trackerChange]

@[simp] theorem meterView_windowTrackers (w : MeterWindow) (rs : List (Nat × ChannelRun)) :
    meterView (windowTrackers w rs s) = meterView s := by
  simp [windowTrackers]

@[simp] theorem meterView_mainsReference : meterView (mainsReference s) = meterView s := by
  simp [mainsReference]

/-! #### Circuits -/

/-- What every step keeps of the state beside a result, a fold of the steps keeps. -/
theorem foldl_snd_keeps {α β γ : Type} {f : γ × State → α → γ × State} (g : State → β) (h : ∀ r a, g (f r a).2 = g r.2)
    (l : List α) (r : γ × State) : g (l.foldl f r).2 = g r.2 := by
  induction l generalizing r with
  | nil => rfl
  | cons a l ih => rw [List.foldl_cons, ih, h]

@[simp] theorem meterView_circuitFlows (c : Nat) (cfg : CircuitCfg) (w : MeterWindow) (rs : List (Nat × ChannelRun)) (w0 : Nat) :
    meterView (circuitFlows c cfg w rs w0 s).2 = meterView s :=
  foldl_snd_keeps meterView (fun r e => by rfl) (List.range (phaseCount cfg)) ([], s)

@[simp] theorem meterView_emptyFilters (c : Nat) (cfg : CircuitCfg) : meterView (emptyFilters c cfg s).2 = meterView s :=
  foldl_snd_keeps meterView (fun r e => by rfl) (List.range (phaseCount cfg)) ([], s)

@[simp] theorem meterView_setMeterCircuit (c : Nat) (x : MeterCircuit) : meterView (setMeterCircuit c x s) = meterView s := rfl

@[simp] theorem meterView_windowCircuit (c : Nat) (cfg : CircuitCfg) (phases last : List (List PhaseFlow)) (ms w0 wend : Nat) :
    meterView (windowCircuit c cfg phases last ms w0 wend s) = meterView s := by
  simp only [windowCircuit, windowQuantities, meterView_setMeterCircuit, meterView_ite, ite_self]
  split <;> simp

/-! #### Intervals -/

@[simp] theorem meterView_openInterval (t flags : Nat) (base : Table Nat) : meterView (openInterval t flags base s) = meterView s := rfl

@[simp] theorem meterView_closeIntervalAt (regs : Table Nat) : meterView (closeIntervalAt regs s) = meterView s := by
  unfold closeIntervalAt
  split
  · rfl
  · exact foldl_keeps meterView (fun u c => by rfl) (circuits s) s

@[simp] theorem meterView_nextInterval (ms flags : Nat) : meterView (nextInterval ms flags s) = meterView s :=
  meterView_closeIntervalAt s s.mtr.regs

@[simp] theorem meterView_endIntervalAt (ms : Nat) : meterView (endIntervalAt ms s) = meterView s := by
  unfold endIntervalAt
  split <;> simp

@[simp] theorem meterView_takeInterval (ms held fresh len : Nat) : meterView (takeInterval ms held fresh len s) = meterView s := by
  unfold takeInterval
  extract_lets +onlyGivenNames start put
  have hput (u : State) : meterView (put u) = meterView u := by
    unfold put
    split <;> rfl
  split <;> simp [hput]

@[simp] theorem meterView_meteredTime (ms len : Nat) : meterView (meteredTime ms len s) = meterView s := by
  unfold meteredTime
  split
  · simp
  · split <;> simp

@[simp] theorem meterView_endGate : meterView (endGate s) = meterView s := rfl

/-! #### Saves, points and calibration -/

@[simp] theorem meterView_putSlot (n : Nat) (i : Option SaveImage) : meterView (putSlot n i s) = meterView s := by
  simp [putSlot]

@[simp] theorem meterView_meterSave (instant : Nat) (fails : Bool) : meterView (meterSave instant fails s) = meterView s := by
  simp [meterSave]

@[simp] theorem meterView_addSums : meterView (addSums s) = meterView s := rfl

@[simp] theorem meterView_wakeEvent : meterView (wakeEvent s) = meterView s := by
  simp [wakeEvent, dozeWake]

@[simp] theorem meterView_submit (u : Update) : meterView (submit u s) = meterView s := by
  unfold submit
  dsimp only
  split <;> simp [enqueue, setQueue]

@[simp] theorem meterView_meterPoints : meterView (meterPoints s) = meterView s := by
  simp [meterPoints, submitAll]

@[simp] theorem meterView_applyCalibration : meterView (applyCalibration s) = meterView s := by
  simp [applyCalibration]

end
end Sys2Proof.Machine

/-! ### The end of a window (R322, R332) and the stop at the commit instant (R342)

`meterWindow` behind its guards is stated as a function of the window's end and of the state at that instant: in a proof about it both
are variables, and nothing of the schedule is computed. -/

namespace Sys2Proof.Machine

section
variable {s u : State}

/-! #### The channels' results -/

@[simp] theorem noteOver_mtr (ch : Nat) (s : State) : (noteOver ch s).mtr = s.mtr := by
  simp only [noteOver, apply_ite State.mtr]
  simp

@[simp] theorem meterView_noteOver (ch : Nat) (s : State) : meterView (noteOver ch s) = meterView s := by
  simp [noteOver]

theorem meterClock_of_meterView {t : State} (h : meterView t = meterView s) : meterClock t = meterClock s := congrArg Prod.fst h

/-- The channels' results leave the clock. -/
theorem meterClock_windowChannels (w : MeterWindow) (rs : List (Nat × ChannelRun)) (s : State) :
    meterClock (windowChannels w rs s) = meterClock s := by
  refine foldl_keeps meterClock (fun u e => ?_) rs s
  dsimp only
  rw [apply_ite meterClock, meterClock_of_meterView (meterView_noteOver ..), ite_self]
  rfl

/-- Of a window's measurements, the channels' results alone are in the view. -/
theorem meterView_windowChannels (w : MeterWindow) (rs : List (Nat × ChannelRun)) (s : State) :
    meterView (windowChannels w rs (windowTrackers w rs s)) =
      (meterClock s, channelView (windowChannels w rs (windowTrackers w rs s))) := by
  rw [meterView, meterClock_windowChannels, meterClock_of_meterView (meterView_windowTrackers ..)]

/-- A window of one channel puts its chain, its peak and its over-range count (R319, R322). -/
theorem windowChannels_single (w : MeterWindow) (ch : Nat) (r : ChannelRun) (s : State) :
    tabGet {} (windowChannels w [(ch, r)] s).mtr.chains ch = r.chain ∧
      (meterChannel (windowChannels w [(ch, r)] s) ch).peak = ratF64 (r.values.foldl (fun m v => max m |v|) 0) ∧
      (meterChannel (windowChannels w [(ch, r)] s) ch).ovrw = min ((meterChannel s ch).ovrw + b2n r.over') (2 ^ 32 - 1) := by
  simp only [windowChannels, List.foldl_cons, List.foldl_nil, meterChannel, apply_ite State.mtr, noteOver_mtr, ite_self, tabGet_put_same,
    and_self]

/-! #### The window -/

/-- What a running meter does at the end `wend` of a window, whose instant has been reached (R332): `meterWindow` behind its guards. -/
def endWindow (w : MeterWindow) (saveFails : Bool) (wend : Nat) (s : State) : State :=
  let rs := windowRuns w s
  let w0 := s.mtr.windowMs * 1000
  let s := windowMeasured w rs s
  let s := (sheet s).meter.circuits.foldl (fun s e =>
    let f := circuitFlows e.1 e.2 w rs w0 s
    windowCircuit e.1 e.2 f.1 [] 200 w0 wend f.2) s
  let s := meteredTime wend (wend - s.mtr.windowMs) s
  let s : State := { s with mtr := { s.mtr with windowMs := wend, marks := [], secWindows := s.mtr.secWindows + 1 } }
  let s : State := if wend % 1000 = 0 then wholeSecond s else s
  let s := match s.mtr.gate with
    | some g => if s.bit Reg.MTR_STAT_TESTACT && g.2 < wend * 1000 then endGate s else s
    | none => s
  let s := endIntervalAt wend s
  let s := if wend % 1000 = 0 then meterSave wend saveFails s else s
  applyCalibration (meterPoints (addSums s))

@[simp] theorem meterView_secondPeaks (s : State) : meterView (secondPeaks s) = meterView s := by
  unfold secondPeaks
  split <;> rfl

theorem meterView_wholeSecond (s : State) :
    meterView (wholeSecond s) = (((meterClock s).1, (meterClock s).2.1, 0), channelView s) := by
  have hpeaks : meterView (if s.mtr.secWindows = 5 then secondPeaks s else s) = meterView s := by simp
  obtain ⟨hclock, hchannels⟩ := Prod.mk.inj hpeaks
  rw [← hclock, ← hchannels]
  rfl

/-- A window's end moves the clock on and leaves the results of the window's samples (R322, R332). -/
theorem meterView_endWindow (w : MeterWindow) (b : Bool) (e : Nat) (s : State) : meterView (endWindow w b e s) =
    ((s.now, e, if e % 1000 = 0 then 0 else s.mtr.secWindows + 1),
      channelView (windowChannels w (windowRuns w s) (windowTrackers w (windowRuns w s) s))) := by
  unfold endWindow
  extract_lets +onlyGivenNames rs w0 s₁ s₂ s₃ m s₄ s₅ s₆ s₇ s₈
  have h₁ : meterView s₁ = (meterClock s, channelView (windowChannels w rs (windowTrackers w rs s))) :=
    (meterView_mainsReference _).trans (meterView_windowChannels w rs s)
  clear_value s₁
  have h₂ : meterView s₂ = meterView s₁ := meterView_foldl s₁ (fun u e => by simp) _
  have h₃ : meterView s₃ = meterView s₁ := (meterView_meteredTime ..).trans h₂
  obtain ⟨hclock, hchannels⟩ := Prod.mk.inj (h₃.trans h₁)
  clear_value s₃
  have h₅ : meterView s₅ = (((meterClock s₃).1, e, if e % 1000 = 0 then 0 else (meterClock s₃).2.2 + 1), channelView s₃) := by
    unfold s₅
    split
    · exact meterView_wholeSecond s₄
    · rfl
  clear_value s₅
  have h₆ : meterView s₆ = meterView s₅ := by
    unfold s₆
    split <;> simp
  clear_value s₆
  have h₈ : meterView s₈ = meterView s₆ := by simp [s₈, s₇]
  rw [meterView_applyCalibration, meterView_meterPoints, meterView_addSums, h₈, h₆, h₅, hclock, hchannels]
  rfl

/-- A meter that accumulates is not in ZEROIZED (R353). -/
theorem mode_ne_seven_of_meterMode (h : meterMode s = true) : s.get Reg.MODE_STAT_MODE ≠ 7 := by
  intro h7
  simp [meterMode, h7] at h

/-- A running meter ends its window at the next instant of its schedule (R332). -/
theorem meterWindow_of_running (w : MeterWindow) (b : Bool) (hrun : s.bit Reg.MTR_STAT_RUNNING = true)
    (hlive : s.bit Reg.MTR_STAT_HALTED = false) (hmode : meterMode s = true) (hstop : s.mtr.stopAt = none) :
    meterWindow w b s = endWindow w b (meterWindowEndMs s) (s.reach (instantOfTai s (meterWindowEndMs s * msec))) := by
  rw [meterWindow, if_neg (by simp [hlive, mode_ne_seven_of_meterMode hmode]), if_neg (by simp [hmode]),
    if_neg (by simp [hrun, hstop])]
  rfl

/-- What a running meter's window leaves: the samples are those that the state gives at the window's beginning. -/
theorem meterView_meterWindow (w : MeterWindow) (b : Bool) (hrun : s.bit Reg.MTR_STAT_RUNNING = true)
    (hlive : s.bit Reg.MTR_STAT_HALTED = false) (hmode : meterMode s = true) (hstop : s.mtr.stopAt = none) {e : Nat}
    (he : e = meterWindowEndMs s) : meterView (meterWindow w b s) =
      ((max s.now (instantOfTai s (e * msec)), e, if e % 1000 = 0 then 0 else s.mtr.secWindows + 1),
        channelView (windowChannels w (windowRuns w s) (windowTrackers w (windowRuns w s) (s.reach (instantOfTai s (e * msec)))))) := by
  rw [meterWindow_of_running w b hrun hlive hmode hstop, ← he, meterView_endWindow]
  rfl

/-- A running meter's window of one channel leaves the chain, the peak and the over-range count of the channel's samples (R319,
R322). -/
theorem meterWindow_channel {w : MeterWindow} (b : Bool) {ch : Nat} {bits : List (BitVec 128)} (hw : w.channels = [(ch, bits)])
    (hrun : s.bit Reg.MTR_STAT_RUNNING = true) (hlive : s.bit Reg.MTR_STAT_HALTED = false) (hmode : meterMode s = true)
    (hstop : s.mtr.stopAt = none) :
    tabGet {} (meterWindow w b s).mtr.chains ch = (channelRun s ch bits).chain ∧
      (meterChannel (meterWindow w b s) ch).peak = ratF64 ((channelRun s ch bits).values.foldl (fun m v => max m |v|) 0) ∧
      (meterChannel (meterWindow w b s) ch).ovrw =
        min ((meterChannel s ch).ovrw + b2n (channelRun s ch bits).over') (2 ^ 32 - 1) := by
  have hruns : windowRuns w s = [(ch, channelRun s ch bits)] := by simp [windowRuns, hw]
  have hview := congrArg Prod.snd (meterView_meterWindow w b hrun hlive hmode hstop rfl)
  rw [hruns] at hview
  generalize hu : windowTrackers w [(ch, channelRun s ch bits)] (s.reach (instantOfTai s (meterWindowEndMs s * msec))) = u at hview
  have hbefore : u.mtr.channels = s.mtr.channels := hu ▸ congrArg (·.2.1) (meterView_windowTrackers ..)
  obtain ⟨hchannels, hchains⟩ := Prod.mk.inj hview
  obtain ⟨hchain, hpeak, hover⟩ := windowChannels_single w ch (channelRun s ch bits) u
  rw [meterChannel] at hpeak hover
  rw [meterChannel, hbefore] at hover
  simp only [meterChannel, hchannels, hchains]
  exact ⟨hchain, hpeak, hover⟩

/-! #### The stop -/

/-- A running meter stops at the commit instant, with the image of its energy state (R342). -/
theorem meterStop_stops (w : MeterWindow) (hrun : s.bit Reg.MTR_STAT_RUNNING = true) :
    (meterStop w s).get Reg.MTR_STAT_RUNNING = 0 ∧ (meterStop w s).get Reg.MTR_STAT_HALTED = 1 ∧
      (meterStop w s).mtr.pfImage.isSome = true ∧
      meterClock (meterStop w s) = (max s.now (commitInstant s).2, (commitInstant s).1, s.mtr.secWindows) := by
  unfold meterStop
  rw [if_neg (by simp [hrun])]
  extract_lets +onlyGivenNames ms s₁ len rs w0 s₂ s₃ m s₄ s₅ s₆ s₇ i s₈
  have h₂ : meterView s₂ = (meterClock s₁, channelView (windowChannels w rs (windowTrackers w rs s₁))) :=
    meterView_windowChannels w rs s₁
  clear_value s₂
  have h₃ : meterView s₃ = meterView s₂ := meterView_foldl s₂ (fun u e => by simp) _
  clear_value s₃
  obtain ⟨hclock, -⟩ := Prod.mk.inj (h₃.trans h₂)
  have h₄ : meterClock s₄ = ((meterClock s₃).1, ms, (meterClock s₃).2.2) :=
    meterClock_of_meterView (meterView_meteredTime _ ms len)
  have h₇ : meterView s₇ = meterView s₄ := by simp [s₇, s₆, s₅]
  have hend : meterClock s₇ = (s₁.now, ms, s₁.mtr.secWindows) := by
    rw [meterClock_of_meterView h₇, h₄, hclock]
    rfl
  clear_value s₇
  refine ⟨State.get_set_same _ _ _, ?_, rfl, hend⟩
  rw [State.get_set_ne (by decide)]
  exact State.get_set_same _ _ _

end
end Sys2Proof.Machine

/-! ### O39: metering

What each of the meter's commands does where its event occurs: the demand interval, the trackers, the test gate, the calibration and the
power-fail stop, beside the window of the part before. -/

namespace Sys2Proof.Machine

/-! #### The demand interval (R337, R339) -/

section
variable {s : State} {o : OpenInterval}

/-- The record of circuit `c` enters its ring: the step of `closeIntervalAt`. -/
def storeRecord (o : OpenInterval) (regs : Table Nat) (s : State) (c : Nat) : State :=
  let r := intervalRecord o regs c s
  let h := match tabFind c s.mtr.heads with | some h => (h + 1) % 128 | none => 0
  { s with mtr := { s.mtr with rings := tabInsert (128 * c + h) r s.mtr.rings, heads := tabInsert c h s.mtr.heads,
                               seqs := tabPut 0 c ((r.seq + 1) % 2 ^ 32) s.mtr.seqs, last := tabInsert c r s.mtr.last } }

theorem closeIntervalAt_of_open (regs : Table Nat) (h : s.mtr.interval = some o) : closeIntervalAt regs s =
    let u := (circuits s).foldl (storeRecord o regs) s
    { u with mtr := { u.mtr with interval := none } } := by
  unfold closeIntervalAt
  rw [h]
  rfl

/-- A record that a circuit has is replaced, never taken away. -/
theorem isSome_tabFind_insert {α : Type} {j : Nat} (k : Nat) (v : α) {t : Table α} (h : (tabFind j t).isSome = true) :
    (tabFind j (tabInsert k v t)).isSome = true := by
  by_cases hj : j = k
  · rw [hj, tabFind_insert_same]
    rfl
  · rwa [tabFind_insert_ne hj]

theorem isSome_last_foldl_storeRecord {c : Nat} (regs : Table Nat) (l : List Nat) (s : State)
    (h : c ∈ l ∨ (tabFind c s.mtr.last).isSome = true) :
    (tabFind c (l.foldl (storeRecord o regs) s).mtr.last).isSome = true := by
  induction l generalizing s with
  | nil => exact h.resolve_left List.not_mem_nil
  | cons d l ih =>
    refine ih _ ?_
    rcases h with h | h
    · rcases List.mem_cons.1 h with rfl | h
      · exact .inr (by simp [storeRecord])
      · exact .inl h
    · exact .inr (isSome_tabFind_insert d _ h)

/-- The interval that closes leaves a record for every circuit, and the registers as they stood. -/
theorem closeIntervalAt_closes (regs : Table Nat) (h : s.mtr.interval = some o) :
    (closeIntervalAt regs s).mtr.regs = s.mtr.regs ∧
      ∀ c ∈ circuits s, (tabFind c (closeIntervalAt regs s).mtr.last).isSome = true := by
  rw [closeIntervalAt_of_open regs h]
  exact ⟨foldl_keeps (fun u => u.mtr.regs) (fun u c => by rfl) (circuits s) s,
    fun c hc => isSome_last_foldl_storeRecord regs (circuits s) s (.inl hc)⟩

/-- The next interval is open, and the last one closed at `ms`. -/
theorem nextInterval_opens (ms flags : Nat) (s : State) :
    (nextInterval ms flags s).mtr.closedMs = ms ∧ (nextInterval ms flags s).mtr.interval.isSome = true := ⟨rfl, rfl⟩

theorem nextInterval_closes (ms flags : Nat) (h : s.mtr.interval = some o) :
    (nextInterval ms flags s).now = s.now ∧ (nextInterval ms flags s).mtr.regs = s.mtr.regs ∧
      ∀ c ∈ circuits s, (tabFind c (nextInterval ms flags s).mtr.last).isSome = true :=
  ⟨congrArg (fun v => v.1.1) (meterView_nextInterval s ms flags), closeIntervalAt_closes s.mtr.regs h⟩

/-- While TAI is set and accumulation runs, an interval ends at its boundary. -/
theorem demandEnd_of_open (h : s.mtr.interval = some o) (hrun : s.bit Reg.MTR_STAT_RUNNING = true)
    (hset : s.bit Reg.TBASE_STAT_SET = true) (hwait : s.mtr.waiting = false) (hjust : justClosed s = false) :
    demandEnd s = nextInterval (intervalEndMs o s) 0 (s.reach (instantOfTai s (intervalEndMs o s * msec))) := by
  simp only [demandEnd, h]
  rw [if_neg (by simp [hrun, hset, hwait, hjust])]

end

/-! #### Trackers (R325) -/

section
variable {s : State}

@[simp] theorem flagCircuits_regs (f : Nat) (cs : List Nat) (s : State) : (flagCircuits f cs s).regs = s.regs := by
  unfold flagCircuits
  split <;> rfl

@[simp] theorem flagCircuits_trackers (f : Nat) (cs : List Nat) (s : State) : (flagCircuits f cs s).mtr.trackers = s.mtr.trackers := by
  unfold flagCircuits
  split <;> rfl

@[simp] theorem setLfValid_mtr (v : Bool) (s : State) : (setLfValid v s).mtr = s.mtr := by
  have h : Frame.holds ⟨[.rtc], [(0x060, 0x060)], [Reg.RTC_STAT_TRIMRUN]⟩ s (setLfValid v s) := by simp +decide
  exact h.1 .mtr (by decide)

/-- The tracker is valid or not, as the change says. -/
theorem trackerValid_trackerChange (v : Nat) (b : Bool) (s : State) : trackerValid (trackerChange v b s) v = b := by
  have htrackers : (trackerChange v b s).mtr.trackers = if b then maskSet s.mtr.trackers v else maskClear s.mtr.trackers v := by
    simp [trackerChange, apply_ite State.mtr, apply_ite MeterState.trackers]
  rw [trackerValid, htrackers]
  cases b
  · exact testBit_maskClear ..
  · exact testBit_maskSet ..

/-- A tracker that is lost shows in FREQRANGE. -/
theorem freqrange_trackerChange {v : Nat} (h : trackerValid s v = true) :
    (trackerChange v false s).get Reg.MTR_FAULT_FREQRANGE = 1 := by
  unfold trackerChange
  dsimp only
  rw [if_pos (by simp [h]), State.get, flagCircuits_regs]
  exact State.get_set_same _ _ _

/-! #### The test gate (R335) -/

theorem testArm_arms {a b : Nat} (ha : a = get64 s Reg.MTR_TSTARTLO_US Reg.MTR_TSTARTHI_US)
    (hb : b = get64 s Reg.MTR_TSTOPLO_US Reg.MTR_TSTOPHI_US) (hlt : taiUs s < a) (hlo : a + 1000000 ≤ b) (hhi : b ≤ a + 86400000000) :
    testArm s = ({ s with mtr := { s.mtr with tregs := [], gate := some (a, b) } }).raise Reg.MTR_STAT_TESTARMED := by
  unfold testArm
  rw [← ha, ← hb]
  exact if_pos ⟨hlt, hlo, hhi⟩

theorem gateStart_of_armed {a b : Nat} (h : s.mtr.gate = some (a, b)) (harmed : s.bit Reg.MTR_STAT_TESTARMED = true)
    (hidle : s.bit Reg.MTR_STAT_TESTACT = false) (hrun : s.bit Reg.MTR_STAT_RUNNING = true) :
    gateStart s = flagInterval 64 ((s.reach (instantOfTai s (a * 1000))).raise Reg.MTR_STAT_TESTACT) := by
  simp only [gateStart, h]
  rw [if_pos (by simp [harmed, hidle, hrun])]

theorem flagInterval_energies (f : Nat) (s : State) :
    (flagInterval f s).now = s.now ∧ (flagInterval f s).mtr.regs = s.mtr.regs ∧ (flagInterval f s).mtr.tregs = s.mtr.tregs := by
  unfold flagInterval
  split <;> exact ⟨rfl, rfl, rfl⟩

/-! #### Calibration (R347) -/

variable {r i g d : Nat}

theorem winPut_idle {p : Nat} (h : winBusy s p r = false) (k v : Nat) :
    winPut p r k v s = s.set (((Reg.WIN_DATA.ix k).onPage p).by r) v := if_neg (by simp [h])

/-- The end of a window operation changes its page alone. -/
theorem windowDone_holds (r code : Nat) (s : State) : Frame.holds ⟨[], [(0x061, 0x061)], []⟩ s (windowDone 0x061 r code s) := by
  simp +decide

theorem windowDone_mtr (r code : Nat) (s : State) : (windowDone 0x061 r code s).mtr = s.mtr :=
  (windowDone_holds r code s).1 .mtr (by decide)

/-- A requester's copy of the calibration window with the channel and its values in it. -/
structure CalibrationWritten (r i g d : Nat) (s u : State) : Prop where
  idle : winBusy u 0x061 r = false
  index : winIndex u 0x061 r = i
  gain : winData u 0x061 r 4 = g
  delay : winData u 0x061 r 5 = d
  frame : Frame.holds ⟨[], [(0x061, 0x061)], []⟩ s u

theorem calibrationWritten (hidle : winBusy s 0x061 r = false) (hi : i < 2 ^ 20) (hg : g < 2 ^ 32) (hd : d < 2 ^ 32) :
    CalibrationWritten r i g d s
      (winPut 0x061 r 4 g (winPut 0x061 r 5 d (if winBusy s 0x061 r then s else s.set ((Reg.WIN_INDEX.onPage 0x061).by r) i))) := by
  have hselect : winBusy (s.set ((Reg.WIN_INDEX.onPage 0x061).by r) i) 0x061 r = false := by
    rw [winBusy, State.bit, window_get_set_ne (by decide)]
    exact hidle
  have hdelay : winBusy ((s.set ((Reg.WIN_INDEX.onPage 0x061).by r) i).set (((Reg.WIN_DATA.ix 5).onPage 0x061).by r) d) 0x061 r =
      false := by
    rw [winBusy, State.bit, window_get_set_ne (by decide)]
    exact hselect
  rw [if_neg (by simp [hidle]), winPut_idle hselect, winPut_idle hdelay]
  refine ⟨?_, ?_, ?_, ?_, by simp +decide⟩
  · rw [winBusy, State.bit, window_get_set_ne (by decide)]
    exact hdelay
  · rw [winIndex, window_get_set_ne (by decide), window_get_set_ne (by decide), State.get_set_same]
    exact Nat.mod_eq_of_lt hi
  · exact (State.get_set_same _ _ _).trans (Nat.mod_eq_of_lt hg)
  · refine (window_get_set_ne (f := Reg.WIN_DATA.ix 5) (g := Reg.WIN_DATA.ix 4) (by decide) _ _).trans ?_
    exact (State.get_set_same _ _ _).trans (Nat.mod_eq_of_lt hd)

/-- COMMIT of values in their ranges stages them. -/
theorem meterCommit_stages {u : State} (h : CalibrationWritten r i g d s u) (hi : i < 48) (hd : d < 2 ^ 16) (hr : r = 9)
    (hmode : u.get Reg.MODE_STAT_MODE = 5) (hok : calibrationOk g d = true) :
    meterCommit r u = windowDone 0x061 r 0
      (({ u with mtr := { u.mtr with staged := tabInsert i (g, d) u.mtr.staged } }).raise Reg.MTR_STAT_CALSTAGED) := by
  unfold meterCommit
  dsimp only
  rw [h.index, if_neg (by simp [h.idle]), if_pos hi, if_neg (by tauto), h.gain, h.delay, Nat.mod_eq_of_lt hd, if_neg (by simp [hok])]

/-- Only the service port in SERVICE calibrates. -/
theorem meterCommit_refuses {u : State} (h : CalibrationWritten r i g d s u) (hi : i < 48)
    (hr : ¬ (r = 9 ∧ u.get Reg.MODE_STAT_MODE = 5)) : meterCommit r u = windowDone 0x061 r 6 u := by
  unfold meterCommit
  dsimp only
  rw [h.index, if_neg (by simp [h.idle]), if_pos hi, if_pos (by tauto)]

theorem calApply_of_ne (hr : r ≠ 9) (s : State) : calApply r s = s := if_neg (by tauto)

theorem calApply_of_service (hmode : s.get Reg.MODE_STAT_MODE = 5) (hstaged : s.mtr.staged ≠ []) :
    calApply 9 s = { s with mtr := { s.mtr with applying := true } } := if_pos ⟨rfl, hmode, hstaged⟩

end

/-! #### The power-fail stop (R342, R452) -/

section
variable {s : State}

/-- Without a planned commit, the power-fail stop is the meter's stop. -/
theorem meterPowerFail_of_unplanned (w : MeterWindow) (hfrozen : frozen s = true) (h5 : s.get Reg.CSN_STAT_CSTATE ≠ 5)
    (h6 : s.get Reg.CSN_STAT_CSTATE ≠ 6) (hplan : s.pwr.planned = false) : meterPowerFail w s = meterStop w s := by
  have hstop : (meterStop w s).pwr = s.pwr := by
    have h : Frame.holds ⟨[.rtc, .mtr], [(0x060, 0x060)], [Reg.RTC_STAT_TRIMRUN]⟩ s (meterStop w s) := by simp +decide
    exact h.1 .pwr (by decide)
  unfold meterPowerFail
  rw [if_neg (by simp [hfrozen, h5, h6])]
  exact if_neg (by simp [hstop, hplan])

end

/-- Settles O39: each clause is the effect of one command. The arithmetic of the chain and of what it publishes (assumption 92), its
filters (assumption 93), and that a window's bits and the trackers' changes enter as operands (assumption 50) are the model's choice. -/
theorem metering : Obligations.Metering := by
  refine ⟨?window, ?demand, ?tracker, ?arm, ?gate, ?stage, ?apply, ?stop, ?channel⟩
  case window =>
    intro s w b e hrun hlive hmode hstop he
    refine done_completes fun t ht => ?_
    have hclock := congrArg Prod.fst (meterView_meterWindow w b hrun hlive hmode hstop he)
    simp only [meterView, meterClock, Prod.mk.injEq] at hclock
    obtain ⟨hnow, hms, hsec⟩ := hclock
    exact ⟨(congrArg _ (done_mtr ht)).trans hms, done_now_of_reach ht hnow, (congrArg _ (done_mtr ht)).trans hsec⟩
  case demand =>
    intro s o e hopen hrun hset hwait hjust he
    refine done_completes fun t ht => ?_
    rw [demandEnd_of_open hopen hrun hset hwait hjust, ← he] at ht
    obtain ⟨hclosed, hnext⟩ := nextInterval_opens e 0 (s.reach (instantOfTai s (e * msec)))
    obtain ⟨hnow, hregs, hlast⟩ := nextInterval_closes (s := s.reach (instantOfTai s (e * msec))) e 0 hopen
    rw [done_mtr ht]
    exact ⟨hclosed, done_now_of_reach ht hnow, hnext, hregs, hlast⟩
  case tracker =>
    intro s v b
    refine done_completes fun t ht => ⟨?_, ?_⟩
    · rw [trackerValid, done_mtr ht]
      exact trackerValid_trackerChange v.val b s
    · rintro hvalid rfl
      exact (done_get ht (by decide) (by decide)).trans (freqrange_trackerChange hvalid)
  case arm =>
    intro s a b ha hb hlt hlo hhi hfree
    refine done_completes fun t ht => ?_
    rw [unlessBusy_free _ hfree, testArm_arms ha hb hlt hlo hhi] at ht
    rw [done_mtr ht]
    exact ⟨(done_get ht (by decide) (by decide)).trans (State.get_set_same _ _ _), rfl, rfl⟩
  case gate =>
    intro s a b hgate harmed hidle hrun
    refine done_completes fun t ht => ?_
    rw [gateStart_of_armed hgate harmed hidle hrun] at ht
    obtain ⟨hnow, hregs, htregs⟩ := flagInterval_energies 64 ((s.reach (instantOfTai s (a * 1000))).raise Reg.MTR_STAT_TESTACT)
    rw [done_mtr ht]
    refine ⟨(done_get ht (by decide) (by decide)).trans ?_, done_now_of_reach ht hnow, hregs, htregs⟩
    rw [State.get, flagInterval_regs]
    exact State.get_set_same _ _ _
  case stage =>
    intro s r i g d hfree hidle hi
    refine done_completes fun t ht => ?_
    rw [askPage_free _ r hfree] at ht
    have hu := calibrationWritten hidle i.isLt g.isLt (show d.toNat < 2 ^ 32 by omega)
    have hmtr := hu.frame.1 .mtr (by decide)
    have hmode := hu.frame.2 Reg.MODE_STAT_MODE (by unfold Frame.leaves; decide)
    refine ⟨fun hr h5 hok => ?_, fun hr => ?_⟩
    · rw [meterCommit_stages hu hi d.isLt hr (hmode.trans h5) hok] at ht
      refine ⟨(winErr_of_done ht rfl r.val).trans (windowDone_err 0), ?_, ?_⟩
      · rw [done_get ht (by decide) (by decide), (windowDone_holds r.val 0 _).2 _ (by unfold Frame.leaves; decide)]
        exact State.get_set_same _ _ _
      · rw [done_mtr ht, windowDone_mtr]
        exact tabFind_insert_same ..
    · rw [meterCommit_refuses hu hi (hmode ▸ hr)] at ht
      refine ⟨(winErr_of_done ht rfl r.val).trans (windowDone_err 6), ?_⟩
      rw [done_mtr ht, windowDone_mtr]
      exact hmtr
  case apply =>
    intro s r hfree
    refine done_completes fun t ht => ?_
    rw [askPage_free _ r hfree] at ht
    rw [done_mtr ht]
    refine ⟨fun hr hmode hstaged => ?_, fun hr => ?_⟩
    · rw [hr, calApply_of_service hmode hstaged]
    · rw [calApply_of_ne hr]
  case stop =>
    intro s w hfrozen h5 h6 hrun hplan
    refine done_completes fun t ht => ?_
    rw [meterPowerFail_of_unplanned w hfrozen h5 h6 hplan] at ht
    obtain ⟨hrunning, hhalted, himage, hclock⟩ := meterStop_stops w hrun
    simp only [meterClock, Prod.mk.injEq] at hclock
    obtain ⟨hnow, hms, -⟩ := hclock
    rw [done_mtr ht]
    exact ⟨(done_get ht (by decide) (by decide)).trans hrunning, (done_get ht (by decide) (by decide)).trans hhalted, himage, hms,
      done_now_of_reach ht hnow⟩
  case channel =>
    intro s w b ch bits hw hrun hlive hmode hstop _
    refine done_completes fun t ht => ?_
    rw [meterChannel, done_mtr ht]
    exact meterWindow_channel b hw hrun hlive hmode hstop

end Sys2Proof.Machine
